-- ==== Sys2Proof/Word.lean ====
section
/-!
DEFINITION. The word types of the device (R5, spec/00_scope.md): 32-bit registers, bytes on the wire,
and the sparse tables in which the state keeps registers, entries and counters.
-/
namespace Sys2Proof

/-- A 32-bit register word (R5). -/
abbrev Word := BitVec 32

/-- One byte of a frame, of an entry image or of host memory. -/
abbrev Byte := BitVec 8

/-- A sparse table: pairs of an index and a value, indices strictly rising, and no pair whose value is what an
unlisted index reads as. The operations are in `Sys2Proof.Machine.Bits`. -/
abbrev Tbl (α : Type) := List (Nat × α)

/-- A bit field [hi:lo] of a word or of an entry image. -/
structure BF where
  hi : Nat
  lo : Nat
deriving DecidableEq, Repr

/-- A register field: the register's offset in PF0 BAR0 and the field's bits. -/
structure Fld where
  addr : Nat
  hi : Nat
  lo : Nat
deriving DecidableEq, Repr

/-- The access codes of Table 0.3 (R7). -/
inductive Access where
  | ro | rw | rwl | w1c | w1s | wo
deriving DecidableEq, Repr

/-- The values a field accepts: any, or the given closed ranges, in multiples of a step. -/
inductive Check where
  | any
  | within (ranges : List (Nat × Nat)) (step : Nat)
deriving DecidableEq, Repr

/-- One field of a register's field map. -/
structure FieldRow where
  hi : Nat
  lo : Nat
  acc : Access
  reset : Nat
  ok : Check
deriving DecidableEq, Repr

/-- One register of a register table: the offset of its first instance, its replications (stride, count) and its fields. -/
structure RegRow where
  base : Nat
  reps : List (Nat × Nat)
  fields : List FieldRow
deriving DecidableEq, Repr

end Sys2Proof
end

