-- ==== Sys2Proof/Syntax.lean ====
section
/-!
DEFINITION. The commands of the block: one constructor of `Instr` per row of spec/opcode_table.json, with the row's
operands. An operand carries what the outside world brings (a written value, a received frame or record, what a host
buffer holds, the outcome of a measurement); everything else the command uses is in State.
-/
namespace Sys2Proof

/-- One host access to a BAR of a function (R376, R377, R513): `size` bytes at offset `off`. -/
structure HostWrite where
  fn : Fin 3
  bar : Fin 2
  off : Nat
  size : Nat
  value : BitVec 64
deriving DecidableEq, Repr

/-- Who posted a command: a CMD ring pair, the host register face of the table engine (R78), Gheor's register face,
or the hawk (R326). -/
inductive Via where
  | ring (n : Fin 64)
  | face
  | gheor
  | relay
deriving DecidableEq, Repr

/-- A command of a descriptor ring (Table 16.5): head fields, inline continuation bytes, and the bytes its BUF holds as
the device reads them (`none`: the read fails). -/
structure RingCmd where
  via : Via
  tag : BitVec 16
  stage : Bool
  target : BitVec 7
  arg0 : BitVec 64
  arg1 : BitVec 32
  cont : List Byte
  buf : BitVec 64
  bufLen : BitVec 32
  bufIn : Option (List Byte)
  now : Bool
deriving DecidableEq, Repr

/-- How a received MAC merge fragment is marked (R40). -/
inductive FragKind where
  | first
  | middle (last : Bool)
  | badSmd
deriving DecidableEq, Repr

/-- A received preemptible fragment (R40): its kind, its count field, its bytes, and whether its mCRC is good. -/
structure Fragment where
  kind : FragKind
  count : Fin 4
  data : List Byte
  mcrcOk : Bool
deriving DecidableEq, Repr

/-- The arrival of a frame: an identity for later commands, the port, the bytes from destination address to the last
byte before the FCS, and whether it came on the express path. -/
structure RxHead where
  id : Nat
  port : Fin 96
  bytes : List Byte
  express : Bool
deriving DecidableEq, Repr

/-- The end of a frame's reception: the FCS bytes received, and whether the frame held an errored block (R30). -/
structure RxEnd where
  fcs : List Byte
  errored : Bool
deriving DecidableEq, Repr

/-- What the background compare reads from host memory in one pass (R82, R83): the shadow of each table, and the
learn-log records, by index. -/
structure BgcShadow where
  fdb : List (BitVec 128)
  sid : List (BitVec 512)
  stream : List (BitVec 256)
  vlan : List (BitVec 256)
  mcast : List (BitVec 128)
  log : List (Nat × BitVec 256)
deriving DecidableEq, Repr

/-- An adjustment of the working clock by the selected source (R231): a new rate, or a step in nanoseconds. -/
structure ClockAdjust where
  rate : Option (BitVec 32)
  offset : Int
deriving DecidableEq, Repr

/-- The two lath links. -/
inductive LathLink where
  | a | b
deriving DecidableEq, Repr

/-- A record received on a lath link: its header fields, its payload and whether its authentication tag verifies. -/
structure LathRec where
  kind : Nat
  src : Fin 64
  dst : Nat
  seq : BitVec 32
  payload : List Byte
  authOk : Bool
deriving DecidableEq, Repr

/-- The levels on the configuration straps (R3, Table 22.3), or the configuration sampled from them. -/
structure Straps where
  cfg : Fin 4
  pairMbr : Bool
  domIdx : Fin 64
  uciePkg : Bool
  dbgReq : Bool
deriving DecidableEq, Repr

/-- How the outcome of a DRAM line access turned out (R356, R357, R358). -/
inductive LineOutcome where
  | clean | corrected | uncorrectable | tagFail
deriving DecidableEq, Repr

/-- Who accesses the stack (Table 15.10). -/
inductive Requester where
  | contexts | keyStore | gheor | deepBuffer | dump | hostPf1 | hostOther | debug | skim | scrubber
deriving DecidableEq, Repr

/-- A read of one DRAM line that returns (R356): the line's number, its address divided by 64. -/
structure MemRead where
  line : Nat
  outcome : LineOutcome
  requester : Requester
deriving DecidableEq, Repr

/-- A write of one DRAM line (R351): its number, the offset of the bytes written, the bytes, and how the read that a partial
write begins with turns out (R355). -/
structure MemWrite where
  line : Nat
  off : Nat
  data : List Byte
  outcome : LineOutcome
  requester : Requester
deriving DecidableEq, Repr

/-- A raw debug access (R370). -/
structure RawAccess where
  line : Nat
  write : Option (List Byte)
deriving DecidableEq, Repr

/-- What UCIe training reached (R374). -/
structure UcieTrain where
  rate : Fin 4
  width : Fin 3
deriving DecidableEq, Repr

/-- Which use a host memory read that timed out served (R375). -/
inductive HostReadUse where
  | descriptor (n : Fin 64)
  | firmware
  | shadow
deriving DecidableEq, Repr

/-- A trip of an alarm cause, with its measurement (Table 18.5). -/
structure Trip where
  cause : Fin 22
  detail : BitVec 48
deriving DecidableEq, Repr

/-- The outcome of the tests of one slice (R449). -/
structure RubResult where
  coreFail : BitVec 6
  sliceFail : Bool
  sramFail : Bool
  sramRepaired : Bool
deriving DecidableEq, Repr

/-- What a sample carries (R472, Table 20.6). -/
structure SampleInfo where
  object : BitVec 32
  v0 : BitVec 64
  v1 : BitVec 64
  v2 : BitVec 32
deriving DecidableEq, Repr

/-- What arrives outside a frame (R30). -/
inductive LineError where
  | block | fecCorrected | fecUncorrectable
deriving DecidableEq, Repr

/-- The commands: one constructor per row of the opcode table. -/
inductive Instr where
  /-- REGISTER_WRITE (R7): A host write to a register field that has no behaviour of its own takes effect, is refused or is ignored according to its access code, the operational state and the range checks. -/
  | registerWrite (w : HostWrite)
  /-- PORT_MODE_WRITE (R23): A write to PORT_MODE sets the lane mode, FEC, negotiation, loopback and zone, or is refused under the lane-mode, grade and bonding rules. -/
  | portModeWrite (p : Fin 96) (v : Word)
  /-- PORT_STATUS_READ (R24): A read of PORT_STATUS returns MODE_ERR and then clears it to 0. -/
  | portStatusRead (p : Fin 96)
  /-- NEGOTIATION_RESOLVED (R29): Auto-negotiation resolves on the single ability that the port advertises. -/
  | negotiationResolved (p : Fin 96)
  /-- AN_FAIL (R29): Negotiation is still unresolved 500 ms after it started, so the device raises AN_FAIL and restarts negotiation. -/
  | anFail (p : Fin 96)
  /-- SIGNAL_LOCK (R30): A port in SEEK gains signal and block lock, and it moves on to TRAIN or starts timing UP_HOLD. -/
  | signalLock (p : Fin 96)
  /-- TRAINING_DONE (R30): Link training completes and the port proceeds toward UP. -/
  | trainingDone (p : Fin 96)
  /-- TRAINING_FAIL (R30): Link training has not completed after 500 ms, so the port returns to SEEK. -/
  | trainingFail (p : Fin 96)
  /-- LINK_UP (R30): Lock has been stable for UP_HOLD, so the port enters UP and starts MAC merge verification and timestamp calibration. -/
  | linkUp (p : Fin 96)
  /-- LOCK_LOSS (R30): Lock is lost on an UP port; a loss shorter than DOWN_HOLD does not leave UP. -/
  | lockLoss (p : Fin 96)
  /-- LINK_DOWN (R32): Loss of lock has lasted DOWN_HOLD, so the port leaves UP, discards its queued frames, cuts off a partial frame and leaves the egress sets. -/
  | linkDown (p : Fin 96)
  /-- FAULT_LOCAL_ENTER (R30): The PCS has reported local fault for longer than DOWN_HOLD, so the port enters FAULT_LOCAL and sends remote fault. -/
  | faultLocalEnter (p : Fin 96)
  /-- FAULT_LOCAL_CLEAR (R30): The local fault clears and the port returns to SEEK. -/
  | faultLocalClear (p : Fin 96)
  /-- FAULT_REMOTE_ENTER (R30): A remote-fault sequence has been received for longer than DOWN_HOLD, so the port enters FAULT_REMOTE. -/
  | faultRemoteEnter (p : Fin 96)
  /-- FAULT_REMOTE_CLEAR (R30): The remote fault has been clear for UP_HOLD, so the port returns to UP. -/
  | faultRemoteClear (p : Fin 96)
  /-- VERIFY_MPACKET_SEND (R37): At entry to UP, and every VERIFY_TIME after it until a respond arrives, the port sends a verify mPacket. -/
  | verifyMpacketSend (p : Fin 96)
  /-- RESPOND_MPACKET_RECEIVE (R37): A respond mPacket arrives before verification has failed, so preemption becomes active and MM_VERIFY_OK is raised. -/
  | respondMpacketReceive (p : Fin 96)
  /-- MM_VERIFY_FAIL (R37): Three verify mPackets have gone unanswered, so verification fails until the next entry to UP. -/
  | mmVerifyFail (p : Fin 96)
  /-- MM_FRAGMENT_RECEIVE (R40): A preemptible fragment is received and reassembled; a bad mCRC, count or SMD discards the whole frame. -/
  | mmFragmentReceive (p : Fin 96) (f : Fragment)
  /-- LPI_ENTER (R42): Every gate stays closed longer than Ts plus Tw, no frame is queued and the port is UP, so the transmitter enters LPI. -/
  | lpiEnter (p : Fin 96)
  /-- LPI_WAKE (R42): At Tw before the next gate opening, the transmitter starts to wake from LPI. -/
  | lpiWake (p : Fin 96)
  /-- LPI_IDLE_EXPIRY (R43): On a port without a gate list, the queues have been empty for LPI_IDLE, so the transmitter enters LPI. -/
  | lpiIdleExpiry (p : Fin 96)
  /-- RX_LPI_ENTRY (R45): The link partner enters LPI; the device counts it and the transmit side is unaffected. -/
  | rxLpiEntry (p : Fin 96)
  /-- TW_REQ_WRITE (R44): A write to TW_REQ records a new resolved wake time, which applies at the next gate-cycle boundary or at once. -/
  | twReqWrite (p : Fin 96) (v : Word)
  /-- TW_APPLY (R44): At the gate-cycle boundary, the new Tw takes force, is reported in TW_APPLIED and raises TW_APPLIED. -/
  | twApply (p : Fin 96)
  /-- FRAME_HEAD_RECEIVE (R102): The head of a received frame reaches the parser, which parses, classifies and identifies it and makes ingress checks 2 to 9, filtering and the context lookup. -/
  | frameHeadReceive (h : RxHead)
  /-- CONTEXT_FETCH_DONE (R145): A fetched context has been verified and placed in the cache after an LRU eviction, and the frames waiting on it resume. -/
  | contextFetchDone (g : Fin 12) (n : Fin 262144) (ok : Bool)
  /-- KEY_UNWRAP_DONE (R206): A slot record has been fetched and verified, so the slot is placed on die, after an eviction if needed, and its delivery proceeds. -/
  | keyUnwrapDone (k : Fin 262144) (ok : Bool)
  /-- FRAME_WET (R184): The first decrypted byte leaves a cipher core, or key delivery ends for a check without decryption, so the frame becomes wet. -/
  | frameWet (id : Nat)
  /-- FORWARDING_LOOKUP_DONE (R65): The forwarding lookup completes, so the egress set is resolved and each copy is decided as wet, cut-through or stored and then enqueued. -/
  | forwardingLookupDone (id : Nat)
  /-- FRAME_END_RECEIVE (R35): The reception of a frame ends: the FCS and length are checked, and a frame without a tag check is counted, learns and is delivered. -/
  | frameEndReceive (id : Nat) (e : RxEnd)
  /-- FRAME_VERDICT (R185): The tag check of a wet frame ends, and its verdict combines the tag, replay, SA state, FCS and reassembly results. -/
  | frameVerdict (id : Nat)
  /-- STN_ASDU_EXAMINE (R285): The Stencil engine takes an ASDU from its queue and checks continuity, timing, quality and the pair comparison. -/
  | stnAsduExamine
  /-- STN_PAIR_WAIT_EXPIRE (R291): A sample's partner has not arrived within PAIR_WAIT, so it counts in STN_PAIR_MISS. -/
  | stnPairWaitExpire (k : Fin 4096) (smp : BitVec 16)
  /-- TAKE_ANY_RESET (R283): RESET_MS has passed without a passed frame, so the engine sets TAKE_ANY. -/
  | takeAnyReset (h : Fin 16384)
  /-- TX_COMMIT (R251): At 200 ns before a start, the scheduler commits the start and announces any KeyFlip instant. -/
  | txCommit (p : Fin 96) (start : Nat)
  /-- TRANSMIT_START (R258): The scheduler selects an eligible class, applies the window fit check and starts a frame or a fragment. -/
  | transmitStart (p : Fin 96)
  /-- RESERVED_START (R252): At a reserved start, the contracted copy leaves when present, or the start is counted empty and its time is freed. -/
  | reservedStart (p : Fin 96) (ct : Fin 16384)
  /-- TAIL_RELEASE (R190): The tail beat of a wet copy leaves at line rate, unchanged, stomped or marked late according to the verdict. -/
  | tailRelease (id : Nat) (p : Fin 96)
  /-- TX_END (R46): The last bit of a frame leaves the MAC, and the transmit statistics, contract counters and TX completions are updated. -/
  | txEnd (p : Fin 96)
  /-- EXTRA_WORK_DONE (R173): An extra-work pass completes, so the copy becomes eligible for its next pass or for selection. -/
  | extraWorkDone (sl : Fin 13)
  /-- DBF_READ_DONE (R364): A deep-buffered frame returns whole to the die, or it is discarded on a line error. -/
  | dbfReadDone (p : Fin 96) (k : Fin 8) (ok : Bool)
  /-- GATE_CYCLE_START (R248): A new cycle of an operational gate list begins at entry 0. -/
  | gateCycleStart (p : Fin 96)
  /-- GATE_SET_GATES (R248): A SET_GATES entry sets the gate states for its interval. -/
  | gateSetGates (p : Fin 96)
  /-- GATE_SET_HOLD (R249): A SET_HOLD entry sets the gates and asserts the MAC merge hold. -/
  | gateSetHold (p : Fin 96)
  /-- GATE_SET_RELEASE (R249): A SET_RELEASE entry sets the gates and releases the MAC merge hold. -/
  | gateSetRelease (p : Fin 96)
  /-- GATE_KEYFLIP (R155): A KEYFLIP entry fires the armed flip set that it names. -/
  | gateKeyflip (p : Fin 96)
  /-- GATE_RESERVE (R251): A RESERVE entry reserves a transmit start for the contract that it names while that contract is accepted. -/
  | gateReserve (p : Fin 96)
  /-- GCL_CONFIG_CHANGE (R250): At change time C the banks swap, the new list becomes operational and CHANGE_DONE is posted. -/
  | gclConfigChange (p : Fin 96)
  /-- GCL_WRITE (R247): The GCL_WRITE command writes entries of the administrative bank. -/
  | gclWrite (c : RingCmd)
  /-- GCL_READ (R247): The GCL_READ command reads entries of either bank into BUF. -/
  | gclRead (c : RingCmd)
  /-- GCL_PARAMS (R247): The GCL_PARAMS command sets the administrative base time, CYCLE, CYCLE_EXT and LENGTH. -/
  | gclParams (c : RingCmd)
  /-- GCL_CHANGE (R250): The GCL_CHANGE command validates the administrative bank and schedules it at change time C, after the contract checks. -/
  | gclChange (c : RingCmd)
  /-- GCL_CANCEL (R247): The GCL_CANCEL command withdraws a scheduled change. -/
  | gclCancel (c : RingCmd)
  /-- GCL_STATUS (R247): The GCL_STATUS command returns the parameters, the pending change time and the bank in force. -/
  | gclStatus (c : RingCmd)
  /-- FLIP_DONE (R157): A fired set resolves its members' PEND fields, returns to IDLE and posts FLIP_DONE. -/
  | flipDone (f : Fin 256)
  /-- CIPHER_CORE_FAULT (R174): A parity mismatch in a cluster core fails its operation and takes the core out of service. -/
  | cipherCoreFault (sl : Fin 13) (k : Fin 6)
  /-- MCU_CORE_FAULT (R181): A parity mismatch in a memory cipher core raises a FAULT-class alarm and fails the line in flight. -/
  | mcuCoreFault (k : Fin 4) (line : Nat)
  /-- READ_POS (R79): The table command READ_POS returns the entry at POS. -/
  | readPos (c : RingCmd)
  /-- SEARCH (R79): The table command SEARCH returns the entry with the given key and its position. -/
  | search (c : RingCmd)
  /-- INSERT (R66): The table command INSERT adds an entry, using cuckoo moves or the stash when needed. -/
  | insert (c : RingCmd)
  /-- MOVE_REGISTER_CLEAR (R67): 56 cycles after the invalidation, the move register is cleared and a waiting move may proceed. -/
  | moveRegisterClear
  /-- UPDATE (R79): The table command UPDATE replaces the entry that has the same key. -/
  | update (c : RingCmd)
  /-- DELETE (R79): The table command DELETE removes the entry that has the given key. -/
  | delete (c : RingCmd)
  /-- FLUSH (R79): The table command FLUSH removes the matching forwarding entries, except those with CREF set. -/
  | flush (c : RingCmd)
  /-- WRITE_POS (R118): The table command WRITE_POS writes a VLAN, multicast or stream entry at POS. -/
  | writePos (c : RingCmd)
  /-- LEARN_QUEUE_SERVE (R71): The table command engine carries out a queued learn request by inserting or updating a dynamic entry. -/
  | learnQueueServe
  /-- AGE_SWEEP_VISIT (R74): The sweeper visits a dynamic entry, clearing its hit bit, marking it stale or removing it. -/
  | ageSweepVisit (pos : Fin 65568)
  /-- BGC_PASS (R82): The background compare checks each table against its shadow in host memory once per PERIOD. -/
  | bgcPass (b : BgcShadow)
  /-- BGC_CONFIRM (R84): A difference found again after CONFIRM is counted, posts BGC_MISMATCH and may be repaired. -/
  | bgcConfirm (b : BgcShadow)
  /-- CTX_READ (R161): The context command CTX_READ returns the image, or the counter sums of the quad. -/
  | ctxRead (c : RingCmd)
  /-- CTX_INSTALL (R151): The context command CTX_INSTALL writes the RW fields of a context image, or refuses it. -/
  | ctxInstall (c : RingCmd)
  /-- CTX_ENABLE (R150): The context command CTX_ENABLE sets RX_EN, TX_EN or a GEN_EN bit. -/
  | ctxEnable (c : RingCmd)
  /-- CTX_RETIRE (R150): The context command CTX_RETIRE clears the enable bits unless the context is selected or is a flip target. -/
  | ctxRetire (c : RingCmd)
  /-- CTX_SELECT (R150): The context command CTX_SELECT sets TX_AN of a SecY or TX_GEN of a GENERATE context at once. -/
  | ctxSelect (c : RingCmd)
  /-- CTX_FREE (R150): The context command CTX_FREE clears VALID and keeps the counters. -/
  | ctxFree (c : RingCmd)
  /-- CTX_PIN (R147): The context command CTX_PIN makes a context resident and exempt from eviction. -/
  | ctxPin (c : RingCmd)
  /-- CTX_UNPIN (R148): The context command CTX_UNPIN clears PIN unless CONTRACT_REF is set. -/
  | ctxUnpin (c : RingCmd)
  /-- CTX_CLEAR_CNT (R112): The context command CTX_CLEAR_CNT zeroes the counters and CNT_OVF. -/
  | ctxClearCnt (c : RingCmd)
  /-- SCM_ADD (R100): The context command SCM_ADD places an SCI map entry in one of its two buckets. -/
  | scmAdd (c : RingCmd)
  /-- SCM_DELETE (R161): The context command SCM_DELETE removes an SCI map entry unless a context of its SC is enabled for receive. -/
  | scmDelete (c : RingCmd)
  /-- FLIP_ADD (R154): The context command FLIP_ADD makes a SecY or a GENERATE context a member of an IDLE flip set. -/
  | flipAdd (c : RingCmd)
  /-- FLIP_ARM (R155): The context command FLIP_ARM gives a set its NOT_BEFORE time and arms it. -/
  | flipArm (c : RingCmd)
  /-- FLIP_CANCEL (R155): The context command FLIP_CANCEL returns an armed set to IDLE, or removes the members of an idle set. -/
  | flipCancel (c : RingCmd)
  /-- FLIP_STATUS (R161): The context command FLIP_STATUS returns the set's state, times and member count. -/
  | flipStatus (c : RingCmd)
  /-- SECY_TX_READ (R143): The context command SECY_TX_READ returns the SecY transmit state of a port. -/
  | secyTxRead (c : RingCmd)
  /-- CTX_LEAP_LO_WRITE (R164): A write to CTX_LEAP_LO is held without being checked until CTX_LEAP_HI is written. -/
  | ctxLeapLoWrite (v : Word)
  /-- CTX_LEAP_HI_WRITE (R164): A write to CTX_LEAP_HI forms PN_LEAP from the held word, checks its range and applies it, or refuses it. -/
  | ctxLeapHiWrite (v : Word)
  /-- KEY_IMPORT_KW (R222): The key command KEY_IMPORT_KW unwraps an IEEE 802.1X key wrap into a slot. -/
  | keyImportKw (c : RingCmd)
  /-- KEY_IMPORT_XW (R221): The key command KEY_IMPORT_XW imports an XWRAP blob into a slot. -/
  | keyImportXw (c : RingCmd)
  /-- KEY_GENERATE (R224): The key command KEY_GENERATE fills a slot from the TRNG. -/
  | keyGenerate (c : RingCmd) (healthy : Bool)
  /-- KEY_DERIVE (R216): The key command KEY_DERIVE fills a slot by the KDF from a slot or from the root. -/
  | keyDerive (c : RingCmd)
  /-- KEY_EXPORT_KW (R223): The key command KEY_EXPORT_KW wraps an exportable key in the IEEE 802.1X form. -/
  | keyExportKw (c : RingCmd)
  /-- KEY_EXPORT_XW (R223): The key command KEY_EXPORT_XW wraps an exportable key as an XWRAP blob. -/
  | keyExportXw (c : RingCmd)
  /-- KEY_CMAC_GEN (R224): The key command KEY_CMAC_GEN computes an AES-CMAC over host data. -/
  | keyCmacGen (c : RingCmd)
  /-- KEY_CMAC_VERIFY (R224): The key command KEY_CMAC_VERIFY compares an AES-CMAC with a supplied tag. -/
  | keyCmacVerify (c : RingCmd)
  /-- KEY_ATTR_READ (R208): The key command KEY_ATTR_READ returns the slot attribute image. -/
  | keyAttrRead (c : RingCmd)
  /-- KEY_ATTR_REDUCE (R208): The key command KEY_ATTR_REDUCE only clears usage bits or EXPORT, or lowers USES. -/
  | keyAttrReduce (c : RingCmd)
  /-- KEY_PIN (R205): The key command KEY_PIN makes a slot resident and pinned. -/
  | keyPin (c : RingCmd)
  /-- KEY_UNPIN (R224): The key command KEY_UNPIN clears PIN unless a contracted context names the slot. -/
  | keyUnpin (c : RingCmd)
  /-- KEY_FREE (R211): The key command KEY_FREE zeroes a slot whose REFS is 0. -/
  | keyFree (c : RingCmd)
  /-- ROOT_INJECT (R220): The key command ROOT_INJECT seals a root into the selected root slot and forms the root-derived keys. -/
  | rootInject (c : RingCmd)
  /-- ROOT_ERASE (R220): The key command ROOT_ERASE zeroes the selected root slot and every key derived from it. -/
  | rootErase (c : RingCmd)
  /-- ROOT_STATUS (R224): The key command ROOT_STATUS returns the root status, the check value and the public keys. -/
  | rootStatus (c : RingCmd)
  /-- KEY_GROUP_ID_WRITE (R219): A change of PAIR_ID or DOMAIN_ID zeroes D0 and D2, or D1, and forms them again. -/
  | keyGroupIdWrite (v : Word)
  /-- TRNG_HEALTH_TIMEOUT (R225): The TRNG health tests have failed for over 1 ms, so KEY_GENERATE fails and a FAULT-class alarm is raised. -/
  | trngHealthTimeout
  /-- KEY_SLOT_UNCORR (R226): An uncorrectable error on an on-die slot position quarantines the slot. -/
  | keySlotUncorr (k : Fin 263168)
  /-- TIME_SET (R231): TIME_CTL.SET loads the working clock from TIME_SET when the host is the source. -/
  | timeSet
  /-- TIME_STEP (R232): TIME_CTL.STEP steps the working clock by TIME_STEP when the host is the source. -/
  | timeStep
  /-- TIME_SNAP (R230): TIME_CTL.SNAP latches the working clock into TIME_SNAP. -/
  | timeSnap
  /-- TIME_RATE_WRITE (R231): A write to TIME_RATE sets the rate adjustment when the host is the source. -/
  | timeRateWrite (v : Word)
  /-- CLOCK_SOURCE_ADJUST (R231): The selected source adjusts the working clock's rate or time. -/
  | clockSourceAdjust (a : ClockAdjust)
  /-- PPS_IN_EDGE (R241): A rising edge of PPS_IN is timestamped and latched. -/
  | ppsInEdge
  /-- PPS_IN_LOSS (R241): No PPS_IN edge has arrived for 1.5 s, so the source counts as lost. -/
  | ppsInLoss
  /-- PPS_OUT_RISE (R240): PPS_OUT rises at each whole second plus PPS_OFFSET. -/
  | ppsOutRise
  /-- PPS_OUT_FALL (R240): PPS_OUT falls after PPS_WIDTH. -/
  | ppsOutFall
  /-- TOD_OUT_SEND (R242): A time-of-day message starts on TOD_OUT 10 ms after a PPS_OUT edge. -/
  | todOutSend
  /-- TOD_IN_RECEIVE (R242): A time-of-day message received on TOD_IN labels the PPS_IN edge, or it is counted in TOD_IN_ERR. -/
  | todInReceive (msg : List Byte)
  /-- TS_CAL_DONE (R237): The lane latency measurement completes after entry to UP and sets TS_CAL_OK. -/
  | tsCalDone (p : Fin 96)
  /-- PTP_TC_ENTRY_EXPIRE (R239): A pending two-step residence entry expires after 1 s. -/
  | ptpTcEntryExpire (p : Fin 96) (k : Fin 64)
  /-- PTP_GET (R234): The PTP command PTP_GET reads a data-set member of an instance. -/
  | ptpGet (c : RingCmd)
  /-- PTP_SET (R234): The PTP command PTP_SET writes a data-set member of an instance. -/
  | ptpSet (c : RingCmd)
  /-- FLT_WRITE (R393): The filter command FLT_WRITE writes a stream filter entry. -/
  | fltWrite (c : RingCmd)
  /-- FLT_READ (R393): The filter command FLT_READ returns a filter entry and its counters. -/
  | fltRead (c : RingCmd)
  /-- MTR_WRITE (R257): The filter command MTR_WRITE writes a meter entry and fills both buckets. -/
  | mtrWrite (c : RingCmd)
  /-- MTR_READ (R393): The filter command MTR_READ returns a meter entry. -/
  | mtrRead (c : RingCmd)
  /-- FLT_UNBLOCK (R393): The filter command FLT_UNBLOCK clears BLOCKED of a filter. -/
  | fltUnblock (c : RingCmd)
  /-- MTR_UNMARK (R393): The filter command MTR_UNMARK clears MARK_RED of a meter. -/
  | mtrUnmark (c : RingCmd)
  /-- FLT_CLEAR_CNT (R393): The filter command FLT_CLEAR_CNT clears a filter's counters. -/
  | fltClearCnt (c : RingCmd)
  /-- TUN_WRITE (R390): The tunnel command TUN_WRITE writes a tunnel header table entry. -/
  | tunWrite (c : RingCmd)
  /-- TUN_READ (R390): The tunnel command TUN_READ returns a tunnel header table entry. -/
  | tunRead (c : RingCmd)
  /-- CT_ADMIT (R266): The contract command CT_ADMIT runs the admission checks and accepts the contract or refuses it. -/
  | ctAdmit (c : RingCmd)
  /-- CT_WITHDRAW (R274): The contract command CT_WITHDRAW reverses acceptance and returns the contract to FREE. -/
  | ctWithdraw (c : RingCmd)
  /-- CT_READ (R265): The contract command CT_READ returns the contract image. -/
  | ctRead (c : RingCmd)
  /-- CT_CLEAR_CNT (R265): The contract command CT_CLEAR_CNT clears the contract counters and WORST. -/
  | ctClearCnt (c : RingCmd)
  /-- SRC_READ (R293): The recovery command SRC_READ returns a recovery context. -/
  | srcRead (c : RingCmd)
  /-- SRC_WRITE (R280): The recovery command SRC_WRITE writes a recovery context, sets TAKE_ANY and clears HISTORY. -/
  | srcWrite (c : RingCmd)
  /-- STN_READ (R293): The Stencil command STN_READ returns a Stencil entry with its state and counters. -/
  | stnRead (c : RingCmd)
  /-- STN_WRITE (R293): The Stencil command STN_WRITE writes a Stencil stream entry. -/
  | stnWrite (c : RingCmd)
  /-- STN_CLEAR_CNT (R293): The Stencil command STN_CLEAR_CNT clears the counters of a Stencil stream. -/
  | stnClearCnt (c : RingCmd)
  /-- PAIR_STATUS (R314): The pair command PAIR_STATUS returns the pair status and the partner's role. -/
  | pairStatus (c : RingCmd)
  /-- PAIR_DEMOTE (R308): The pair command PAIR_DEMOTE schedules a planned handover at instant T. -/
  | pairDemote (c : RingCmd)
  /-- PAIR_REFILL (R312): The pair command PAIR_REFILL sets the role to JOINING and asks the partner for refill. -/
  | pairRefill (c : RingCmd)
  /-- PAIR_HB_SEND (R303): Each member sends a heartbeat on each path every HB_INTERVAL. -/
  | pairHbSend
  /-- PAIR_HB_RECEIVE (R303): A heartbeat is received and authenticated, and roles, dual-active resolution and clock skew are evaluated. -/
  | pairHbReceive (l : LathLink) (r : LathRec)
  /-- PAIR_HB_MISS (R303): A heartbeat interval passes without an authenticated heartbeat, and after three misses the path is lost. -/
  | pairHbMiss (l : LathLink)
  /-- PAIR_START_WAIT (R301): START_WAIT after entry to RUN ends without a partner, so the member becomes ALONE or takes its initial role. -/
  | pairStartWait
  /-- YIELD_RECEIVE (R305): A STANDBY member that receives YIELD takes over at once. -/
  | yieldReceive (l : LathLink) (r : LathRec)
  /-- PAIR_CHECKPOINT_SEND (R307): The ACTIVE member sends checkpoints of NEXT_PN and NEXT_CNT within each CHKPT_PERIOD. -/
  | pairCheckpointSend
  /-- PAIR_CHECKPOINT_RECEIVE (R307): The STANDBY member stores a received checkpoint in the context's CHKPT. -/
  | pairCheckpointReceive (l : LathLink) (r : LathRec)
  /-- DEMOTE_CHECKPOINT_START (R308): At T minus 800 µs, the active starts a full checkpoint for the handover. -/
  | demoteCheckpointStart
  /-- DEMOTE_ABANDON (R308): At T minus 50 µs with the checkpoint incomplete, the handover is abandoned with NO_PARTNER. -/
  | demoteAbandon
  /-- PAIR_HANDOVER (R308): At T the roles swap, the new active applies the leap and both post DEMOTED or TAKEOVER. -/
  | pairHandover
  /-- DIGEST_SEND (R311): After a gate cycle ends, a member sends its twin digest for the port and cycle. -/
  | digestSend (p : Fin 96)
  /-- DIGEST_RECEIVE (R311): A received digest is compared with the member's own, and a difference counts and posts DIVERGE. -/
  | digestReceive (l : LathLink) (r : LathRec)
  /-- DIGEST_MISS (R311): A partner's digest has not arrived within two cycles, so it counts in TWIN_DIGEST_MISS. -/
  | digestMiss (p : Fin 96)
  /-- REFILL_RECORD_RECEIVE (R313): The joining member writes a refill record, or ends refill with REFILL_FAIL. -/
  | refillRecordReceive (l : LathLink) (r : LathRec)
  /-- DISCOVER_SEND (R319): A domain device sends DISCOVER on both rings every 10 ms, or every 1 ms while claiming. -/
  | discoverSend
  /-- DISCOVER_RECEIVE (R319): A DISCOVER record updates the hop distances and DOM_PRESENT and detects a duplicate index or a conflicting claim. -/
  | discoverReceive (l : LathLink) (r : LathRec)
  /-- HAWK_CLAIM_EXPIRY (R320): A device has claimed unopposed for 30 ms, so it becomes hawk and continues its boot. -/
  | hawkClaimExpiry
  /-- RING_LINK_LOSS (R321): A lath link lacks lock or traffic for 20 µs, so the neighbours wrap the ring. -/
  | ringLinkLoss (l : LathLink)
  /-- RING_LINK_RESTORE (R321): A link has held lock for 1 ms, so the neighbours unwrap. -/
  | ringLinkRestore (l : LathLink)
  /-- RING_RECORD_FORWARD (R319): A device passes a received ring record on to its next link, acting on the first copy only. -/
  | ringRecordForward (l : LathLink) (r : LathRec)
  /-- ACK_RECEIVE (R324): An ACK ends the retransmission of a unicast record. -/
  | ackReceive (l : LathLink) (r : LathRec)
  /-- RECORD_ACK_TIMEOUT (R324): A unicast has gone 200 µs without an ACK, so it is retransmitted, and after three retransmissions the relay fails. -/
  | recordAckTimeout (seq : BitVec 32)
  /-- RELAY_WINDOW_WRITE (R325): A host write to the relay window is posted to the target member. -/
  | relayWindowWrite (x : BitVec 23) (v : Word)
  /-- RELAY_WINDOW_READ (R325): A host read of the relay window is relayed to the target member. -/
  | relayWindowRead (x : BitVec 23)
  /-- RELAY_READ_RESPONSE (R325): The response to a relayed read arrives in time, and the hawk returns its data. -/
  | relayReadResponse (l : LathLink) (r : LathRec)
  /-- RELAY_READ_TIMEOUT (R325): A relayed read unanswered after 900 µs returns all ones and posts RELAY_FAIL. -/
  | relayReadTimeout (seq : BitVec 32)
  /-- RELAYED_CMD_RECEIVE (R326): A member receives a relayed descriptor and carries it out as if it had been posted locally. -/
  | relayedCmdReceive (l : LathLink) (r : LathRec)
  /-- EXC_RECORD_RECEIVE (R327): An EXC record carrying a PF2 exception frame is relayed between a member and the hawk. -/
  | excRecordReceive (l : LathLink) (r : LathRec)
  /-- FW_START_RECEIVE (R328): A member in LOAD receives FW_START, takes DOMAIN_ID and forms D1. -/
  | fwStartReceive (l : LathLink) (r : LathRec)
  /-- FW_DATA_RECEIVE (R328): A member keeps and passes on an FW_DATA record of the image. -/
  | fwDataReceive (l : LathLink) (r : LathRec)
  /-- LOAD_STATUS_RECEIVE (R328): The hawk receives a member's load result and reports it. -/
  | loadStatusReceive (l : LathLink) (r : LathRec)
  /-- DOM_HB_SEND (R329): Every device sends HB on both rings every DOM_HB_INTERVAL. -/
  | domHbSend
  /-- DOM_HB_MISS (R329): Three heartbeats of a device are missed on both rings, so MEMBER_LOST or HAWK_LOST follows. -/
  | domHbMiss (j : Fin 64)
  /-- DOM_RESET_RECEIVE (R330): A member receiving DOM_RESET acts as on a cold reset and waits in LOAD. -/
  | domResetReceive (l : LathLink) (r : LathRec)
  /-- SCREED_SEND (R335): Every device sends its SCREED record every SCREED_INTERVAL. -/
  | screedSend
  /-- SCREED_RECEIVE (R335): The hawk compares a SCREED record with the expected value for its epoch. -/
  | screedReceive (l : LathLink) (r : LathRec)
  /-- PREPARE_RECEIVE (R337): A device receiving PREPARE freezes its journal, checks the staged view and reports. -/
  | prepareReceive (l : LathLink) (r : LathRec)
  /-- REPORT_RECEIVE (R338): The hawk collects reports and sends ACTIVATE or ABORT. -/
  | reportReceive (l : LathLink) (r : LathRec)
  /-- PREP_TIMEOUT (R338): PREP_TIMEOUT passes without every report, so the hawk aborts with TIMEOUT. -/
  | prepTimeout
  /-- ABORT_RECEIVE (R338): A device receiving ABORT unfreezes and keeps its journal. -/
  | abortReceive (l : LathLink) (r : LathRec)
  /-- ACTIVATE_RECEIVE (R339): A device receiving ACTIVATE acknowledges it and schedules activation at T, or acts at once when late. -/
  | activateReceive (l : LathLink) (r : LathRec)
  /-- ACTIVATION (R339): At T, the staged lists take effect, the journal, withdrawals and admissions are applied and the epoch increases. -/
  | activation
  /-- DOM_STATUS (R342): The domain command DOM_STATUS returns the domain status, presence, epoch and SCREED records. -/
  | domStatus (c : RingCmd)
  /-- DOM_EXPECT (R342): The domain command DOM_EXPECT loads the expected SCREED_ACT values. -/
  | domExpect (c : RingCmd)
  /-- DOM_PREPARE (R336): The domain command DOM_PREPARE starts a two-phase activation by broadcasting PREPARE. -/
  | domPrepare (c : RingCmd)
  /-- DOM_ABORT (R338): The domain command DOM_ABORT aborts a preparation before ACTIVATE is sent. -/
  | domAbort (c : RingCmd)
  /-- DOM_DISCARD (R339): The domain command DOM_DISCARD empties the journal and staged lists of the devices named. -/
  | domDiscard (c : RingCmd)
  /-- DOM_RELEASE (R335): The domain command DOM_RELEASE clears HELD after two clean intervals. -/
  | domRelease (c : RingCmd)
  /-- DOM_RESET (R330): The domain command DOM_RESET sends DOM_RESET to a member or to all members. -/
  | domReset (c : RingCmd)
  /-- MON_DISAGREE (R341): Dual detectors disagree at four consecutive comparisons, so the MON_DISAGREE alarm is raised. -/
  | monDisagree (d : Fin 15)
  /-- MEM_READ_DONE (R348): A DRAM line read returns and is decrypted, corrected and verified, or it is poisoned on error. -/
  | memReadDone (m : MemRead)
  /-- NODE_REBUILD_DONE (R359): The rebuild completes, the lines under the node are poisoned and handled, and NODE_LOST is posted. -/
  | nodeRebuildDone (node : Nat)
  /-- MEM_LINE_WRITE (R351): A write of a DRAM line advances its version, rebases when needed and writes the line with its tag. -/
  | memLineWrite (m : MemWrite)
  /-- MEM_ROOT_ERROR (R361): An uncorrectable error in the on-die tree root raises MEM_ROOT. -/
  | memRootError (k : Fin 80)
  /-- SCRUB_READ (R362): The scrubber reads a node or line in its period and handles any error. -/
  | scrubRead (m : MemRead)
  /-- STACK_TEMP_CHANGE (R345): The stack sensor crosses 105 °C or 102 °C, which changes HOT, refresh and bandwidth. -/
  | stackTempChange (hot : Bool)
  /-- SKIM_START (R365): MEM_SKIM_CTL.START starts a Skim pass over the regions of MASK under new key IDs. -/
  | skimStart (v : Word)
  /-- SKIM_GROUP_MOVE (R366): The Skim engine re-encrypts one group of 32 lines and advances the skim line. -/
  | skimGroupMove
  /-- STRIP_DONE (R368): The Strip pass has written every line, and STRIP_BUSY falls. -/
  | stripDone
  /-- DBUF_T_WRITE (R347): A change of DBUF_T relocates regions 5 to 8 and starts a Strip pass of them. -/
  | dbufTWrite (v : Word)
  /-- RAW_DEBUG_ACCESS (R370): The first raw debug access retires the PRIV key IDs, stops Skim, moves to HOLD and posts DEBUG_RAW. -/
  | rawDebugAccess (a : RawAccess)
  /-- UCIE_TRAIN_DONE (R374): UCIe link training completes and the result is reported in HOST_STATUS. -/
  | ucieTrainDone (t : UcieTrain)
  /-- UCIE_TRAIN_RETRY (R374): Training is incomplete after 10 ms, so it starts again. -/
  | ucieTrainRetry
  /-- UCIE_LINK_DOWN (R401): The UCIe link goes down or receives a hot reset, so rings stop and PCIe state resets while the data path runs on. -/
  | ucieLinkDown
  /-- HOST_READ_TIMEOUT (R375): A host memory read gets no completion within 50 ms and counts as failed. -/
  | hostReadTimeout (r : HostReadUse)
  /-- FUNCTION_LEVEL_RESET (R378): An FLR of PF1 or PF2 stops its rings, discards queued PF2 frames and resets the function. -/
  | functionLevelReset (fn : Fin 3)
  /-- SQ_TAIL_DOORBELL (R382): A write of SQ_TAIL sets the submission tail of a pair. -/
  | sqTailDoorbell (fn : Fin 3) (n : Fin 64) (v : Word)
  /-- CQ_HEAD_DOORBELL (R400): A write of CQ_HEAD frees completion slots and may arm the vector. -/
  | cqHeadDoorbell (fn : Fin 3) (n : Fin 64) (v : Word)
  /-- CMD_FETCH (R385): The device fetches a whole command once enough CQ slots are free and passes it to its block engine. -/
  | cmdFetch (n : Fin 64) (slots : List Byte)
  /-- RING_ENABLE (R384): RING_CTL.EN set on a stopped pair with reset indices starts the pair. -/
  | ringEnable (n : Fin 64)
  /-- RING_DISABLE (R384): Clearing RING_CTL.EN stops fetching on the pair. -/
  | ringDisable (n : Fin 64)
  /-- RING_STOP_DONE (R384): Every fetched command has completed, so RUNNING falls. -/
  | ringStopDone (n : Fin 64)
  /-- RING_RESET (R384): RING_CTL.RESET on a stopped pair zeroes its indices and sets the phase to 1. -/
  | ringReset (n : Fin 64)
  /-- PF2_TX_FETCH (R394): A TX descriptor is read and its frame is queued on its port, or it is refused. -/
  | pf2TxFetch (n : Fin 64) (d : List Byte) (frame : Option (List Byte) )
  /-- MSIX_COAL_TIMEOUT (R400): COAL_TIME has passed since the first unsignalled record, so the MSI-X message is sent. -/
  | msixCoalTimeout (n : Fin 64)
  /-- EXC_STEER_WRITE (R395): A write of EXC_STEER sets the steering pair and rate and refills the token bucket. -/
  | excSteerWrite (r : Fin 4) (v : Word)
  /-- NOP (R390): The SYS command NOP completes with DONE. -/
  | nop (c : RingCmd)
  /-- FENCE (R390): The SYS command FENCE completes after every earlier command of the device has completed. -/
  | fence (c : RingCmd)
  /-- POWER_GOOD (R483): PWRGOOD is high with SYSREF stable, so the device leaves BATTERY or OFF for ROM as on a power-on reset. -/
  | powerGood
  /-- VBAT_PRESENT (R477): VBAT appears, so the battery domain powers up and the device leaves OFF for BATTERY. -/
  | vbatPresent
  /-- VBAT_LOSS (R501): VBAT falls below 1.6 V, so roots, the log, counters, the latch and ENC_CFG are lost. -/
  | vbatLoss
  /-- POWER_LOSS (R484): PWRGOOD falls, which is a loss of core power, so the device goes to BATTERY or OFF. -/
  | powerLoss
  /-- COLD_RESET (R486): RST_N low for 100 ns or longer carries out a cold reset that wipes the device. -/
  | coldReset
  /-- WARM_RESET (R486): RST_CTL.WARM or a PF0 FLR carries out a warm reset, after YIELD when the device is active. -/
  | warmReset
  /-- RESET_RELEASE (R488): At the release of the reset, the device samples the straps and enters ROM. -/
  | resetRelease (pins : Straps)
  /-- ROM_DONE (R408): The Strip pass and boot tests have both ended, so the device enters LOAD. -/
  | romDone
  /-- FW_LOAD_GO (R411): FW_LOAD_CTL.GO in LOAD starts reading the image into the FW region. -/
  | fwLoadGo (img : Option (List Byte) )
  /-- FW_VERIFY_DONE (R410): Image verification ends: on acceptance T0 to T3 start, and on failure the device stays in LOAD. -/
  | fwVerifyDone
  /-- SETUP_ENTRY (R412): Gheor enters SETUP, BOOT_EVENT.SETUP is set and the enclosure LFSR is reseeded. -/
  | setupEntry
  /-- RUN_REQ (R414): BOOT_CTL.RUN_REQ in SETUP locks the RW-L fields and moves the device to RUN. -/
  | runReq
  /-- HOLD_REQ (R414): BOOT_CTL.HOLD_REQ moves the device to HOLD, with YIELD first when active. -/
  | holdReq
  /-- ARB_COMMIT (R415): The FUSE_CMD operation ARB_COMMIT burns the ARB fuses up to the running image's version. -/
  | arbCommit
  /-- OWNER_HASH (R417): The FUSE_CMD operation OWNER_HASH burns the owner key hashes. -/
  | ownerHash (buf : Option (List Byte) )
  /-- LC_ADVANCE (R418): The FUSE_CMD operation LC_ADVANCE checks an authorisation object, burns the target group and resets. -/
  | lcAdvance (buf : Option (List Byte) )
  /-- DBUF_MIN_T (R417): The FUSE_CMD operation DBUF_MIN_T burns the DBUF_MIN_T fuse. -/
  | dbufMinT
  /-- FUSE_BURN_DONE (R423): A fuse burn completes and FUSE_DONE is posted, and any deferred reset is carried out. -/
  | fuseBurnDone
  /-- ATT_GO (R422): ATT_CTL.GO starts writing a signed attestation report. -/
  | attGo
  /-- ATT_DONE (R422): The attestation report has been written and signed, and ATT_STATUS is set. -/
  | attDone (ok : Bool)
  /-- MONITOR_TRIP (R425): A monitor or FAULT-class cause trips and starts an alarm that executes its response set. -/
  | monitorTrip (t : Trip)
  /-- ALARM_REARM (R432): A cause's condition has been absent for 1 s, so it may raise a new alarm. -/
  | alarmRearm (k : Fin 22)
  /-- ENC_CFG_APPLY (R427): A write to ENC_CFG takes effect 1 ms after it completes. -/
  | encCfgApply (v : Word)
  /-- MONITOR_TEST_ROUND (R438): Every TEST_PERIOD, the alarm controller starts stimulating the detectors one at a time. -/
  | monitorTestRound
  /-- TEST_WINDOW_END (R438): A detector's test window ends, and an untripped stimulus raises cause 14. -/
  | testWindowEnd (d : Fin 15) (tripped : Bool) (genuine : Bool)
  /-- FLOOR_CMD (R430): FLOOR_CMD.GO burns the ALARM_RESP bits into the ALARM_FLOOR fuses. -/
  | floorCmd
  /-- HEALTH_KICK (R439): A write of HEALTH_KICK keeps HEALTH toggling in RUN. -/
  | healthKick
  /-- HEALTH_KICK_EXPIRY (R439): 10 ms pass without HEALTH_KICK in RUN, so HEALTH stops toggling. -/
  | healthKickExpiry
  /-- RUB_PASS_START (R442): Every PERIOD in RUN, Gheor starts the next rub-down pass, or skips it for temperature. -/
  | rubPassStart (temp : Int)
  /-- RUB_NOW (R442): RUB_CTL.NOW starts the next pass at once and restarts the period. -/
  | rubNow (temp : Int)
  /-- RUB_TEMP_RETRY (R444): A pass skipped for temperature is tried again after 10 s. -/
  | rubTempRetry (temp : Int)
  /-- RUB_PREPARE_DONE (R445): The float is powered, so MIRROR begins copying the cache and schedulers. -/
  | rubPrepareDone
  /-- RUB_MIRROR_DONE (R446): The mirror copy completes and the hand-over instant H is sought. -/
  | rubMirrorDone
  /-- RUB_HANDOVER (R447): At H, MAC feeds and steering pass to the float and DRAIN begins. -/
  | rubHandover
  /-- RUB_GAP_TIMEOUT (R446): No hand-over instant is found within 1 s, so the pass ends as SKIP_GAP. -/
  | rubGapTimeout
  /-- RUB_DRAIN_DONE (R447): The tested slice has no frame in flight, so hit bits merge and TEST begins. -/
  | rubDrainDone
  /-- RUB_TEST_DONE (R449): LBIST and SRAM BIST complete and the outcome retires the slice, takes out cores or passes. -/
  | rubTestDone (r : RubResult)
  /-- RUB_REFILL_DONE (R451): RETURN has refilled the tested slice's replicas and mirrors state back. -/
  | rubRefillDone
  /-- RUB_HANDBACK (R451): At H2 the ports return to the tested slice, and the float sleeps after its drain. -/
  | rubHandback
  /-- RUB_RETURN_RETRY (R451): No H2 is found within 1 s, so RETURN tries again every 10 s. -/
  | rubReturnRetry
  /-- PERF_SNAPSHOT (R473): The PERF command PERF_SNAPSHOT takes a snapshot now. -/
  | perfSnapshot (c : RingCmd)
  /-- PERF_SNAP_AT (R473): The PERF command PERF_SNAP_AT schedules a snapshot at instant T. -/
  | perfSnapAt (c : RingCmd)
  /-- PERF_DUMP (R469): The PERF command PERF_DUMP dumps the latest snapshot. -/
  | perfDump (c : RingCmd)
  /-- PERF_READ (R473): The PERF command PERF_READ copies live counter entries to BUF. -/
  | perfRead (c : RingCmd)
  /-- PERIODIC_SNAPSHOT (R467): At each whole multiple of DUMP_PERIOD while DUMP_EN is set, a snapshot is taken. -/
  | periodicSnapshot
  /-- SNAP_AT_FIRE (R467): At the instant of PERF_SNAP_AT, a snapshot is taken. -/
  | snapAtFire
  /-- SNAPSHOT_DONE (R468): A snapshot has reached its shadow bank, so the snapshot view and PERF_SNAP_SEQ change. -/
  | snapshotDone
  /-- DUMP_RECORD_WRITE (R469): The dump engine writes a snapshot record to the host ring when room allows, or loses it. -/
  | dumpRecordWrite
  /-- PERF_SAMPLE (R472): A sampler's PERIOD of occurrences completes, so it posts a Trowel or frame sample. -/
  | perfSample (j : Fin 2) (x : SampleInfo)
  /-- SLICE_WAKE (R479): A slice's condition for ACTIVE begins to hold, so its power switches close and its wake starts. -/
  | sliceWake (sl : Fin 13)
  /-- SLICE_WAKE_DONE (R479): The slice's PLL, SRAM and replica refill are complete, and the slice is ACTIVE. -/
  | sliceWakeDone (sl : Fin 13)
  /-- SLICE_SLEEP (R479): A slice's condition for OFF or PORTS holds, so its PLL stops and power is removed. -/
  | sliceSleep (sl : Fin 13)
  /-- SLICE_PLL_UNLOCK (R482): A slice PLL loses lock in ACTIVE, which starts a slice reset and posts PLL_UNLOCK. -/
  | slicePllUnlock (sl : Fin 13)
  /-- CENTRAL_PLL_UNLOCK (R482): A central PLL loses lock, which raises cause 16. -/
  | centralPllUnlock (k : Fin 4)
  /-- SLICE_RESET (R489): RST_CTL.SLICE_GO starts a slice reset of a slice, or holds it until a pass ends. -/
  | sliceReset (v : Word)
  /-- SLICE_RESET_DONE (R489): The slice's refill completes, its schedulers resume, ingress resumes and SLICE_RST_DONE is posted. -/
  | sliceResetDone
  /-- REFILL_REQUEST_RECEIVE (R312): The ACTIVE or ALONE partner receives a JOINING member's refill request and sends its slots, contexts, SCI map entries and recovery contexts in order, resending those that change. -/
  | refillRequestReceive (l : LathLink) (r : LathRec)
  /-- DOM_HB_RECEIVE (R329): A domain device receives an authenticated HB record, marks the sender present or heard and, on a member, ends its refusal of activation messages once the hawk is heard again. -/
  | domHbReceive (l : LathLink) (r : LathRec)
  /-- REG_RECORD_RECEIVE (R325): A member receives a REG record from the hawk and carries out the register read or write, returning a read response. -/
  | regRecordReceive (l : LathLink) (r : LathRec)
  /-- DMA_RECORD_RECEIVE (R326): The hawk receives a CPL, EVT or DMA record from a member and carries out the host-memory write with its own PCIe function: completions, event records, learn-log records, dumps and shadow reads. -/
  | dmaRecordReceive (l : LathLink) (r : LathRec)
  /-- SPOIL_MARKER_RECEIVE (R192): A receiving port recognises the spoil marker in the gap after a bad-FCS frame and counts that frame in RX_STOMPED and not in RX_FCS_ERR. -/
  | spoilMarkerReceive (p : Fin 96)
  /-- TRNG_HEALTH_RESTORED (R225): The TRNG's continuous health tests pass again within 1 ms, and a KEY_GENERATE that was waiting on them proceeds to fill its slot. -/
  | trngHealthRestored
  /-- RX_LPI_EXIT (R45): The link partner leaves low-power idle, and PORT_STATUS.LPI_RX clears. -/
  | rxLpiExit (p : Fin 96)
  /-- ERRORED_BLOCK_RECEIVE (R30): An errored PCS block or code group, or a corrected or uncorrectable FEC codeword, arrives outside a frame; it counts in RX_PCS_ERR, RX_FEC_CORR or RX_FEC_UNCORR and may raise FEC_UNCORR. -/
  | erroredBlockReceive (p : Fin 96) (k : LineError)
deriving DecidableEq, Repr

end Sys2Proof
end

