-- ==== Sys2Proof/Decode.lean ====
section
/-!
DEFINITION. The command that a word of the opcode table spells. No row of spec/opcode_table.json gives bits, so no word
spells one.
-/
namespace Sys2Proof

/-- The command spelled by a word numbered as the opcode table numbers it: none, as no row gives bits. -/
def decodeTableWord (_nbits _w : Nat) : Option Instr := none

end Sys2Proof
end

