-- ==== Sys2Proof/Config.lean ====
section
/-!
DEFINITION. What an implementation fixes and the values the spec leaves open: constants without a body, so that no
proof can lean on one of their values.
-/
namespace Sys2Proof.Config

/-- A free value of `w` bits: the `n`-th value that the spec leaves open or that the TRNG draws (R225). -/
opaque freeValue (n w : Nat) : BitVec w

/-- The Ed25519 public key of a 32-byte seed (RFC 8032, R217). -/
opaque ed25519Public (seed : BitVec 256) : BitVec 256

/-- The ML-DSA-65 public key of a 32-byte seed (FIPS 204, R217). -/
opaque mldsaPublic (seed : BitVec 256) : BitVec 15616

/-- The Ed25519 signature of a message under a seed (RFC 8032, R422). -/
opaque ed25519Sign (seed : BitVec 256) (msg : List Byte) : BitVec 512

/-- The ML-DSA-65 signature of a message under a seed, with its context string (FIPS 204, R422). -/
opaque mldsaSign (seed : BitVec 256) (ctx msg : List Byte) : BitVec 26472

/-- Whether an Ed25519 signature of a message verifies (RFC 8032, R410). -/
opaque ed25519Verify (key msg sig : List Byte) : Bool

/-- Whether an ML-DSA-65 signature of a message with a context string verifies (FIPS 204, R410). -/
opaque mldsaVerify (key ctx msg sig : List Byte) : Bool

/-- The first 64 bytes of SHAKE256 of a message (FIPS 202, Table 17.3); a key hash is its first 32 (R409). -/
opaque shake256 (msg : List Byte) : BitVec 512

/-- The receive wake time in microseconds of a lane mode, which the spec calls fixed and does not state (R44). -/
opaque rxTw (mode : Nat) : BitVec 16

/-- The calibrated ingress delay of a port in nanoseconds, which the device measures (R236, R237). -/
opaque ingressDelay (port : Nat) : BitVec 16

/-- The calibrated egress delay of a port in nanoseconds, which the device measures (R237, R238, R272). -/
opaque egressDelay (port : Nat) : BitVec 16

/-- The link delay that a port measures, in units of 2^-16 ns (R239). -/
opaque linkDelay (port : Nat) : BitVec 48

/-- The 16-byte image of a gate list's parameters in the screed, whose layout the spec does not state (Table 14.2, class 6). -/
opaque listParams (base cycle ext length : Nat) : BitVec 128

/-- The delay of a lath path in nanoseconds, which the device measures (R306): 0 path A, 1 path B. -/
opaque pathDelay (path : Nat) : BitVec 16

/-- Whether an instance supports a management member of IEEE 1588 (R234). -/
opaque ptpSupported (managementId : Nat) : Bool

/-- The dataField of a member that no PTP_SET has written, which Gheor's protocol engine keeps (R234). -/
opaque ptpMember (instance_ port managementId : Nat) : List (BitVec 8)

/-- What the counter of an event of hardware use holds at a core cycle, which only timing decides (R461, R462). -/
opaque useCount (event cyc : Nat) : BitVec 48

end Sys2Proof.Config
end

