-- ==== Sys2Proof/Machine/Bits.lean ====
section
/-!
DEFINITION. Bit fields, byte order and the operations on sparse tables (R5, R517).
-/
namespace Sys2Proof.Machine

/-! ### Bit fields -/

/-- The value of bits [hi:lo] of a number. -/
def natBits (v hi lo : Nat) : Nat := (v >>> lo) % 2 ^ (hi + 1 - lo)

/-- A number with bits [hi:lo] replaced by the low bits of `x`. -/
def natPut (v hi lo x : Nat) : Nat :=
  let w := hi + 1 - lo
  v - natBits v hi lo * 2 ^ lo + (x % 2 ^ w) * 2 ^ lo

/-- Bit `i` of a number. -/
def natBit (v i : Nat) : Bool := v.testBit i

/-- A number with bit `i` set. -/
def natSet (v i : Nat) : Nat := v ||| 2 ^ i

/-- A number with bit `i` cleared. -/
def natClr (v i : Nat) : Nat := natPut v i i 0

/-- The field `f` of an entry image. -/
def getF {n : Nat} (w : BitVec n) (f : BF) : Nat := natBits w.toNat f.hi f.lo

/-- An entry image with field `f` set to `x`. -/
def putF {n : Nat} (w : BitVec n) (f : BF) (x : Nat) : BitVec n := BitVec.ofNat n (natPut w.toNat f.hi f.lo x)

/-- A one-bit field as a truth value. -/
def isF {n : Nat} (w : BitVec n) (f : BF) : Bool := getF w f == 1

/-- 1 for true, 0 for false. -/
def b2n (b : Bool) : Nat := if b then 1 else 0

/-- The field of `len` bytes at byte offset `off` of a little-endian image (R139). -/
def bytesAt (off len : Nat) : BF := ⟨8 * (off + len) - 1, 8 * off⟩

/-! ### Byte order (R5) -/

/-- The big-endian value of a byte string: the network order of R5. -/
def beNat : List Byte → Nat
  | bs => bs.foldl (fun a b => a * 256 + b.toNat) 0

/-- `n` bytes of a number, most significant first. -/
def beBytes (n v : Nat) : List Byte :=
  (List.range n).map (fun i => BitVec.ofNat 8 (v >>> (8 * (n - 1 - i))))

/-- The little-endian value of a byte string: the host-memory order of R5. -/
def leNat : List Byte → Nat
  | [] => 0
  | b :: bs => b.toNat + 256 * leNat bs

/-- `n` bytes of a number, least significant first. -/
def leBytes (n v : Nat) : List Byte :=
  (List.range n).map (fun i => BitVec.ofNat 8 (v >>> (8 * i)))

/-- The bytes [off, off + len) of a byte string; bytes beyond its end are 0. -/
def slice (bs : List Byte) (off len : Nat) : List Byte :=
  let t := (bs.drop off).take len
  t ++ List.replicate (len - t.length) 0

/-- The big-endian number in `len` bytes at `off`. -/
def beAt (bs : List Byte) (off len : Nat) : Nat := beNat (slice bs off len)

/-- The little-endian number in `len` bytes at `off`. -/
def leAt (bs : List Byte) (off len : Nat) : Nat := leNat (slice bs off len)

/-- A byte string with the bytes from `off` on replaced by `xs` (no longer than before). -/
def overwrite (bs : List Byte) (off : Nat) (xs : List Byte) : List Byte :=
  bs.take off ++ xs ++ bs.drop (off + xs.length)

/-- A byte string cut or zero-padded to `n` bytes. -/
def padTo (n : Nat) (bs : List Byte) : List Byte := slice bs 0 n

/-- Exclusive or of two byte strings, as long as the shorter. -/
def xorBytes (a b : List Byte) : List Byte := List.zipWith (fun x y => x ^^^ y) a b

/-- A number read as `w`-bit two's complement. -/
def signed (w v : Nat) : Int := if v < 2 ^ (w - 1) then (v : Int) else (v : Int) - 2 ^ w

/-! ### Sparse tables -/

/-- The value at index `k`, `d k` where nothing is listed. -/
def Tbl.getD {α : Type} (d : Nat → α) : Tbl α → Nat → α
  | [], k => d k
  | (j, v) :: t, k => if j = k then v else Tbl.getD d t k

/-- The table without an entry at `k`. -/
def Tbl.erase {α : Type} : Tbl α → Nat → Tbl α
  | [], _ => []
  | (j, v) :: t, k => if j = k then Tbl.erase t k else (j, v) :: Tbl.erase t k

/-- The table with an entry `v` at `k`, in rising order. -/
def Tbl.insert {α : Type} : Tbl α → Nat → α → Tbl α
  | [], k, v => [(k, v)]
  | (j, w) :: t, k, v =>
    if j = k then (k, v) :: t else if k < j then (k, v) :: (j, w) :: t else (j, w) :: Tbl.insert t k v

/-- The table with the value at index `k` set to `v`: an entry equal to what an unlisted index reads as is not kept. -/
def Tbl.setD {α : Type} [DecidableEq α] (d : Nat → α) (t : Tbl α) (k : Nat) (v : α) : Tbl α :=
  if v = d k then Tbl.erase t k else Tbl.insert t k v

/-- The canonical form of a sparse table above a bound: indices strictly rising, no entry equal to what an unlisted index reads as. -/
def Tbl.wfFrom {α : Type} [DecidableEq α] (d : Nat → α) : Nat → Tbl α → Bool
  | _, [] => true
  | lo, (k, v) :: t => decide (lo ≤ k) && decide (v ≠ d k) && Tbl.wfFrom d (k + 1) t

/-- The canonical form of a sparse table. -/
def Tbl.wf {α : Type} [DecidableEq α] (d : Nat → α) (t : Tbl α) : Bool := Tbl.wfFrom d 0 t

/-- An entry of a table of images: unlisted entries read as all zeros. -/
def Tbl.at0 {n : Nat} (t : Tbl (BitVec n)) (k : Nat) : BitVec n := Tbl.getD (fun _ => 0) t k

/-- A table of images with one entry written. -/
def Tbl.set0 {n : Nat} (t : Tbl (BitVec n)) (k : Nat) (v : BitVec n) : Tbl (BitVec n) := Tbl.setD (fun _ => 0) t k v

/-- A counter or number of a table whose unlisted entries read 0. -/
def Tbl.atN (t : Tbl Nat) (k : Nat) : Nat := Tbl.getD (fun _ => 0) t k

/-- A table of numbers with one entry written. -/
def Tbl.setN (t : Tbl Nat) (k : Nat) (v : Nat) : Tbl Nat := Tbl.setD (fun _ => 0) t k v

/-! ### The table hash (R517, spec/03_forwarding.md) -/

/-- One bit step of the reflected CRC-32C register. -/
def crcBit (r : Nat) : Nat := if r % 2 = 1 then (r / 2) ^^^ 0x82F63B78 else r / 2

/-- The CRC-32C register after one byte, taken least significant bit first. -/
def crcByte (r : Nat) (b : Byte) : Nat :=
  crcBit (crcBit (crcBit (crcBit (crcBit (crcBit (crcBit (crcBit (r ^^^ b.toNat))))))))

/-- The hash of R517: CRC-32C of the key bytes, the register loaded with the seed, the result inverted. -/
def tableHash (seed : Nat) (key : List Byte) : Nat := (key.foldl crcByte seed) ^^^ 0xFFFFFFFF

/-! ### The Ethernet frame check sequence (IEEE 802.3, R33) -/

/-- One bit step of the reflected CRC-32 register of IEEE 802.3. -/
def fcsBit (r : Nat) : Nat := if r % 2 = 1 then (r / 2) ^^^ 0xEDB88320 else r / 2

/-- The CRC-32 register after one byte. -/
def fcsByte (r : Nat) (b : Byte) : Nat :=
  fcsBit (fcsBit (fcsBit (fcsBit (fcsBit (fcsBit (fcsBit (fcsBit (r ^^^ b.toNat))))))))

/-- The frame check sequence of a frame, as the four bytes sent. -/
def fcsOf (frame : List Byte) : List Byte := leBytes 4 ((frame.foldl fcsByte 0xFFFFFFFF) ^^^ 0xFFFFFFFF)

/-! ### Lists -/

/-- Add an element at the end of a list unless it is there. -/
def addOnce {α : Type} [DecidableEq α] (l : List α) (a : α) : List α := if a ∈ l then l else l ++ [a]

/-- The first index of 0 .. n − 1 that satisfies `p`. -/
def firstBelow (p : Nat → Bool) (n : Nat) : Option Nat := (List.range n).find? p

/-- The indices of 0 .. n − 1 that satisfy `p`, in rising order. -/
def allBelow (p : Nat → Bool) (n : Nat) : List Nat := (List.range n).filter p

end Sys2Proof.Machine
end

