-- ==== Sys2Proof/Machine/Regs.lean ====
section
/-!
DEFINITION. The registers of PF0 BAR0 (R509, R510, spec/23_register_map.md), written from the register tables of the
chapters: their offsets (namespace R), their fields (namespace F) and the rows (access code, reset value, accepted
values) that the register write of R7 obeys. A reset value that the spec makes depend on a fuse, a strap or the battery
is set in State.reset or read as a view (Machine/Ops.lean).
-/
namespace Sys2Proof.Machine

/-! ### IDENT: spec/23_register_map.md Table 23.3 (R511) -/

def R.ID_PART : Nat := 0x0
def F.ID_PART.DEVICE_ID : Fld := ⟨R.ID_PART, 31, 16⟩
def F.ID_PART.REVISION : Fld := ⟨R.ID_PART, 15, 8⟩
def R.ID_MAP : Nat := 0x4
def F.ID_MAP.MAP_MAJOR : Fld := ⟨R.ID_MAP, 31, 16⟩
def F.ID_MAP.MAP_MINOR : Fld := ⟨R.ID_MAP, 15, 0⟩
def R.ID_SCRATCH : Nat := 0x8
def F.ID_SCRATCH.SCRATCH : Fld := ⟨R.ID_SCRATCH, 31, 0⟩

/-! ### PORT: spec/02_ports_and_mac.md Tables 2.9-2.16 (R49) -/

def R.PORT_MODE (p : Nat) : Nat := 0x200000 + 0x1000 * p
def F.PORT_MODE.ZONE (p : Nat) : Fld := ⟨(R.PORT_MODE p), 15, 15⟩
def F.PORT_MODE.LOOPBACK (p : Nat) : Fld := ⟨(R.PORT_MODE p), 14, 13⟩
def F.PORT_MODE.LT_EN (p : Nat) : Fld := ⟨(R.PORT_MODE p), 12, 12⟩
def F.PORT_MODE.AN_EN (p : Nat) : Fld := ⟨(R.PORT_MODE p), 11, 11⟩
def F.PORT_MODE.FEC (p : Nat) : Fld := ⟨(R.PORT_MODE p), 10, 8⟩
def F.PORT_MODE.LANE_MODE (p : Nat) : Fld := ⟨(R.PORT_MODE p), 3, 0⟩
def R.PORT_MAC_CFG (p : Nat) : Nat := 0x200004 + 0x1000 * p
def F.PORT_MAC_CFG.RX_MAX_LEN (p : Nat) : Fld := ⟨(R.PORT_MAC_CFG p), 29, 16⟩
def F.PORT_MAC_CFG.TX_MAX_LEN (p : Nat) : Fld := ⟨(R.PORT_MAC_CFG p), 13, 0⟩
def R.PORT_LINK_CFG (p : Nat) : Nat := 0x200008 + 0x1000 * p
def F.PORT_LINK_CFG.UP_HOLD (p : Nat) : Fld := ⟨(R.PORT_LINK_CFG p), 23, 16⟩
def F.PORT_LINK_CFG.DOWN_HOLD (p : Nat) : Fld := ⟨(R.PORT_LINK_CFG p), 15, 0⟩
def R.PORT_MM_CFG (p : Nat) : Nat := 0x20000c + 0x1000 * p
def F.PORT_MM_CFG.VERIFY_TIME (p : Nat) : Fld := ⟨(R.PORT_MM_CFG p), 23, 16⟩
def F.PORT_MM_CFG.VERIFY_DIS (p : Nat) : Fld := ⟨(R.PORT_MM_CFG p), 11, 11⟩
def F.PORT_MM_CFG.MM_EN (p : Nat) : Fld := ⟨(R.PORT_MM_CFG p), 10, 10⟩
def F.PORT_MM_CFG.ADD_FRAG_SIZE (p : Nat) : Fld := ⟨(R.PORT_MM_CFG p), 9, 8⟩
def F.PORT_MM_CFG.PREEMPT_CLASS (p : Nat) : Fld := ⟨(R.PORT_MM_CFG p), 7, 0⟩
def R.PORT_EEE_CFG (p : Nat) : Nat := 0x200010 + 0x1000 * p
def F.PORT_EEE_CFG.EEE_EN (p : Nat) : Fld := ⟨(R.PORT_EEE_CFG p), 31, 31⟩
def F.PORT_EEE_CFG.LPI_IDLE (p : Nat) : Fld := ⟨(R.PORT_EEE_CFG p), 30, 16⟩
def F.PORT_EEE_CFG.TW_REQ (p : Nat) : Fld := ⟨(R.PORT_EEE_CFG p), 15, 0⟩
def R.PORT_EEE_STATUS (p : Nat) : Nat := 0x200014 + 0x1000 * p
def F.PORT_EEE_STATUS.RX_TW (p : Nat) : Fld := ⟨(R.PORT_EEE_STATUS p), 31, 16⟩
def F.PORT_EEE_STATUS.TW_APPLIED (p : Nat) : Fld := ⟨(R.PORT_EEE_STATUS p), 15, 0⟩
def R.PORT_STATUS (p : Nat) : Nat := 0x200018 + 0x1000 * p
def F.PORT_STATUS.LPI_RX (p : Nat) : Fld := ⟨(R.PORT_STATUS p), 13, 13⟩
def F.PORT_STATUS.LPI_TX (p : Nat) : Fld := ⟨(R.PORT_STATUS p), 12, 12⟩
def F.PORT_STATUS.MM_STATE (p : Nat) : Fld := ⟨(R.PORT_STATUS p), 11, 10⟩
def F.PORT_STATUS.MODE_ERR (p : Nat) : Fld := ⟨(R.PORT_STATUS p), 6, 4⟩
def F.PORT_STATUS.BONDED (p : Nat) : Fld := ⟨(R.PORT_STATUS p), 3, 3⟩
def F.PORT_STATUS.LINK_STATE (p : Nat) : Fld := ⟨(R.PORT_STATUS p), 2, 0⟩
def R.PORT_EVENT (p : Nat) : Nat := 0x20001c + 0x1000 * p
def F.PORT_EVENT.TW_APPLIED (p : Nat) : Fld := ⟨(R.PORT_EVENT p), 9, 9⟩
def F.PORT_EVENT.STAT_HALF (p : Nat) : Fld := ⟨(R.PORT_EVENT p), 8, 8⟩
def F.PORT_EVENT.FEC_UNCORR (p : Nat) : Fld := ⟨(R.PORT_EVENT p), 7, 7⟩
def F.PORT_EVENT.FAULT (p : Nat) : Fld := ⟨(R.PORT_EVENT p), 6, 6⟩
def F.PORT_EVENT.MM_VERIFY_FAIL (p : Nat) : Fld := ⟨(R.PORT_EVENT p), 5, 5⟩
def F.PORT_EVENT.MM_VERIFY_OK (p : Nat) : Fld := ⟨(R.PORT_EVENT p), 4, 4⟩
def F.PORT_EVENT.AN_FAIL (p : Nat) : Fld := ⟨(R.PORT_EVENT p), 3, 3⟩
def F.PORT_EVENT.MODE_REFUSED (p : Nat) : Fld := ⟨(R.PORT_EVENT p), 2, 2⟩
def F.PORT_EVENT.LINK_DOWN (p : Nat) : Fld := ⟨(R.PORT_EVENT p), 1, 1⟩
def F.PORT_EVENT.LINK_UP (p : Nat) : Fld := ⟨(R.PORT_EVENT p), 0, 0⟩
def R.PORT_EVENT_EN (p : Nat) : Nat := 0x200020 + 0x1000 * p
def F.PORT_EVENT_EN.EN (p : Nat) : Fld := ⟨(R.PORT_EVENT_EN p), 9, 0⟩
def R.PORT_STAT_HALF0 (p : Nat) : Nat := 0x200024 + 0x1000 * p
def F.PORT_STAT_HALF0.HALF (p : Nat) : Fld := ⟨(R.PORT_STAT_HALF0 p), 31, 0⟩
def R.PORT_STAT_HALF1 (p : Nat) : Nat := 0x200028 + 0x1000 * p
def F.PORT_STAT_HALF1.HALF (p : Nat) : Fld := ⟨(R.PORT_STAT_HALF1 p), 21, 0⟩

/-! ### HOST: spec/16_host_interface.md Tables 16.15-16.18 (R404) -/

def R.HOST_STATUS : Nat := 0x4000
def F.HOST_STATUS.LINK : Fld := ⟨R.HOST_STATUS, 31, 30⟩
def F.HOST_STATUS.RATE : Fld := ⟨R.HOST_STATUS, 29, 28⟩
def F.HOST_STATUS.WIDTH : Fld := ⟨R.HOST_STATUS, 27, 26⟩
def F.HOST_STATUS.PKG : Fld := ⟨R.HOST_STATUS, 25, 25⟩
def F.HOST_STATUS.OPSTATE : Fld := ⟨R.HOST_STATUS, 2, 0⟩
def R.HOST_EVENT : Nat := 0x4004
def F.HOST_EVENT.CFG_REFUSED : Fld := ⟨R.HOST_EVENT, 4, 4⟩
def F.HOST_EVENT.EXC_DROP : Fld := ⟨R.HOST_EVENT, 3, 3⟩
def F.HOST_EVENT.RING_ERR : Fld := ⟨R.HOST_EVENT, 2, 2⟩
def F.HOST_EVENT.LINK_RETRAINED : Fld := ⟨R.HOST_EVENT, 1, 1⟩
def F.HOST_EVENT.LOCK_WRITE : Fld := ⟨R.HOST_EVENT, 0, 0⟩
def R.HOST_EVENT_EN : Nat := 0x4008
def F.HOST_EVENT_EN.EN : Fld := ⟨R.HOST_EVENT_EN, 4, 0⟩
def R.EXC_STEER (r : Nat) : Nat := 0x4040 + 0x4 * r
def F.EXC_STEER.RATE (r : Nat) : Fld := ⟨(R.EXC_STEER r), 31, 16⟩
def F.EXC_STEER.PAIR (r : Nat) : Fld := ⟨(R.EXC_STEER r), 5, 0⟩
def R.SQ_BASE_LO (n : Nat) : Nat := 0x4400 + 0x40 * n
def F.SQ_BASE_LO.ADDR (n : Nat) : Fld := ⟨(R.SQ_BASE_LO n), 31, 12⟩
def R.SQ_BASE_HI (n : Nat) : Nat := 0x4404 + 0x40 * n
def F.SQ_BASE_HI.ADDR (n : Nat) : Fld := ⟨(R.SQ_BASE_HI n), 31, 0⟩
def R.CQ_BASE_LO (n : Nat) : Nat := 0x4408 + 0x40 * n
def F.CQ_BASE_LO.ADDR (n : Nat) : Fld := ⟨(R.CQ_BASE_LO n), 31, 12⟩
def R.CQ_BASE_HI (n : Nat) : Nat := 0x440c + 0x40 * n
def F.CQ_BASE_HI.ADDR (n : Nat) : Fld := ⟨(R.CQ_BASE_HI n), 31, 0⟩
def R.RING_CFG (n : Nat) : Nat := 0x4410 + 0x40 * n
def F.RING_CFG.KIND (n : Nat) : Fld := ⟨(R.RING_CFG n), 31, 30⟩
def F.RING_CFG.FUNC (n : Nat) : Fld := ⟨(R.RING_CFG n), 29, 28⟩
def F.RING_CFG.SQ_ORDER (n : Nat) : Fld := ⟨(R.RING_CFG n), 27, 24⟩
def F.RING_CFG.CQ_ORDER (n : Nat) : Fld := ⟨(R.RING_CFG n), 23, 20⟩
def F.RING_CFG.VECTOR (n : Nat) : Fld := ⟨(R.RING_CFG n), 19, 13⟩
def R.RING_CTL (n : Nat) : Nat := 0x4414 + 0x40 * n
def F.RING_CTL.EN (n : Nat) : Fld := ⟨(R.RING_CTL n), 31, 31⟩
def F.RING_CTL.RESET (n : Nat) : Fld := ⟨(R.RING_CTL n), 30, 30⟩
def R.RING_COAL (n : Nat) : Nat := 0x4418 + 0x40 * n
def F.RING_COAL.COAL_TIME (n : Nat) : Fld := ⟨(R.RING_COAL n), 31, 16⟩
def F.RING_COAL.COAL_CNT (n : Nat) : Fld := ⟨(R.RING_COAL n), 15, 0⟩
def R.RING_EVT_MASK (n : Nat) : Nat := 0x441c + 0x40 * n
def F.RING_EVT_MASK.BLOCKS (n : Nat) : Fld := ⟨(R.RING_EVT_MASK n), 18, 1⟩
def R.RING_HEADS (n : Nat) : Nat := 0x4420 + 0x40 * n
def F.RING_HEADS.CQ_WRITE (n : Nat) : Fld := ⟨(R.RING_HEADS n), 30, 16⟩
def F.RING_HEADS.CQ_PHASE (n : Nat) : Fld := ⟨(R.RING_HEADS n), 15, 15⟩
def F.RING_HEADS.SQ_HEAD (n : Nat) : Fld := ⟨(R.RING_HEADS n), 14, 0⟩
def R.RING_STATUS (n : Nat) : Nat := 0x4424 + 0x40 * n
def F.RING_STATUS.RUNNING (n : Nat) : Fld := ⟨(R.RING_STATUS n), 31, 31⟩
def F.RING_STATUS.ERR (n : Nat) : Fld := ⟨(R.RING_STATUS n), 2, 0⟩

/-! ### PERF: spec/20_counters.md Table 20.9 (R476) -/

def R.PERF_CTL : Nat := 0x13000
def F.PERF_CTL.PERF_USER_EN : Fld := ⟨R.PERF_CTL, 31, 31⟩
def F.PERF_CTL.DUMP_EN : Fld := ⟨R.PERF_CTL, 30, 30⟩
def F.PERF_CTL.DUMP_SEL : Fld := ⟨R.PERF_CTL, 29, 26⟩
def R.PERF_DUMP_PERIOD : Nat := 0x13004
def F.PERF_DUMP_PERIOD.PERIOD : Fld := ⟨R.PERF_DUMP_PERIOD, 13, 0⟩
def R.PERF_DUMP_BASE_LO : Nat := 0x13008
def F.PERF_DUMP_BASE_LO.ADDR : Fld := ⟨R.PERF_DUMP_BASE_LO, 31, 12⟩
def R.PERF_DUMP_BASE_HI : Nat := 0x1300c
def F.PERF_DUMP_BASE_HI.ADDR : Fld := ⟨R.PERF_DUMP_BASE_HI, 31, 0⟩
def R.PERF_DUMP_SIZE : Nat := 0x13010
def F.PERF_DUMP_SIZE.SIZE : Fld := ⟨R.PERF_DUMP_SIZE, 31, 0⟩
def R.PERF_DUMP_HEAD : Nat := 0x13014
def F.PERF_DUMP_HEAD.HEAD : Fld := ⟨R.PERF_DUMP_HEAD, 25, 0⟩
def R.PERF_DUMP_TAIL : Nat := 0x13018
def F.PERF_DUMP_TAIL.TAIL : Fld := ⟨R.PERF_DUMP_TAIL, 25, 0⟩
def R.PERF_SNAP_SEQ : Nat := 0x1301c
def F.PERF_SNAP_SEQ.SEQ : Fld := ⟨R.PERF_SNAP_SEQ, 31, 0⟩
def R.PERF_EVENT : Nat := 0x13020
def F.PERF_EVENT.DUMP_WRITTEN : Fld := ⟨R.PERF_EVENT, 5, 5⟩
def F.PERF_EVENT.CFG_REFUSED : Fld := ⟨R.PERF_EVENT, 4, 4⟩
def F.PERF_EVENT.SAMPLE_LOST : Fld := ⟨R.PERF_EVENT, 3, 3⟩
def F.PERF_EVENT.DUMP_LOST : Fld := ⟨R.PERF_EVENT, 2, 2⟩
def F.PERF_EVENT.DUMP_POISON : Fld := ⟨R.PERF_EVENT, 1, 1⟩
def F.PERF_EVENT.OVF : Fld := ⟨R.PERF_EVENT, 0, 0⟩
def R.PERF_EVENT_EN : Nat := 0x13024
def F.PERF_EVENT_EN.EN : Fld := ⟨R.PERF_EVENT_EN, 5, 0⟩
def R.PERF_SAMPLE_CFG (j : Nat) : Nat := 0x13028 + 0x4 * j
def F.PERF_SAMPLE_CFG.EN (j : Nat) : Fld := ⟨(R.PERF_SAMPLE_CFG j), 31, 31⟩
def F.PERF_SAMPLE_CFG.EVENT (j : Nat) : Fld := ⟨(R.PERF_SAMPLE_CFG j), 26, 16⟩
def F.PERF_SAMPLE_CFG.PERIOD (j : Nat) : Fld := ⟨(R.PERF_SAMPLE_CFG j), 15, 0⟩
def R.PERF_TH_OVF : Nat := 0x13030
def F.PERF_TH_OVF.OVF : Fld := ⟨R.PERF_TH_OVF, 15, 0⟩
def R.PERF_TH_CFG (k : Nat) : Nat := 0x13040 + 0x4 * k
def F.PERF_TH_CFG.EN (k : Nat) : Fld := ⟨(R.PERF_TH_CFG k), 31, 31⟩
def F.PERF_TH_CFG.KIND (k : Nat) : Fld := ⟨(R.PERF_TH_CFG k), 30, 27⟩
def F.PERF_TH_CFG.INSTANCE (k : Nat) : Fld := ⟨(R.PERF_TH_CFG k), 26, 16⟩
def F.PERF_TH_CFG.N (k : Nat) : Fld := ⟨(R.PERF_TH_CFG k), 15, 0⟩
def R.PERF_MODE (k : Nat) : Nat := 0x13100 + 0x4 * k
def F.PERF_MODE.EDGE (k : Nat) : Fld := ⟨(R.PERF_MODE k), 31, 0⟩
def R.PERF_OVF (k : Nat) : Nat := 0x13200 + 0x4 * k
def F.PERF_OVF.OVF (k : Nat) : Fld := ⟨(R.PERF_OVF k), 31, 0⟩
def R.PERF_BOVF (k : Nat) : Nat := 0x13400 + 0x4 * k
def F.PERF_BOVF.OVF (k : Nat) : Fld := ⟨(R.PERF_BOVF k), 31, 0⟩

/-! ### POWER: spec/21_power_clocks_reset.md Tables 21.12-21.15 (R492) -/

def R.RST_CTL : Nat := 0x2000
def F.RST_CTL.WARM : Fld := ⟨R.RST_CTL, 31, 31⟩
def F.RST_CTL.SLICE_GO : Fld := ⟨R.RST_CTL, 30, 30⟩
def F.RST_CTL.SLICE : Fld := ⟨R.RST_CTL, 3, 0⟩
def R.RST_STATUS : Nat := 0x2004
def F.RST_STATUS.SLICE_BUSY : Fld := ⟨R.RST_STATUS, 31, 31⟩
def F.RST_STATUS.SLICE_HELD : Fld := ⟨R.RST_STATUS, 30, 30⟩
def F.RST_STATUS.SLICE : Fld := ⟨R.RST_STATUS, 3, 0⟩
def R.PWR_DOM_STATUS : Nat := 0x2008
def F.PWR_DOM_STATUS.DOM : Fld := ⟨R.PWR_DOM_STATUS, 6, 0⟩
def R.PWR_SLICE_STATUS : Nat := 0x200c
def F.PWR_SLICE_STATUS.STATES : Fld := ⟨R.PWR_SLICE_STATUS, 25, 0⟩
def R.CLK_STATUS : Nat := 0x2010
def F.CLK_STATUS.CPLL_M : Fld := ⟨R.CLK_STATUS, 31, 31⟩
def F.CLK_STATUS.CPLL_D : Fld := ⟨R.CLK_STATUS, 30, 30⟩
def F.CLK_STATUS.CPLL_T : Fld := ⟨R.CLK_STATUS, 29, 29⟩
def F.CLK_STATUS.LPLL : Fld := ⟨R.CLK_STATUS, 28, 28⟩
def F.CLK_STATUS.XTAL_RUN : Fld := ⟨R.CLK_STATUS, 27, 27⟩
def F.CLK_STATUS.SLICE_PLL : Fld := ⟨R.CLK_STATUS, 12, 0⟩
def R.PWR_EVENT : Nat := 0x2014
def F.PWR_EVENT.CFG_REFUSED : Fld := ⟨R.PWR_EVENT, 2, 2⟩
def F.PWR_EVENT.PLL_UNLOCK : Fld := ⟨R.PWR_EVENT, 1, 1⟩
def F.PWR_EVENT.SLICE_RST_DONE : Fld := ⟨R.PWR_EVENT, 0, 0⟩
def R.PWR_EVENT_EN : Nat := 0x2018
def F.PWR_EVENT_EN.EN : Fld := ⟨R.PWR_EVENT_EN, 2, 0⟩

/-! ### BOOT: spec/17_boot_and_lifecycle.md Tables 17.11-17.13 (R423) -/

def R.BOOT_STATUS : Nat := 0x1000
def F.BOOT_STATUS.LC : Fld := ⟨R.BOOT_STATUS, 31, 29⟩
def F.BOOT_STATUS.DEBUG_OPEN : Fld := ⟨R.BOOT_STATUS, 28, 28⟩
def F.BOOT_STATUS.OWNER_FUSED : Fld := ⟨R.BOOT_STATUS, 27, 27⟩
def F.BOOT_STATUS.GRADE : Fld := ⟨R.BOOT_STATUS, 26, 26⟩
def F.BOOT_STATUS.ROM_STEP : Fld := ⟨R.BOOT_STATUS, 19, 16⟩
def F.BOOT_STATUS.FW_STATUS : Fld := ⟨R.BOOT_STATUS, 15, 12⟩
def F.BOOT_STATUS.RESET_CAUSE : Fld := ⟨R.BOOT_STATUS, 11, 10⟩
def F.BOOT_STATUS.OPSTATE : Fld := ⟨R.BOOT_STATUS, 2, 0⟩
def R.BOOT_CTL : Nat := 0x1004
def F.BOOT_CTL.RUN_REQ : Fld := ⟨R.BOOT_CTL, 31, 31⟩
def F.BOOT_CTL.HOLD_REQ : Fld := ⟨R.BOOT_CTL, 30, 30⟩
def R.FW_LOAD_ADDR_LO : Nat := 0x1008
def F.FW_LOAD_ADDR_LO.ADDR : Fld := ⟨R.FW_LOAD_ADDR_LO, 31, 6⟩
def R.FW_LOAD_ADDR_HI : Nat := 0x100c
def F.FW_LOAD_ADDR_HI.ADDR : Fld := ⟨R.FW_LOAD_ADDR_HI, 31, 0⟩
def R.FW_LOAD_LEN : Nat := 0x1010
def F.FW_LOAD_LEN.LEN : Fld := ⟨R.FW_LOAD_LEN, 23, 0⟩
def R.FW_LOAD_CTL : Nat := 0x1014
def F.FW_LOAD_CTL.GO : Fld := ⟨R.FW_LOAD_CTL, 31, 31⟩
def R.FW_INFO : Nat := 0x1018
def F.FW_INFO.FUSED_ARB : Fld := ⟨R.FW_INFO, 31, 24⟩
def F.FW_INFO.IMAGE_ARB : Fld := ⟨R.FW_INFO, 23, 16⟩
def R.FUSE_CMD : Nat := 0x101c
def F.FUSE_CMD.GO : Fld := ⟨R.FUSE_CMD, 31, 31⟩
def F.FUSE_CMD.OP : Fld := ⟨R.FUSE_CMD, 30, 28⟩
def R.FUSE_BUF_LO : Nat := 0x1020
def F.FUSE_BUF_LO.ADDR : Fld := ⟨R.FUSE_BUF_LO, 31, 3⟩
def R.FUSE_BUF_HI : Nat := 0x1024
def F.FUSE_BUF_HI.ADDR : Fld := ⟨R.FUSE_BUF_HI, 31, 0⟩
def R.FUSE_STATUS : Nat := 0x1028
def F.FUSE_STATUS.BUSY : Fld := ⟨R.FUSE_STATUS, 31, 31⟩
def F.FUSE_STATUS.CODE : Fld := ⟨R.FUSE_STATUS, 3, 0⟩
def R.DEV_SERIAL_LO : Nat := 0x102c
def F.DEV_SERIAL_LO.SERIAL : Fld := ⟨R.DEV_SERIAL_LO, 31, 0⟩
def R.DEV_SERIAL_HI : Nat := 0x1030
def F.DEV_SERIAL_HI.SERIAL : Fld := ⟨R.DEV_SERIAL_HI, 31, 0⟩
def R.DEBUG_POLICY : Nat := 0x1034
def F.DEBUG_POLICY.POLICY : Fld := ⟨R.DEBUG_POLICY, 23, 0⟩
def R.BOOT_COUNT_LO : Nat := 0x1038
def F.BOOT_COUNT_LO.COUNT : Fld := ⟨R.BOOT_COUNT_LO, 31, 0⟩
def R.BOOT_COUNT_HI : Nat := 0x103c
def F.BOOT_COUNT_HI.COUNT : Fld := ⟨R.BOOT_COUNT_HI, 15, 0⟩
def R.ATT_CTL : Nat := 0x1040
def F.ATT_CTL.GO : Fld := ⟨R.ATT_CTL, 31, 31⟩
def R.ATT_STATUS : Nat := 0x1044
def F.ATT_STATUS.BUSY : Fld := ⟨R.ATT_STATUS, 31, 31⟩
def F.ATT_STATUS.CODE : Fld := ⟨R.ATT_STATUS, 3, 0⟩
def R.ATT_BUF_LO : Nat := 0x1048
def F.ATT_BUF_LO.ADDR : Fld := ⟨R.ATT_BUF_LO, 31, 6⟩
def R.ATT_BUF_HI : Nat := 0x104c
def F.ATT_BUF_HI.ADDR : Fld := ⟨R.ATT_BUF_HI, 31, 0⟩
def R.ATT_NONCE (k : Nat) : Nat := 0x1060 + 0x4 * k
def F.ATT_NONCE.NONCE (k : Nat) : Fld := ⟨(R.ATT_NONCE k), 31, 0⟩
def R.FUSE (k : Nat) : Nat := 0x1100 + 0x4 * k
def F.FUSE.BITS (k : Nat) : Fld := ⟨(R.FUSE k), 31, 0⟩
def R.BOOT_EVENT : Nat := 0x11b0
def F.BOOT_EVENT.FUSE_DONE : Fld := ⟨R.BOOT_EVENT, 2, 2⟩
def F.BOOT_EVENT.ATT_DONE : Fld := ⟨R.BOOT_EVENT, 1, 1⟩
def F.BOOT_EVENT.SETUP : Fld := ⟨R.BOOT_EVENT, 0, 0⟩
def R.BOOT_EVENT_EN : Nat := 0x11b4
def F.BOOT_EVENT_EN.EN : Fld := ⟨R.BOOT_EVENT_EN, 2, 0⟩

/-! ### ALARM: spec/18_tamper.md Tables 18.9-18.11 (R441) -/

def R.ALARM_STATUS : Nat := 0x3000
def F.ALARM_STATUS.CAUSES : Fld := ⟨R.ALARM_STATUS, 21, 0⟩
def R.ALARM_EVENT_EN : Nat := 0x3004
def F.ALARM_EVENT_EN.EN : Fld := ⟨R.ALARM_EVENT_EN, 21, 0⟩
def R.ALARM_RESP_LO : Nat := 0x3008
def F.ALARM_RESP_LO.RESP : Fld := ⟨R.ALARM_RESP_LO, 31, 0⟩
def R.ALARM_RESP_HI : Nat := 0x300c
def F.ALARM_RESP_HI.RESP : Fld := ⟨R.ALARM_RESP_HI, 31, 0⟩
def R.ALARM_EFF_LO : Nat := 0x3010
def F.ALARM_EFF_LO.EFF : Fld := ⟨R.ALARM_EFF_LO, 31, 0⟩
def R.ALARM_EFF_HI : Nat := 0x3014
def F.ALARM_EFF_HI.EFF : Fld := ⟨R.ALARM_EFF_HI, 31, 0⟩
def R.ENC_CFG : Nat := 0x3018
def F.ENC_CFG.B_MODE : Fld := ⟨R.ENC_CFG, 7, 6⟩
def F.ENC_CFG.B_LEVEL : Fld := ⟨R.ENC_CFG, 5, 5⟩
def F.ENC_CFG.A_MODE : Fld := ⟨R.ENC_CFG, 3, 2⟩
def F.ENC_CFG.A_LEVEL : Fld := ⟨R.ENC_CFG, 1, 1⟩
def R.ALARM_TEST_CFG : Nat := 0x301c
def F.ALARM_TEST_CFG.TEST_EN : Fld := ⟨R.ALARM_TEST_CFG, 31, 31⟩
def F.ALARM_TEST_CFG.LAST_FAIL : Fld := ⟨R.ALARM_TEST_CFG, 23, 16⟩
def F.ALARM_TEST_CFG.TEST_PERIOD : Fld := ⟨R.ALARM_TEST_CFG, 11, 0⟩
def R.FLOOR_CMD : Nat := 0x3020
def F.FLOOR_CMD.GO : Fld := ⟨R.FLOOR_CMD, 31, 31⟩
def F.FLOOR_CMD.BUSY : Fld := ⟨R.FLOOR_CMD, 30, 30⟩
def F.FLOOR_CMD.CODE : Fld := ⟨R.FLOOR_CMD, 3, 0⟩
def R.HEALTH_KICK : Nat := 0x3024
def F.HEALTH_KICK.KICK : Fld := ⟨R.HEALTH_KICK, 0, 0⟩
def R.TLOG_CTL : Nat := 0x3028
def F.TLOG_CTL.IN_USE : Fld := ⟨R.TLOG_CTL, 14, 8⟩
def F.TLOG_CTL.INDEX : Fld := ⟨R.TLOG_CTL, 5, 0⟩
def R.TLOG_DATA (k : Nat) : Nat := 0x3030 + 0x4 * k
def F.TLOG_DATA.DATA (k : Nat) : Fld := ⟨(R.TLOG_DATA k), 31, 0⟩
def R.BAT_RTC_LO : Nat := 0x3048
def F.BAT_RTC_LO.RTC : Fld := ⟨R.BAT_RTC_LO, 31, 0⟩
def R.BAT_RTC_HI : Nat := 0x304c
def F.BAT_RTC_HI.RTC : Fld := ⟨R.BAT_RTC_HI, 15, 0⟩
def R.BAT_SEQ : Nat := 0x3050
def F.BAT_SEQ.SEQ : Fld := ⟨R.BAT_SEQ, 31, 0⟩
def R.ALARM_PENDING : Nat := 0x3054
def F.ALARM_PENDING.BOOT_DONE : Fld := ⟨R.ALARM_PENDING, 4, 4⟩
def F.ALARM_PENDING.LATCH : Fld := ⟨R.ALARM_PENDING, 3, 0⟩
def R.ALARM_PINS : Nat := 0x3058
def F.ALARM_PINS.HEALTH : Fld := ⟨R.ALARM_PINS, 1, 1⟩
def F.ALARM_PINS.ALARM_N : Fld := ⟨R.ALARM_PINS, 0, 0⟩

/-! ### CLASS: spec/03_forwarding.md Tables 3.14-3.19 (R86) -/

def R.TCE_CMD : Nat := 0x6000
def F.TCE_CMD.GO : Fld := ⟨R.TCE_CMD, 31, 31⟩
def F.TCE_CMD.TABLE : Fld := ⟨R.TCE_CMD, 30, 28⟩
def F.TCE_CMD.OP : Fld := ⟨R.TCE_CMD, 27, 24⟩
def F.TCE_CMD.POS : Fld := ⟨R.TCE_CMD, 16, 0⟩
def R.TCE_STATUS : Nat := 0x6004
def F.TCE_STATUS.BUSY : Fld := ⟨R.TCE_STATUS, 31, 31⟩
def F.TCE_STATUS.COLLIDE : Fld := ⟨R.TCE_STATUS, 30, 30⟩
def F.TCE_STATUS.CODE : Fld := ⟨R.TCE_STATUS, 23, 20⟩
def F.TCE_STATUS.POS : Fld := ⟨R.TCE_STATUS, 16, 0⟩
def R.TCE_DATA (k : Nat) : Nat := 0x6040 + 0x4 * k
def F.TCE_DATA.DATA (k : Nat) : Fld := ⟨(R.TCE_DATA k), 31, 0⟩
def R.FDB_SEED0 : Nat := 0x6080
def F.FDB_SEED0.SEED : Fld := ⟨R.FDB_SEED0, 31, 0⟩
def R.FDB_SEED1 : Nat := 0x6084
def F.FDB_SEED1.SEED : Fld := ⟨R.FDB_SEED1, 31, 0⟩
def R.FDB_SEED2 : Nat := 0x6088
def F.FDB_SEED2.SEED : Fld := ⟨R.FDB_SEED2, 31, 0⟩
def R.FDB_SEED3 : Nat := 0x608c
def F.FDB_SEED3.SEED : Fld := ⟨R.FDB_SEED3, 31, 0⟩
def R.SID_SEED0 : Nat := 0x6090
def F.SID_SEED0.SEED : Fld := ⟨R.SID_SEED0, 31, 0⟩
def R.SID_SEED1 : Nat := 0x6094
def F.SID_SEED1.SEED : Fld := ⟨R.SID_SEED1, 31, 0⟩
def R.AGE_CFG : Nat := 0x6098
def F.AGE_CFG.AGE_EN : Fld := ⟨R.AGE_CFG, 31, 31⟩
def F.AGE_CFG.AGE_SWEEP : Fld := ⟨R.AGE_CFG, 19, 0⟩
def R.RSV_ACTION : Nat := 0x609c
def F.RSV_ACTION.ACTION : Fld := ⟨R.RSV_ACTION, 31, 0⟩
def R.BGC_CFG : Nat := 0x60a0
def F.BGC_CFG.BGC_EN : Fld := ⟨R.BGC_CFG, 31, 31⟩
def F.BGC_CFG.REPAIR_EN : Fld := ⟨R.BGC_CFG, 30, 30⟩
def F.BGC_CFG.CONFIRM : Fld := ⟨R.BGC_CFG, 23, 16⟩
def F.BGC_CFG.PERIOD : Fld := ⟨R.BGC_CFG, 15, 0⟩
def R.CLS_EVENT : Nat := 0x60a4
def F.CLS_EVENT.BGC_MISMATCH : Fld := ⟨R.CLS_EVENT, 3, 3⟩
def F.CLS_EVENT.LEARN_QUEUE_FULL : Fld := ⟨R.CLS_EVENT, 2, 2⟩
def F.CLS_EVENT.FDB_FULL : Fld := ⟨R.CLS_EVENT, 1, 1⟩
def F.CLS_EVENT.CFG_REFUSED : Fld := ⟨R.CLS_EVENT, 0, 0⟩
def R.CLS_EVENT_EN : Nat := 0x60a8
def F.CLS_EVENT_EN.EN : Fld := ⟨R.CLS_EVENT_EN, 3, 0⟩
def R.BGC_SHADOW_LO (t : Nat) : Nat := 0x60b0 + 0xc * t
def F.BGC_SHADOW_LO.ADDR (t : Nat) : Fld := ⟨(R.BGC_SHADOW_LO t), 31, 6⟩
def R.BGC_SHADOW_HI (t : Nat) : Nat := 0x60b4 + 0xc * t
def F.BGC_SHADOW_HI.ADDR (t : Nat) : Fld := ⟨(R.BGC_SHADOW_HI t), 31, 0⟩
def R.BGC_SHADOW_CNT (t : Nat) : Nat := 0x60b8 + 0xc * t
def F.BGC_SHADOW_CNT.CNT (t : Nat) : Fld := ⟨(R.BGC_SHADOW_CNT t), 16, 0⟩
def R.LLOG_BASE_LO : Nat := 0x60f0
def F.LLOG_BASE_LO.ADDR : Fld := ⟨R.LLOG_BASE_LO, 31, 5⟩
def R.LLOG_BASE_HI : Nat := 0x60f4
def F.LLOG_BASE_HI.ADDR : Fld := ⟨R.LLOG_BASE_HI, 31, 0⟩
def R.LLOG_CFG : Nat := 0x60f8
def F.LLOG_CFG.LLOG_EN : Fld := ⟨R.LLOG_CFG, 31, 31⟩
def F.LLOG_CFG.LLOG_ORDER : Fld := ⟨R.LLOG_CFG, 4, 0⟩
def R.LLOG_HEAD : Nat := 0x60fc
def F.LLOG_HEAD.SEQ : Fld := ⟨R.LLOG_HEAD, 23, 0⟩
def R.CLS_PORT_CFG (p : Nat) : Nat := 0x6400 + 0x4 * p
def F.CLS_PORT_CFG.ID_METHODS (p : Nat) : Fld := ⟨(R.CLS_PORT_CFG p), 28, 24⟩
def F.CLS_PORT_CFG.FLUSH_ON_DOWN (p : Nat) : Fld := ⟨(R.CLS_PORT_CFG p), 23, 23⟩
def F.CLS_PORT_CFG.LEARN_EN (p : Nat) : Fld := ⟨(R.CLS_PORT_CFG p), 22, 22⟩
def F.CLS_PORT_CFG.ING_FILTER (p : Nat) : Fld := ⟨(R.CLS_PORT_CFG p), 21, 21⟩
def F.CLS_PORT_CFG.ACCEPT (p : Nat) : Fld := ⟨(R.CLS_PORT_CFG p), 20, 19⟩
def F.CLS_PORT_CFG.TAG_TYPE (p : Nat) : Fld := ⟨(R.CLS_PORT_CFG p), 18, 18⟩
def F.CLS_PORT_CFG.DEF_PCP (p : Nat) : Fld := ⟨(R.CLS_PORT_CFG p), 17, 15⟩
def F.CLS_PORT_CFG.PVID (p : Nat) : Fld := ⟨(R.CLS_PORT_CFG p), 11, 0⟩

/-! ### SECY: spec/04_macsec.md Tables 4.12, 4.14, 4.15 (R116) -/

def R.SECY_CFG (p : Nat) : Nat := 0x200100 + 0x1000 * p
def F.SECY_CFG.SECY_EN (p : Nat) : Fld := ⟨(R.SECY_CFG p), 31, 31⟩
def F.SECY_CFG.CS (p : Nat) : Fld := ⟨(R.SECY_CFG p), 30, 28⟩
def F.SECY_CFG.TAGS_IN_CLEAR (p : Nat) : Fld := ⟨(R.SECY_CFG p), 27, 26⟩
def F.SECY_CFG.CONF_OFFSET (p : Nat) : Fld := ⟨(R.SECY_CFG p), 25, 24⟩
def F.SECY_CFG.CONF_EN (p : Nat) : Fld := ⟨(R.SECY_CFG p), 23, 23⟩
def F.SECY_CFG.INCLUDE_SCI (p : Nat) : Fld := ⟨(R.SECY_CFG p), 22, 22⟩
def F.SECY_CFG.USE_ES (p : Nat) : Fld := ⟨(R.SECY_CFG p), 21, 21⟩
def F.SECY_CFG.USE_SCB (p : Nat) : Fld := ⟨(R.SECY_CFG p), 20, 20⟩
def F.SECY_CFG.IMPLICIT_EN (p : Nat) : Fld := ⟨(R.SECY_CFG p), 19, 19⟩
def F.SECY_CFG.REPLAY_PROTECT (p : Nat) : Fld := ⟨(R.SECY_CFG p), 18, 18⟩
def F.SECY_CFG.DUP_CHECK (p : Nat) : Fld := ⟨(R.SECY_CFG p), 17, 17⟩
def F.SECY_CFG.UNCTRL_LLDP (p : Nat) : Fld := ⟨(R.SECY_CFG p), 16, 16⟩
def F.SECY_CFG.TX_SC (p : Nat) : Fld := ⟨(R.SECY_CFG p), 15, 0⟩
def R.SECY_REPLAY_WINDOW (p : Nat) : Nat := 0x200104 + 0x1000 * p
def F.SECY_REPLAY_WINDOW.WINDOW (p : Nat) : Fld := ⟨(R.SECY_REPLAY_WINDOW p), 30, 0⟩
def R.SECY_IMPL_SCI_LO (p : Nat) : Nat := 0x200108 + 0x1000 * p
def F.SECY_IMPL_SCI_LO.SCI (p : Nat) : Fld := ⟨(R.SECY_IMPL_SCI_LO p), 31, 0⟩
def R.SECY_IMPL_SCI_HI (p : Nat) : Nat := 0x20010c + 0x1000 * p
def F.SECY_IMPL_SCI_HI.SCI (p : Nat) : Fld := ⟨(R.SECY_IMPL_SCI_HI p), 31, 0⟩
def R.SECY_STAT_HALF (p : Nat) : Nat := 0x200110 + 0x1000 * p
def F.SECY_STAT_HALF.HALF (p : Nat) : Fld := ⟨(R.SECY_STAT_HALF p), 9, 0⟩
def R.SECY_EVENT (p : Nat) : Nat := 0x200114 + 0x1000 * p
def F.SECY_EVENT.STAT_HALF (p : Nat) : Fld := ⟨(R.SECY_EVENT p), 1, 1⟩
def F.SECY_EVENT.CFG_REFUSED (p : Nat) : Fld := ⟨(R.SECY_EVENT p), 0, 0⟩
def R.SECY_EVENT_EN (p : Nat) : Nat := 0x200118 + 0x1000 * p
def F.SECY_EVENT_EN.EN (p : Nat) : Fld := ⟨(R.SECY_EVENT_EN p), 1, 0⟩

/-! ### MACSEC: spec/04_macsec.md Table 4.13 (R116) -/

def R.SCM_SEED0 : Nat := 0x7000
def F.SCM_SEED0.SEED : Fld := ⟨R.SCM_SEED0, 31, 0⟩
def R.SCM_SEED1 : Nat := 0x7004
def F.SCM_SEED1.SEED : Fld := ⟨R.SCM_SEED1, 31, 0⟩
def R.SCM_USED : Nat := 0x7008
def F.SCM_USED.USED : Fld := ⟨R.SCM_USED, 16, 0⟩

/-! ### CTXB: spec/06_security_contexts.md Tables 6.12, 6.13 (R164) -/

def R.CTX_LEAP_LO : Nat := 0x8000
def F.CTX_LEAP_LO.LEAP : Fld := ⟨R.CTX_LEAP_LO, 31, 0⟩
def R.CTX_LEAP_HI : Nat := 0x8004
def F.CTX_LEAP_HI.LEAP : Fld := ⟨R.CTX_LEAP_HI, 0, 0⟩
def R.CTX_CACHE_STATUS (s : Nat) : Nat := 0x8040 + 0x4 * s
def F.CTX_CACHE_STATUS.CACHED (s : Nat) : Fld := ⟨(R.CTX_CACHE_STATUS s), 30, 16⟩
def F.CTX_CACHE_STATUS.PINNED (s : Nat) : Fld := ⟨(R.CTX_CACHE_STATUS s), 13, 0⟩
def R.FLIP_STATE (k : Nat) : Nat := 0x8080 + 0x4 * k
def F.FLIP_STATE.STATES (k : Nat) : Fld := ⟨(R.FLIP_STATE k), 31, 0⟩

/-! ### PRF: spec/05_substation_profiles.md Table 5.9 (R137) -/

def R.PRF_PORT_CFG (p : Nat) : Nat := 0x200200 + 0x1000 * p
def F.PRF_PORT_CFG.PRF_LANE (p : Nat) : Fld := ⟨(R.PRF_PORT_CFG p), 0, 0⟩

/-! ### CIPHER: spec/07_cipher_clusters.md Tables 7.5-7.7 (R183) -/

def R.CIPHER_STATUS (s : Nat) : Nat := 0x9000 + 0x4 * s
def F.CIPHER_STATUS.CORE_OK (s : Nat) : Fld := ⟨(R.CIPHER_STATUS s), 21, 16⟩
def F.CIPHER_STATUS.EXTRA_QUEUED (s : Nat) : Fld := ⟨(R.CIPHER_STATUS s), 10, 0⟩
def R.MCU_STATUS : Nat := 0x9040
def F.MCU_STATUS.KEYSET_VALID : Fld := ⟨R.MCU_STATUS, 19, 4⟩
def F.MCU_STATUS.CORE_OK : Fld := ⟨R.MCU_STATUS, 3, 0⟩

/-! ### WET: spec/08_wet_edge.md Tables 8.7-8.9 (R202) -/

def R.WET_CFG : Nat := 0xa000
def F.WET_CFG.WET_CAP : Fld := ⟨R.WET_CFG, 23, 16⟩
def F.WET_CFG.MARKER_EN : Fld := ⟨R.WET_CFG, 4, 4⟩
def F.WET_CFG.C2C : Fld := ⟨R.WET_CFG, 3, 3⟩
def F.WET_CFG.C2P : Fld := ⟨R.WET_CFG, 2, 2⟩
def F.WET_CFG.P2C : Fld := ⟨R.WET_CFG, 1, 1⟩
def F.WET_CFG.P2P : Fld := ⟨R.WET_CFG, 0, 0⟩
def R.WET_EVENT : Nat := 0xa004
def F.WET_EVENT.TAIL_LATE : Fld := ⟨R.WET_EVENT, 0, 0⟩
def R.WET_EVENT_EN : Nat := 0xa008
def F.WET_EVENT_EN.EN : Fld := ⟨R.WET_EVENT_EN, 0, 0⟩
def R.WET_GAUGE (s : Nat) : Nat := 0xa040 + 0x4 * s
def F.WET_GAUGE.RX_INFLIGHT (s : Nat) : Fld := ⟨(R.WET_GAUGE s), 23, 16⟩
def F.WET_GAUGE.TX_INFLIGHT (s : Nat) : Fld := ⟨(R.WET_GAUGE s), 7, 0⟩

/-! ### KEY: spec/09_key_store.md Tables 9.12-9.14 (R229) -/

def R.KEY_LOW_WATER : Nat := 0xb000
def F.KEY_LOW_WATER.USES : Fld := ⟨R.KEY_LOW_WATER, 31, 0⟩
def R.KEY_STATUS : Nat := 0xb004
def F.KEY_STATUS.RESIDENT : Fld := ⟨R.KEY_STATUS, 29, 16⟩
def F.KEY_STATUS.PINNED : Fld := ⟨R.KEY_STATUS, 12, 0⟩
def R.KEY_ROOT_STATUS : Nat := 0xb008
def F.KEY_ROOT_STATUS.LC : Fld := ⟨R.KEY_ROOT_STATUS, 10, 8⟩
def F.KEY_ROOT_STATUS.PRESENT : Fld := ⟨R.KEY_ROOT_STATUS, 7, 4⟩
def F.KEY_ROOT_STATUS.SEL_VALID : Fld := ⟨R.KEY_ROOT_STATUS, 2, 2⟩
def F.KEY_ROOT_STATUS.SEL : Fld := ⟨R.KEY_ROOT_STATUS, 1, 0⟩
def R.KEY_GROUP_ID : Nat := 0xb00c
def F.KEY_GROUP_ID.DOMAIN_ID : Fld := ⟨R.KEY_GROUP_ID, 31, 16⟩
def F.KEY_GROUP_ID.PAIR_ID : Fld := ⟨R.KEY_GROUP_ID, 15, 0⟩
def R.KEY_EVENT : Nat := 0xb010
def F.KEY_EVENT.ROOT_INJECTED : Fld := ⟨R.KEY_EVENT, 4, 4⟩
def F.KEY_EVENT.ROOT_ABSENT : Fld := ⟨R.KEY_EVENT, 3, 3⟩
def F.KEY_EVENT.KEY_QUARANTINED : Fld := ⟨R.KEY_EVENT, 2, 2⟩
def F.KEY_EVENT.KEY_SPENT : Fld := ⟨R.KEY_EVENT, 1, 1⟩
def F.KEY_EVENT.KEY_LOW : Fld := ⟨R.KEY_EVENT, 0, 0⟩
def R.KEY_EVENT_EN : Nat := 0xb014
def F.KEY_EVENT_EN.EN : Fld := ⟨R.KEY_EVENT_EN, 4, 0⟩

/-! ### TIMING: spec/10_time_and_gates.md Tables 10.11-10.14 (R263) -/

def R.TIME_CTL : Nat := 0xc000
def F.TIME_CTL.STEP : Fld := ⟨R.TIME_CTL, 10, 10⟩
def F.TIME_CTL.SET : Fld := ⟨R.TIME_CTL, 9, 9⟩
def F.TIME_CTL.SNAP : Fld := ⟨R.TIME_CTL, 8, 8⟩
def F.TIME_CTL.SRC : Fld := ⟨R.TIME_CTL, 2, 0⟩
def R.TIME_STATUS : Nat := 0xc004
def F.TIME_STATUS.LOCKED : Fld := ⟨R.TIME_STATUS, 31, 31⟩
def R.TIME_RATE : Nat := 0xc008
def F.TIME_RATE.RATE : Fld := ⟨R.TIME_RATE, 31, 0⟩
def R.TIME_STEP : Nat := 0xc00c
def F.TIME_STEP.STEP : Fld := ⟨R.TIME_STEP, 31, 0⟩
def R.TIME_SNAP_SEC_HI : Nat := 0xc010
def F.TIME_SNAP_SEC_HI.SEC : Fld := ⟨R.TIME_SNAP_SEC_HI, 15, 0⟩
def R.TIME_SNAP_SEC_LO : Nat := 0xc014
def F.TIME_SNAP_SEC_LO.SEC : Fld := ⟨R.TIME_SNAP_SEC_LO, 31, 0⟩
def R.TIME_SNAP_NS : Nat := 0xc018
def F.TIME_SNAP_NS.NS : Fld := ⟨R.TIME_SNAP_NS, 29, 0⟩
def R.TIME_SET_SEC_HI : Nat := 0xc01c
def F.TIME_SET_SEC_HI.SEC : Fld := ⟨R.TIME_SET_SEC_HI, 15, 0⟩
def R.TIME_SET_SEC_LO : Nat := 0xc020
def F.TIME_SET_SEC_LO.SEC : Fld := ⟨R.TIME_SET_SEC_LO, 31, 0⟩
def R.TIME_SET_NS : Nat := 0xc024
def F.TIME_SET_NS.NS : Fld := ⟨R.TIME_SET_NS, 29, 0⟩
def R.PPS_CFG : Nat := 0xc028
def F.PPS_CFG.PPS_OUT_EN : Fld := ⟨R.PPS_CFG, 31, 31⟩
def F.PPS_CFG.PPS_FREE : Fld := ⟨R.PPS_CFG, 30, 30⟩
def F.PPS_CFG.PPS_WIDTH : Fld := ⟨R.PPS_CFG, 29, 20⟩
def F.PPS_CFG.PPS_OFFSET : Fld := ⟨R.PPS_CFG, 19, 0⟩
def R.TOD_CFG : Nat := 0xc02c
def F.TOD_CFG.TOD_OUT_EN : Fld := ⟨R.TOD_CFG, 31, 31⟩
def F.TOD_CFG.TOD_IN_EN : Fld := ⟨R.TOD_CFG, 30, 30⟩
def F.TOD_CFG.BAUD : Fld := ⟨R.TOD_CFG, 29, 29⟩
def R.PPS_IN_SEC_LO : Nat := 0xc030
def F.PPS_IN_SEC_LO.SEC : Fld := ⟨R.PPS_IN_SEC_LO, 31, 0⟩
def R.PPS_IN_NS : Nat := 0xc034
def F.PPS_IN_NS.NS : Fld := ⟨R.PPS_IN_NS, 29, 0⟩
def R.TIME_EVENT : Nat := 0xc038
def F.TIME_EVENT.CFG_REFUSED : Fld := ⟨R.TIME_EVENT, 4, 4⟩
def F.TIME_EVENT.TOD_IN_ERR : Fld := ⟨R.TIME_EVENT, 3, 3⟩
def F.TIME_EVENT.LOCK_LOST : Fld := ⟨R.TIME_EVENT, 2, 2⟩
def F.TIME_EVENT.LOCKED : Fld := ⟨R.TIME_EVENT, 1, 1⟩
def F.TIME_EVENT.STEP : Fld := ⟨R.TIME_EVENT, 0, 0⟩
def R.TIME_EVENT_EN : Nat := 0xc03c
def F.TIME_EVENT_EN.EN : Fld := ⟨R.TIME_EVENT_EN, 4, 0⟩
def R.PTP_INST_CFG (i : Nat) : Nat := 0xc040 + 0x4 * i
def F.PTP_INST_CFG.EN (i : Nat) : Fld := ⟨(R.PTP_INST_CFG i), 31, 31⟩
def F.PTP_INST_CFG.PROFILE (i : Nat) : Fld := ⟨(R.PTP_INST_CFG i), 30, 28⟩
def F.PTP_INST_CFG.MODE (i : Nat) : Fld := ⟨(R.PTP_INST_CFG i), 27, 26⟩
def F.PTP_INST_CFG.TRANSPORT (i : Nat) : Fld := ⟨(R.PTP_INST_CFG i), 25, 24⟩
def F.PTP_INST_CFG.DOMAIN (i : Nat) : Fld := ⟨(R.PTP_INST_CFG i), 23, 16⟩
def F.PTP_INST_CFG.PTP_TC (i : Nat) : Fld := ⟨(R.PTP_INST_CFG i), 15, 13⟩
def F.PTP_INST_CFG.ONE_STEP (i : Nat) : Fld := ⟨(R.PTP_INST_CFG i), 12, 12⟩
def F.PTP_INST_CFG.STEP_THR (i : Nat) : Fld := ⟨(R.PTP_INST_CFG i), 7, 0⟩
def R.TS_CAL_OK (k : Nat) : Nat := 0xc060 + 0x4 * k
def F.TS_CAL_OK.OK (k : Nat) : Fld := ⟨(R.TS_CAL_OK k), 31, 0⟩
def R.PTP_PORT_CFG (p : Nat) : Nat := 0xc100 + 0x4 * p
def F.PTP_PORT_CFG.INST_EN (p : Nat) : Fld := ⟨(R.PTP_PORT_CFG p), 3, 0⟩
def R.TS_BOARD (p : Nat) : Nat := 0xc300 + 0x4 * p
def F.TS_BOARD.TX (p : Nat) : Fld := ⟨(R.TS_BOARD p), 31, 16⟩
def F.TS_BOARD.RX (p : Nat) : Fld := ⟨(R.TS_BOARD p), 15, 0⟩

/-! ### SCHED: spec/10_time_and_gates.md Tables 10.15-10.18 (R263) -/

def R.SCHED_CFG (p : Nat) : Nat := 0x200400 + 0x1000 * p
def F.SCHED_CFG.GATE_EN (p : Nat) : Fld := ⟨(R.SCHED_CFG p), 31, 31⟩
def F.SCHED_CFG.LOOKAHEAD_EN (p : Nat) : Fld := ⟨(R.SCHED_CFG p), 30, 30⟩
def F.SCHED_CFG.ADMIN_PAST_REJECT (p : Nat) : Fld := ⟨(R.SCHED_CFG p), 29, 29⟩
def F.SCHED_CFG.DEFAULT_GATES (p : Nat) : Fld := ⟨(R.SCHED_CFG p), 23, 16⟩
def R.SCHED_PCP_TC (p : Nat) : Nat := 0x200404 + 0x1000 * p
def F.SCHED_PCP_TC.MAP (p : Nat) : Fld := ⟨(R.SCHED_PCP_TC p), 23, 0⟩
def R.SCHED_CLASS_CFG (p : Nat) : Nat := 0x200408 + 0x1000 * p
def F.SCHED_CLASS_CFG.DBF_EN (p : Nat) : Fld := ⟨(R.SCHED_CLASS_CFG p), 23, 16⟩
def F.SCHED_CLASS_CFG.TSA (p : Nat) : Fld := ⟨(R.SCHED_CLASS_CFG p), 15, 0⟩
def R.SCHED_FG_CFG (p : Nat) : Nat := 0x20040c + 0x1000 * p
def F.SCHED_FG_CFG.FG_SEL (p : Nat) : Fld := ⟨(R.SCHED_FG_CFG p), 7, 0⟩
def R.SCHED_STATUS (p : Nat) : Nat := 0x200410 + 0x1000 * p
def F.SCHED_STATUS.OPER_VALID (p : Nat) : Fld := ⟨(R.SCHED_STATUS p), 31, 31⟩
def F.SCHED_STATUS.OPER_BANK (p : Nat) : Fld := ⟨(R.SCHED_STATUS p), 30, 30⟩
def F.SCHED_STATUS.PENDING (p : Nat) : Fld := ⟨(R.SCHED_STATUS p), 29, 29⟩
def R.SCHED_EVENT (p : Nat) : Nat := 0x200414 + 0x1000 * p
def F.SCHED_EVENT.CFG_REFUSED (p : Nat) : Fld := ⟨(R.SCHED_EVENT p), 3, 3⟩
def F.SCHED_EVENT.NEVER_FIT (p : Nat) : Fld := ⟨(R.SCHED_EVENT p), 2, 2⟩
def F.SCHED_EVENT.GATE_OVERRUN (p : Nat) : Fld := ⟨(R.SCHED_EVENT p), 1, 1⟩
def F.SCHED_EVENT.CHANGE_DONE (p : Nat) : Fld := ⟨(R.SCHED_EVENT p), 0, 0⟩
def R.SCHED_EVENT_EN (p : Nat) : Nat := 0x200418 + 0x1000 * p
def F.SCHED_EVENT_EN.EN (p : Nat) : Fld := ⟨(R.SCHED_EVENT_EN p), 3, 0⟩
def R.SCHED_CBS (p : Nat) (c : Nat) : Nat := 0x200420 + 0x1000 * p + 0x4 * c
def F.SCHED_CBS.IDLE_SLOPE (p : Nat) (c : Nat) : Fld := ⟨(R.SCHED_CBS p c), 19, 0⟩
def R.SCHED_QLIM (p : Nat) (c : Nat) : Nat := 0x200440 + 0x1000 * p + 0x4 * c
def F.SCHED_QLIM.QLIM (p : Nat) (c : Nat) : Fld := ⟨(R.SCHED_QLIM p c), 12, 0⟩
def R.SCHED_FG_WEIGHT (p : Nat) (j : Nat) : Nat := 0x200480 + 0x1000 * p + 0x4 * j
def F.SCHED_FG_WEIGHT.W3 (p : Nat) (j : Nat) : Fld := ⟨(R.SCHED_FG_WEIGHT p j), 31, 24⟩
def F.SCHED_FG_WEIGHT.W2 (p : Nat) (j : Nat) : Fld := ⟨(R.SCHED_FG_WEIGHT p j), 23, 16⟩
def F.SCHED_FG_WEIGHT.W1 (p : Nat) (j : Nat) : Fld := ⟨(R.SCHED_FG_WEIGHT p j), 15, 8⟩
def F.SCHED_FG_WEIGHT.W0 (p : Nat) (j : Nat) : Fld := ⟨(R.SCHED_FG_WEIGHT p j), 7, 0⟩

/-! ### CONTRACT: spec/11_latency_contracts.md Tables 11.6, 11.7 (R277) -/

def R.CT_STATUS : Nat := 0xd000
def F.CT_STATUS.ACCEPTED : Fld := ⟨R.CT_STATUS, 14, 0⟩
def R.CT_EVENT : Nat := 0xd004
def F.CT_EVENT.CFG_REFUSED : Fld := ⟨R.CT_EVENT, 3, 3⟩
def F.CT_EVENT.BREAK : Fld := ⟨R.CT_EVENT, 2, 2⟩
def F.CT_EVENT.LOST : Fld := ⟨R.CT_EVENT, 1, 1⟩
def F.CT_EVENT.LATE : Fld := ⟨R.CT_EVENT, 0, 0⟩
def R.CT_EVENT_EN : Nat := 0xd008
def F.CT_EVENT_EN.EN : Fld := ⟨R.CT_EVENT_EN, 3, 0⟩
def R.CT_POOL (s : Nat) : Nat := 0xd040 + 0x4 * s
def F.CT_POOL.USED (s : Nat) : Fld := ⟨(R.CT_POOL s), 27, 16⟩
def F.CT_POOL.POOL (s : Nat) : Fld := ⟨(R.CT_POOL s), 11, 0⟩

/-! ### RECOVERY: spec/12_stream_redundancy.md Tables 12.7, 12.8 (R295) -/

def R.STN_STATUS : Nat := 0xe000
def F.STN_STATUS.QUEUED : Fld := ⟨R.STN_STATUS, 12, 0⟩
def R.STN_EVENT : Nat := 0xe004
def F.STN_EVENT.CFG_REFUSED : Fld := ⟨R.STN_EVENT, 1, 1⟩
def F.STN_EVENT.OVERRUN : Fld := ⟨R.STN_EVENT, 0, 0⟩
def R.STN_EVENT_EN : Nat := 0xe008
def F.STN_EVENT_EN.EN : Fld := ⟨R.STN_EVENT_EN, 11, 1⟩
def R.SRC_PAIR_CFG (j : Nat) : Nat := 0xe040 + 0x4 * j
def F.SRC_PAIR_CFG.EN (j : Nat) : Fld := ⟨(R.SRC_PAIR_CFG j), 31, 31⟩
def F.SRC_PAIR_CFG.ROLE (j : Nat) : Fld := ⟨(R.SRC_PAIR_CFG j), 30, 30⟩
def F.SRC_PAIR_CFG.PORT_A (j : Nat) : Fld := ⟨(R.SRC_PAIR_CFG j), 14, 8⟩
def F.SRC_PAIR_CFG.PORT_B (j : Nat) : Fld := ⟨(R.SRC_PAIR_CFG j), 6, 0⟩
def R.SRC_PAIR_SEQ (j : Nat) : Nat := 0xe100 + 0x4 * j
def F.SRC_PAIR_SEQ.SEQ (j : Nat) : Fld := ⟨(R.SRC_PAIR_SEQ j), 15, 0⟩

/-! ### PAIR: spec/13_coat_pairs.md Tables 13.5-13.8 (R315) -/

def R.PAIR_CFG : Nat := 0xf000
def F.PAIR_CFG.HB_INTERVAL : Fld := ⟨R.PAIR_CFG, 31, 22⟩
def F.PAIR_CFG.CHKPT_PERIOD : Fld := ⟨R.PAIR_CFG, 21, 15⟩
def F.PAIR_CFG.START_WAIT : Fld := ⟨R.PAIR_CFG, 14, 7⟩
def F.PAIR_CFG.TIME_TOL : Fld := ⟨R.PAIR_CFG, 6, 0⟩
def R.PAIR_STATUS : Nat := 0xf004
def F.PAIR_STATUS.ROLE : Fld := ⟨R.PAIR_STATUS, 31, 29⟩
def F.PAIR_STATUS.MEMBER : Fld := ⟨R.PAIR_STATUS, 28, 28⟩
def F.PAIR_STATUS.CONFIG : Fld := ⟨R.PAIR_STATUS, 27, 26⟩
def F.PAIR_STATUS.PATH_A_OK : Fld := ⟨R.PAIR_STATUS, 25, 25⟩
def F.PAIR_STATUS.PATH_B_OK : Fld := ⟨R.PAIR_STATUS, 24, 24⟩
def F.PAIR_STATUS.PARTNER_ROLE : Fld := ⟨R.PAIR_STATUS, 23, 21⟩
def R.PAIR_EVENT : Nat := 0xf008
def F.PAIR_EVENT.CFG_REFUSED : Fld := ⟨R.PAIR_EVENT, 12, 12⟩
def F.PAIR_EVENT.REFILL_FAIL : Fld := ⟨R.PAIR_EVENT, 11, 11⟩
def F.PAIR_EVENT.REFILL_DONE : Fld := ⟨R.PAIR_EVENT, 10, 10⟩
def F.PAIR_EVENT.TIME_SKEW : Fld := ⟨R.PAIR_EVENT, 9, 9⟩
def F.PAIR_EVENT.ROOT_MISMATCH : Fld := ⟨R.PAIR_EVENT, 8, 8⟩
def F.PAIR_EVENT.DIVERGE : Fld := ⟨R.PAIR_EVENT, 7, 7⟩
def F.PAIR_EVENT.DUAL_ACTIVE : Fld := ⟨R.PAIR_EVENT, 6, 6⟩
def F.PAIR_EVENT.DEMOTED : Fld := ⟨R.PAIR_EVENT, 5, 5⟩
def F.PAIR_EVENT.PARTNER_LOST : Fld := ⟨R.PAIR_EVENT, 4, 4⟩
def F.PAIR_EVENT.TAKEOVER : Fld := ⟨R.PAIR_EVENT, 3, 3⟩
def F.PAIR_EVENT.PATH_RESTORED : Fld := ⟨R.PAIR_EVENT, 2, 2⟩
def F.PAIR_EVENT.PATH_LOST : Fld := ⟨R.PAIR_EVENT, 1, 1⟩
def F.PAIR_EVENT.ROLE_CHANGE : Fld := ⟨R.PAIR_EVENT, 0, 0⟩
def R.PAIR_EVENT_EN : Nat := 0xf00c
def F.PAIR_EVENT_EN.EN : Fld := ⟨R.PAIR_EVENT_EN, 12, 0⟩
def R.PAIR_TWIN (k : Nat) : Nat := 0xf010 + 0x4 * k
def F.PAIR_TWIN.TWIN (k : Nat) : Fld := ⟨(R.PAIR_TWIN k), 31, 0⟩

/-! ### DOMAIN: spec/14_lath_domains.md Tables 14.7-14.10 (R343) -/

def R.DOM_CFG : Nat := 0x10000
def F.DOM_CFG.SCREED_INTERVAL : Fld := ⟨R.DOM_CFG, 23, 16⟩
def F.DOM_CFG.HB_INTERVAL : Fld := ⟨R.DOM_CFG, 15, 8⟩
def F.DOM_CFG.PREP_TIMEOUT : Fld := ⟨R.DOM_CFG, 7, 0⟩
def R.DOM_STATUS : Nat := 0x10004
def F.DOM_STATUS.HAWK : Fld := ⟨R.DOM_STATUS, 31, 31⟩
def F.DOM_STATUS.EXPECT_VALID : Fld := ⟨R.DOM_STATUS, 30, 30⟩
def F.DOM_STATUS.HELD : Fld := ⟨R.DOM_STATUS, 29, 29⟩
def F.DOM_STATUS.PREPARING : Fld := ⟨R.DOM_STATUS, 28, 28⟩
def F.DOM_STATUS.WRAPPED : Fld := ⟨R.DOM_STATUS, 27, 27⟩
def F.DOM_STATUS.LINK_A_OK : Fld := ⟨R.DOM_STATUS, 26, 26⟩
def F.DOM_STATUS.LINK_B_OK : Fld := ⟨R.DOM_STATUS, 25, 25⟩
def F.DOM_STATUS.HAWK_HEARD : Fld := ⟨R.DOM_STATUS, 24, 24⟩
def F.DOM_STATUS.INDEX : Fld := ⟨R.DOM_STATUS, 21, 16⟩
def F.DOM_STATUS.PRESENT : Fld := ⟨R.DOM_STATUS, 6, 0⟩
def R.DOM_EVENT : Nat := 0x10008
def F.DOM_EVENT.HAWK_CONFLICT : Fld := ⟨R.DOM_EVENT, 12, 12⟩
def F.DOM_EVENT.CFG_REFUSED : Fld := ⟨R.DOM_EVENT, 11, 11⟩
def F.DOM_EVENT.RELAY_FAIL : Fld := ⟨R.DOM_EVENT, 10, 10⟩
def F.DOM_EVENT.ACT_LATE : Fld := ⟨R.DOM_EVENT, 9, 9⟩
def F.DOM_EVENT.ACTIVATED : Fld := ⟨R.DOM_EVENT, 8, 8⟩
def F.DOM_EVENT.ABORTED : Fld := ⟨R.DOM_EVENT, 7, 7⟩
def F.DOM_EVENT.SCREED_MISMATCH : Fld := ⟨R.DOM_EVENT, 6, 6⟩
def F.DOM_EVENT.MON_DISAGREE : Fld := ⟨R.DOM_EVENT, 5, 5⟩
def F.DOM_EVENT.AUTH_FAIL : Fld := ⟨R.DOM_EVENT, 4, 4⟩
def F.DOM_EVENT.DUP_INDEX : Fld := ⟨R.DOM_EVENT, 3, 3⟩
def F.DOM_EVENT.MEMBER_LOST : Fld := ⟨R.DOM_EVENT, 2, 2⟩
def F.DOM_EVENT.HAWK_LOST : Fld := ⟨R.DOM_EVENT, 1, 1⟩
def F.DOM_EVENT.RING_WRAP : Fld := ⟨R.DOM_EVENT, 0, 0⟩
def R.DOM_EVENT_EN : Nat := 0x1000c
def F.DOM_EVENT_EN.EN : Fld := ⟨R.DOM_EVENT_EN, 12, 0⟩
def R.DOM_PRESENT_LO : Nat := 0x10010
def F.DOM_PRESENT_LO.MAP : Fld := ⟨R.DOM_PRESENT_LO, 31, 0⟩
def R.DOM_PRESENT_HI : Nat := 0x10014
def F.DOM_PRESENT_HI.MAP : Fld := ⟨R.DOM_PRESENT_HI, 31, 0⟩
def R.SCREED_EPOCH : Nat := 0x10018
def F.SCREED_EPOCH.EPOCH : Fld := ⟨R.SCREED_EPOCH, 31, 0⟩
def R.STAGE_COUNT : Nat := 0x1001c
def F.STAGE_COUNT.COUNT : Fld := ⟨R.STAGE_COUNT, 12, 0⟩
def R.SCREED_ACT (k : Nat) : Nat := 0x10020 + 0x4 * k
def F.SCREED_ACT.VALUE (k : Nat) : Fld := ⟨(R.SCREED_ACT k), 31, 0⟩
def R.SCREED_STG (k : Nat) : Nat := 0x10030 + 0x4 * k
def F.SCREED_STG.VALUE (k : Nat) : Fld := ⟨(R.SCREED_STG k), 31, 0⟩
def R.DOM_RELAY_TARGET : Nat := 0x10040
def F.DOM_RELAY_TARGET.TARGET : Fld := ⟨R.DOM_RELAY_TARGET, 5, 0⟩

/-! ### MEMORY: spec/15_stacked_memory.md Tables 15.12-15.18 (R372) -/

def R.MEM_CFG : Nat := 0x11000
def F.MEM_CFG.DBUF_T : Fld := ⟨R.MEM_CFG, 31, 31⟩
def R.MEM_STATUS : Nat := 0x11004
def F.MEM_STATUS.HOT : Fld := ⟨R.MEM_STATUS, 31, 31⟩
def F.MEM_STATUS.STRIP_BUSY : Fld := ⟨R.MEM_STATUS, 30, 30⟩
def F.MEM_STATUS.SKIM_BUSY : Fld := ⟨R.MEM_STATUS, 29, 29⟩
def F.MEM_STATUS.FREE_IDS : Fld := ⟨R.MEM_STATUS, 19, 16⟩
def R.MEM_EVENT : Nat := 0x11008
def F.MEM_EVENT.CFG_REFUSED : Fld := ⟨R.MEM_EVENT, 10, 10⟩
def F.MEM_EVENT.DEBUG_RAW : Fld := ⟨R.MEM_EVENT, 9, 9⟩
def F.MEM_EVENT.ACCESS_REFUSED : Fld := ⟨R.MEM_EVENT, 8, 8⟩
def F.MEM_EVENT.MAJOR_LIMIT : Fld := ⟨R.MEM_EVENT, 7, 7⟩
def F.MEM_EVENT.SKIM_DONE : Fld := ⟨R.MEM_EVENT, 6, 6⟩
def F.MEM_EVENT.HOT_CHANGE : Fld := ⟨R.MEM_EVENT, 5, 5⟩
def F.MEM_EVENT.NODE_LOST : Fld := ⟨R.MEM_EVENT, 4, 4⟩
def F.MEM_EVENT.MERGE_REFUSED : Fld := ⟨R.MEM_EVENT, 3, 3⟩
def F.MEM_EVENT.TAG_FAIL : Fld := ⟨R.MEM_EVENT, 2, 2⟩
def F.MEM_EVENT.UNCORR : Fld := ⟨R.MEM_EVENT, 1, 1⟩
def F.MEM_EVENT.POISON_READ : Fld := ⟨R.MEM_EVENT, 0, 0⟩
def R.MEM_EVENT_EN : Nat := 0x1100c
def F.MEM_EVENT_EN.EN : Fld := ⟨R.MEM_EVENT_EN, 10, 0⟩
def R.MEM_ERR_ADDR_LO : Nat := 0x11010
def F.MEM_ERR_ADDR_LO.ADDR : Fld := ⟨R.MEM_ERR_ADDR_LO, 31, 6⟩
def R.MEM_ERR_ADDR_HI : Nat := 0x11014
def F.MEM_ERR_ADDR_HI.ADDR : Fld := ⟨R.MEM_ERR_ADDR_HI, 1, 0⟩
def R.MEM_SKIM_CTL : Nat := 0x11018
def F.MEM_SKIM_CTL.START : Fld := ⟨R.MEM_SKIM_CTL, 31, 31⟩
def F.MEM_SKIM_CTL.RATE : Fld := ⟨R.MEM_SKIM_CTL, 26, 24⟩
def F.MEM_SKIM_CTL.MASK : Fld := ⟨R.MEM_SKIM_CTL, 8, 0⟩
def R.MEM_SKIM_LINE : Nat := 0x1101c
def F.MEM_SKIM_LINE.LINE : Fld := ⟨R.MEM_SKIM_LINE, 27, 0⟩
def R.MEM_SCRUB_CFG : Nat := 0x11020
def F.MEM_SCRUB_CFG.TREE_PERIOD : Fld := ⟨R.MEM_SCRUB_CFG, 31, 16⟩
def F.MEM_SCRUB_CFG.DATA_PERIOD : Fld := ⟨R.MEM_SCRUB_CFG, 7, 0⟩
def R.MEM_RGN_POS (k : Nat) : Nat := 0x11040 + 0x8 * k
def F.MEM_RGN_POS.SIZE (k : Nat) : Fld := ⟨(R.MEM_RGN_POS k), 31, 16⟩
def F.MEM_RGN_POS.BASE (k : Nat) : Fld := ⟨(R.MEM_RGN_POS k), 15, 0⟩
def R.MEM_RGN_ATTR (k : Nat) : Nat := 0x11044 + 0x8 * k
def F.MEM_RGN_ATTR.KEY_ID (k : Nat) : Fld := ⟨(R.MEM_RGN_ATTR k), 7, 4⟩
def F.MEM_RGN_ATTR.PRIV (k : Nat) : Fld := ⟨(R.MEM_RGN_ATTR k), 3, 3⟩
def F.MEM_RGN_ATTR.CLASS (k : Nat) : Fld := ⟨(R.MEM_RGN_ATTR k), 1, 0⟩

/-! ### RUB: spec/19_rub_down.md Tables 19.5-19.8 (R457) -/

def R.RUB_CFG : Nat := 0x12000
def F.RUB_CFG.RUB_EN : Fld := ⟨R.RUB_CFG, 31, 31⟩
def F.RUB_CFG.RETIRE : Fld := ⟨R.RUB_CFG, 27, 24⟩
def F.RUB_CFG.TEMP_MAX : Fld := ⟨R.RUB_CFG, 23, 16⟩
def F.RUB_CFG.PERIOD : Fld := ⟨R.RUB_CFG, 15, 0⟩
def R.RUB_CTL : Nat := 0x12004
def F.RUB_CTL.NOW : Fld := ⟨R.RUB_CTL, 31, 31⟩
def R.RUB_STATUS : Nat := 0x12008
def F.RUB_STATUS.PHASE : Fld := ⟨R.RUB_STATUS, 31, 29⟩
def F.RUB_STATUS.FLOAT_FAILED : Fld := ⟨R.RUB_STATUS, 28, 28⟩
def F.RUB_STATUS.CARRIED : Fld := ⟨R.RUB_STATUS, 27, 24⟩
def F.RUB_STATUS.TESTING : Fld := ⟨R.RUB_STATUS, 23, 20⟩
def F.RUB_STATUS.NEXT : Fld := ⟨R.RUB_STATUS, 19, 16⟩
def R.RUB_EVENT : Nat := 0x1200c
def F.RUB_EVENT.CFG_REFUSED : Fld := ⟨R.RUB_EVENT, 6, 6⟩
def F.RUB_EVENT.FLOAT_FAIL : Fld := ⟨R.RUB_EVENT, 5, 5⟩
def F.RUB_EVENT.RETIRED : Fld := ⟨R.RUB_EVENT, 4, 4⟩
def F.RUB_EVENT.CORE_OUT : Fld := ⟨R.RUB_EVENT, 3, 3⟩
def F.RUB_EVENT.ABORTED : Fld := ⟨R.RUB_EVENT, 2, 2⟩
def F.RUB_EVENT.SKIPPED : Fld := ⟨R.RUB_EVENT, 1, 1⟩
def F.RUB_EVENT.PASS_DONE : Fld := ⟨R.RUB_EVENT, 0, 0⟩
def R.RUB_EVENT_EN : Nat := 0x12010
def F.RUB_EVENT_EN.EN : Fld := ⟨R.RUB_EVENT_EN, 6, 0⟩
def R.RUB_RESULT (s : Nat) : Nat := 0x12040 + 0x4 * s
def F.RUB_RESULT.LAST (s : Nat) : Fld := ⟨(R.RUB_RESULT s), 31, 29⟩
def F.RUB_RESULT.CORE_FAIL (s : Nat) : Fld := ⟨(R.RUB_RESULT s), 21, 16⟩
def F.RUB_RESULT.SLICE_FAIL (s : Nat) : Fld := ⟨(R.RUB_RESULT s), 15, 15⟩
def F.RUB_RESULT.SRAM_FAIL (s : Nat) : Fld := ⟨(R.RUB_RESULT s), 14, 14⟩
def F.RUB_RESULT.SRAM_REPAIRED (s : Nat) : Fld := ⟨(R.RUB_RESULT s), 13, 13⟩

/-- The register rows of block IDENT: spec/23_register_map.md Table 23.3 (R511). -/
def rowsIdent : List RegRow := [
  ⟨0x0, [], [⟨31, 16, .ro, 0x4896, .any⟩, ⟨15, 8, .ro, 0x1, .any⟩]⟩,
  ⟨0x4, [], [⟨31, 16, .ro, 0x1, .any⟩, ⟨15, 0, .ro, 0x0, .any⟩]⟩,
  ⟨0x8, [], [⟨31, 0, .rw, 0x0, .any⟩]⟩]

/-- The register rows of block PORT: spec/02_ports_and_mac.md Tables 2.9-2.16 (R49). -/
def rowsPort : List RegRow := [
  ⟨0x200000, [(0x1000, 96)], [⟨15, 15, .rwl, 0x0, .any⟩, ⟨14, 13, .rwl, 0x0, .within [(0, 2)] 1⟩, ⟨12, 12, .rwl, 0x0, .any⟩, ⟨11, 11, .rwl, 0x0, .any⟩, ⟨10, 8, .rwl, 0x0, .within [(0, 3)] 1⟩, ⟨3, 0, .rwl, 0x0, .within [(0, 6)] 1⟩]⟩,
  ⟨0x200004, [(0x1000, 96)], [⟨29, 16, .rwl, 0x5ee, .within [(1518, 9344)] 1⟩, ⟨13, 0, .rwl, 0x5ee, .within [(1518, 9344)] 1⟩]⟩,
  ⟨0x200008, [(0x1000, 96)], [⟨23, 16, .rwl, 0xa, .any⟩, ⟨15, 0, .rwl, 0xa, .any⟩]⟩,
  ⟨0x20000c, [(0x1000, 96)], [⟨23, 16, .rwl, 0xa, .within [(1, 128)] 1⟩, ⟨11, 11, .rwl, 0x0, .any⟩, ⟨10, 10, .rwl, 0x0, .any⟩, ⟨9, 8, .rwl, 0x0, .any⟩, ⟨7, 0, .rwl, 0x0, .any⟩]⟩,
  ⟨0x200010, [(0x1000, 96)], [⟨31, 31, .rwl, 0x0, .any⟩, ⟨30, 16, .rwl, 0x64, .within [(1, 32767)] 1⟩, ⟨15, 0, .rw, 0x0, .any⟩]⟩,
  ⟨0x200014, [(0x1000, 96)], [⟨31, 16, .ro, 0x0, .any⟩, ⟨15, 0, .ro, 0x0, .any⟩]⟩,
  ⟨0x200018, [(0x1000, 96)], [⟨13, 13, .ro, 0x0, .any⟩, ⟨12, 12, .ro, 0x0, .any⟩, ⟨11, 10, .ro, 0x0, .any⟩, ⟨6, 4, .ro, 0x0, .any⟩, ⟨3, 3, .ro, 0x0, .any⟩, ⟨2, 0, .ro, 0x0, .any⟩]⟩,
  ⟨0x20001c, [(0x1000, 96)], [⟨9, 9, .w1c, 0x0, .any⟩, ⟨8, 8, .w1c, 0x0, .any⟩, ⟨7, 7, .w1c, 0x0, .any⟩, ⟨6, 6, .w1c, 0x0, .any⟩, ⟨5, 5, .w1c, 0x0, .any⟩, ⟨4, 4, .w1c, 0x0, .any⟩, ⟨3, 3, .w1c, 0x0, .any⟩, ⟨2, 2, .w1c, 0x0, .any⟩, ⟨1, 1, .w1c, 0x0, .any⟩, ⟨0, 0, .w1c, 0x0, .any⟩]⟩,
  ⟨0x200020, [(0x1000, 96)], [⟨9, 0, .rw, 0x0, .any⟩]⟩,
  ⟨0x200024, [(0x1000, 96)], [⟨31, 0, .w1c, 0x0, .any⟩]⟩,
  ⟨0x200028, [(0x1000, 96)], [⟨21, 0, .w1c, 0x0, .any⟩]⟩]

/-- The register rows of block HOST: spec/16_host_interface.md Tables 16.15-16.18 (R404). -/
def rowsHost : List RegRow := [
  ⟨0x4000, [], [⟨31, 30, .ro, 0x0, .any⟩, ⟨29, 28, .ro, 0x0, .any⟩, ⟨27, 26, .ro, 0x0, .any⟩, ⟨25, 25, .ro, 0x0, .any⟩, ⟨2, 0, .ro, 0x0, .any⟩]⟩,
  ⟨0x4004, [], [⟨4, 4, .w1c, 0x0, .any⟩, ⟨3, 3, .w1c, 0x0, .any⟩, ⟨2, 2, .w1c, 0x0, .any⟩, ⟨1, 1, .w1c, 0x0, .any⟩, ⟨0, 0, .w1c, 0x0, .any⟩]⟩,
  ⟨0x4008, [], [⟨4, 0, .rw, 0x0, .any⟩]⟩,
  ⟨0x4040, [(0x4, 4)], [⟨31, 16, .rw, 0x0, .any⟩, ⟨5, 0, .rw, 0x0, .any⟩]⟩,
  ⟨0x4400, [(0x40, 64)], [⟨31, 12, .rwl, 0x0, .any⟩]⟩,
  ⟨0x4404, [(0x40, 64)], [⟨31, 0, .rwl, 0x0, .any⟩]⟩,
  ⟨0x4408, [(0x40, 64)], [⟨31, 12, .rwl, 0x0, .any⟩]⟩,
  ⟨0x440c, [(0x40, 64)], [⟨31, 0, .rwl, 0x0, .any⟩]⟩,
  ⟨0x4410, [(0x40, 64)], [⟨31, 30, .rwl, 0x0, .any⟩, ⟨29, 28, .rwl, 0x0, .within [(0, 2)] 1⟩, ⟨27, 24, .rwl, 0x4, .within [(4, 15)] 1⟩, ⟨23, 20, .rwl, 0x4, .within [(4, 15)] 1⟩, ⟨19, 13, .rwl, 0x0, .any⟩]⟩,
  ⟨0x4414, [(0x40, 64)], [⟨31, 31, .rw, 0x0, .any⟩, ⟨30, 30, .wo, 0x0, .any⟩]⟩,
  ⟨0x4418, [(0x40, 64)], [⟨31, 16, .rw, 0x0, .any⟩, ⟨15, 0, .rw, 0x1, .within [(1, 65535)] 1⟩]⟩,
  ⟨0x441c, [(0x40, 64)], [⟨18, 1, .rwl, 0x0, .any⟩]⟩,
  ⟨0x4420, [(0x40, 64)], [⟨30, 16, .ro, 0x0, .any⟩, ⟨15, 15, .ro, 0x1, .any⟩, ⟨14, 0, .ro, 0x0, .any⟩]⟩,
  ⟨0x4424, [(0x40, 64)], [⟨31, 31, .ro, 0x0, .any⟩, ⟨2, 0, .ro, 0x0, .any⟩]⟩]

/-- The register rows of block PERF: spec/20_counters.md Table 20.9 (R476). -/
def rowsPerf : List RegRow := [
  ⟨0x13000, [], [⟨31, 31, .rw, 0x0, .any⟩, ⟨30, 30, .rw, 0x0, .any⟩, ⟨29, 26, .rw, 0xf, .any⟩]⟩,
  ⟨0x13004, [], [⟨13, 0, .rw, 0x3e8, .within [(1, 10000)] 1⟩]⟩,
  ⟨0x13008, [], [⟨31, 12, .rwl, 0x0, .any⟩]⟩,
  ⟨0x1300c, [], [⟨31, 0, .rwl, 0x0, .any⟩]⟩,
  ⟨0x13010, [], [⟨31, 0, .rwl, 0x100000, .within [(1048576, 67108864)] 64⟩]⟩,
  ⟨0x13014, [], [⟨25, 0, .rw, 0x0, .within [(0, 67108863)] 64⟩]⟩,
  ⟨0x13018, [], [⟨25, 0, .ro, 0x0, .any⟩]⟩,
  ⟨0x1301c, [], [⟨31, 0, .ro, 0x0, .any⟩]⟩,
  ⟨0x13020, [], [⟨5, 5, .w1c, 0x0, .any⟩, ⟨4, 4, .w1c, 0x0, .any⟩, ⟨3, 3, .w1c, 0x0, .any⟩, ⟨2, 2, .w1c, 0x0, .any⟩, ⟨1, 1, .w1c, 0x0, .any⟩, ⟨0, 0, .w1c, 0x0, .any⟩]⟩,
  ⟨0x13024, [], [⟨5, 0, .rw, 0x0, .any⟩]⟩,
  ⟨0x13028, [(0x4, 2)], [⟨31, 31, .rw, 0x0, .any⟩, ⟨26, 16, .rw, 0x0, .any⟩, ⟨15, 0, .rw, 0x1, .within [(1, 65535)] 1⟩]⟩,
  ⟨0x13030, [], [⟨15, 0, .w1c, 0x0, .any⟩]⟩,
  ⟨0x13040, [(0x4, 16)], [⟨31, 31, .rw, 0x0, .any⟩, ⟨30, 27, .rw, 0x0, .within [(0, 9)] 1⟩, ⟨26, 16, .rw, 0x0, .any⟩, ⟨15, 0, .rw, 0x0, .any⟩]⟩,
  ⟨0x13100, [(0x4, 64)], [⟨31, 0, .rw, 0x0, .any⟩]⟩,
  ⟨0x13200, [(0x4, 64)], [⟨31, 0, .w1c, 0x0, .any⟩]⟩,
  ⟨0x13400, [(0x4, 256)], [⟨31, 0, .w1c, 0x0, .any⟩]⟩]

/-- The register rows of block POWER: spec/21_power_clocks_reset.md Tables 21.12-21.15 (R492). -/
def rowsPower : List RegRow := [
  ⟨0x2000, [], [⟨31, 31, .wo, 0x0, .any⟩, ⟨30, 30, .wo, 0x0, .any⟩, ⟨3, 0, .wo, 0x0, .within [(0, 12)] 1⟩]⟩,
  ⟨0x2004, [], [⟨31, 31, .ro, 0x0, .any⟩, ⟨30, 30, .ro, 0x0, .any⟩, ⟨3, 0, .ro, 0xf, .any⟩]⟩,
  ⟨0x2008, [], [⟨6, 0, .ro, 0x0, .any⟩]⟩,
  ⟨0x200c, [], [⟨25, 0, .ro, 0x0, .any⟩]⟩,
  ⟨0x2010, [], [⟨31, 31, .ro, 0x1, .any⟩, ⟨30, 30, .ro, 0x1, .any⟩, ⟨29, 29, .ro, 0x1, .any⟩, ⟨28, 28, .ro, 0x0, .any⟩, ⟨27, 27, .ro, 0x1, .any⟩, ⟨12, 0, .ro, 0x0, .any⟩]⟩,
  ⟨0x2014, [], [⟨2, 2, .w1c, 0x0, .any⟩, ⟨1, 1, .w1c, 0x0, .any⟩, ⟨0, 0, .w1c, 0x0, .any⟩]⟩,
  ⟨0x2018, [], [⟨2, 0, .rw, 0x0, .any⟩]⟩]

/-- The register rows of block BOOT: spec/17_boot_and_lifecycle.md Tables 17.11-17.13 (R423). -/
def rowsBoot : List RegRow := [
  ⟨0x1000, [], [⟨31, 29, .ro, 0x0, .any⟩, ⟨28, 28, .ro, 0x0, .any⟩, ⟨27, 27, .ro, 0x0, .any⟩, ⟨26, 26, .ro, 0x0, .any⟩, ⟨19, 16, .ro, 0x0, .any⟩, ⟨15, 12, .ro, 0x0, .any⟩, ⟨11, 10, .ro, 0x0, .any⟩, ⟨2, 0, .ro, 0x2, .any⟩]⟩,
  ⟨0x1004, [], [⟨31, 31, .wo, 0x0, .any⟩, ⟨30, 30, .wo, 0x0, .any⟩]⟩,
  ⟨0x1008, [], [⟨31, 6, .rw, 0x0, .any⟩]⟩,
  ⟨0x100c, [], [⟨31, 0, .rw, 0x0, .any⟩]⟩,
  ⟨0x1010, [], [⟨23, 0, .rw, 0x0, .any⟩]⟩,
  ⟨0x1014, [], [⟨31, 31, .wo, 0x0, .any⟩]⟩,
  ⟨0x1018, [], [⟨31, 24, .ro, 0x0, .any⟩, ⟨23, 16, .ro, 0x0, .any⟩]⟩,
  ⟨0x101c, [], [⟨31, 31, .wo, 0x0, .any⟩, ⟨30, 28, .wo, 0x0, .any⟩]⟩,
  ⟨0x1020, [], [⟨31, 3, .rw, 0x0, .any⟩]⟩,
  ⟨0x1024, [], [⟨31, 0, .rw, 0x0, .any⟩]⟩,
  ⟨0x1028, [], [⟨31, 31, .ro, 0x0, .any⟩, ⟨3, 0, .ro, 0x0, .any⟩]⟩,
  ⟨0x102c, [], [⟨31, 0, .ro, 0x0, .any⟩]⟩,
  ⟨0x1030, [], [⟨31, 0, .ro, 0x0, .any⟩]⟩,
  ⟨0x1034, [], [⟨23, 0, .ro, 0x0, .any⟩]⟩,
  ⟨0x1038, [], [⟨31, 0, .ro, 0x0, .any⟩]⟩,
  ⟨0x103c, [], [⟨15, 0, .ro, 0x0, .any⟩]⟩,
  ⟨0x1040, [], [⟨31, 31, .wo, 0x0, .any⟩]⟩,
  ⟨0x1044, [], [⟨31, 31, .ro, 0x0, .any⟩, ⟨3, 0, .ro, 0x0, .any⟩]⟩,
  ⟨0x1048, [], [⟨31, 6, .rw, 0x0, .any⟩]⟩,
  ⟨0x104c, [], [⟨31, 0, .rw, 0x0, .any⟩]⟩,
  ⟨0x1060, [(0x4, 8)], [⟨31, 0, .rw, 0x0, .any⟩]⟩,
  ⟨0x1100, [(0x4, 42)], [⟨31, 0, .ro, 0x0, .any⟩]⟩,
  ⟨0x11b0, [], [⟨2, 2, .w1c, 0x0, .any⟩, ⟨1, 1, .w1c, 0x0, .any⟩, ⟨0, 0, .w1c, 0x0, .any⟩]⟩,
  ⟨0x11b4, [], [⟨2, 0, .rw, 0x0, .any⟩]⟩]

/-- The register rows of block ALARM: spec/18_tamper.md Tables 18.9-18.11 (R441). -/
def rowsAlarm : List RegRow := [
  ⟨0x3000, [], [⟨21, 0, .w1c, 0x0, .any⟩]⟩,
  ⟨0x3004, [], [⟨21, 0, .rw, 0x0, .any⟩]⟩,
  ⟨0x3008, [], [⟨31, 0, .rwl, 0xd3135153, .any⟩]⟩,
  ⟨0x300c, [], [⟨31, 0, .rwl, 0x5111535d, .any⟩]⟩,
  ⟨0x3010, [], [⟨31, 0, .ro, 0x0, .any⟩]⟩,
  ⟨0x3014, [], [⟨31, 0, .ro, 0x0, .any⟩]⟩,
  ⟨0x3018, [], [⟨7, 6, .rwl, 0x0, .within [(0, 2)] 1⟩, ⟨5, 5, .rwl, 0x0, .any⟩, ⟨3, 2, .rwl, 0x0, .within [(0, 2)] 1⟩, ⟨1, 1, .rwl, 0x0, .any⟩]⟩,
  ⟨0x301c, [], [⟨31, 31, .rwl, 0x1, .any⟩, ⟨23, 16, .ro, 0xff, .any⟩, ⟨11, 0, .rwl, 0x3c, .within [(1, 3600)] 1⟩]⟩,
  ⟨0x3020, [], [⟨31, 31, .wo, 0x0, .any⟩, ⟨30, 30, .ro, 0x0, .any⟩, ⟨3, 0, .ro, 0x0, .any⟩]⟩,
  ⟨0x3024, [], [⟨0, 0, .wo, 0x0, .any⟩]⟩,
  ⟨0x3028, [], [⟨14, 8, .ro, 0x0, .any⟩, ⟨5, 0, .rw, 0x0, .any⟩]⟩,
  ⟨0x3030, [(0x4, 6)], [⟨31, 0, .ro, 0x0, .any⟩]⟩,
  ⟨0x3048, [], [⟨31, 0, .ro, 0x0, .any⟩]⟩,
  ⟨0x304c, [], [⟨15, 0, .ro, 0x0, .any⟩]⟩,
  ⟨0x3050, [], [⟨31, 0, .ro, 0x0, .any⟩]⟩,
  ⟨0x3054, [], [⟨4, 4, .ro, 0x0, .any⟩, ⟨3, 0, .ro, 0x0, .any⟩]⟩,
  ⟨0x3058, [], [⟨1, 1, .ro, 0x0, .any⟩, ⟨0, 0, .ro, 0x0, .any⟩]⟩]

/-- The register rows of block CLASS: spec/03_forwarding.md Tables 3.14-3.19 (R86). -/
def rowsClass : List RegRow := [
  ⟨0x6000, [], [⟨31, 31, .wo, 0x0, .any⟩, ⟨30, 28, .wo, 0x0, .any⟩, ⟨27, 24, .wo, 0x0, .any⟩, ⟨16, 0, .wo, 0x0, .any⟩]⟩,
  ⟨0x6004, [], [⟨31, 31, .ro, 0x0, .any⟩, ⟨30, 30, .w1c, 0x0, .any⟩, ⟨23, 20, .ro, 0x0, .any⟩, ⟨16, 0, .ro, 0x0, .any⟩]⟩,
  ⟨0x6040, [(0x4, 16)], [⟨31, 0, .rw, 0x0, .any⟩]⟩,
  ⟨0x6080, [], [⟨31, 0, .rwl, 0x13579bdf, .any⟩]⟩,
  ⟨0x6084, [], [⟨31, 0, .rwl, 0x2468ace0, .any⟩]⟩,
  ⟨0x6088, [], [⟨31, 0, .rwl, 0x3c3ca5a5, .any⟩]⟩,
  ⟨0x608c, [], [⟨31, 0, .rwl, 0xf1e2d3c, .any⟩]⟩,
  ⟨0x6090, [], [⟨31, 0, .rwl, 0x5a5a0f0f, .any⟩]⟩,
  ⟨0x6094, [], [⟨31, 0, .rwl, 0x7b3d1c2e, .any⟩]⟩,
  ⟨0x6098, [], [⟨31, 31, .rw, 0x1, .any⟩, ⟨19, 0, .rw, 0x96, .within [(1, 1000000)] 1⟩]⟩,
  ⟨0x609c, [], [⟨31, 0, .rwl, 0x65555595, .any⟩]⟩,
  ⟨0x60a0, [], [⟨31, 31, .rw, 0x0, .any⟩, ⟨30, 30, .rw, 0x0, .any⟩, ⟨23, 16, .rw, 0xa, .within [(1, 255)] 1⟩, ⟨15, 0, .rw, 0x3e8, .within [(1, 65535)] 1⟩]⟩,
  ⟨0x60a4, [], [⟨3, 3, .w1c, 0x0, .any⟩, ⟨2, 2, .w1c, 0x0, .any⟩, ⟨1, 1, .w1c, 0x0, .any⟩, ⟨0, 0, .w1c, 0x0, .any⟩]⟩,
  ⟨0x60a8, [], [⟨3, 0, .rw, 0x0, .any⟩]⟩,
  ⟨0x60b0, [(0xc, 5)], [⟨31, 6, .rw, 0x0, .any⟩]⟩,
  ⟨0x60b4, [(0xc, 5)], [⟨31, 0, .rw, 0x0, .any⟩]⟩,
  ⟨0x60b8, [(0xc, 5)], [⟨16, 0, .rw, 0x0, .any⟩]⟩,
  ⟨0x60f0, [], [⟨31, 5, .rwl, 0x0, .any⟩]⟩,
  ⟨0x60f4, [], [⟨31, 0, .rwl, 0x0, .any⟩]⟩,
  ⟨0x60f8, [], [⟨31, 31, .rwl, 0x0, .any⟩, ⟨4, 0, .rwl, 0xa, .within [(10, 20)] 1⟩]⟩,
  ⟨0x60fc, [], [⟨23, 0, .ro, 0x0, .any⟩]⟩,
  ⟨0x6400, [(0x4, 96)], [⟨28, 24, .rwl, 0x0, .any⟩, ⟨23, 23, .rwl, 0x0, .any⟩, ⟨22, 22, .rwl, 0x1, .any⟩, ⟨21, 21, .rwl, 0x1, .any⟩, ⟨20, 19, .rwl, 0x0, .within [(0, 2)] 1⟩, ⟨18, 18, .rwl, 0x0, .any⟩, ⟨17, 15, .rwl, 0x0, .any⟩, ⟨11, 0, .rwl, 0x1, .within [(1, 4094)] 1⟩]⟩]

/-- The register rows of block SECY: spec/04_macsec.md Tables 4.12, 4.14, 4.15 (R116). -/
def rowsSecy : List RegRow := [
  ⟨0x200100, [(0x1000, 96)], [⟨31, 31, .rwl, 0x0, .any⟩, ⟨30, 28, .rwl, 0x0, .within [(0, 3)] 1⟩, ⟨27, 26, .rwl, 0x0, .within [(0, 2)] 1⟩, ⟨25, 24, .rwl, 0x0, .within [(0, 2)] 1⟩, ⟨23, 23, .rwl, 0x1, .any⟩, ⟨22, 22, .rwl, 0x1, .any⟩, ⟨21, 21, .rwl, 0x0, .any⟩, ⟨20, 20, .rwl, 0x0, .any⟩, ⟨19, 19, .rwl, 0x0, .any⟩, ⟨18, 18, .rwl, 0x1, .any⟩, ⟨17, 17, .rwl, 0x0, .any⟩, ⟨16, 16, .rwl, 0x0, .any⟩, ⟨15, 0, .rwl, 0x0, .any⟩]⟩,
  ⟨0x200104, [(0x1000, 96)], [⟨30, 0, .rwl, 0x0, .within [(0, 1073741824)] 1⟩]⟩,
  ⟨0x200108, [(0x1000, 96)], [⟨31, 0, .rwl, 0x0, .any⟩]⟩,
  ⟨0x20010c, [(0x1000, 96)], [⟨31, 0, .rwl, 0x0, .any⟩]⟩,
  ⟨0x200110, [(0x1000, 96)], [⟨9, 0, .w1c, 0x0, .any⟩]⟩,
  ⟨0x200114, [(0x1000, 96)], [⟨1, 1, .w1c, 0x0, .any⟩, ⟨0, 0, .w1c, 0x0, .any⟩]⟩,
  ⟨0x200118, [(0x1000, 96)], [⟨1, 0, .rw, 0x0, .any⟩]⟩]

/-- The register rows of block MACSEC: spec/04_macsec.md Table 4.13 (R116). -/
def rowsMacsec : List RegRow := [
  ⟨0x7000, [], [⟨31, 0, .rwl, 0x6a09e667, .any⟩]⟩,
  ⟨0x7004, [], [⟨31, 0, .rwl, 0x3c6ef372, .any⟩]⟩,
  ⟨0x7008, [], [⟨16, 0, .ro, 0x0, .any⟩]⟩]

/-- The register rows of block CTXB: spec/06_security_contexts.md Tables 6.12, 6.13 (R164). -/
def rowsCtxb : List RegRow := [
  ⟨0x8000, [], [⟨31, 0, .rwl, 0x100000, .any⟩]⟩,
  ⟨0x8004, [], [⟨0, 0, .rwl, 0x0, .any⟩]⟩,
  ⟨0x8040, [(0x4, 13)], [⟨30, 16, .ro, 0x0, .any⟩, ⟨13, 0, .ro, 0x0, .any⟩]⟩,
  ⟨0x8080, [(0x4, 16)], [⟨31, 0, .ro, 0x0, .any⟩]⟩]

/-- The register rows of block PRF: spec/05_substation_profiles.md Table 5.9 (R137). -/
def rowsPrf : List RegRow := [
  ⟨0x200200, [(0x1000, 96)], [⟨0, 0, .rwl, 0x0, .any⟩]⟩]

/-- The register rows of block CIPHER: spec/07_cipher_clusters.md Tables 7.5-7.7 (R183). -/
def rowsCipher : List RegRow := [
  ⟨0x9000, [(0x4, 13)], [⟨21, 16, .ro, 0x3f, .any⟩, ⟨10, 0, .ro, 0x0, .any⟩]⟩,
  ⟨0x9040, [], [⟨19, 4, .ro, 0x0, .any⟩, ⟨3, 0, .ro, 0xf, .any⟩]⟩]

/-- The register rows of block WET: spec/08_wet_edge.md Tables 8.7-8.9 (R202). -/
def rowsWet : List RegRow := [
  ⟨0xa000, [], [⟨23, 16, .rwl, 0x80, .within [(1, 128)] 1⟩, ⟨4, 4, .rwl, 0x1, .any⟩, ⟨3, 3, .rwl, 0x0, .any⟩, ⟨2, 2, .rwl, 0x0, .any⟩, ⟨1, 1, .rwl, 0x0, .any⟩, ⟨0, 0, .rwl, 0x0, .any⟩]⟩,
  ⟨0xa004, [], [⟨0, 0, .w1c, 0x0, .any⟩]⟩,
  ⟨0xa008, [], [⟨0, 0, .rw, 0x0, .any⟩]⟩,
  ⟨0xa040, [(0x4, 13)], [⟨23, 16, .ro, 0x0, .any⟩, ⟨7, 0, .ro, 0x0, .any⟩]⟩]

/-- The register rows of block KEY: spec/09_key_store.md Tables 9.12-9.14 (R229). -/
def rowsKey : List RegRow := [
  ⟨0xb000, [], [⟨31, 0, .rw, 0x10000, .any⟩]⟩,
  ⟨0xb004, [], [⟨29, 16, .ro, 0x400, .any⟩, ⟨12, 0, .ro, 0x0, .any⟩]⟩,
  ⟨0xb008, [], [⟨10, 8, .ro, 0x0, .any⟩, ⟨7, 4, .ro, 0x0, .any⟩, ⟨2, 2, .ro, 0x0, .any⟩, ⟨1, 0, .ro, 0x0, .any⟩]⟩,
  ⟨0xb00c, [], [⟨31, 16, .rwl, 0x0, .any⟩, ⟨15, 0, .rwl, 0x0, .any⟩]⟩,
  ⟨0xb010, [], [⟨4, 4, .w1c, 0x0, .any⟩, ⟨3, 3, .w1c, 0x0, .any⟩, ⟨2, 2, .w1c, 0x0, .any⟩, ⟨1, 1, .w1c, 0x0, .any⟩, ⟨0, 0, .w1c, 0x0, .any⟩]⟩,
  ⟨0xb014, [], [⟨4, 0, .rw, 0x0, .any⟩]⟩]

/-- The register rows of block TIMING: spec/10_time_and_gates.md Tables 10.11-10.14 (R263). -/
def rowsTiming : List RegRow := [
  ⟨0xc000, [], [⟨10, 10, .wo, 0x0, .any⟩, ⟨9, 9, .wo, 0x0, .any⟩, ⟨8, 8, .wo, 0x0, .any⟩, ⟨2, 0, .rwl, 0x5, .within [(0, 6)] 1⟩]⟩,
  ⟨0xc004, [], [⟨31, 31, .ro, 0x0, .any⟩]⟩,
  ⟨0xc008, [], [⟨31, 0, .rw, 0x0, .any⟩]⟩,
  ⟨0xc00c, [], [⟨31, 0, .rw, 0x0, .any⟩]⟩,
  ⟨0xc010, [], [⟨15, 0, .ro, 0x0, .any⟩]⟩,
  ⟨0xc014, [], [⟨31, 0, .ro, 0x0, .any⟩]⟩,
  ⟨0xc018, [], [⟨29, 0, .ro, 0x0, .any⟩]⟩,
  ⟨0xc01c, [], [⟨15, 0, .rw, 0x0, .any⟩]⟩,
  ⟨0xc020, [], [⟨31, 0, .rw, 0x0, .any⟩]⟩,
  ⟨0xc024, [], [⟨29, 0, .rw, 0x0, .within [(0, 999999999)] 1⟩]⟩,
  ⟨0xc028, [], [⟨31, 31, .rwl, 0x0, .any⟩, ⟨30, 30, .rwl, 0x0, .any⟩, ⟨29, 20, .rwl, 0x64, .within [(1, 500)] 1⟩, ⟨19, 0, .rwl, 0x0, .any⟩]⟩,
  ⟨0xc02c, [], [⟨31, 31, .rwl, 0x0, .any⟩, ⟨30, 30, .rwl, 0x0, .any⟩, ⟨29, 29, .rwl, 0x0, .any⟩]⟩,
  ⟨0xc030, [], [⟨31, 0, .ro, 0x0, .any⟩]⟩,
  ⟨0xc034, [], [⟨29, 0, .ro, 0x0, .any⟩]⟩,
  ⟨0xc038, [], [⟨4, 4, .w1c, 0x0, .any⟩, ⟨3, 3, .w1c, 0x0, .any⟩, ⟨2, 2, .w1c, 0x0, .any⟩, ⟨1, 1, .w1c, 0x0, .any⟩, ⟨0, 0, .w1c, 0x0, .any⟩]⟩,
  ⟨0xc03c, [], [⟨4, 0, .rw, 0x0, .any⟩]⟩,
  ⟨0xc040, [(0x4, 4)], [⟨31, 31, .rwl, 0x0, .any⟩, ⟨30, 28, .rwl, 0x0, .within [(0, 4)] 1⟩, ⟨27, 26, .rwl, 0x0, .within [(0, 2)] 1⟩, ⟨25, 24, .rwl, 0x0, .within [(0, 2)] 1⟩, ⟨23, 16, .rwl, 0x0, .any⟩, ⟨15, 13, .rwl, 0x7, .any⟩, ⟨12, 12, .rwl, 0x0, .any⟩, ⟨7, 0, .rwl, 0x1, .any⟩]⟩,
  ⟨0xc060, [(0x4, 3)], [⟨31, 0, .ro, 0x0, .any⟩]⟩,
  ⟨0xc100, [(0x4, 96)], [⟨3, 0, .rwl, 0x0, .any⟩]⟩,
  ⟨0xc300, [(0x4, 96)], [⟨31, 16, .rwl, 0x0, .any⟩, ⟨15, 0, .rwl, 0x0, .any⟩]⟩]

/-- The register rows of block SCHED: spec/10_time_and_gates.md Tables 10.15-10.18 (R263). -/
def rowsSched : List RegRow := [
  ⟨0x200400, [(0x1000, 96)], [⟨31, 31, .rwl, 0x0, .any⟩, ⟨30, 30, .rwl, 0x0, .any⟩, ⟨29, 29, .rwl, 0x0, .any⟩, ⟨23, 16, .rwl, 0xff, .any⟩]⟩,
  ⟨0x200404, [(0x1000, 96)], [⟨23, 0, .rwl, 0xfac681, .any⟩]⟩,
  ⟨0x200408, [(0x1000, 96)], [⟨23, 16, .rwl, 0x0, .any⟩, ⟨15, 0, .rwl, 0x0, .any⟩]⟩,
  ⟨0x20040c, [(0x1000, 96)], [⟨7, 0, .rwl, 0x0, .any⟩]⟩,
  ⟨0x200410, [(0x1000, 96)], [⟨31, 31, .ro, 0x0, .any⟩, ⟨30, 30, .ro, 0x0, .any⟩, ⟨29, 29, .ro, 0x0, .any⟩]⟩,
  ⟨0x200414, [(0x1000, 96)], [⟨3, 3, .w1c, 0x0, .any⟩, ⟨2, 2, .w1c, 0x0, .any⟩, ⟨1, 1, .w1c, 0x0, .any⟩, ⟨0, 0, .w1c, 0x0, .any⟩]⟩,
  ⟨0x200418, [(0x1000, 96)], [⟨3, 0, .rw, 0x0, .any⟩]⟩,
  ⟨0x200420, [(0x1000, 96), (0x4, 8)], [⟨19, 0, .rwl, 0x0, .any⟩]⟩,
  ⟨0x200440, [(0x1000, 96), (0x4, 8)], [⟨12, 0, .rwl, 0x40, .within [(1, 4096)] 1⟩]⟩,
  ⟨0x200480, [(0x1000, 96), (0x4, 64)], [⟨31, 24, .rwl, 0x1, .within [(1, 255)] 1⟩, ⟨23, 16, .rwl, 0x1, .within [(1, 255)] 1⟩, ⟨15, 8, .rwl, 0x1, .within [(1, 255)] 1⟩, ⟨7, 0, .rwl, 0x1, .within [(1, 255)] 1⟩]⟩]

/-- The register rows of block CONTRACT: spec/11_latency_contracts.md Tables 11.6, 11.7 (R277). -/
def rowsContract : List RegRow := [
  ⟨0xd000, [], [⟨14, 0, .ro, 0x0, .any⟩]⟩,
  ⟨0xd004, [], [⟨3, 3, .w1c, 0x0, .any⟩, ⟨2, 2, .w1c, 0x0, .any⟩, ⟨1, 1, .w1c, 0x0, .any⟩, ⟨0, 0, .w1c, 0x0, .any⟩]⟩,
  ⟨0xd008, [], [⟨3, 0, .rw, 0x0, .any⟩]⟩,
  ⟨0xd040, [(0x4, 13)], [⟨27, 16, .ro, 0x0, .any⟩, ⟨11, 0, .rwl, 0x400, .within [(0, 2048)] 1⟩]⟩]

/-- The register rows of block RECOVERY: spec/12_stream_redundancy.md Tables 12.7, 12.8 (R295). -/
def rowsRecovery : List RegRow := [
  ⟨0xe000, [], [⟨12, 0, .ro, 0x0, .any⟩]⟩,
  ⟨0xe004, [], [⟨1, 1, .w1c, 0x0, .any⟩, ⟨0, 0, .w1c, 0x0, .any⟩]⟩,
  ⟨0xe008, [], [⟨11, 1, .rw, 0x0, .any⟩]⟩,
  ⟨0xe040, [(0x4, 48)], [⟨31, 31, .rwl, 0x0, .any⟩, ⟨30, 30, .rwl, 0x0, .any⟩, ⟨14, 8, .rwl, 0x0, .within [(0, 95)] 1⟩, ⟨6, 0, .rwl, 0x0, .within [(0, 95)] 1⟩]⟩,
  ⟨0xe100, [(0x4, 48)], [⟨15, 0, .ro, 0x0, .any⟩]⟩]

/-- The register rows of block PAIR: spec/13_coat_pairs.md Tables 13.5-13.8 (R315). -/
def rowsPair : List RegRow := [
  ⟨0xf000, [], [⟨31, 22, .rwl, 0x32, .within [(10, 1000)] 1⟩, ⟨21, 15, .rwl, 0x1, .within [(1, 100)] 1⟩, ⟨14, 7, .rwl, 0x64, .within [(1, 255)] 1⟩, ⟨6, 0, .rwl, 0xa, .within [(1, 127)] 1⟩]⟩,
  ⟨0xf004, [], [⟨31, 29, .ro, 0x0, .any⟩, ⟨28, 28, .ro, 0x0, .any⟩, ⟨27, 26, .ro, 0x0, .any⟩, ⟨25, 25, .ro, 0x0, .any⟩, ⟨24, 24, .ro, 0x0, .any⟩, ⟨23, 21, .ro, 0x0, .any⟩]⟩,
  ⟨0xf008, [], [⟨12, 12, .w1c, 0x0, .any⟩, ⟨11, 11, .w1c, 0x0, .any⟩, ⟨10, 10, .w1c, 0x0, .any⟩, ⟨9, 9, .w1c, 0x0, .any⟩, ⟨8, 8, .w1c, 0x0, .any⟩, ⟨7, 7, .w1c, 0x0, .any⟩, ⟨6, 6, .w1c, 0x0, .any⟩, ⟨5, 5, .w1c, 0x0, .any⟩, ⟨4, 4, .w1c, 0x0, .any⟩, ⟨3, 3, .w1c, 0x0, .any⟩, ⟨2, 2, .w1c, 0x0, .any⟩, ⟨1, 1, .w1c, 0x0, .any⟩, ⟨0, 0, .w1c, 0x0, .any⟩]⟩,
  ⟨0xf00c, [], [⟨12, 0, .rw, 0x0, .any⟩]⟩,
  ⟨0xf010, [(0x4, 3)], [⟨31, 0, .rwl, 0x0, .any⟩]⟩]

/-- The register rows of block DOMAIN: spec/14_lath_domains.md Tables 14.7-14.10 (R343). -/
def rowsDomain : List RegRow := [
  ⟨0x10000, [], [⟨23, 16, .rwl, 0x1, .within [(1, 255)] 1⟩, ⟨15, 8, .rwl, 0xa, .within [(1, 100)] 1⟩, ⟨7, 0, .rwl, 0xa, .within [(1, 255)] 1⟩]⟩,
  ⟨0x10004, [], [⟨31, 31, .ro, 0x0, .any⟩, ⟨30, 30, .ro, 0x0, .any⟩, ⟨29, 29, .ro, 0x0, .any⟩, ⟨28, 28, .ro, 0x0, .any⟩, ⟨27, 27, .ro, 0x0, .any⟩, ⟨26, 26, .ro, 0x0, .any⟩, ⟨25, 25, .ro, 0x0, .any⟩, ⟨24, 24, .ro, 0x0, .any⟩, ⟨21, 16, .ro, 0x0, .any⟩, ⟨6, 0, .ro, 0x0, .any⟩]⟩,
  ⟨0x10008, [], [⟨12, 12, .w1c, 0x0, .any⟩, ⟨11, 11, .w1c, 0x0, .any⟩, ⟨10, 10, .w1c, 0x0, .any⟩, ⟨9, 9, .w1c, 0x0, .any⟩, ⟨8, 8, .w1c, 0x0, .any⟩, ⟨7, 7, .w1c, 0x0, .any⟩, ⟨6, 6, .w1c, 0x0, .any⟩, ⟨5, 5, .w1c, 0x0, .any⟩, ⟨4, 4, .w1c, 0x0, .any⟩, ⟨3, 3, .w1c, 0x0, .any⟩, ⟨2, 2, .w1c, 0x0, .any⟩, ⟨1, 1, .w1c, 0x0, .any⟩, ⟨0, 0, .w1c, 0x0, .any⟩]⟩,
  ⟨0x1000c, [], [⟨12, 0, .rw, 0x0, .any⟩]⟩,
  ⟨0x10010, [], [⟨31, 0, .ro, 0x0, .any⟩]⟩,
  ⟨0x10014, [], [⟨31, 0, .ro, 0x0, .any⟩]⟩,
  ⟨0x10018, [], [⟨31, 0, .ro, 0x0, .any⟩]⟩,
  ⟨0x1001c, [], [⟨12, 0, .ro, 0x0, .any⟩]⟩,
  ⟨0x10020, [(0x4, 4)], [⟨31, 0, .ro, 0x0, .any⟩]⟩,
  ⟨0x10030, [(0x4, 4)], [⟨31, 0, .ro, 0x0, .any⟩]⟩,
  ⟨0x10040, [], [⟨5, 0, .rw, 0x0, .any⟩]⟩]

/-- The register rows of block MEMORY: spec/15_stacked_memory.md Tables 15.12-15.18 (R372). -/
def rowsMemory : List RegRow := [
  ⟨0x11000, [], [⟨31, 31, .rwl, 0x0, .any⟩]⟩,
  ⟨0x11004, [], [⟨31, 31, .ro, 0x0, .any⟩, ⟨30, 30, .ro, 0x1, .any⟩, ⟨29, 29, .ro, 0x0, .any⟩, ⟨19, 16, .ro, 0x8, .any⟩]⟩,
  ⟨0x11008, [], [⟨10, 10, .w1c, 0x0, .any⟩, ⟨9, 9, .w1c, 0x0, .any⟩, ⟨8, 8, .w1c, 0x0, .any⟩, ⟨7, 7, .w1c, 0x0, .any⟩, ⟨6, 6, .w1c, 0x0, .any⟩, ⟨5, 5, .w1c, 0x0, .any⟩, ⟨4, 4, .w1c, 0x0, .any⟩, ⟨3, 3, .w1c, 0x0, .any⟩, ⟨2, 2, .w1c, 0x0, .any⟩, ⟨1, 1, .w1c, 0x0, .any⟩, ⟨0, 0, .w1c, 0x0, .any⟩]⟩,
  ⟨0x1100c, [], [⟨10, 0, .rw, 0x0, .any⟩]⟩,
  ⟨0x11010, [], [⟨31, 6, .ro, 0x0, .any⟩]⟩,
  ⟨0x11014, [], [⟨1, 0, .ro, 0x0, .any⟩]⟩,
  ⟨0x11018, [], [⟨31, 31, .wo, 0x0, .any⟩, ⟨26, 24, .rw, 0x0, .any⟩, ⟨8, 0, .rw, 0x0, .any⟩]⟩,
  ⟨0x1101c, [], [⟨27, 0, .ro, 0x0, .any⟩]⟩,
  ⟨0x11020, [], [⟨31, 16, .rw, 0x3e8, .within [(1, 65535)] 1⟩, ⟨7, 0, .rw, 0x18, .within [(1, 255)] 1⟩]⟩,
  ⟨0x11040, [(0x8, 9)], [⟨31, 16, .ro, 0x0, .any⟩, ⟨15, 0, .ro, 0x0, .any⟩]⟩,
  ⟨0x11044, [(0x8, 9)], [⟨7, 4, .ro, 0x0, .any⟩, ⟨3, 3, .ro, 0x0, .any⟩, ⟨1, 0, .ro, 0x0, .any⟩]⟩]

/-- The register rows of block RUB: spec/19_rub_down.md Tables 19.5-19.8 (R457). -/
def rowsRub : List RegRow := [
  ⟨0x12000, [], [⟨31, 31, .rwl, 0x1, .any⟩, ⟨27, 24, .rwl, 0xf, .within [(0, 11), (15, 15)] 1⟩, ⟨23, 16, .rwl, 0x73, .within [(60, 125)] 1⟩, ⟨15, 0, .rwl, 0x258, .within [(60, 65535)] 1⟩]⟩,
  ⟨0x12004, [], [⟨31, 31, .wo, 0x0, .any⟩]⟩,
  ⟨0x12008, [], [⟨31, 29, .ro, 0x0, .any⟩, ⟨28, 28, .ro, 0x0, .any⟩, ⟨27, 24, .ro, 0xf, .any⟩, ⟨23, 20, .ro, 0xf, .any⟩, ⟨19, 16, .ro, 0x0, .any⟩]⟩,
  ⟨0x1200c, [], [⟨6, 6, .w1c, 0x0, .any⟩, ⟨5, 5, .w1c, 0x0, .any⟩, ⟨4, 4, .w1c, 0x0, .any⟩, ⟨3, 3, .w1c, 0x0, .any⟩, ⟨2, 2, .w1c, 0x0, .any⟩, ⟨1, 1, .w1c, 0x0, .any⟩, ⟨0, 0, .w1c, 0x0, .any⟩]⟩,
  ⟨0x12010, [], [⟨6, 0, .rw, 0x0, .any⟩]⟩,
  ⟨0x12040, [(0x4, 13)], [⟨31, 29, .ro, 0x0, .any⟩, ⟨21, 16, .ro, 0x0, .any⟩, ⟨15, 15, .ro, 0x0, .any⟩, ⟨14, 14, .ro, 0x0, .any⟩, ⟨13, 13, .ro, 0x0, .any⟩]⟩]

/-- Every register of PF0 BAR0 (R509, R510; spec/23_register_map.md). -/
def allRows : List RegRow :=
  rowsIdent ++ rowsPort ++ rowsHost ++ rowsPerf ++ rowsPower ++ rowsBoot ++ rowsAlarm ++ rowsClass ++ rowsSecy ++ rowsMacsec ++ rowsCtxb ++ rowsPrf ++ rowsCipher ++ rowsWet ++ rowsKey ++ rowsTiming ++ rowsSched ++ rowsContract ++ rowsRecovery ++ rowsPair ++ rowsDomain ++ rowsMemory ++ rowsRub

end Sys2Proof.Machine
end

