-- ==== Sys2Proof/Machine/State.lean ====
section
/-!
DEFINITION. The state of the block as plain data: the register file, the tables, the counters, the state of each unit,
the pins, the queue of waiting commands; the reasons a command can stop; and the state after reset.
-/
namespace Sys2Proof.Machine

/-- Why a command faults. Each is safe: the model stops where the spec gives no effect. -/
inductive Fault where
  /-- A command's operand names something the device does not have (a reserved number). Safe. -/
  | noSuchObject (what : String)
deriving DecidableEq, Repr

/-- Why a command is refused. -/
inductive Refusal where
  /-- The command's meaning is not written yet: raised by `exec` only. Safe. -/
  | notModelled (mnemonic : String)
deriving DecidableEq, Repr

/-! ### Operational state, configuration, life cycle -/

/-- The operational states of Table 17.1 (R406), in the order of their codes. -/
inductive OpState where
  | off | battery | rom | load | setup | run | hold | fault
deriving DecidableEq, Repr

/-- The code of an operational state (Table 16.3). -/
def OpState.code : OpState → Nat
  | .off => 0 | .battery => 1 | .rom => 2 | .load => 3 | .setup => 4 | .run => 5 | .hold => 6 | .fault => 7

/-- The reset kinds of Table 21.7 but the slice reset, in the order of RESET_CAUSE. -/
inductive ResetKind where
  | powerOn | cold | warm | domain
deriving DecidableEq, Repr

/-- Boot, firmware and fuse state (spec/17_boot_and_lifecycle.md). -/
structure Boot where
  /-- The fuse array of Table 17.6. -/
  fuses : BitVec 1600
  /-- The image being loaded, as read so far (R411, R328). -/
  image : List Byte
  /-- The 256-byte header of the running image (R412). -/
  header : List Byte
  /-- The FUSE_CMD operation in progress and the fuse bits it burns when it ends (R417, R418). -/
  burn : Option (Nat × BitVec 1600)
  /-- A reset deferred until the burn ends (R487): its kind. -/
  deferred : Option ResetKind
  /-- Resets being carried out, not yet released (R487, R488). -/
  inReset : Option (ResetKind × Bool)
  /-- GO of the firmware load is ignored after a CONTAIN in LOAD (Table 18.3). -/
  loadBlocked : Bool
  /-- The debug port is closed until the next reset (Table 18.3). -/
  debugShut : Bool
  /-- The Strip pass and the boot tests of ROM have ended (R408). -/
  stripDone : Bool
  /-- Steps 1 to 5 of ROM (Table 17.2) have been carried out since the reset. -/
  romRun : Bool
deriving DecidableEq, Repr

/-- One tamper-log record (Table 18.4). -/
structure LogRec where
  seq : Nat
  rtc : Nat
  opstate : Nat
  battery : Bool
  done : Nat
  pending : Nat
  causes : Nat
  bootCount : Nat
  detail : Nat
deriving DecidableEq, Repr

/-- What the battery domain holds (R437, R434, R427, Table 21.1). -/
structure Battery where
  vbat : Bool
  core : Bool
  bootCount : Nat
  roots : Tbl (BitVec 256)
  rootChecks : Tbl (BitVec 64)
  log : List (Nat × LogRec)
  logCount : Nat
  seq : Nat
  rtc : Nat
  rtcAcc : Nat
  latch : Nat
  status : Nat
  encCfg : Word
  lfsrA : BitVec 32
  lfsrB : BitVec 32
  /-- SEQ of the first log record written in BATTERY since the last notice (R440). -/
  notice : Option Nat
deriving DecidableEq, Repr

/-- An alarm whose responses are executing (R433): its log record's number and the real-time count at its end. -/
structure AlarmRun where
  entry : Nat
  set : Nat
  done : Nat
  pending : Nat
  until_ : Nat
deriving DecidableEq, Repr

/-- The alarm controller (spec/18_tamper.md). -/
structure Alarm where
  /-- Causes whose condition is present or was within the last second (R432): bit c for cause c. -/
  present : Nat
  running : Option AlarmRun
  /-- The detector in its test window (R438), and the causes left in the round. -/
  testing : Option Nat
  /-- HEALTH_KICK was written within the last 10 ms (R439). -/
  kicked : Bool
  /-- A write to ENC_CFG that has not taken effect yet (R427). -/
  encPending : Option Word
  /-- Machines of R428 stopped in their safe state, by register number. -/
  stopped : Nat
deriving DecidableEq, Repr

/-! ### Host interface (spec/16_host_interface.md) -/

/-- The completion of a command (Table 16.6), but for PHASE, TAG and SQ_HEAD. -/
structure Completion where
  status : Nat
  code : Nat
  group : Nat
  op : Nat
  source : Nat
  r0 : Nat
  r1 : Nat
  r2 : Nat
  conts : List Byte
deriving DecidableEq, Repr

/-- A command fetched whole whose completion the pair owes (R385, R386). -/
structure Owed where
  order : Nat
  tag : BitVec 16
  group : Nat
  op : Nat
  /-- The slots that its completion may take; 0 when the completion is lost with the link (R402). -/
  maxSlots : Nat
  sqHead : Nat
  done : Option Completion
deriving DecidableEq, Repr

/-- A posted receive buffer (R395). -/
structure RxBuf where
  addr : Nat
  tag : BitVec 16
  len : Nat
deriving DecidableEq, Repr

/-- The run state of a ring pair beside its registers (R380 to R386, R397, R400). -/
structure Ring where
  tail : Nat
  cqHead : Nat
  tailWord : Word
  headWord : Word
  armed : Bool
  unsignalled : Nat
  /-- CQ slots written and not yet freed by the host (R382, R385). -/
  cqUsed : Nat
  /-- The indices have been reset since the pair last ran (R384). -/
  fresh : Bool
  owed : List Owed
  rxBufs : List RxBuf
  /-- Records were dropped since the last one written (R397). -/
  lost : Bool
deriving DecidableEq, Repr

/-- A ring pair with reset indices (R384). -/
def Ring.idle : Ring := ⟨0, 0, 0, 0, false, 0, 0, true, [], [], false⟩

/-- An event record (Table 16.13), before a ring gives it its phase. -/
structure EvRec where
  block : Nat
  code : Nat
  lost : Bool
  source : Nat
  sec : Nat
  ns : Nat
  object : Nat
  v0 : Nat
  v1 : Nat
  v2 : Nat
  conts : List Byte
deriving DecidableEq, Repr

/-- The host interface. -/
structure HostIf where
  rings : Tbl Ring
  /-- Records held while no running EVENT ring selects their block (R398). -/
  hold : List EvRec
  holdLost : Bool
  /-- Number of the next command fetched, over all rings (FENCE, Table 16.7). -/
  order : Nat
  /-- FENCE commands that wait for earlier ones, by ring and fetch order (Table 16.7). -/
  fences : List (Nat × Nat)
  /-- MSI-X table words and pending bits, by function and vector (R400). -/
  msix : Tbl (BitVec 128)
  pba : Tbl Nat
  /-- Token buckets of the exception reasons (R395), in units of 1/1,500,000 frame, and the cycle of the last refill. -/
  tokens : Tbl Nat
  tokenAt : Tbl Nat
  /-- The UCIe link has been lost and has not trained since (R402). -/
  linkLost : Bool
deriving DecidableEq, Repr

/-- What the device sends to the outside: bytes written to host memory, messages, frames, records, pulses. -/
inductive Out where
  | hostWrite (addr : Nat) (bytes : List Byte)
  | hostRead (addr len : Nat)
  | msix (fn : Fin 3) (vector : Nat)
  | readData (data : Word)
  | frame (p : Fin 96) (bytes : List Byte) (stomped : Bool)
  | fragment (p : Fin 96) (bytes : List Byte)
  | marker (p : Fin 96) (reason inPort : Nat)
  | cut (p : Fin 96)
  | mpacket (p : Fin 96) (respond : Bool)
  | lpi (p : Fin 96) (asleep : Bool)
  | lath (l : LathLink) (kind : Nat) (dst : Nat) (seq : Nat) (payload : List Byte)
  | forward (l : LathLink) (r : LathRec)
  | yield
  | pps (level : Bool)
  | tod (msg : List Byte)
  | crossbar (g : Nat) (s : Nat)
  | memory (r : Requester) (line : Nat) (data : Option (List Byte))
deriving DecidableEq, Repr

/-! ### Counters (spec/20_counters.md) -/

/-- One snapshot in a shadow bank (R467, R468). -/
structure Snapshot where
  seq : Nat
  sec : Nat
  ns : Nat
  cyc : Nat
  periodic : Bool
  dumped : Bool
  ev : Tbl Nat
  th : Tbl Nat
  stat : Tbl Nat
  blk : Tbl Nat
  ovf : Tbl Nat
  poison : List Nat
deriving DecidableEq, Repr

/-- Counters, snapshots, dumps and samplers. -/
structure Perf where
  ev : Tbl Nat
  evSeen : Tbl Nat
  th : Tbl Nat
  stat : Tbl Nat
  blk : Tbl Nat
  bank : Tbl (Option Snapshot)
  /-- The shadow bank a snapshot is being written to (R468). -/
  writing : Option Nat
  /-- The bank the snapshot view shows. -/
  view : Option Nat
  lastSeq : Nat
  /-- Snapshots lost since the last dump record (Table 20.5). -/
  dumpLost : Bool
  /-- The instant of a pending PERF_SNAP_AT (seconds, nanoseconds). -/
  snapAt : Option (Nat × Nat)
  /-- Samples posted in the current second, by sampler, and that second's first cycle. -/
  rate : Tbl Nat
  rateFrom : Tbl Nat
deriving DecidableEq, Repr

/-! ### Power, clocks, slices -/

/-- Power and slice-reset state beside the power registers (R478, R482, R489). -/
structure Power where
  /-- The slice whose reset is held until a rub-down pass ends (R489). -/
  held : Option Nat
  /-- Slices in the wake of Table 21.3. -/
  waking : List Nat
deriving DecidableEq, Repr

/-! ### Ports (spec/02_ports_and_mac.md) -/

/-- A preemptible frame in reassembly (R40). -/
structure Assembly where
  bytes : List Byte
  next : Nat
deriving DecidableEq, Repr

/-- What a port holds beside its registers. -/
structure PortSt where
  /-- Signal and block lock are held, or lost for less than DOWN_HOLD (R30). -/
  lock : Bool
  lockLost : Bool
  /-- Negotiation has resolved since it last started (R29). -/
  resolved : Bool
  /-- Training has completed since SEEK (Table 2.4). -/
  trained : Bool
  /-- Verify mPackets sent since entry to UP (R37). -/
  verifySent : Nat
  assembly : Option Assembly
  /-- TW_REQ in force, in microseconds, and the Tw of the sleep in progress, in nanoseconds (R44). -/
  tw : Nat
  twSleep : Nat
  /-- The core cycle from which the transmitter is quiet (TX_LPI_TIME, Table 2.8). -/
  quietAt : Option Nat
  /-- The core cycle at which a wake in progress completes (R42). -/
  wakeEnd : Option Nat
  /-- The last frame ended with a bad FCS, counted in this statistic, and its spoil marker has not been seen (R192). -/
  badFcs : Option Nat
deriving DecidableEq, Repr

/-- A port after reset. -/
def PortSt.idle : PortSt := ⟨false, false, false, false, 0, none, 0, 0, none, none, none⟩

/-! ### Classification tables (spec/03_forwarding.md) -/

/-- A loaded move register (R67): the entry, its source and destination, and whether each step is done. -/
structure Move where
  entry : BitVec 128
  src : Nat
  dst : Nat
deriving DecidableEq, Repr

/-- A queued learn request (R73). -/
structure LearnReq where
  fid : Nat
  mac : Nat
  port : Nat
deriving DecidableEq, Repr

/-- A difference found once by the background compare (R84). -/
structure Diff where
  table : Nat
  kind : Nat
  pos : Nat
  key : Nat
  shadow : Nat
deriving DecidableEq, Repr

/-- The five replicated tables, held once (R51), the replicas' hit bits (R52), and the table engine. -/
structure ClassSt where
  fdb : Tbl (BitVec 128)
  /-- Bit s of entry `pos`: the hit bit of position `pos` in the replica of slice s (R52). -/
  hits : Tbl Nat
  sid : Tbl (BitVec 512)
  stream : Tbl (BitVec 256)
  vlan : Tbl (BitVec 256)
  mcast : Tbl (BitVec 128)
  move : Option Move
  learnQ : List LearnReq
  bgcOpen : List Diff
  /-- A command started through host software's register face and not yet complete (R78): TABLE, OP, POS. -/
  face : Option (Nat × Nat × Nat)
  /-- Insertions that wait for the move register to clear (R69). -/
  waiting : List RingCmd
deriving DecidableEq, Repr

/-! ### Contexts (spec/06_security_contexts.md) -/

/-- A member of a flip set (R154): a SecY, named by port, with its target AN, or a GENERATE context with its generation. -/
inductive FlipMember where
  | secy (p : Nat) (an : Nat)
  | gen (n : Nat) (g : Nat)
deriving DecidableEq, Repr

/-- A flip set (R154, R155, R157): 0 IDLE, 1 ARMED, 2 FIRED, its NOT_BEFORE and fire instants (seconds, nanoseconds). -/
structure FlipSet where
  state : Nat
  notBefore : Nat × Nat
  fireAt : Nat × Nat
  armedLate : Bool
  members : List FlipMember
deriving DecidableEq, Repr

/-- An IDLE flip set without members. -/
def FlipSet.idle : FlipSet := ⟨0, (0, 0), (0, 0), false, []⟩

/-- A context fetch outstanding in a group (R145): the context and the frames that wait for it. -/
structure CtxFetch where
  ctx : Nat
  frames : List Nat
deriving DecidableEq, Repr

/-- Contexts, SCI map, caches and flip sets. -/
structure CtxSt where
  ctx : Tbl (BitVec 2048)
  /-- Pin of a context (R147, R148): bit 0 pinned, bit 1 CONTRACT_REF, bit 2 pinned by a command, bits [7:4] the port group. -/
  hold : Tbl Nat
  scm : Tbl (BitVec 128)
  secyTx : Tbl (BitVec 32)
  /-- Contexts resident in the cache of group g, most recently used first (R144, R146). -/
  cache : Tbl (List Nat)
  fetches : Tbl (List CtxFetch)
  flips : Tbl FlipSet
  leapHeld : Option Word
  /-- The takeover leap is still to be applied to a context before its first use (R159). -/
  leapDue : List Nat
deriving DecidableEq, Repr

/-! ### Key store (spec/09_key_store.md) -/

/-- A key slot (R204, R208): its attribute image and its key, 128-bit keys in the low half. -/
structure Slot where
  attr : BitVec 128
  key : BitVec 256
  /-- Filled by KEY_DERIVE from the root (R215). -/
  fromRoot : Bool
deriving DecidableEq, Repr

/-- Who waits for an unwrap (R206): frames, by identity, or a copy of a frame on a port. -/
structure Unwrap where
  slot : Nat
  slices : List Nat
  frames : List Nat
deriving DecidableEq, Repr

/-- The key store. -/
structure KeySt where
  slots : Tbl Slot
  /-- Context slots in on-die positions, most recently delivered first (R205, R207). -/
  lru : List Nat
  unwraps : List Unwrap
  /-- The number of the free value that is N_RESET, drawn by the TRNG at the last reset (R217). -/
  nReset : Nat
  /-- The selected root is unsealed and the keys formed from it exist (R214, R217). -/
  rootUp : Bool
  /-- The TRNG's continuous health tests fail (R225), and the KEY_GENERATE commands that wait for them. -/
  trngBad : Bool
  generating : List RingCmd
deriving DecidableEq, Repr

/-! ### Timing (spec/10_time_and_gates.md, R230 to R242) -/

/-- A pending two-step residence (R239): instance, source port identity, sequence identifier, residence in nanoseconds. -/
structure Residence where
  inst : Nat
  source : Nat
  seq : Nat
  time : Nat
deriving DecidableEq, Repr

/-- The timing unit beside the working clock and its registers. -/
structure TimeSt where
  /-- Consecutive updates within 100 ns (R233). -/
  good : Nat
  /-- The last PPS_IN edge in nanoseconds of the working clock, and the seconds that TOD_IN gave it (R241, R242). -/
  edge : Option Nat
  label : Option Nat
  /-- PPS_OUT is high (R240), and the instant of its last rise. -/
  pps : Bool
  rise : Option Nat
  /-- PTP data sets: members by instance, port and managementId (R234). -/
  members : Tbl (List Byte)
  /-- Two-step residences of each egress port, oldest first (R239). -/
  pendingRes : Tbl (List Residence)
deriving DecidableEq, Repr

/-- The timing unit after reset. -/
def TimeSt.idle : TimeSt := ⟨0, none, none, false, none, [], []⟩

/-! ### Gates, classes and starts (R243 to R261) -/

/-- One bank of a gate list (R247): its parameters, times in nanoseconds, and its entries. -/
structure GateBank where
  base : Nat
  cycle : Nat
  ext : Nat
  length : Nat
  entries : Tbl (BitVec 64)
deriving DecidableEq, Repr

/-- An empty bank. -/
def GateBank.empty : GateBank := ⟨0, 0, 0, 0, []⟩

/-- A committed or reserved transmit start (R251, R253): its MAC instant, the contract that reserved it, the copy that took
it, by frame, and whether it has been committed. -/
structure Start where
  mac : Nat
  contract : Option Nat
  taken : Option Nat
  committed : Bool
  len : Nat
deriving DecidableEq, Repr

/-- The scheduling state of a port beside its registers. -/
structure SchedSt where
  bank0 : GateBank
  bank1 : GateBank
  /-- The change time of a scheduled change (R250). -/
  change : Option Nat
  /-- The administrative bank has been written since its last change (R333). -/
  written : Bool
  /-- The cycle in progress: its start, the next entry and that entry's instant. -/
  cycleStart : Nat
  idx : Nat
  nextAt : Nat
  /-- Gate states in force: bit c open for class c; none while no list has set them (R247). -/
  gates : Option Nat
  /-- The MAC merge hold is asserted (R249). -/
  hold : Bool
  starts : List Start
  /-- Credits of shaped classes in bits times 3,000,000 (R254), and the core cycle of their last update. -/
  credit : Tbl Int
  creditAt : Nat
  /-- Virtual times by class, and finish tags by 256 × class + group (R255), in units of 1/tagScale byte. -/
  vtime : Tbl Nat
  ftag : Tbl Nat
deriving DecidableEq, Repr

/-- A port's scheduling state after reset. -/
def SchedSt.idle : SchedSt := ⟨.empty, .empty, none, false, 0, 0, 0, none, false, [], [], 0, [], []⟩

/-! ### Stream filters and meters (R256, R257) -/

/-- Filters and meters: entries, filter counters (8 × filter + index in the order of Table 10.10), bucket fills
(2 × meter committed, + 1 excess) in units of 1/120,000 byte and the core cycle of their last refill. -/
structure FilterSt where
  flt : Tbl (BitVec 64)
  ctr : Tbl Nat
  mtr : Tbl (BitVec 128)
  fill : Tbl Nat
  fillAt : Tbl Nat
  /-- The tunnel header table (Table 5.7). -/
  tun : Tbl (BitVec 1024)
deriving DecidableEq, Repr

/-- Empty filters, meters and tunnel headers. -/
def FilterSt.empty : FilterSt := ⟨[], [], [], [], [], []⟩

/-! ### Latency contracts (spec/11_latency_contracts.md) -/

/-- What an accepted contract depends on (R269): forwarding keys, contexts, protected maximum by egress port, and the egress
ports with a cut-through copy. -/
structure CtUse where
  keys : List Nat
  ctxs : List Nat
  lens : List (Nat × Nat)
  cut : List Nat
deriving DecidableEq, Repr

/-- A contract that depends on nothing. -/
def CtUse.none_ : CtUse := ⟨[], [], [], []⟩

/-- Contracts: images, what the accepted ones depend on, and the arrivals seen in the window in progress, by 2 × contract + ingress port (0 the first, 1 the
second): the window's number and its frames (R271). -/
structure ContractSt where
  ct : Tbl (BitVec 1024)
  use : Tbl CtUse
  seen : Tbl (Nat × Nat)
deriving DecidableEq, Repr

/-! ### Stream redundancy and Stencil (spec/12_stream_redundancy.md) -/

/-- A sample that waits for its partner (R291). -/
structure Sample where
  smp : Nat
  values : List Int
  bad : Nat
  sec : Nat
  ns : Nat
deriving DecidableEq, Repr

/-- A comparison run of one channel (R291): consecutive exceeding and consecutive agreeing samples, whether it diverges, ACC. -/
structure Run where
  exceed : Nat
  agree : Nat
  diverged : Bool
  acc : Nat
deriving DecidableEq, Repr

/-- A channel that has seen no exceeding sample. -/
def Run.idle : Run := ⟨0, 0, false, 0⟩

/-- What a Stencil stream holds beside its entry: last, bad channels, runs and ACC by channel, waiting samples, counters in
the order of R293, and the second in which EARLY, LATE and PAIR_MISS were last posted. -/
structure StnDyn where
  last : Option Nat
  bad : Nat
  runs : Tbl Run
  waiting : List Sample
  ctr : Tbl Nat
  posted : Tbl Nat
deriving DecidableEq, Repr

/-- A Stencil stream with nothing examined yet. -/
def StnDyn.idle : StnDyn := ⟨none, 0, [], [], [], []⟩

/-- A queued ASDU (R285): Stencil stream, smpCnt, smpSynch, the bytes of seqData, the ingress timestamp. -/
structure Asdu where
  stn : Nat
  smp : Nat
  synch : Nat
  data : List Byte
  sec : Nat
  ns : Nat
deriving DecidableEq, Repr

/-- Recovery contexts and the Stencil engine. -/
structure RecoverySt where
  src : Tbl (BitVec 512)
  stn : Tbl (BitVec 256)
  dyn : Tbl StnDyn
  queue : List Asdu
deriving DecidableEq, Repr


/-! ### Frames in the device (spec/01_architecture.md, spec/08_wet_edge.md) -/

/-- The tag check that a received frame undergoes: none; MACsec under a context with the recovered packet number and the E
bit (R102); a profile under a context, its generation and counter (R122). -/
inductive Guard where
  | clear
  | macsec (ctx pn : Nat) (enc : Bool)
  | profile (ctx gen cnt : Nat)
deriving DecidableEq, Repr

/-- What counts a frame: a block counter, a port statistic, a counter of a context, a filter counter, or nothing. -/
inductive Tally where
  | quiet
  | blk (i : Nat)
  | stat (p i : Nat)
  | ctx (n j : Nat)
  | flt (k j : Nat)
deriving DecidableEq, Repr

/-- A received frame until its last copy has left. -/
structure FrameRec where
  id : Nat
  port : Nat
  bytes : List Byte
  express : Bool
  /-- The ingress timestamp (R236). -/
  sec : Nat
  ns : Nat
  vid : Nat
  pcp : Nat
  /-- The stream handle, where its entry is valid (R58, R61). -/
  handle : Option Nat
  guard : Guard
  /-- The frame is discarded before decryption; what counts it at the end of reception (R85, R102). -/
  drop : Option Tally
  /-- An uncontrolled frame, for PF2 (R88). -/
  uncontrolled : Bool
  /-- The frame is trapped to PF2 by RSV_ACTION, or discarded by it (R56). -/
  trap : Bool
  reserved : Bool
  /-- The context or slot that the frame waits for (R145, R206). -/
  waitCtx : Option Nat
  waitKey : Option Nat
  /-- The provisional charge of the meter: meter, colour 0 green, 1 yellow, 2 red (R195, R257). -/
  charge : Option (Nat × Nat)
  /-- The contract that the frame conforms to, or fails to (R271). -/
  contract : Option Nat
  nonconf : Option Nat
  /-- Counters and events that count at the verdict or the end of reception (R85, R462). -/
  later : List Tally
  laterEv : List Nat
  /-- The frame arrived in an arrival window of its contract, among the first BURST (R271). -/
  window : Bool
  /-- The sequence number and the recovery decision that binds (R281, R282): passed, or discarded; with `restart`, outside
  the window. -/
  seq : Option Nat
  passed : Bool
  restart : Bool
  /-- Held whole behind an earlier copy (R21). -/
  held : Bool
  wet : Bool
  /-- The forwarding lookup is complete; the egress copies have been decided; the destination entry has TRAP (R65, R396). -/
  looked : Bool
  decided : Bool
  fdbTrap : Bool
  /-- The end of reception: 0 good, otherwise the port statistic of the failure (Table 2.5). -/
  ended : Option Nat
  /-- The frame without its protection, the secure-data octets, and the outcome of the tag check. -/
  plain : List Byte
  secured : Nat
  tagOk : Bool
  /-- A cipher core fault met the operation (R174); the context was quarantined while the frame was wet (R193); the MAC
  merge statistic of a failed reassembly (R40). -/
  fault : Bool
  lost : Bool
  asm : Nat
  /-- The verdict: 0 set, otherwise the spoil reason of Table 8.4. -/
  verdict : Option Nat
deriving DecidableEq, Repr

/-- An egress copy of a frame. -/
structure Copy where
  no : Nat
  /-- The received frame that it comes from, or the TX ring and tag of a frame of PF2 (R394). -/
  frame : Option Nat
  host : Option (Nat × Nat)
  inPort : Nat
  /-- The frame at the egress slice, before profile protection and MACsec, without FCS. -/
  bytes : List Byte
  handle : Option Nat
  seq : Option Nat
  contract : Option Nat
  /-- The ingress timestamp in nanoseconds of the working clock. -/
  inAt : Nat
  wet : Bool
  cut : Bool
  ready : Bool
  deep : Bool
  /-- The GENERATE context (R120). -/
  gen : Option Nat
  /-- Waits for its context (R145) or for extra work (R173). -/
  waitCtx : Bool
  waitExtra : Bool
  unctrl : Bool
  /-- The MAC instant of the reservation it holds (R252). -/
  start : Option Nat
  /-- Fair group and start tag (R255). -/
  group : Nat
  tag : Nat
deriving DecidableEq, Repr

/-- A frame on the line of a port, or the rest of a preempted one. -/
structure Sending where
  copy : Copy
  cls : Nat
  /-- The bytes from destination address to the last byte before the FCS. -/
  wire : List Byte
  /-- Bytes sent in earlier fragments, and of this one. -/
  sent : Nat
  part : Nat
  final : Bool
  /-- The MAC start in nanoseconds, and the end that the fit check found (R258). -/
  begun : Nat
  until_ : Option Nat
  /-- Computed and dropped at the MAC (R297). -/
  quiet : Bool
  /-- The tail has been decided (R190): 0 unchanged, otherwise the spoil reason. -/
  tail : Option Nat
  /-- The transmit SA, the secure-data octets and whether they are encrypted (R107); the GENERATE context (R124). -/
  sa : Option (Nat × Nat × Bool)
  prf : Option Nat
deriving DecidableEq, Repr

/-- The line of a port: the frame being sent and the preempted frame that waits (R39). -/
structure LineSt where
  now : Option Sending
  rest : Option Sending
deriving DecidableEq, Repr

/-- An idle line. -/
def LineSt.idle : LineSt := ⟨none, none⟩

/-- An operation of extra work (R172): for a copy, or for a received frame. -/
inductive Extra where
  | copy (no : Nat)
  | frame (id : Nat)
deriving DecidableEq, Repr

/-- Twin digests of a port (R310): the cycle in progress with its rank, sum and count, and finished cycles, newest first:
start, sum, count. -/
structure TwinSt where
  cycle : Nat
  rank : Nat
  sum : Nat
  count : Nat
  own : List (Nat × Nat × Nat)
  /-- The partner's digests of cycles that this member has not finished (R311). -/
  peer : List (Nat × Nat × Nat)
  /-- The second in which DIVERGE was last posted, plus one (R311). -/
  posted : Nat
deriving DecidableEq, Repr

/-- No digest formed. -/
def TwinSt.idle : TwinSt := ⟨0, 0, 0, 0, [], [], 0⟩

/-- Frames, queues by 8 × port + class, lines, extra work by slice, and digests. -/
structure PathSt where
  serial : Nat
  frames : List FrameRec
  queues : Tbl (List Copy)
  line : Tbl LineSt
  extra : Tbl (List Extra)
  twin : Tbl TwinSt
deriving DecidableEq, Repr

/-- No frame in the device. -/
def PathSt.empty : PathSt := ⟨0, [], [], [], [], []⟩
/-! ### Lath links: coat pairs and domains (spec/13_coat_pairs.md, spec/14_lath_domains.md) -/

/-- A record awaiting its ACK (R324, R338): its sequence number, target, kind, payload, the retransmissions made, and
whether it has been acknowledged and now awaits a response. -/
structure Relay where
  seq : Nat
  dst : Nat
  kind : Nat
  payload : List Byte
  tries : Nat
  acked : Bool
  /-- For a relayed command: the ring and the fetch order of its owed completion. -/
  owner : Option (Nat × Nat)
deriving DecidableEq, Repr

/-- A broadcast command that waits for the devices of a map (R326). -/
structure Broadcast where
  ring : Nat
  order : Nat
  waiting : Nat
  failed : Nat
  code : Nat
  codeFrom : Nat
  reply : Completion
deriving DecidableEq, Repr

/-- A screed record (Table 14.1): epoch, SCREED_ACT, SCREED_STG, STAGE_COUNT. -/
structure Screed where
  epoch : Nat
  act : BitVec 128
  stg : BitVec 128
  count : Nat
deriving DecidableEq, Repr

/-- An activation that the hawk prepares, until it takes place (R336 to R339): the instant, the devices expected and their values, the devices
that have reported, the first bad outcome and the devices concerned, whether ACTIVATE has been sent and with which
sequence number, the devices that have acknowledged it, and the owed completion of DOM_PREPARE. -/
structure Prep where
  t : Nat
  devices : Nat
  stg : Tbl (BitVec 128)
  reported : Nat
  code : Nat
  bad : Nat
  sent : Option Nat
  acked : Nat
  owner : Option (Nat × Nat)
deriving DecidableEq, Repr

/-- Domain and relay state beside the domain registers. -/
structure DomSt where
  seq : Nat
  relays : List Relay
  broadcasts : List Broadcast
  /-- The stage journal (R333): group, operation and command, in order. -/
  journal : List (Nat × Nat × RingCmd)
  frozen : Bool
  /-- Hop distances (R319): 2j to device j on ring 0, 2j + 1 on ring 1; 0 not known. -/
  hops : Tbl Nat
  /-- Sender and sequence number of the records acted on, newest first (R322). -/
  heard : List (Nat × Nat)
  /-- On the hawk: the load result that a member last reported, plus one (R328). On every device: the operational state last
  heard, plus one. -/
  loads : Tbl Nat
  states : Tbl Nat
  /-- Another device carries this device's index, or two others share one (R319). -/
  dup : Bool
  /-- HAWK_CLAIM is set in this device's DISCOVER records (R320). -/
  claiming : Bool
  /-- The hawk's index, plus one, as its records show it; 0 unknown. -/
  hawk : Nat
  /-- The latest screed record of each device, its consecutive mismatches or absences, and the intervals without any (R335). -/
  screeds : Tbl (Option Screed)
  mismatch : Tbl Nat
  clean : Nat
  /-- A mismatch has been found in the present interval. -/
  soiled : Bool
  /-- Devices heard in the present interval. -/
  fresh : Nat
  expectMap : Nat
  expect : Tbl (BitVec 128)
  expectOld : Tbl (BitVec 128)
  prep : Option Prep
  /-- On every device: the instant of the PREPARE in progress, and the instant at which it will activate (R337, R339). -/
  prepared : Option Nat
  armed : Option Nat
  /-- Length of the image that FW_START announced (R328). -/
  fwLen : Nat
  /-- Relay-window reads that wait (R325). -/
  reads : List (Nat × Nat)
deriving DecidableEq, Repr

/-- A device that has heard nothing. -/
def DomSt.idle : DomSt :=
  ⟨0, [], [], [], false, [], [], [], [], false, false, 0, [], [], 0, false, 0, 0, [], [], none, none, none, 0, []⟩

/-- A planned handover (R308): the instant, whether the full checkpoint has begun, and on the active member the owed
completion of PAIR_DEMOTE. -/
structure Handover where
  t : Nat
  begun : Bool
  owner : Option (Nat × Nat)
deriving DecidableEq, Repr

/-- Coat-pair state beside the pair registers. -/
structure PairSt where
  /-- ACTIVE_SINCE of this member and of its partner, in nanoseconds of the working clock (R302). -/
  since : Nat
  partnerSince : Nat
  /-- Consecutive misses and consecutive good heartbeats of paths A and B (R303). -/
  missA : Nat
  missB : Nat
  goodA : Nat
  goodB : Nat
  /-- Since entry to RUN, an authenticated message has arrived; one that failed authentication has (R301). -/
  heard : Bool
  failed : Bool
  /-- START_WAIT has not passed since entry to RUN (R301). -/
  waiting : Bool
  /-- The second, plus one, in which TIME_SKEW was last posted (R306). -/
  skewAt : Nat
  /-- The first MAC start that a member may transmit on its twin-held ports (R304, R308). -/
  txFrom : Nat
  handover : Option Handover
  /-- Refill (R312, R313): contexts, slots, SCI map entries and recovery contexts written so far. -/
  gotCtx : List Nat
  gotSlots : List Nat
  gotScm : List Nat
  gotSrc : List Nat
deriving DecidableEq, Repr

/-- A member that has heard nothing. -/
def PairSt.idle : PairSt := ⟨0, 0, 0, 0, 0, 0, false, false, false, 0, 0, none, [], [], [], []⟩

/-! ### Stacked memory (spec/15_stacked_memory.md) -/

/-- A Skim pass (R365, R366): the regions with their new key IDs, in region order, and whether R370 has stopped it. -/
structure Skim where
  ids : List (Nat × Nat)
  stopped : Bool
deriving DecidableEq, Repr

/-- The stack, its tree and the scrubber. -/
structure MemSt where
  /-- Plaintext lines of the regions whose contents no table of the state holds; a line that nothing wrote holds the zeros
  of the Strip pass (R368). -/
  data : Tbl (BitVec 512)
  /-- Poisoned lines as half-open ranges of line numbers (R357). -/
  poison : List (Nat × Nat)
  /-- Tree nodes (Table 15.4) by node number, levels 1, 2 and 3 in the order of Table 15.3. -/
  nodes : Tbl (BitVec 304)
  /-- The root counters (R350). -/
  root : Tbl Nat
  majorHigh : Nat
  /-- Level 1 and 2 nodes in the node cache, most recently used first, and those of them that are dirty (R352). -/
  cached : List Nat
  dirty : List Nat
  /-- Nodes lost and not yet rebuilt (R359). -/
  lost : List Nat
  skim : Option Skim
  /-- The generation of the key set of each key ID (Table 9.6, R365). -/
  gen : Tbl Nat
  /-- A raw access has been made since reset: PRIV regions are closed (R370). -/
  raw : Bool
  /-- The on-die root is unusable (Table 15.6). -/
  rootBad : Bool
  /-- Event records posted in the second, by event bit, and that second (R371). -/
  posted : Tbl Nat
  postedAt : Tbl Nat
deriving DecidableEq, Repr

/-- The stack as the Strip pass leaves it. -/
def MemSt.stripped : MemSt := ⟨[], [], [], [], 0, [], [], [], none, [], false, false, [], []⟩

/-! ### Rub-down (spec/19_rub_down.md) -/

/-- A rub-down pass beside RUB_STATUS. -/
structure RubSt where
  /-- The pass tests in place, without a hand-over (R443). -/
  inPlace : Bool
  /-- The mirror copy of MIRROR or RETURN: 0 not begun, 1 running, 2 complete, and the instant at which it completed (R446). -/
  copy : Nat
  copiedAt : Nat
  /-- The result that the pass will post (Table 19.8). -/
  result : Nat
  /-- Another slice to be retired when RETURN ends (Table 19.3), and the slice that is being retired (R175, R454). -/
  other : Option Nat
  retiring : Option Nat
  /-- Retired slices. -/
  retired : List Nat
  /-- FAULT or PURGE has stopped the pass where it stands (Table 19.3). -/
  halted : Bool
deriving DecidableEq, Repr

/-- No pass. -/
def RubSt.idle : RubSt := ⟨false, 0, 0, 0, none, none, [], false⟩

/-! ### Reset values -/

/-- The reset value of the fields of a row (R7). -/
def rowReset (r : RegRow) : Nat := r.fields.foldl (fun a f => a + f.reset * 2 ^ f.lo) 0

/-- Whether an offset is an instance of a replicated register at `base`. -/
def isInstance (off : Nat) : List (Nat × Nat) → Bool
  | [] => off == 0
  | [(s, c)] => off % s == 0 && decide (off / s < c)
  | (s, c) :: rest => decide (off / s < c) && isInstance (off % s) rest

/-- The row of the register at an offset of PF0 BAR0. -/
def rowOf (rows : List RegRow) (addr : Nat) : Option RegRow :=
  rows.find? (fun r => decide (r.base ≤ addr) && isInstance (addr - r.base) r.reps)

/-- What an unlisted register reads: its reset value; 0 where no table assigns the offset (R8, R513). -/
def regReset (addr : Nat) : Word :=
  match rowOf allRows addr with
  | some r => BitVec.ofNat 32 (rowReset r)
  | none => 0


/-- The regions of Tables 15.1 and 15.2, in MiB: base and size. -/
def memRegions (t : Bool) : List (Nat × Nat) :=
  [(0, 16), (16, 64), (80, 16), (96, 64), (160, 8)] ++
    (if t then [(168, 1824), (1992, 64), (2056, 192), (2248, 14136)] else [(168, 64), (232, 64), (296, 192), (488, 15896)])

/-- The key ID of a region after reset (Table 15.1); TAG has none and reads 0. -/
def memKeyId (k : Nat) : Nat := if k < 5 then k else if k = 5 then 0 else k - 1

/-- The class of a region: 0 C, 1 T, 2 S, 3 not encrypted (R346, R347, Table 15.18). -/
def memClass (t : Bool) (k : Nat) : Nat := if k < 5 then 2 else if k = 5 then 3 else if k = 8 then b2n t else 1

/-- The region registers of a layout after reset (Table 15.18), stored over a register file. -/
def memLayout (t : Bool) (regs : Tbl Word) : Tbl Word :=
  ((memRegions t).zipIdx).foldl (fun r (e, k) =>
    Tbl.setD regReset (Tbl.setD regReset r (R.MEM_RGN_POS k) (BitVec.ofNat 32 (e.2 * 2 ^ 16 + e.1)))
      (R.MEM_RGN_ATTR k) (BitVec.ofNat 32 (memKeyId k * 16 + b2n (decide (k < 5)) * 8 + memClass t k))) regs
/-- The state of the block. -/
structure State where
  op : OpState
  /-- The straps as last sampled (R3). -/
  straps : Straps
  /-- The register words of PF0 BAR0 by offset; an unlisted register reads its reset value. -/
  regs : Tbl Word
  boot : Boot
  bat : Battery
  alarm : Alarm
  host : HostIf
  perf : Perf
  power : Power
  ports : Tbl PortSt
  cls : ClassSt
  ctx : CtxSt
  key : KeySt
  dom : DomSt
  pair : PairSt
  mem : MemSt
  rub : RubSt
  time : TimeSt
  sched : Tbl SchedSt
  flt : FilterSt
  ct : ContractSt
  rcv : RecoverySt
  path : PathSt
  /-- Core cycles since reset (R459, R480). -/
  cyc : Nat
  /-- The working clock (R230): seconds, nanoseconds, 2^-16 nanoseconds, and the residue below. -/
  sec : Nat
  ns : Nat
  frac : Nat
  res : Nat
  /-- The model's own counter of free values used so far. -/
  free : Nat
  /-- What the device has sent outside, oldest first. -/
  out : List Out
  /-- The commands that wait, first in, first out. -/
  pending : List Instr
deriving DecidableEq, Repr

/-- The straps of a device whose strap pins are all low. -/
def strapsLow : Straps := ⟨0, false, 0, false, false⟩

/-- Boot state after reset: unburned fuses, nothing loaded. -/
def Boot.cold : Boot := ⟨0, [], [], none, none, none, false, false, false, false⟩

/-- The battery domain as power first finds it: VBAT and core power present, all memory zero. -/
def Battery.fresh : Battery := ⟨true, true, 0, [], [], [], 0, 0, 0, 0, 0, 0, 0, 0, 0, none⟩

/-- The alarm controller after reset. -/
def Alarm.idle : Alarm := ⟨0, none, none, false, none, 0⟩

/-- The host interface after reset: every pair disabled with reset indices (R384). -/
def HostIf.idle : HostIf := ⟨[], [], false, 0, [], [], [], [], [], false⟩

/-- The counters after reset: all zero (R474). -/
def Perf.idle : Perf := ⟨[], [], [], [], [], [], none, none, 0, false, none, [], []⟩

/-- Power state after reset. -/
def Power.idle : Power := ⟨none, []⟩

/-- Empty tables (Table 21.8). -/
def ClassSt.empty : ClassSt := ⟨[], [], [], [], [], [], none, [], [], none, []⟩

/-- No context installed (R139). -/
def CtxSt.empty : CtxSt := ⟨[], [], [], [], [], [], [], none, []⟩

/-- An empty key store: no slot filled. -/
def KeySt.empty : KeySt := ⟨[], [], [], 0, false, false, []⟩

/-- The state right after a power-on reset is released: ROM (R486, R488). -/
def State.reset : State where
  op := .rom
  straps := strapsLow
  regs := memLayout false []
  boot := .cold
  bat := .fresh
  alarm := .idle
  host := .idle
  perf := .idle
  power := .idle
  ports := []
  cls := .empty
  ctx := .empty
  key := .empty
  dom := .idle
  pair := .idle
  mem := .stripped
  rub := .idle
  time := .idle
  sched := []
  flt := .empty
  ct := ⟨[], [], []⟩
  rcv := ⟨[], [], [], []⟩
  path := .empty
  cyc := 0
  sec := 0
  ns := 0
  frac := 0
  res := 0
  free := 0
  out := []
  pending := []

end Sys2Proof.Machine
end

