-- ==== Sys2Proof/Machine/Ops.lean ====
section
/-!
DEFINITION. The named operations that every command's meaning is built from: registers and fields, counters, events,
completions, free values, time.
-/
namespace Sys2Proof.Machine

/-- The outcome of a command that always has its effect. -/
abbrev Res := Host.Outcome State Fault Refusal

/-! ### Registers -/

/-- The stored word of a register (R7). -/
def State.reg (s : State) (a : Nat) : Word := Tbl.getD regReset s.regs a

/-- The state with a register word stored. -/
def State.setReg (s : State) (a : Nat) (w : Word) : State := { s with regs := Tbl.setD regReset s.regs a w }

/-- The stored value of a field. -/
def State.fld (s : State) (f : Fld) : Nat := natBits (s.reg f.addr).toNat f.hi f.lo

/-- The state with a field stored. -/
def State.put (s : State) (f : Fld) (v : Nat) : State :=
  s.setReg f.addr (BitVec.ofNat 32 (natPut (s.reg f.addr).toNat f.hi f.lo v))

/-- Whether a one-bit field is 1. -/
def State.on (s : State) (f : Fld) : Bool := s.fld f == 1

/-- A function of the state applied when a condition holds. -/
def State.when (s : State) (c : Bool) (f : State → State) : State := if c then f s else s

/-- A function of the state applied for each element of a list, in order. -/
def State.each {α : Type} (s : State) (l : List α) (f : α → State → State) : State := l.foldl (fun t a => f a t) s

/-- Something sent to the outside. -/
def State.emit (s : State) (o : Out) : State := { s with out := s.out ++ [o] }

/-- The next free value of `w` bits, and the state after drawing it. -/
def State.draw (s : State) (w : Nat) : BitVec w × State := (Config.freeValue s.free w, { s with free := s.free + 1 })

/-! ### Configuration (R2, R3) -/

/-- A bit range of the fuse array (Table 17.6). -/
def State.fuse (s : State) (hi lo : Nat) : Nat := getF s.boot.fuses ⟨hi, lo⟩

/-- The number of bits set among the low `n` bits. -/
def popCount (v n : Nat) : Nat := ((List.range n).filter (fun i => v.testBit i)).length

/-- The grade is CLN-2496: five or more GRADE fuses burned (Table 17.6). -/
def State.grade2496 (s : State) : Bool := decide (5 ≤ popCount (s.fuse 135 128) 8)

/-- The configuration: 0 solo, 1 coat pair, 2 domain (Table 0.2). -/
def State.config (s : State) : Nat := s.straps.cfg.val

/-- The device index that event records carry (Table 16.13): the domain index, 0 outside a domain. -/
def State.index (s : State) : Nat := if s.config = 2 then s.straps.domIdx.val else 0

/-- The device index that completions carry: 0x7E outside a domain (Table 16.6). -/
def State.source (s : State) : Nat := if s.config = 2 then s.straps.domIdx.val else 0x7E

/-- The life-cycle state: the highest group of LC fuses with any bit burned (R418). -/
def lcOf (lc : Nat) : Nat :=
  if natBits lc 39 32 ≠ 0 then 5 else if natBits lc 31 24 ≠ 0 then 4 else if natBits lc 23 16 ≠ 0 then 3
  else if natBits lc 15 8 ≠ 0 then 2 else if natBits lc 7 0 ≠ 0 then 1 else 0

/-- The code of the current life-cycle state (Table 9.2). -/
def State.lc (s : State) : Nat := lcOf (s.fuse 39 0)

/-- The rights of DEBUG_POLICY in the current life-cycle state (R420). -/
def State.debugRights (s : State) : Nat := s.fuse (4 * s.lc + 43) (4 * s.lc + 40)

/-- The fused anti-rollback version (R415). -/
def State.fusedArb (s : State) : Nat := popCount (s.fuse 127 64) 64

/-- Owner hashes are fused (Table 17.13): either field is non-zero, so that a burn cut short counts (R487). -/
def State.ownerFused (s : State) : Bool := s.fuse 1279 1024 ≠ 0 || s.fuse 1023 768 ≠ 0

/-! ### Time (R230) -/

/-- The working clock in whole nanoseconds. -/
def State.now (s : State) : Nat := s.sec * 1000000000 + s.ns

/-- An instant given as 6 bytes of seconds and then 4 bytes of nanoseconds, little-endian (Table 16.7), in nanoseconds. -/
def instantOf (bs : List Byte) : Nat := leAt bs 0 6 * 1000000000 + leAt bs 6 4

/-- The 10 bytes of an instant (Table 16.7). -/
def instantBytes (t : Nat) : List Byte := leBytes 6 (t / 1000000000) ++ leBytes 4 (t % 1000000000)

/-! ### Steering (R10 to R12) -/

/-- The float slice, S12 (R10). -/
def floatSlice : Nat := 12

/-- The slice that serves port group `g`: its own, or the float slice while the group is carried (R10, R12). -/
def State.sliceOf (s : State) (g : Nat) : Nat := if s.fld F.RUB_STATUS.CARRIED = g then floatSlice else g

/-- The slice that serves a port. -/
def State.portSlice (s : State) (p : Nat) : Nat := s.sliceOf (p / 8)

/-- The slice on which the received frames of a port are worked: during DRAIN, the tested slice (R447). -/
def State.inSlice (s : State) (p : Nat) : Nat :=
  if s.fld F.RUB_STATUS.PHASE = 3 && s.fld F.RUB_STATUS.CARRIED = p / 8 then p / 8 else s.portSlice p

/-- A slice reset of the slice that serves a port runs (R489). -/
def State.sliceResets (s : State) (p : Nat) : Bool :=
  s.on F.RST_STATUS.SLICE_BUSY && !s.on F.RST_STATUS.SLICE_HELD && s.fld F.RST_STATUS.SLICE == s.portSlice p

/-! ### Rings: writing to a completion ring (R383, R397, R400) -/

/-- The run state of ring pair `n`. -/
def State.ring (s : State) (n : Nat) : Ring := Tbl.getD (fun _ => Ring.idle) s.host.rings n

/-- The state with the run state of ring pair `n` replaced. -/
def State.setRing (s : State) (n : Nat) (r : Ring) : State :=
  { s with host := { s.host with rings := Tbl.setD (fun _ => Ring.idle) s.host.rings n r } }

/-- The number of CQ slots of pair `n` (R381). -/
def State.cqSize (s : State) (n : Nat) : Nat := 2 ^ s.fld (F.RING_CFG.CQ_ORDER n)

/-- The number of SQ slots of pair `n` (R381). -/
def State.sqSize (s : State) (n : Nat) : Nat := 2 ^ s.fld (F.RING_CFG.SQ_ORDER n)

/-- Free CQ slots of pair `n` (R385). -/
def State.cqFree (s : State) (n : Nat) : Nat := s.cqSize n - (s.ring n).cqUsed

/-- Pair `n` runs. -/
def State.running (s : State) (n : Nat) : Bool := s.on (F.RING_STATUS.RUNNING n)

/-- The kind of pair `n` (Table 16.4). -/
def State.kind (s : State) (n : Nat) : Nat := s.fld (F.RING_CFG.KIND n)

/-- The vector of a function as the index into the MSI-X tables. -/
def vecIndex (fn v : Nat) : Nat := 128 * fn + v

/-- Send the MSI-X message of a vector, or set its pending bit while the vector is masked (R400). -/
def State.message (s : State) (fn v : Nat) : State :=
  let e := Tbl.getD (fun _ => (2 ^ 96 : BitVec 128)) s.host.msix (vecIndex fn v)
  if getF e ⟨96, 96⟩ = 1 then { s with host := { s.host with pba := Tbl.setN s.host.pba (vecIndex fn v) 1 } }
  else s.emit (.msix (Fin.ofNat 3 fn) v)

/-- Signal pair `n` when it is armed and enough records stand unsignalled (R400). -/
def State.signal (s : State) (n : Nat) : State :=
  let r := s.ring n
  if r.armed && (s.fld (F.RING_COAL.COAL_TIME n) = 0 || decide (s.fld (F.RING_COAL.COAL_CNT n) ≤ r.unsignalled)) then
    (s.setRing n { r with armed := false, unsignalled := 0 }).message (s.fld (F.RING_CFG.FUNC n)) (s.fld (F.RING_CFG.VECTOR n))
  else s

/-- The host address of CQ slot `i` of pair `n`. -/
def State.cqSlot (s : State) (n i : Nat) : Nat :=
  s.fld (F.CQ_BASE_HI.ADDR n) * 2 ^ 32 + s.fld (F.CQ_BASE_LO.ADDR n) * 2 ^ 12 + 32 * i

/-- Set a sticky overflow bit. -/
def State.bitOnly (s : State) (r b : Nat) : State := s.setReg r (s.reg r ||| BitVec.ofNat 32 (2 ^ b))

/-- The event counter of R459 counts one occurrence of event `e`: in LEVEL mode always, in EDGE mode only when the cycle
before held none (R461). A wrap sets its bit through `ovf` (R464). -/
def State.countWith (ovf : State → Nat → Nat → State) (s : State) (e : Nat) : State :=
  let edge := natBit (s.reg (R.PERF_MODE (e / 32))).toNat (e % 32)
  let seen := Tbl.atN s.perf.evSeen e
  let adds := !edge || seen == 0 || decide (seen < s.cyc)
  let s1 := { s with perf := { s.perf with evSeen := Tbl.setN s.perf.evSeen e (s.cyc + 1) } }
  if !adds then s1
  else
    let v := Tbl.atN s.perf.ev e + 1
    let s2 := { s1 with perf := { s1.perf with ev := Tbl.setN s1.perf.ev e (v % 2 ^ 48) } }
    if v = 2 ^ 48 then ovf s2 (R.PERF_OVF (e / 32)) (e % 32) else s2

/-- Block counter `i` adds `n` (R464): it wraps at 2^48 and sets its bit through `ovf`. -/
def State.blkAddWith (ovf : State → Nat → Nat → State) (s : State) (i n : Nat) : State :=
  let v := Tbl.atN s.perf.blk i + n
  let s1 := { s with perf := { s.perf with blk := Tbl.setN s.perf.blk i (v % 2 ^ 48) } }
  if 2 ^ 48 ≤ v then ovf s1 (R.PERF_BOVF (i / 32)) (i % 32) else s1

/-- Write a record of one head slot (its PHASE bit still clear) and continuation bytes, padded to whole slots, to the CQ
of pair `n` (R383), and signal it (R400). -/
def State.cqWriteWith (ovf : State → Nat → Nat → State) (s : State) (n : Nat) (head conts : List Byte) : State :=
  let size := s.cqSize n
  let k := (conts.length + 31) / 32
  let w := s.fld (F.RING_HEADS.CQ_WRITE n)
  let ph := s.fld (F.RING_HEADS.CQ_PHASE n)
  let word := natPut (leAt head 0 4) 31 31 ph
  let w' := w + 1 + k
  let s1 := s.each (List.range k) (fun j t =>
    t.emit (.hostWrite (s.cqSlot n ((w + 1 + j) % size)) (slice conts (32 * j) 32)))
  let s2 := s1.emit (.hostWrite (s.cqSlot n w) (leBytes 4 word ++ (padTo 32 head).drop 4))
  let s3 := (s2.put (F.RING_HEADS.CQ_WRITE n) (w' % size)).put (F.RING_HEADS.CQ_PHASE n) (if w' < size then ph else 1 - ph)
  let r := s3.ring n
  ((s3.setRing n { r with cqUsed := r.cqUsed + 1 + k, unsignalled := r.unsignalled + 1 }).countWith ovf 0x6C2).signal n

/-! ### Lath records (R319, R322, R324) -/

/-- The kinds of lath records (Table 14.1; coat-pair records, R306), numbered as this model numbers them. -/
inductive Kind where
  | discover | hb | screed | prepare | report | activate | abort | domReset | ack | reg | cmd | cpl | evt | dma | exc
  | fwStart | fwData | loadStatus | pairHb | yield | checkpoint | digest | refillReq | refill
deriving DecidableEq, Repr

/-- The number of a kind. -/
def Kind.num : Kind → Nat
  | .discover => 0 | .hb => 1 | .screed => 2 | .prepare => 3 | .report => 4 | .activate => 5 | .abort => 6 | .domReset => 7
  | .ack => 8 | .reg => 9 | .cmd => 10 | .cpl => 11 | .evt => 12 | .dma => 13 | .exc => 14 | .fwStart => 15 | .fwData => 16
  | .loadStatus => 17 | .pairHb => 18 | .yield => 19 | .checkpoint => 20 | .digest => 21 | .refillReq => 22 | .refill => 23

/-- This device is the hawk of a domain. -/
def State.isHawk (s : State) : Bool := s.config == 2 && s.on F.DOM_STATUS.HAWK

/-- This device is a member of a domain. -/
def State.isMember (s : State) : Bool := s.config == 2 && !s.on F.DOM_STATUS.HAWK

/-- The ring of a unicast to device `j`: fewer hops without crossing a break, ring 0 on a tie (R322). -/
def State.ringTo (s : State) (j : Nat) : Nat :=
  let h0 := Tbl.atN s.dom.hops (2 * j)
  let h1 := Tbl.atN s.dom.hops (2 * j + 1)
  if !s.on F.DOM_STATUS.LINK_A_OK then 1
  else if !s.on F.DOM_STATUS.LINK_B_OK then 0
  else if h1 ≠ 0 && (h0 = 0 || decide (h1 < h0)) then 1 else 0

/-- Put a record on ring 0, which leaves on DL-A, or ring 1, which leaves on DL-B, where that link is up. -/
def State.onRing (ovf : State → Nat → Nat → State) (s : State) (ring kind dst seq : Nat) (payload : List Byte) : State :=
  if ring = 0 then
    (if s.on F.DOM_STATUS.LINK_A_OK then (s.emit (.lath .a kind dst seq payload)).countWith ovf 0x6D0 else s)
  else if s.on F.DOM_STATUS.LINK_B_OK then (s.emit (.lath .b kind dst seq payload)).countWith ovf 0x6D1 else s

/-- The index that a target number names: 0x7E is the hawk. -/
def State.lathDst (s : State) (dst : Nat) : Nat := if dst = 0x7E ∧ s.dom.hawk ≠ 0 then s.dom.hawk - 1 else dst

/-- Send a record with a given sequence number: a unicast on one ring, a broadcast (0x7F) on both (R322). -/
def State.lathAgain (ovf : State → Nat → Nat → State) (s : State) (kind dst seq : Nat) (payload : List Byte) : State :=
  if dst = 0x7F then (s.onRing ovf 0 kind dst seq payload).onRing ovf 1 kind dst seq payload
  else s.onRing ovf (s.ringTo dst) kind dst seq payload

/-- Send a record with a fresh sequence number (R322). -/
def State.lathSendWith (ovf : State → Nat → Nat → State) (s : State) (kind dst : Nat) (payload : List Byte) : State :=
  let q := s.dom.seq
  ({ s with dom := { s.dom with seq := (q + 1) % 2 ^ 32 } } : State).lathAgain ovf kind (s.lathDst dst) q payload

/-- Send an acknowledged unicast and keep it until its ACK (R324). -/
def State.unicastWith (ovf : State → Nat → Nat → State) (s : State) (kind dst : Nat) (payload : List Byte)
    (owner : Option (Nat × Nat)) : State :=
  let q := s.dom.seq
  let s1 := s.lathSendWith ovf kind dst payload
  { s1 with dom := { s1.dom with relays := s1.dom.relays ++ [⟨q, s.lathDst dst, kind, payload, 0, false, owner⟩] } }

/-! ### Event records (R397, R398, R466) and overflow (R464) -/

/-- The bytes of an event record's head slot (Table 16.13), PHASE clear. -/
def EvRec.head (r : EvRec) (k : Nat) : List Byte :=
  leBytes 4 (k * 2 ^ 24 + r.block * 2 ^ 16 + r.code * 2 ^ 8 + (if r.lost then 128 else 0) + r.source) ++
  leBytes 4 ((r.sec % 4) * 2 ^ 30 + r.ns) ++ leBytes 4 r.object ++ leBytes 8 r.v0 ++ leBytes 8 r.v1 ++ leBytes 4 r.v2

/-- The pairs that run as EVENT rings and select a block (R397), PF1's only while PERF_USER_EN is 1 (R466). -/
def State.eventRings (s : State) (block : Nat) : List Nat :=
  allBelow (fun n => s.running n && s.kind n == 1 && natBit (s.reg (R.RING_EVT_MASK n)).toNat block) 64

/-- Write one event record to ring `n`, or drop it there and count it in EVT_LOST (R397, R466). -/
def State.postTo (ovf : State → Nat → Nat → State) (s : State) (r : EvRec) (n : Nat) : State :=
  if s.fld (F.RING_CFG.FUNC n) = 1 && !s.on F.PERF_CTL.PERF_USER_EN then s
  else
    let k := (r.conts.length + 31) / 32
    if s.cqFree n < 1 + k then
      (s.blkAddWith ovf (128 + n) 1).setRing n { s.ring n with lost := true }
    else
      let q := s.ring n
      ((s.setRing n { q with lost := false }).cqWriteWith ovf n ({ r with lost := r.lost || q.lost }.head k) r.conts).countWith
        ovf 0x6C3

/-- Post an event record: to every running EVENT ring that selects its block, or to the hold of 64 records (R397, R398); from
a domain member that has left LOAD, to the hawk (R326). -/
def State.postWith (ovf : State → Nat → Nat → State) (s : State) (r : EvRec) : State :=
  if s.isMember && decide (4 ≤ s.op.code) then
    s.unicastWith ovf Kind.evt.num 0x7E (r.head ((r.conts.length + 31) / 32) ++ r.conts) none
  else
    match s.eventRings r.block with
    | [] =>
      if s.host.hold.length < 64 then
        { s with host := { s.host with hold := s.host.hold ++ [{ r with lost := s.host.holdLost }], holdLost := false } }
      else { s with host := { s.host with holdLost := true } }
    | ns => s.each ns (fun n t => t.postTo ovf r n)

/-- No overflow bit of PERF_OVF, PERF_TH_OVF or PERF_BOVF is set (R464). -/
def State.noOvf (s : State) : Bool :=
  (s.reg R.PERF_TH_OVF == 0) && (List.range 64).all (fun k => s.reg (R.PERF_OVF k) == 0) &&
  (List.range 256).all (fun k => s.reg (R.PERF_BOVF k) == 0)

/-- Set a sticky overflow bit; the first while none is set sets PERF_EVENT.OVF, which follows R50 (R464). A wrap met while
that event is posted is not the first. -/
def State.overflow (s : State) (r b : Nat) : State :=
  let first := s.noOvf
  let s1 := s.bitOnly r b
  if !first then s1
  else
    let s2 := s1.bitOnly R.PERF_EVENT 0
    if !natBit (s1.reg R.PERF_EVENT).toNat 0 && natBit (s1.reg R.PERF_EVENT_EN).toNat 0 then
      s2.postWith State.bitOnly ⟨0x0F, 0x10, false, s2.index, s2.sec, s2.ns, 0, 0, 0, 0, []⟩
    else s2

/-- One occurrence of event `e` (R459, R461). -/
def State.count (s : State) (e : Nat) : State := s.countWith State.overflow e

/-- Block counter `i` adds `n` (R464). -/
def State.blkAdd (s : State) (i n : Nat) : State := s.blkAddWith State.overflow i n

/-- Block counter `i` adds one. -/
def State.blk (s : State) (i : Nat) : State := s.blkAdd i 1

/-- Write a record to the CQ of pair `n`. -/
def State.cqWrite (s : State) (n : Nat) (head conts : List Byte) : State := s.cqWriteWith State.overflow n head conts

/-- Post an event record. -/
def State.post (s : State) (r : EvRec) : State := s.postWith State.overflow r

/-- Send a lath record. -/
def State.lathSend (s : State) (kind dst : Nat) (payload : List Byte) : State := s.lathSendWith State.overflow kind dst payload

/-- Send an acknowledged lath unicast. -/
def State.unicast (s : State) (kind dst : Nat) (payload : List Byte) (owner : Option (Nat × Nat)) : State :=
  s.unicastWith State.overflow kind dst payload owner

/-- A posted write to host memory: a member's travels to the hawk as a DMA record (R326). -/
def State.dma (s : State) (addr : Nat) (bytes : List Byte) : State :=
  if s.isMember then s.unicast Kind.dma.num 0x7E (leBytes 8 addr ++ bytes) none else s.emit (.hostWrite addr bytes)

/-- An event record of this device at this instant. -/
def State.rec_ (s : State) (block code object v0 v1 v2 : Nat) : EvRec :=
  ⟨block, code, false, s.index, s.sec, s.ns, object, v0, v1, v2, []⟩

/-- Post a record of this device. -/
def State.record (s : State) (block code object v0 v1 v2 : Nat) : State := s.post (s.rec_ block code object v0 v1 v2)

/-- Set event bit `b` of an event register: when it becomes 1 while the same bit of the enable register is 1, one record is
posted (R50). -/
def State.event (s : State) (ev en b block code object v0 v1 v2 : Nat) : State :=
  let was := natBit (s.reg ev).toNat b
  let s1 := s.setReg ev (s.reg ev ||| BitVec.ofNat 32 (2 ^ b))
  if !was && natBit (s.reg en).toNat b then s1.record block code object v0 v1 v2 else s1

/-- A PERF_EVENT bit (Table 20.6: CODE 0x10 plus the bit number). -/
def State.perfEvent (s : State) (b : Nat) : State := s.event R.PERF_EVENT R.PERF_EVENT_EN b 0x0F (0x10 + b) 0 0 0 0

/-- The block counter `j` of slice `s` (Table 23.6). -/
def sliceCtr (sl j : Nat) : Nat := 256 + 32 * sl + j

/-- The block counter `j` of port `p` (Table 23.6). -/
def portCtr (p j : Nat) : Nat := 1024 + 8 * p + j

/-- The block counter `k` of class `c` of port `p` (Table 23.6). -/
def classCtr (p k c : Nat) : Nat := 2048 + 64 * p + 8 * k + c

/-! ### Port statistics (R47) -/

/-- The width of port statistic `i` (Table 2.8, Table 4.8): 48 bits for octets, 40 otherwise. -/
def statWidth (i : Nat) : Nat := if i = 0 ∨ i = 1 ∨ i = 31 ∨ i = 60 ∨ i = 61 ∨ i = 62 ∨ i = 63 then 48 else 40

/-- A port event (R50): BLOCK 0x01, OBJECT the port. -/
def State.portEvent (s : State) (p b : Nat) : State := s.event (R.PORT_EVENT p) (R.PORT_EVENT_EN p) b 0x01 b p 0 0 0

/-- A SecY event: BLOCK 0x02, OBJECT the port. -/
def State.secyEvent (s : State) (p b : Nat) : State := s.event (R.SECY_EVENT p) (R.SECY_EVENT_EN p) b 0x02 b p 0 0 0

/-- Port statistic `i` of port `p` adds `n`: a crossing of half range sets its half-range bit and raises STAT_HALF; at full
range it wraps (R47, R111). -/
def State.statAdd (s : State) (p i n : Nat) : State :=
  let w := statWidth i
  let v := Tbl.atN s.perf.stat (64 * p + i)
  let v' := (v + n) % 2 ^ w
  let s1 := { s with perf := { s.perf with stat := Tbl.setN s.perf.stat (64 * p + i) v' } }
  if v < 2 ^ (w - 1) && decide (2 ^ (w - 1) ≤ v') then
    if i < 32 then
      (s1.setReg (R.PORT_STAT_HALF0 p) (s1.reg (R.PORT_STAT_HALF0 p) ||| BitVec.ofNat 32 (2 ^ i))).portEvent p 8
    else if i < 54 then
      (s1.setReg (R.PORT_STAT_HALF1 p) (s1.reg (R.PORT_STAT_HALF1 p) ||| BitVec.ofNat 32 (2 ^ (i - 32)))).portEvent p 8
    else
      (s1.setReg (R.SECY_STAT_HALF p) (s1.reg (R.SECY_STAT_HALF p) ||| BitVec.ofNat 32 (2 ^ (i - 54)))).secyEvent p 1
  else s1

/-- Port statistic `i` of port `p` adds one. -/
def State.stat (s : State) (p i : Nat) : State := s.statAdd p i 1

/-! ### Events of the other blocks (Table 16.14) -/

/-- A CLS_EVENT bit (BLOCK 0x03). -/
def State.clsEvent (s : State) (b object : Nat) : State := s.event R.CLS_EVENT R.CLS_EVENT_EN b 0x03 b object 0 0 0

/-- A context event (BLOCK 0x04), posted once per occurrence (R163). -/
def State.ctxEvent (s : State) (code object v0 : Nat) : State := s.record 0x04 code object v0 0 0

/-- A KEY_EVENT bit (BLOCK 0x05). -/
def State.keyEvent (s : State) (b object v0 : Nat) : State := s.event R.KEY_EVENT R.KEY_EVENT_EN b 0x05 b object v0 0 0

/-- A WET_EVENT bit (BLOCK 0x06). -/
def State.wetEvent (s : State) (b : Nat) : State := s.event R.WET_EVENT R.WET_EVENT_EN b 0x06 b 0 0 0 0

/-- A TIME_EVENT bit (BLOCK 0x07). -/
def State.timeEvent (s : State) (b v0 : Nat) : State := s.event R.TIME_EVENT R.TIME_EVENT_EN b 0x07 b 0 v0 0 0

/-- A SCHED_EVENT bit of a port (BLOCK 0x08). -/
def State.schedEvent (s : State) (p b v0 : Nat) : State :=
  s.event (R.SCHED_EVENT p) (R.SCHED_EVENT_EN p) b 0x08 b p v0 0 0

/-- A CT_EVENT bit (BLOCK 0x09). -/
def State.ctEvent (s : State) (b object v0 : Nat) : State := s.event R.CT_EVENT R.CT_EVENT_EN b 0x09 b object v0 0 0

/-- A PAIR_EVENT bit (BLOCK 0x0B). -/
def State.pairEvent (s : State) (b object v0 : Nat) : State := s.event R.PAIR_EVENT R.PAIR_EVENT_EN b 0x0B b object v0 0 0

/-- A DOM_EVENT bit (BLOCK 0x0C). -/
def State.domEvent (s : State) (b object v0 : Nat) : State := s.event R.DOM_EVENT R.DOM_EVENT_EN b 0x0C b object v0 0 0

/-- A MEM_EVENT bit (BLOCK 0x0D), the line or node address in VALUE0. -/
def State.memEvent (s : State) (b v0 : Nat) : State := s.event R.MEM_EVENT R.MEM_EVENT_EN b 0x0D b 0 v0 0 0

/-- A HOST_EVENT bit (BLOCK 0x10). -/
def State.hostEvent (s : State) (b object : Nat) : State := s.event R.HOST_EVENT R.HOST_EVENT_EN b 0x10 b object 0 0 0

/-- A PWR_EVENT bit: BLOCK 0x10, CODE 0x20 plus the bit number, OBJECT the slice (R492). -/
def State.pwrEvent (s : State) (b object : Nat) : State := s.event R.PWR_EVENT R.PWR_EVENT_EN b 0x10 (0x20 + b) object 0 0 0

/-- A RUB_EVENT bit: BLOCK 0x11, CODE 0x10 plus the bit number, OBJECT the slice (R457). -/
def State.rubEvent (s : State) (b object : Nat) : State := s.event R.RUB_EVENT R.RUB_EVENT_EN b 0x11 (0x10 + b) object 0 0 0

/-- A BOOT_EVENT bit (BLOCK 0x12). -/
def State.bootEvent (s : State) (b : Nat) : State := s.event R.BOOT_EVENT R.BOOT_EVENT_EN b 0x12 b 0 0 0 0

/-- A STN_EVENT bit: BLOCK 0x0A, CODE 0x20 plus the bit number; STN_EVENT_EN bit 11 enables both (Table 12.7). -/
def State.stnEvent (s : State) (b : Nat) : State :=
  let was := natBit (s.reg R.STN_EVENT).toNat b
  let s1 := s.setReg R.STN_EVENT (s.reg R.STN_EVENT ||| BitVec.ofNat 32 (2 ^ b))
  if !was && natBit (s.reg R.STN_EVENT_EN).toNat 11 then s1.record 0x0A (0x20 + b) 0 0 0 0 else s1

/-! ### Lines of the stack (R357) -/

/-- Replace the stack. -/
def State.setMem (s : State) (m : MemSt) : State := { s with mem := m }

/-- Remove the range [lo, hi) from a list of ranges. -/
def rangeDel (lo hi : Nat) (l : List (Nat × Nat)) : List (Nat × Nat) :=
  l.flatMap (fun (a, b) => (if a < min b lo then [(a, min b lo)] else []) ++ (if max a hi < b then [(max a hi, b)] else []))

/-- Full-line writes clear the poison of the lines [lo, hi). -/
def State.unpoison (s : State) (lo hi : Nat) : State := s.setMem { s.mem with poison := rangeDel lo hi s.mem.poison }

end Sys2Proof.Machine
end

