-- ==== Sys2Proof/Machine/Rings.lean ====
section
/-!
DEFINITION. Descriptor rings: how a command that a block engine carries out is admitted, answered and completed in ring
order (R326, R333, R384 to R390, R402; spec/16_host_interface.md, spec/14_lath_domains.md).
-/
namespace Sys2Proof

/-- ARG0 of a command as a number. -/
def RingCmd.a0 (c : RingCmd) (hi lo : Nat) : Nat := Machine.natBits c.arg0.toNat hi lo

/-- ARG1 of a command as a number. -/
def RingCmd.a1 (c : RingCmd) (hi lo : Nat) : Nat := Machine.natBits c.arg1.toNat hi lo

/-- The descriptor of a command, as posted (Table 16.5), with TARGET replaced. -/
def RingCmd.bytes (group op target : Nat) (c : RingCmd) : List Byte :=
  let k := (c.cont.length + 31) / 32
  Machine.leBytes 4 (group * 2 ^ 28 + op * 2 ^ 24 + (if c.stage then 2 ^ 23 else 0) + target * 2 ^ 16 + k * 2 ^ 12) ++
  Machine.leBytes 4 c.tag.toNat ++ Machine.leBytes 8 c.arg0.toNat ++ Machine.leBytes 8 c.buf.toNat ++ Machine.leBytes 4 c.bufLen.toNat ++
  Machine.leBytes 4 c.arg1.toNat ++ Machine.padTo (32 * k) c.cont

/-- A command as a CMD record carries it (R326): the descriptor, then whether BUF was read and what it holds. -/
def RingCmd.record (group op : Nat) (c : RingCmd) : List Byte :=
  c.bytes group op 0x7E ++ (match c.bufIn with | some b => 1 :: b | none => [0])

end Sys2Proof

namespace Sys2Proof.Machine

/-- What a block engine answers to a command (Table 16.6). `status` is 0 EXECUTED or 3 DMA_ERROR. -/
structure Reply where
  code : Nat := 0
  status : Nat := 0
  r0 : Nat := 0
  r1 : Nat := 0
  r2 : Nat := 0
  conts : List Byte := []
  /-- Bytes written to BUF. -/
  bufOut : List Byte := []
deriving DecidableEq, Repr

/-- A block engine's treatment of a command. -/
abbrev Body := RingCmd → State → State × Reply

/-- A refusal: nothing changes, and the completion carries the code. -/
def refuse (s : State) (code : Nat) : State × Reply := (s, { code := code })

/-- A refusal that also carries RESULT0. -/
def refuseAt (s : State) (code r0 : Nat) : State × Reply := (s, { code := code, r0 := r0 })

/-- BUF could not be read or written: nothing changes (Table 16.8). -/
def dmaError (s : State) : State × Reply := (s, { status := 3 })

/-- The completion that a reply becomes. -/
def Reply.completion (r : Reply) (group op source : Nat) : Completion :=
  ⟨r.status, r.code, group, op, source, r.r0, r.r1, r.r2, r.conts⟩

/-- The head slot of a completion (Table 16.6), PHASE clear. -/
def Completion.head (r : Completion) (tag : BitVec 16) (sqHead : Nat) : List Byte :=
  let k := (r.conts.length + 31) / 32
  leBytes 4 (r.status * 2 ^ 28 + k * 2 ^ 24 + r.code * 2 ^ 20 + r.group * 2 ^ 16 + tag.toNat) ++
  leBytes 4 (r.op * 2 ^ 28 + r.source * 2 ^ 16) ++ leBytes 8 r.r0 ++ leBytes 8 r.r1 ++ leBytes 4 r.r2 ++ leBytes 4 sqHead

/-- Write the completions at the front of the owed list that are ready: completions keep ring order (R386). -/
def State.flush (s : State) (n : Nat) : Nat → State
  | 0 => s
  | fuel + 1 =>
    match (s.ring n).owed with
    | o :: rest =>
      match o.done with
      | some d =>
        let s1 := s.setRing n { s.ring n with owed := rest }
        -- after a loss of the link the completion is lost (R402)
        let s2 := if s1.running n && o.maxSlots ≠ 0 && s1.fld F.HOST_STATUS.LINK = 2 then
            s1.cqWrite n (d.head o.tag o.sqHead) d.conts
          else s1
        s2.flush n fuel
      | none => s
    | [] => s

/-- Mark the first owed command of the list that matches as done. -/
def markDone (p : Owed → Bool) (d : Completion) : List Owed → Option (List Owed)
  | [] => none
  | o :: rest =>
    if p o && o.done.isNone then some ({ o with done := some d } :: rest)
    else (markDone p d rest).map (o :: ·)

/-- The command of ring `n` with this fetch order is complete. -/
def State.completeOrder1 (s : State) (n order : Nat) (d : Completion) : State :=
  let r := s.ring n
  match markDone (fun o => o.order == order) d r.owed with
  | some l => (s.setRing n { r with owed := l }).flush n l.length
  | none => s

/-- A FENCE may complete: no command fetched before it, from any ring, is still owed (Table 16.7). -/
def State.fenceReady (s : State) (f : Nat × Nat) : Bool :=
  s.host.rings.all (fun e => e.2.owed.all (fun o => decide (f.2 ≤ o.order) || o.done.isSome))

/-- Complete the fences that have become ready. -/
def State.settle (s : State) : Nat → State
  | 0 => s
  | fuel + 1 =>
    match s.host.fences.find? s.fenceReady with
    | some f =>
      let s1 : State := { s with host := { s.host with fences := s.host.fences.filter (· != f) } }
      (s1.completeOrder1 (f.1 % 64) f.2 (({} : Reply).completion 12 1 s1.source)).settle fuel
    | none => s

/-- The command of ring `n` with this tag, group and operation is complete: its completion joins the owed list, which is
written as far as ring order allows (R385, R386). A command that was not fetched through CMD_FETCH counts as fetched now. -/
def State.complete (s : State) (n : Nat) (tag : BitVec 16) (d : Completion) : State :=
  let r := s.ring n
  let hit := markDone (fun o => o.tag == tag && o.group == d.group && o.op == d.op) d r.owed
  let owed := match hit with
    | some l => l
    | none => r.owed ++ [⟨s.host.order, tag, d.group, d.op, 16, s.fld (F.RING_HEADS.SQ_HEAD n), some d⟩]
  let s1 := if hit.isNone then { s with host := { s.host with order := s.host.order + 1 } } else s
  let s2 := (s1.setRing n { r with owed := owed }).flush n (owed.length)
  s2.settle s2.host.fences.length

/-- The command of ring `n` with this fetch order is complete, and with it fences that waited for it. -/
def State.completeOrder (s : State) (n order : Nat) (d : Completion) : State :=
  let s1 := s.completeOrder1 n order d
  s1.settle s1.host.fences.length

/-- Whether a command would write a screed leaf or schedule a list (Table 14.2, R333): table and entry writes, gate-list
commands, admissions. A forwarding-table command is one only when it concerns a static entry or the flag to include them. -/
def writesLeaf (group op : Nat) (c : RingCmd) (s : State) : Bool :=
  match group with
  | 0 =>
    let table := c.a0 22 20
    if op = 6 then table = 2 || table = 3 || table = 4
    else if op = 2 || op = 3 || op = 4 then
      if table = 1 then true
      else if table = 0 then
        let w := leAt c.cont 0 16
        let key := natBits w 59 0
        natBits w 126 126 = 1 ||
          s.cls.fdb.any (fun e => getF e.2 ⟨59, 0⟩ = key && getF e.2 ⟨127, 127⟩ = 1 && getF e.2 ⟨126, 126⟩ = 1)
      else false
    else if op = 5 then natBits (leAt c.cont 0 4) 29 29 = 1
    else false
  | 3 => op = 0 || op = 2 || op = 3
  | 4 => op = 0 || op = 2
  | 5 => op = 0
  | 6 => op = 1 || op = 3
  | 7 => op = 0 || op = 1
  | _ => false

/-- Whether a domain device in RUN refuses a command for want of STAGE (R333): one that would write a leaf of the
configuration in force, GCL_CHANGE, CT_ADMIT and CT_WITHDRAW. GCL_WRITE and GCL_PARAMS write the administrative bank. -/
def needsStage (group op : Nat) (c : RingCmd) (s : State) : Bool :=
  if group = 3 then op = 3 else writesLeaf group op c s

/-- A joining member of a coat pair, whose key, context and recovery commands are busy (R313). -/
def State.joining (s : State) : Bool := s.config == 1 && s.fld F.PAIR_STATUS.ROLE == 1

/-- Carry a command out on this device: BUSY for a joining member's keys, contexts and recovery contexts; into the stage journal when STAGE is set (R333), otherwise by its block engine. -/
def runLocal (group op : Nat) (body : Body) (c : RingCmd) (s : State) : State × Reply :=
  if s.joining && (group = 1 || group = 2 || (group = 6 && decide (op < 2))) then refuse s 12
  else if s.config = 2 && s.op = .run && group = 3 && op = 3 && !c.now then refuse s 6
  else if c.stage then
    if s.config ≠ 2 || !writesLeaf group op c s then refuse s 6
    else if s.dom.frozen || decide (4096 ≤ s.dom.journal.length) then refuse s 12
    else
      let s1 := { s with dom := { s.dom with journal := s.dom.journal ++ [(group, op, c)] } }
      (s1.put F.STAGE_COUNT.COUNT s1.dom.journal.length, {})
  else if s.config = 2 && s.op = .run && needsStage group op c s && !c.now then refuse s 6
  else body c s

/-- The devices present (R319) as a map of 64 bits. -/
def State.presentMap (s : State) : Nat := s.fld F.DOM_PRESENT_HI.MAP * 2 ^ 32 + s.fld F.DOM_PRESENT_LO.MAP

/-- The fetch order of an owed command of ring `n`. -/
def orderOf (s : State) (n : Nat) (tag : BitVec 16) (group op : Nat) : Option Nat :=
  (((s.ring n).owed.find? (fun o => o.tag == tag && o.group == group && o.op == op && o.done.isNone)).map (·.order))

/-- The command as an owed one: itself when it was fetched, otherwise entered now. -/
def State.owe (s : State) (n : Nat) (tag : BitVec 16) (group op : Nat) : State × Nat :=
  match orderOf s n tag group op with
  | some k => (s, k)
  | none =>
    let r := s.ring n
    let k := s.host.order
    (({ s with host := { s.host with order := k + 1 } } : State).setRing n
      { r with owed := r.owed ++ [⟨k, tag, group, op, 16, s.fld (F.RING_HEADS.SQ_HEAD n), none⟩] }, k)

/-- Join the answer of device `j` to a broadcast (R326): it completes when every device has answered; its code is that of
the lowest-indexed device that did not return DONE, with a map of those devices in RESULT1. -/
def State.broadcastAnswer (s : State) (ring order j : Nat) (d : Completion) : State :=
  match s.dom.broadcasts.find? (fun b => b.ring = ring && b.order = order) with
  | none => s
  | some b =>
    let bad := d.code ≠ 0 || d.status ≠ 0
    let b1 := { b with
      waiting := natClr b.waiting j,
      failed := if bad then natSet b.failed j else b.failed,
      code := if bad && decide (j < b.codeFrom) then d.code else b.code,
      codeFrom := if bad && decide (j < b.codeFrom) then j else b.codeFrom,
      reply := if j = s.index then d else b.reply }
    let others := s.dom.broadcasts.filter (fun b => !(b.ring = ring && b.order = order))
    if b1.waiting = 0 then
      ({ s with dom := { s.dom with broadcasts := others } } : State).completeOrder ring order
        { b1.reply with status := 0, code := b1.code, r1 := b1.failed }
    else { s with dom := { s.dom with broadcasts := b1 :: others } }

/-- Finish a command of ring `n` that this device carried out: BUF is written, then the completion. -/
def State.finish (s : State) (n group op : Nat) (c : RingCmd) (r : Reply) : State :=
  let s1 := if r.bufOut = [] then s else s.dma c.buf.toNat r.bufOut
  s1.complete n c.tag (r.completion group op s.source)

/-- A broadcast of the hawk (R326): the command travels to every other device present and is carried out here. -/
def State.broadcastCmd (s : State) (n group op : Nat) (body : Body) (c : RingCmd) : State :=
  let (s1, k) := s.owe n c.tag group op
  let others := natClr s1.presentMap s1.index
  let s2 : State := { s1 with dom := { s1.dom with broadcasts :=
    ⟨n, k, natSet others s1.index, 0, 0, 64, ({} : Reply).completion group op s1.source⟩ :: s1.dom.broadcasts } }
  let s3 := s2.each (allBelow (fun j => natBit others j) 64) (fun j u =>
    u.unicast Kind.cmd.num j (c.record group op) (some (n, k)))
  let (s4, r) := runLocal group op body c s3
  let s5 := if r.bufOut = [] then s4 else s4.dma c.buf.toNat r.bufOut
  s5.broadcastAnswer n k s5.index (r.completion group op s5.source)

/-- A command for another device of the domain travels there (R326). -/
def State.relayCmd (s : State) (n group op target : Nat) (c : RingCmd) : State :=
  let (s1, k) := s.owe n c.tag group op
  s1.unicast Kind.cmd.num target (c.record group op) (some (n, k))

/-- A command of group and operation reaches its block engine (R379, R386, R388, R326).
- From a ring: without effect before SETUP (no rings run); STATE in HOLD and FAULT; relayed or broadcast in a domain;
  BAD_REQUEST for a foreign TARGET or STAGE outside one; otherwise carried out here, and completed in ring order.
- Behind a FENCE of its own ring: waits (Table 16.7).
- From Gheor or the hawk (R78, R326): carried out here; the answer travels otherwise. -/
def ringRun (group op : Nat) (body : Body) (c : RingCmd) (s : State) : State :=
  match c.via with
  | .ring n =>
    let n := n.val
    let t := c.target.toNat
    if s.op = .hold || s.op = .fault then s.complete n c.tag (({ status := 4 } : Reply).completion group op s.source)
    else if s.op ≠ .setup && s.op ≠ .run then s
    else if s.host.fences.any (fun f => f.1 == n) then s
    else if t ≠ 0x7E && s.config ≠ 2 then s.complete n c.tag (({ code := 6 } : Reply).completion group op s.source)
    else if t = 0x7E || t = s.index then
      let (s1, r) := runLocal group op body c s
      s1.finish n group op c r
    else if t = 0x7F then s.broadcastCmd n group op body c
    else if t < 64 then s.relayCmd n group op t c
    else s.complete n c.tag (({ code := 6 } : Reply).completion group op s.source)
  | _ => (runLocal group op body c s).1

/-- The meaning of a ring command as an outcome. -/
def ringExec (group op : Nat) (body : Body) (c : RingCmd) (s : State) : Res := .next (ringRun group op body c s)

end Sys2Proof.Machine
end

