-- ==== Sys2Proof/Machine/Tables.lean ====
section
/-!
DEFINITION. The table command engine (spec/03_forwarding.md, R59 to R84): the forwarding, stream identification, stream,
VLAN and multicast tables, cuckoo insertion and moves, the learn log, the sweeper, the background compare; and the
meanings of the table commands.
-/
namespace Sys2Proof.Machine

/-! ### Entry fields (Tables 3.2, 3.4, 3.5, 3.6) -/

namespace E
def vlanValid : BF := ⟨255, 255⟩
def vlanLearn : BF := ⟨254, 254⟩
def vlanFid : BF := ⟨203, 192⟩
def vlanUntag : BF := ⟨191, 96⟩
def vlanMember : BF := ⟨95, 0⟩
def groupMask : BF := ⟨95, 0⟩
def sidValid : BF := ⟨511, 511⟩
def sidMethod : BF := ⟨510, 508⟩
def sidPset : BF := ⟨507, 502⟩
def sidHandle : BF := ⟨493, 480⟩
def sidKey : BF := ⟨479, 0⟩
def strValid : BF := ⟨255, 255⟩
def strContracted : BF := ⟨254, 254⟩
def strTcOvr : BF := ⟨253, 253⟩
def strTc : BF := ⟨252, 250⟩
def strProfile : BF := ⟨249, 247⟩
def strProfDir : BF := ⟨246, 245⟩
def strCtx : BF := ⟨244, 227⟩
def strFilter : BF := ⟨226, 213⟩
def strSrcEn : BF := ⟨212, 212⟩
def strSrcMode : BF := ⟨211, 210⟩
def strStnEn : BF := ⟨209, 209⟩
def strStnIdx : BF := ⟨208, 197⟩
def strFwd : BF := ⟨196, 196⟩
def strDest : BF := ⟨195, 184⟩
def strContract : BF := ⟨183, 170⟩
def fdbValid : BF := ⟨127, 127⟩
def fdbStatic : BF := ⟨126, 126⟩
def fdbHit : BF := ⟨125, 125⟩
def fdbStale : BF := ⟨124, 124⟩
def fdbTrap : BF := ⟨123, 123⟩
def fdbDiscard : BF := ⟨122, 122⟩
def fdbGroup : BF := ⟨121, 121⟩
def fdbCref : BF := ⟨120, 120⟩
def fdbLogSeq : BF := ⟨119, 96⟩
def fdbDest : BF := ⟨71, 60⟩
def fdbKey : BF := ⟨59, 0⟩
end E

/-- The classification counters in the order of Table 3.13 (Table 23.6, indices 0 to 16). -/
inductive ClsCtr where
  | parseDepth | acceptDrop | ingressDrop | psetMiss | discard | flood | contractMiss | insertFail | moves
  | learnNew | stationMove | staticConflict | queueDrop | aged | bgcMismatch | bgcRepair | bgcSkip
deriving DecidableEq, Repr

/-- The block-counter index of a classification counter. -/
def ClsCtr.idx : ClsCtr → Nat
  | .parseDepth => 0 | .acceptDrop => 1 | .ingressDrop => 2 | .psetMiss => 3 | .discard => 4 | .flood => 5
  | .contractMiss => 6 | .insertFail => 7 | .moves => 8 | .learnNew => 9 | .stationMove => 10 | .staticConflict => 11
  | .queueDrop => 12 | .aged => 13 | .bgcMismatch => 14 | .bgcRepair => 15 | .bgcSkip => 16

/-! ### Reading the tables -/

/-- The slices whose replicas are powered (R51): those in TABLES or ACTIVE (Table 21.2), as a map. -/
def State.powered (s : State) : Nat :=
  (allBelow (fun k => decide (2 ≤ natBits (s.reg R.PWR_SLICE_STATUS).toNat (2 * k + 1) (2 * k))) 13).foldl natSet 0

/-- The forwarding entry at a position, HIT being the OR over the powered replicas (R52). -/
def State.fdbAt (s : State) (pos : Nat) : BitVec 128 :=
  putF (Tbl.at0 s.cls.fdb pos) E.fdbHit (b2n (Tbl.atN s.cls.hits pos &&& s.powered != 0))

/-- Whether a position holds a valid entry. -/
def State.fdbUsed (s : State) (pos : Nat) : Bool := isF (Tbl.at0 s.cls.fdb pos) E.fdbValid

/-- The seed of way `w` (Table 3.14). -/
def State.fdbSeed (s : State) (w : Nat) : Nat := (s.reg (0x006080 + 4 * w)).toNat

/-- The candidate position of a key in way `w` (R63): the hash input is the 8-byte key, most significant byte first. -/
def State.fdbCand (s : State) (key w : Nat) : Nat := w * 16384 + tableHash (s.fdbSeed w) (beBytes 8 key) % 16384

/-- The four candidates of a key in way order. -/
def State.fdbCands (s : State) (key : Nat) : List Nat := (List.range 4).map (s.fdbCand key)

/-- The 32 stash positions (R63). -/
def stash : List Nat := (List.range 32).map (65536 + ·)

/-- The position that holds a key: a candidate or a stash position (R64). -/
def State.fdbFind (s : State) (key : Nat) : Option Nat :=
  (s.fdbCands key ++ stash).find? (fun p => s.fdbUsed p && getF (Tbl.at0 s.cls.fdb p) E.fdbKey == key)

/-- The key of a FID and an address (R63). -/
def fdbKeyOf (fid mac : Nat) : Nat := fid * 2 ^ 48 + mac

/-- The two buckets of a stream identification key (R59). -/
def State.sidBuckets (s : State) (key : Nat) : Nat × Nat :=
  (tableHash (s.fld F.SID_SEED0.SEED) (beBytes 60 key) % 4096, tableHash (s.fld F.SID_SEED1.SEED) (beBytes 60 key) % 4096)

/-- The positions a stream identification key may take, in the order an insertion tries them (R59). -/
def State.sidSlots (s : State) (key : Nat) : List Nat :=
  let (b0, b1) := s.sidBuckets key
  let of (b : Nat) := (List.range 4).map (4 * b + ·)
  of b0 ++ (if b1 = b0 then [] else of b1) ++ (List.range 16).map (16384 + ·)

/-- The position that holds the key of a method (R60). -/
def State.sidFind (s : State) (method key : Nat) : Option Nat :=
  (s.sidSlots key).find? (fun p =>
    let e := Tbl.at0 s.cls.sid p
    isF e E.sidValid && getF e E.sidMethod == method && getF e E.sidKey == key)

/-! ### Writing the tables -/

/-- The state with the tables replaced. -/
def State.setCls (s : State) (c : ClassSt) : State := { s with cls := c }

/-- Write the forwarding entry at a position in every replica (R51), HIT bits apart. -/
def State.fdbPut (s : State) (pos : Nat) (e : BitVec 128) : State :=
  s.setCls { s.cls with fdb := Tbl.set0 s.cls.fdb pos (putF e E.fdbHit 0) }

/-- Set the hit bits of a position in the replicas of a map of slices (R52). -/
def State.setHits (s : State) (pos map : Nat) : State := s.setCls { s.cls with hits := Tbl.setN s.cls.hits pos map }

/-- FDB_STASH_USED: stash positions in use (R85). -/
def State.stashUsed (s : State) : Nat := (stash.filter s.fdbUsed).length

/-- One learn-log record, when LLOG_EN is 1 (R81): it is written at index SEQ mod 2^LLOG_ORDER of the ring; SEQ advances. -/
def State.logRecord (s : State) (kind : Nat) (e : BitVec 128) : State :=
  if s.on F.LLOG_CFG.LLOG_EN then
    let q := s.fld F.LLOG_HEAD.SEQ
    let base := s.fld F.LLOG_BASE_HI.ADDR * 2 ^ 32 + s.fld F.LLOG_BASE_LO.ADDR * 32
    (s.dma (base + 32 * (q % 2 ^ s.fld F.LLOG_CFG.LLOG_ORDER))
      (leBytes 4 (kind * 2 ^ 24 + q) ++ leBytes 12 0 ++ leBytes 16 e.toNat)).put F.LLOG_HEAD.SEQ (q + 1)
  else s

/-- Log a change of the dynamic entry at a position: the record's SEQ is stored in the entry, and the record holds the entry
after the change (R81, Table 3.12). -/
def State.logAt (s : State) (kind pos : Nat) : State :=
  if s.on F.LLOG_CFG.LLOG_EN then
    let s1 := s.fdbPut pos (putF (Tbl.at0 s.cls.fdb pos) E.fdbLogSeq (s.fld F.LLOG_HEAD.SEQ))
    s1.logRecord kind (s1.fdbAt pos)
  else s

/-- Remove the forwarding entry at a position and log it when it was dynamic: the record holds it with VALID = 0. -/
def State.fdbRemove (s : State) (pos kind : Nat) : State :=
  let e := s.fdbAt pos
  let s1 := s.setCls { s.cls with fdb := Tbl.set0 s.cls.fdb pos 0, hits := Tbl.setN s.cls.hits pos 0 }
  if isF e E.fdbStatic then s1 else s1.logRecord kind (putF e E.fdbValid 0)

/-- One move (R67): the entry is copied to the destination, the hit bits of its source are ORed in, the source is
invalidated, and the move register stays loaded with it. -/
def State.moveEntry (s : State) (src dst : Nat) : State :=
  let e := Tbl.at0 s.cls.fdb src
  let h := Tbl.atN s.cls.hits src ||| Tbl.atN s.cls.hits dst
  let s1 := (s.fdbPut dst e).setHits dst h
  let s2 := (s1.fdbPut src 0).setHits src 0
  ((s2.setCls { s2.cls with move := some ⟨e, src, dst⟩ }).blk ClsCtr.moves.idx).count 0x6A9

/-- The extensions of a path of moves: the other candidates of the entry at its end, in way order (R66). -/
def State.pathNext (s : State) (path : List Nat) : List (List Nat) :=
  match path with
  | [] => []
  | p :: _ => ((s.fdbCands (getF (Tbl.at0 s.cls.fdb p) E.fdbKey)).filter (fun q => !(path.contains q))).map (· :: path)

/-- Breadth-first search of a path of at most `fuel` moves that ends in a free position: the shortest, and among those the
first in way order at each step (R66). Paths are held last position first. -/
def State.findPath (s : State) : Nat → List (List Nat) → Option (List Nat)
  | 0, _ => none
  | fuel + 1, paths =>
    let next := paths.flatMap s.pathNext
    match next.find? (fun p => match p with | q :: _ => !s.fdbUsed q | [] => false) with
    | some p => some p
    | none => s.findPath fuel next

/-- Carry out a path of moves from its end (R66). -/
def State.runPath (s : State) : List Nat → State
  | dst :: src :: rest => (s.moveEntry src dst).runPath (src :: rest)
  | _ => s

/-- Where an insertion of a key would go (R66): a free candidate, a path of moves, a free stash position, or nowhere. -/
inductive Place where
  | free (pos : Nat)
  | path (p : List Nat)
  | full
deriving DecidableEq, Repr

/-- The place of an insertion (R66). -/
def State.placeOf (s : State) (key : Nat) : Place :=
  let cands := s.fdbCands key
  match cands.find? (fun p => !s.fdbUsed p) with
  | some p => .free p
  | none =>
    match s.findPath 3 (cands.map (fun p => [p])) with
    | some p => .path p
    | none =>
      match stash.find? (fun p => !s.fdbUsed p) with
      | some p => .free p
      | none => .full

/-- Insert an entry at the place found: every replica, with HIT = 1 and STALE = 0 for a dynamic entry (R74). Answers the
position, or none when the table is full. -/
def State.fdbInsert (s : State) (e : BitVec 128) : State × Option Nat :=
  let write (t : State) (pos : Nat) : State × Option Nat :=
    (((t.fdbPut pos e).setHits pos (if isF e E.fdbStatic then 0 else t.powered)), some pos)
  match s.placeOf (getF e E.fdbKey) with
  | .free p => write s p
  | .path p => write (s.runPath p) (p.getLastD 0)
  | .full => (s, none)

/-- Move one stash entry into a free way candidate, the lowest way first (R70). -/
def State.stashMove (s : State) (pos : Nat) : State :=
  if s.fdbUsed pos && s.cls.move.isNone then
    match (s.fdbCands (getF (Tbl.at0 s.cls.fdb pos) E.fdbKey)).find? (fun p => !s.fdbUsed p) with
    | some p => s.moveEntry pos p
    | none => s
  else s

/-! ### The commands (R79, Table 3.10) -/

/-- The number of positions of a table (R57, R59, R61, R63): 0 FDB, 1 SID, 2 STREAM, 3 VLAN, 4 MCAST. -/
def tableSize (t : Nat) : Nat :=
  match t with | 0 => 65568 | 1 => 16400 | 2 => 16384 | 3 => 4096 | 4 => 4096 | _ => 0

/-- The entry at a position of a table, as the 64 bytes of TCE_DATA0 to TCE_DATA15. -/
def State.entryBytes (s : State) (t pos : Nat) : List Byte :=
  padTo 64 (match t with
    | 0 => leBytes 16 (s.fdbAt pos).toNat
    | 1 => leBytes 64 (Tbl.at0 s.cls.sid pos).toNat
    | 2 => leBytes 32 (Tbl.at0 s.cls.stream pos).toNat
    | 3 => leBytes 32 (Tbl.at0 s.cls.vlan pos).toNat
    | 4 => leBytes 16 (Tbl.at0 s.cls.mcast pos).toNat
    | _ => [])

/-- A command done, with its position in RESULT0 (Table 16.7). -/
def tceDone (s : State) (pos : Nat) : State × Reply := (s, { r0 := pos })

/-- READ_POS: the entry at POS; BAD_REQUEST for a reserved table or a position out of range (Table 3.11). -/
def tceReadPos : Body := fun c s =>
  let t := c.a0 22 20
  let pos := c.a0 16 0
  if tableSize t ≤ pos then refuse s 6 else (s, { r0 := pos, conts := s.entryBytes t pos })

/-- The position of the key in the data words, for FDB and SID. -/
def State.keyPos (s : State) (t : Nat) (data : List Byte) : Option Nat :=
  if t = 0 then s.fdbFind (natBits (leAt data 0 16) 59 0)
  else s.sidFind (natBits (leAt data 0 64) 510 508) (natBits (leAt data 0 64) 479 0)

/-- SEARCH: the entry with the given key and its position. -/
def tceSearch : Body := fun c s =>
  let t := c.a0 22 20
  if 2 ≤ t then refuse s 6
  else match s.keyPos t c.cont with
    | some p => (s, { r0 := p, conts := s.entryBytes t p })
    | none => refuse s 1

/-- The forwarding entry that a host write gives: the RW fields of the data, the others as given (R79). -/
def fdbMerge (data : Nat) (old : BitVec 128) : BitVec 128 :=
  let e : BitVec 128 := BitVec.ofNat 128 data
  putF (putF (putF (putF (putF e E.fdbHit 0) E.fdbStale (getF old E.fdbStale)) E.fdbCref (getF old E.fdbCref))
    E.fdbLogSeq (getF old E.fdbLogSeq)) ⟨95, 72⟩ 0

/-- A forwarding entry that INSERT and UPDATE accept: VALID = 1, and DEST a port or a group (R79, Table 3.6). -/
def fdbOk (data : Nat) : Bool :=
  natBits data 127 127 == 1 && (natBits data 121 121 == 1 || decide (natBits data 71 60 < 96))

/-- A stream identification entry that INSERT and UPDATE accept: VALID = 1 and METHOD 1 to 5 (Table 3.4). -/
def sidOk (data : Nat) : Bool := natBits data 511 511 == 1 && decide (1 ≤ natBits data 510 508 ∧ natBits data 510 508 ≤ 5)

/-- A stream identification entry with its reserved bits 0 (R8). -/
def sidEntry (data : Nat) : BitVec 512 := BitVec.ofNat 512 (natPut data 501 494 0)

/-- INSERT: a new key; EXISTS when present, FULL when no position is free (R59, R66, R519). -/
def tceInsert : Body := fun c s =>
  let t := c.a0 22 20
  let data := leAt c.cont 0 64
  if 2 ≤ t || (t = 0 && !fdbOk (leAt c.cont 0 16)) || (t = 1 && !sidOk data) then refuse s 6
  else match s.keyPos t c.cont with
    | some p => refuseAt s 2 p
    | none =>
      if t = 0 then
        let e := fdbMerge (leAt c.cont 0 16) 0
        match s.fdbInsert e with
        | (s1, some p) => tceDone (if isF e E.fdbStatic then s1 else s1.logAt 7 p) p
        | (_, none) => refuse s 3
      else
        match (s.sidSlots (natBits data 479 0)).find? (fun p => !isF (Tbl.at0 s.cls.sid p) E.sidValid) with
        | some p => tceDone (s.setCls { s.cls with sid := Tbl.set0 s.cls.sid p (sidEntry data) }) p
        | none => refuse s 3

/-- UPDATE: the entry with the same key replaced; NOT_FOUND when absent, PROTECTED for an entry with CREF = 1 (R65). -/
def tceUpdate : Body := fun c s =>
  let t := c.a0 22 20
  let data := leAt c.cont 0 64
  if 2 ≤ t || (t = 0 && !fdbOk (leAt c.cont 0 16)) || (t = 1 && !sidOk data) then refuse s 6
  else match s.keyPos t c.cont with
    | none => refuse s 1
    | some p =>
      if t = 0 then
        let old := Tbl.at0 s.cls.fdb p
        if isF old E.fdbCref then refuse s 5
        else
          let e := fdbMerge (leAt c.cont 0 16) old
          let s1 := s.fdbPut p e
          tceDone (if isF old E.fdbStatic && isF e E.fdbStatic then s1 else s1.logAt 8 p) p
      else tceDone (s.setCls { s.cls with sid := Tbl.set0 s.cls.sid p (sidEntry data) }) p

/-- DELETE: the entry with the key removed; PROTECTED for an entry with CREF = 1. -/
def tceDelete : Body := fun c s =>
  let t := c.a0 22 20
  if 2 ≤ t then refuse s 6
  else match s.keyPos t c.cont with
    | none => refuse s 1
    | some p =>
      if t = 0 then
        if isF (Tbl.at0 s.cls.fdb p) E.fdbCref then refuse s 5 else tceDone (s.fdbRemove p 5) p
      else tceDone (s.setCls { s.cls with sid := Tbl.set0 s.cls.sid p 0 }) p

/-- Whether a forwarding entry matches a FLUSH (Table 3.10). -/
def flushHits (d : Nat) (e : BitVec 128) : Bool :=
  isF e E.fdbValid && !isF e E.fdbCref && (natBit d 29 || !isF e E.fdbStatic) &&
  (!natBit d 31 || (!isF e E.fdbGroup && getF e E.fdbDest == natBits d 28 22)) &&
  (!natBit d 30 || getF e ⟨59, 48⟩ == natBits d 11 0)

/-- Remove and log every forwarding entry that satisfies a test. -/
def State.fdbFlush (s : State) (kind : Nat) (hit : BitVec 128 → Bool) : State :=
  s.each ((s.cls.fdb.filter (fun e => hit e.2)).map (·.1)) (fun p t => t.fdbRemove p kind)

/-- FLUSH: every matching forwarding entry removed but those with CREF set. -/
def tceFlush : Body := fun c s =>
  if c.a0 22 20 ≠ 0 then refuse s 6 else (s.fdbFlush 4 (flushHits (leAt c.cont 0 4)), {})

/-- A stream entry whose encodings a table command accepts (R118, Table 3.5). -/
def streamOk (data : Nat) : Bool :=
  let prof := natBits data 249 247
  let dir := natBits data 246 245
  decide (prof ≤ 3) && dir != 3 && !(prof == 0 && dir != 0) &&
  !(decide (1 ≤ prof) && decide (dir ≤ 1) && natBits data 227 227 == 1)

/-- WRITE_POS: a VLAN, multicast or stream entry (R62, R118, R519). -/
def tceWritePos : Body := fun c s =>
  let t := c.a0 22 20
  let pos := c.a0 16 0
  let d := leAt c.cont 0 32
  if t < 2 || tableSize t ≤ pos || (t = 2 && !streamOk d) then refuse s 6
  else if t = 2 then
    let old := Tbl.at0 s.cls.stream pos
    if isF old E.strContracted || natBits d 254 254 = 1 then refuse s 5
    else
      let e : BitVec 256 := putF (putF (BitVec.ofNat 256 d) E.strContract (getF old E.strContract)) ⟨169, 0⟩ 0
      tceDone (s.setCls { s.cls with stream := Tbl.set0 s.cls.stream pos e }) pos
  else if t = 3 then
    tceDone (s.setCls { s.cls with vlan := Tbl.set0 s.cls.vlan pos (putF (BitVec.ofNat 256 d) ⟨253, 204⟩ 0) }) pos
  else
    tceDone (s.setCls { s.cls with mcast := Tbl.set0 s.cls.mcast pos (BitVec.ofNat 128 (natBits d 95 0)) }) pos

/-- Answer a command of the register face: TCE_STATUS and the data words hold the result, and BUSY falls (R79). -/
def State.faceAnswer (s : State) (r : Reply) : State :=
  let s1 := s.setCls { s.cls with face := none }
  let s2 := ((s1.put F.TCE_STATUS.BUSY 0).put F.TCE_STATUS.CODE r.code).put F.TCE_STATUS.POS r.r0
  if r.conts = [] then s2
  else s2.each (List.range 16) (fun k t => t.setReg (R.TCE_DATA k) (BitVec.ofNat 32 (leAt r.conts (4 * k) 4)))

/-- The sixteen data words as bytes. -/
def State.faceData (s : State) : List Byte := (List.range 16).flatMap (fun k => leBytes 4 (s.reg (R.TCE_DATA k)).toNat)

/-- A table command reaches the engine (R77): from a ring, from Gheor, or from the register face, whose TABLE and POS were
written with GO and whose data are the TCE_DATA words. Event 0x6A8 counts it. -/
def tceRun (op : Nat) (body : Body) (c : RingCmd) (s : State) : State :=
  match c.via with
  | .face =>
    match s.cls.face with
    | some (t, o, pos) =>
      if o = op then
        let (s1, r) := body { c with arg0 := BitVec.ofNat 64 (t * 2 ^ 20 + pos), cont := s.faceData, stage := false } (s.count 0x6A8)
        s1.faceAnswer r
      else s
    | none => s
  | _ => ringRun 0 op (fun c s => body c (s.count 0x6A8)) c s

/-- Whether an insertion would need the move register while it is loaded (R69). -/
def insertWaits (c : RingCmd) (s : State) : Bool :=
  s.cls.move.isSome && c.a0 22 20 == 0 && !c.stage &&
  (match s.placeOf (natBits (leAt c.cont 0 16) 59 0) with | .path _ => true | _ => false)

/-- READ_POS (R79). -/
def execReadPos (c : RingCmd) (s : State) : Res := .next (tceRun 0 tceReadPos c s)

/-- SEARCH (R79). -/
def execSearch (c : RingCmd) (s : State) : Res := .next (tceRun 1 tceSearch c s)

/-- INSERT (R66): one that needs a move waits while the move register is loaded (R69). -/
def execInsert (c : RingCmd) (s : State) : Res :=
  if insertWaits c s then .next (s.setCls { s.cls with waiting := s.cls.waiting ++ [c] }) else .next (tceRun 2 tceInsert c s)

/-- UPDATE (R79). -/
def execUpdate (c : RingCmd) (s : State) : Res := .next (tceRun 3 tceUpdate c s)

/-- DELETE (R79). -/
def execDelete (c : RingCmd) (s : State) : Res := .next (tceRun 4 tceDelete c s)

/-- FLUSH (R79). -/
def execFlush (c : RingCmd) (s : State) : Res := .next (tceRun 5 tceFlush c s)

/-- WRITE_POS (R118). -/
def execWritePos (c : RingCmd) (s : State) : Res := .next (tceRun 6 tceWritePos c s)

/-- MOVE_REGISTER_CLEAR (R67 step 4, R69): the register is cleared and the first waiting insertion proceeds. -/
def execMoveRegisterClear (s : State) : Res :=
  let s1 := s.setCls { s.cls with move := none }
  match s1.cls.waiting with
  | c :: rest => .next (tceRun 2 tceInsert c (s1.setCls { s1.cls with waiting := rest }))
  | [] => .next s1

/-! ### Learning and aging -/

/-- A dynamic entry as learning writes it (Table 3.9). -/
def learned (r : LearnReq) : BitVec 128 :=
  putF (putF (putF (0 : BitVec 128) E.fdbValid 1) E.fdbDest r.port) E.fdbKey (fdbKeyOf r.fid r.mac)

/-- Queue a learn request (R73): a request for a queued key merges with it; a full queue drops it. -/
def State.learnRequest (s : State) (r : LearnReq) : State :=
  let q := s.cls.learnQ
  let s := s.count 0x6AA
  if q.any (fun x => x.fid == r.fid && x.mac == r.mac) then
    s.setCls { s.cls with learnQ := q.map (fun x => if x.fid == r.fid && x.mac == r.mac then r else x) }
  else if q.length < 1024 then s.setCls { s.cls with learnQ := q ++ [r] }
  else (s.blk ClsCtr.queueDrop.idx).clsEvent 2 0

/-- LEARN_QUEUE_SERVE (R71, R70): the first queued request is carried out, unless it needs the loaded move register: an
insertion counts LEARN_NEW, a station move LEARN_STATION_MOVE, a failure FDB_INSERT_FAIL. -/
def execLearnQueueServe (s : State) : Res :=
  match s.cls.learnQ with
  | [] => .next s
  | r :: rest =>
    let key := fdbKeyOf r.fid r.mac
    let s1 := (s.setCls { s.cls with learnQ := rest }).count 0x6A8
    match s1.fdbFind key with
    | some p =>
      let e := Tbl.at0 s1.cls.fdb p
      if isF e E.fdbStatic then .next s1
      else if getF e E.fdbDest = r.port && !isF e E.fdbGroup then .next (s1.setHits p s1.powered)
      else
        let s2 := (s1.fdbPut p (putF (putF (putF e E.fdbDest r.port) E.fdbGroup 0) E.fdbStale 0)).setHits p s1.powered
        .next ((s2.logAt 2 p).blk ClsCtr.stationMove.idx)
    | none =>
      match s1.placeOf key, s1.cls.move with
      | .path _, some _ => .next s
      | _, _ =>
        match s1.fdbInsert (learned r) with
        | (s2, some p) => .next ((s2.logAt 1 p).blk ClsCtr.learnNew.idx)
        | (s2, none) => .next ((s2.blk ClsCtr.insertFail.idx).clsEvent 1 0)

/-- AGE_SWEEP_VISIT (R74, R70): a dynamic entry that was hit is marked fresh, an idle one stale, a stale one removed; an
entry in the stash moves to a free candidate. Without AGE_EN the sweeper is stopped. -/
def execAgeSweepVisit (pos : Fin 65568) (s : State) : Res :=
  let e := s.fdbAt pos.val
  if !s.on F.AGE_CFG.AGE_EN || !isF e E.fdbValid || isF e E.fdbStatic then
    .next (if s.on F.AGE_CFG.AGE_EN && decide (65536 ≤ pos.val) then s.stashMove pos.val else s)
  else
    let s1 :=
      if isF e E.fdbHit then (s.setHits pos.val 0).fdbPut pos.val (putF e E.fdbStale 0)
      else if !isF e E.fdbStale then s.fdbPut pos.val (putF e E.fdbStale 1)
      else (s.fdbRemove pos.val 3).blk ClsCtr.aged.idx
    .next (if 65536 ≤ pos.val then s1.stashMove pos.val else s1)

/-! ### Background compare (R82 to R84) -/

/-- The parts of an entry that the compare leaves out, zeroed (R82). -/
def fdbStripped (e : BitVec 128) : Nat :=
  (putF (putF (putF (putF e E.fdbHit 0) E.fdbStale 0) E.fdbLogSeq 0) E.fdbCref 0).toNat

/-- A stream entry without the fields that firmware owns. -/
def streamStripped (e : BitVec 256) : Nat := (putF (putF e E.strContracted 0) E.strContract 0).toNat

/-- Differences of an indexed table against its image: kind 1 different (R84). -/
def imageDiffs {n : Nat} (t : Nat) (tbl : Tbl (BitVec n)) (strip : BitVec n → Nat) (shadow : List (BitVec n)) : List Diff :=
  ((List.range shadow.length).zip shadow).filterMap (fun (i, w) =>
    if strip (Tbl.at0 tbl i) = strip w then none else some ⟨t, 1, i, i, w.toNat⟩)

/-- Differences of the forwarding table: listed static entries absent (0) or different (1), entries of the table that no
listed one accounts for (2 extra), a wrong number of static entries (3), and dynamic entries that differ from their log
record (R83). -/
def State.fdbDiffs (s : State) (b : BgcShadow) : List Diff :=
  let listed := b.fdb.filterMap (fun w =>
    let key := getF w E.fdbKey
    match s.fdbFind key with
    | none => some ⟨0, 0, 0, key, w.toNat⟩
    | some p =>
      if fdbStripped (Tbl.at0 s.cls.fdb p) = fdbStripped w then none else some ⟨0, 1, p, key, w.toNat⟩)
  let statics := s.cls.fdb.filter (fun e => isF e.2 E.fdbValid && isF e.2 E.fdbStatic)
  let extra := statics.filterMap (fun e =>
    if b.fdb.any (fun w => getF w E.fdbKey == getF e.2 E.fdbKey) then none
    else some ⟨0, 2, e.1, getF e.2 E.fdbKey, e.2.toNat⟩)
  let count := if statics.length = s.fld (F.BGC_SHADOW_CNT.CNT 0) then [] else [⟨0, 3, 0, statics.length, 0⟩]
  let dyn := (s.cls.fdb.filter (fun e => isF e.2 E.fdbValid && !isF e.2 E.fdbStatic)).filterMap (fun e =>
    match b.log.find? (fun r => r.1 == getF e.2 E.fdbLogSeq % 2 ^ s.fld F.LLOG_CFG.LLOG_ORDER) with
    | none => none
    | some r =>
      let w : BitVec 128 := BitVec.ofNat 128 (natBits r.2.toNat 255 128)
      if natBits r.2.toNat 23 0 ≠ getF e.2 E.fdbLogSeq || getF w E.fdbKey ≠ getF e.2 E.fdbKey then none
      else if (putF (putF e.2 E.fdbHit 0) E.fdbStale 0) = (putF (putF w E.fdbHit 0) E.fdbStale 0) then none
      else some ⟨0, 4, e.1, getF e.2 E.fdbKey, 0⟩)
  listed ++ extra ++ count ++ dyn

/-- Dynamic entries whose log record has been overwritten: not compared, counted in BGC_SKIP (R83). -/
def State.fdbSkips (s : State) (b : BgcShadow) : Nat :=
  ((s.cls.fdb.filter (fun e => isF e.2 E.fdbValid && !isF e.2 E.fdbStatic)).filter (fun e =>
    match b.log.find? (fun r => r.1 == getF e.2 E.fdbLogSeq % 2 ^ s.fld F.LLOG_CFG.LLOG_ORDER) with
    | none => true
    | some r => natBits r.2.toNat 23 0 ≠ getF e.2 E.fdbLogSeq ||
        natBits (natBits r.2.toNat 255 128) 59 0 ≠ getF e.2 E.fdbKey)).length

/-- Differences of the stream identification table. -/
def State.sidDiffs (s : State) (b : BgcShadow) : List Diff :=
  let listed := b.sid.filterMap (fun w =>
    match s.sidFind (getF w E.sidMethod) (getF w E.sidKey) with
    | none => some ⟨1, 0, 0, getF w E.sidKey, w.toNat⟩
    | some p => if Tbl.at0 s.cls.sid p = w then none else some ⟨1, 1, p, getF w E.sidKey, w.toNat⟩)
  let valid := s.cls.sid.filter (fun e => isF e.2 E.sidValid)
  let extra := valid.filterMap (fun e =>
    if b.sid.any (fun w => getF w E.sidMethod == getF e.2 E.sidMethod && getF w E.sidKey == getF e.2 E.sidKey) then none
    else some ⟨1, 2, e.1, getF e.2 E.sidKey, e.2.toNat⟩)
  let count := if valid.length = s.fld (F.BGC_SHADOW_CNT.CNT 1) then [] else [⟨1, 3, 0, valid.length, 0⟩]
  listed ++ extra ++ count

/-- All differences between the tables and the shadows. -/
def State.bgcDiffs (s : State) (b : BgcShadow) : List Diff :=
  s.fdbDiffs b ++ s.sidDiffs b ++ imageDiffs 2 s.cls.stream streamStripped b.stream ++
  imageDiffs 3 s.cls.vlan BitVec.toNat b.vlan ++ imageDiffs 4 s.cls.mcast BitVec.toNat b.mcast

/-- BGC_PASS (R82, R83): while BGC_EN is 1, one pass finds the differences that BGC_CONFIRM will look at again, and counts
the dynamic entries it could not compare. -/
def execBgcPass (b : BgcShadow) (s : State) : Res :=
  if s.on F.BGC_CFG.BGC_EN then
    .next ((s.setCls { s.cls with bgcOpen := s.bgcDiffs b }).blkAdd ClsCtr.bgcSkip.idx (s.fdbSkips b))
  else .next s

/-- Repair one confirmed difference (R84): absent entries are inserted, different ones written, a dynamic mismatch deleted;
extra and count differences are left. -/
def State.bgcRepair (s : State) (d : Diff) : State :=
  let counted (t : State) := t.blk ClsCtr.bgcRepair.idx
  match d.table, d.kind with
  | 0, 0 =>
    match s.fdbInsert (fdbMerge d.shadow 0) with
    | (t, some _) => counted t
    | (t, none) => t
  | 0, 1 => counted (s.fdbPut d.pos (fdbMerge d.shadow (Tbl.at0 s.cls.fdb d.pos)))
  | 0, 4 => counted (s.fdbRemove d.pos 6)
  | 1, 0 =>
    match (s.sidSlots d.key).find? (fun p => !isF (Tbl.at0 s.cls.sid p) E.sidValid) with
    | some p => counted (s.setCls { s.cls with sid := Tbl.set0 s.cls.sid p (BitVec.ofNat 512 d.shadow) })
    | none => s
  | 1, 1 => counted (s.setCls { s.cls with sid := Tbl.set0 s.cls.sid d.pos (BitVec.ofNat 512 d.shadow) })
  | 2, 1 =>
    let old := Tbl.at0 s.cls.stream d.pos
    let e : BitVec 256 := putF (putF (BitVec.ofNat 256 d.shadow) E.strContracted (getF old E.strContracted))
      E.strContract (getF old E.strContract)
    counted (s.setCls { s.cls with stream := Tbl.set0 s.cls.stream d.pos e })
  | 3, 1 => counted (s.setCls { s.cls with vlan := Tbl.set0 s.cls.vlan d.pos (BitVec.ofNat 256 d.shadow) })
  | 4, 1 => counted (s.setCls { s.cls with mcast := Tbl.set0 s.cls.mcast d.pos (BitVec.ofNat 128 d.shadow) })
  | _, _ => s

/-- The kind a BGC_MISMATCH event names (R84): 0 absent, 1 different, 2 extra, 3 count. -/
def Diff.eventKind (d : Diff) : Nat := if d.kind = 4 then 1 else d.kind

/-- Post one confirmed difference: the register bit, and, while it is enabled, a record of its own each time (R86): table,
position, kind, and the key in continuations (R399). -/
def State.bgcPost (s : State) (d : Diff) : State :=
  let s1 := (s.setReg R.CLS_EVENT (s.reg R.CLS_EVENT ||| 8)).blk ClsCtr.bgcMismatch.idx
  if natBit (s.reg R.CLS_EVENT_EN).toNat 3 then
    if d.table = 1 then s1.post { s1.rec_ 0x03 3 d.table d.pos 60 d.eventKind with conts := leBytes 60 d.key }
    else s1.record 0x03 3 d.table d.pos d.key d.eventKind
  else s1

/-- BGC_CONFIRM (R84): a difference found again is counted and posted and, with REPAIR_EN, repaired. -/
def execBgcConfirm (b : BgcShadow) (s : State) : Res :=
  let now := s.bgcDiffs b
  let confirmed := s.cls.bgcOpen.filter (fun d => now.contains d)
  let s1 := s.setCls { s.cls with bgcOpen := [] }
  .next (s1.each confirmed (fun d t =>
    let t1 := t.bgcPost d
    if t1.on F.BGC_CFG.REPAIR_EN then t1.bgcRepair d else t1))

end Sys2Proof.Machine
end

