-- ==== Sys2Proof/Machine/Contexts.lean ====
section
/-!
DEFINITION. Security contexts (spec/06_security_contexts.md, R138 to R164; spec/04_macsec.md, R100, R101, R112): context
images, the SCI map, caches and pins, quarantine, flip sets, the packet-number leap, and the context commands.
-/
namespace Sys2Proof.Machine

/-! ### Fields of a context (Tables 6.1 to 6.4) and of the other entries -/

namespace C
def valid : BF := ⟨31, 31⟩
def kind : BF := ⟨30, 29⟩
def dir : BF := ⟨28, 28⟩
def cs : BF := ⟨27, 26⟩
def an : BF := ⟨25, 24⟩
def rxEn : BF := ⟨23, 23⟩
def txEn : BF := ⟨22, 22⟩
def mExhausted : BF := ⟨21, 21⟩
def mWarned : BF := ⟨20, 20⟩
def mPin : BF := ⟨19, 19⟩
def mCref : BF := ⟨18, 18⟩
def mQuar : BF := ⟨17, 17⟩
def mOvf : BF := ⟨16, 16⟩
def port : BF := ⟨6, 0⟩
def profile : BF := ⟨27, 26⟩
def lMode : BF := ⟨25, 24⟩
def gen0 : BF := ⟨23, 23⟩
def gen1 : BF := ⟨22, 22⟩
def txGen : BF := ⟨21, 21⟩
def stageValid : BF := ⟨20, 20⟩
def replay : BF := ⟨19, 19⟩
def dup : BF := ⟨18, 18⟩
def pExhausted : BF := ⟨17, 17⟩
def pWarned : BF := ⟨16, 16⟩
def pPin : BF := ⟨15, 15⟩
def pCref : BF := ⟨14, 14⟩
def pQuar : BF := ⟨13, 13⟩
def pOvf : BF := ⟨12, 12⟩
def pend : BF := ⟨11, 11⟩
def pendGen : BF := ⟨10, 10⟩
def pendSet : BF := ⟨9, 2⟩
def slot : BF := ⟨32 + 18, 32⟩
def nextPn : BF := bytesAt 0x08 8
def mWarn : BF := bytesAt 0x10 8
def sci : BF := bytesAt 0x18 8
def ssci : BF := bytesAt 0x20 4
def salt : BF := bytesAt 0x24 12
def seen : BF := bytesAt 0x30 8
def scIndex : BF := bytesAt 0x38 2
def mChkpt : BF := bytesAt 0x40 8
def slot1 : BF := ⟨64 + 18, 64⟩
def keyId0 : BF := bytesAt 0x0C 4
def keyId1 : BF := bytesAt 0x10 4
def senderId : BF := bytesAt 0x14 4
def nextCnt : BF := bytesAt 0x18 8
def cntStage : BF := bytesAt 0x20 8
def pWarn : BF := bytesAt 0x28 8
def ivFixed : BF := bytesAt 0x38 8
def timeOfKey0 : BF := bytesAt 0x40 4
def timeOfKey1 : BF := bytesAt 0x44 4
def timeToNext0 : BF := bytesAt 0x48 2
def timeToNext1 : BF := bytesAt 0x4A 2
def replayWindow : BF := ⟨8 * 0x4C + 30, 8 * 0x4C⟩
def tunnelId : BF := bytesAt 0x50 2
def template : BF := ⟨8 * 0x52 + 11, 8 * 0x52⟩
def owner : BF := bytesAt 0x54 1
def pChkpt : BF := bytesAt 0x58 8
/-- Counter `j` of a context: 6 bytes each from 0x80 (Tables 6.1, 6.3). -/
def ctr (j : Nat) : BF := bytesAt (0x80 + 6 * j) 6
end C

namespace M
def scmValid : BF := ⟨127, 127⟩
def scmPort : BF := ⟨102, 96⟩
def scmIndex : BF := ⟨79, 64⟩
def scmSci : BF := ⟨63, 0⟩
def txPend : BF := ⟨12, 12⟩
def txPendAn : BF := ⟨11, 10⟩
def txPendSet : BF := ⟨9, 2⟩
def txAn : BF := ⟨1, 0⟩
def usage : BF := ⟨21, 16⟩
def attrValid : BF := ⟨31, 31⟩
def attrPin : BF := ⟨30, 30⟩
def attrQuar : BF := ⟨29, 29⟩
end M

/-! ### Reading contexts -/

/-- The stored image of a context. -/
def State.ctxAt (s : State) (n : Nat) : BitVec 2048 := Tbl.at0 s.ctx.ctx n

/-- The state with the context block replaced. -/
def State.setCtx (s : State) (c : CtxSt) : State := { s with ctx := c }

/-- Write the image of a context. -/
def State.ctxPut (s : State) (n : Nat) (w : BitVec 2048) : State := s.setCtx { s.ctx with ctx := Tbl.set0 s.ctx.ctx n w }

/-- A context in use. -/
def State.ctxValid (s : State) (n : Nat) : Bool := isF (s.ctxAt n) C.valid

/-- KIND of a context: 1 MACsec SA, 2 profile. -/
def ctxKind (w : BitVec 2048) : Nat := getF w C.kind

/-- The quarantine bit of a context of either kind (R149). -/
def ctxQuar (w : BitVec 2048) : Bool := if ctxKind w = 1 then isF w C.mQuar else isF w C.pQuar

/-- An enable bit is set. -/
def ctxEnabled (w : BitVec 2048) : Bool :=
  if ctxKind w = 1 then isF w C.rxEn || isF w C.txEn else isF w C.gen0 || isF w C.gen1

/-- Pinned (R147). -/
def State.ctxPinned (s : State) (n : Nat) : Bool := natBit (Tbl.atN s.ctx.hold n) 0

/-- Named by an accepted contract (R148). -/
def State.ctxRef (s : State) (n : Nat) : Bool := natBit (Tbl.atN s.ctx.hold n) 1

/-- The port group a pin holds a context in. -/
def State.ctxHoldGroup (s : State) (n : Nat) : Nat := natBits (Tbl.atN s.ctx.hold n) 7 4

/-- The owner group of a context (R144): the group of PORT, or OWNER of a profile context. -/
def ctxGroup (w : BitVec 2048) : Option Nat :=
  if ctxKind w = 1 then some (getF w C.port / 8)
  else if natBit (getF w C.owner) 7 then some (natBits (getF w C.owner) 3 0) else none

/-- The image that CTX_READ returns: the stored fields, with AN, SC_INDEX, PIN and CONTRACT_REF as the device keeps them. -/
def State.ctxImage (s : State) (n : Nat) : BitVec 2048 :=
  let w := s.ctxAt n
  if ctxKind w = 1 then
    putF (putF (putF (putF w C.an (n % 4)) C.scIndex (n / 4)) C.mPin (b2n (s.ctxPinned n))) C.mCref (b2n (s.ctxRef n))
  else if ctxKind w = 2 then putF (putF w C.pPin (b2n (s.ctxPinned n))) C.pCref (b2n (s.ctxRef n))
  else w

/-- The SecY transmit state of a port (Table 6.5). -/
def State.secyTx (s : State) (p : Nat) : BitVec 32 := Tbl.at0 s.ctx.secyTx p

/-- Write the SecY transmit state of a port. -/
def State.setSecyTx (s : State) (p : Nat) (w : BitVec 32) : State :=
  s.setCtx { s.ctx with secyTx := Tbl.set0 s.ctx.secyTx p w }

/-- The transmit context of AN `a` of a port's SecY (R101, R143). -/
def State.txCtx (s : State) (p a : Nat) : Nat := 4 * s.fld (F.SECY_CFG.TX_SC p) + a

/-- The maximum of a packet number or profile counter (R141, R153). -/
def ctxMax (w : BitVec 2048) : Nat :=
  if ctxKind w = 1 then (if getF w C.cs < 2 then 2 ^ 32 - 1 else 2 ^ 64 - 1)
  else if getF w C.profile = 2 then 2 ^ 32 - 1 else 2 ^ 64 - 1

/-- The warning distance in force (Table 6.1, R124). -/
def ctxWarn (w : BitVec 2048) : Nat :=
  let d := if ctxKind w = 1 then getF w C.mWarn else getF w C.pWarn
  if d = 0 then (if ctxMax w = 2 ^ 32 - 1 then 2 ^ 30 else 2 ^ 62) else d

/-! ### Key slots as contexts name them -/

/-- A slot of the key store (R208). -/
def State.slot (s : State) (k : Nat) : Slot := Tbl.getD (fun _ => ⟨0, 0, false⟩) s.key.slots k

/-- A slot pinned in the key store. -/
def State.slotPinned (s : State) (k : Nat) : Bool := isF (s.slot k).attr M.attrPin

/-- The slots a context names (R211): SLOT; SLOT_0 and SLOT_1, and for Profile L each slot's successor. -/
def ctxSlots (w : BitVec 2048) : List Nat :=
  if ctxKind w = 1 then [getF w C.slot]
  else if ctxKind w = 2 then
    let a := getF w C.slot
    let b := getF w C.slot1
    if getF w C.profile = 3 then [a, a + 1, b, b + 1] else [a, b]
  else []

/-- REFS of a slot: the valid contexts that name it (R211). -/
def State.refs (s : State) (k : Nat) : Nat :=
  (s.ctx.ctx.filter (fun e => isF e.2 C.valid && (ctxSlots e.2).contains k)).length

/-- Whether the context is the selected transmit context of its port's SecY. -/
def State.isTxSelected (s : State) (n : Nat) : Bool :=
  let w := s.ctxAt n
  ctxKind w == 1 && isF w C.dir && s.txCtx (getF w C.port) (getF (s.secyTx (getF w C.port)) M.txAn) == n

/-- The flip set with a number (R154). -/
def State.flip (s : State) (f : Nat) : FlipSet := Tbl.getD (fun _ => FlipSet.idle) s.ctx.flips f

/-- The target context of a flip member. -/
def State.flipTarget (s : State) : FlipMember → Nat
  | .secy p an => s.txCtx p an
  | .gen n _ => n

/-- Contexts that are targets of an armed flip (R146). -/
def State.armedTargets (s : State) : List Nat :=
  s.ctx.flips.flatMap (fun e => if e.2.state = 1 then e.2.members.map s.flipTarget else [])

/-- Contexts kept resident outside the pin budget (R146). -/
def State.ctxKept (s : State) (n : Nat) : Bool := s.isTxSelected n || s.armedTargets.contains n

/-- Context slots kept resident with the contexts that name them (R146). -/
def State.slotKept (s : State) (k : Nat) : Bool :=
  s.ctx.ctx.any (fun e => isF e.2 C.valid && (ctxSlots e.2).contains k && s.ctxKept e.1)

/-! ### Residency of slots (R205, R207) and of contexts (R144 to R146) -/

/-- The state with the key store replaced. -/
def State.setKey (s : State) (k : KeySt) : State := { s with key := k }

/-- KEY_STATUS follows the number of resident and pinned slots (Table 9.13). -/
def State.keyGauges (s : State) : State :=
  (s.put F.KEY_STATUS.RESIDENT (1024 + s.key.lru.length)).put F.KEY_STATUS.PINNED
    (s.key.slots.filter (fun e => decide (e.1 < 262144) && isF e.2.attr M.attrPin)).length

/-- A slot is in an on-die position: every device slot, and the context slots of the list (R205). -/
def State.slotResident (s : State) (k : Nat) : Bool := decide (262144 ≤ k) || s.key.lru.contains k

/-- Place a context slot in an on-die position, evicting the least recently delivered slot that is unpinned and not kept
(R207). None when no position is left. -/
def State.slotPlace (s : State) (k : Nat) : Option State :=
  if s.slotResident k then some s
  else if s.key.lru.length < 7168 then some (s.setKey { s.key with lru := k :: s.key.lru }).keyGauges
  else
    match s.key.lru.reverse.find? (fun j => !s.slotPinned j && !s.slotKept j) with
    | some j => some ((s.setKey { s.key with lru := k :: s.key.lru.filter (· != j) }).count 0x6A1).keyGauges
    | none => none

/-- Place every filled slot of a list. -/
def State.slotsPlace (s : State) : List Nat → Option State
  | [] => some s
  | k :: rest =>
    if isF (s.slot k).attr M.attrValid then
      match s.slotPlace k with
      | some t => t.slotsPlace rest
      | none => none
    else s.slotsPlace rest

/-- The contexts cached for a group, most recently used first. -/
def State.cached (s : State) (g : Nat) : List Nat := Tbl.getD (fun _ => []) s.ctx.cache g

/-- Replace the cache of a group and its gauges (Table 6.13). -/
def State.setCached (s : State) (g : Nat) (l : List Nat) : State :=
  let s1 := s.setCtx { s.ctx with cache := Tbl.setD (fun _ => []) s.ctx.cache g l }
  let sl := s1.sliceOf g
  (s1.put (F.CTX_CACHE_STATUS.CACHED sl) l.length).put (F.CTX_CACHE_STATUS.PINNED sl) (l.filter s1.ctxPinned).length

/-- Bring a context into its group's cache, evicting the least recently used entry that is unpinned and not kept (R146).
Event 25 of the slice counts an eviction. -/
def State.ctxPlace (s : State) (g n : Nat) : State :=
  let l := s.cached g
  if l.contains n then s.setCached g (n :: l.filter (· != n))
  else if l.length < 16384 then s.setCached g (n :: l)
  else
    match l.reverse.find? (fun m => !s.ctxPinned m && !s.ctxKept m) with
    | some m => (s.setCached g (n :: l.filter (· != m))).count (128 * s.sliceOf g + 25)
    | none => s

/-- Make a context resident together with the filled slots it names; none when no position is left for a slot (R146). -/
def State.keepResident (s : State) (n : Nat) : Option State :=
  match s.slotsPlace (ctxSlots (s.ctxAt n)) with
  | some t =>
    match ctxGroup (s.ctxAt n) with
    | some g => some (t.ctxPlace g n)
    | none => some t
  | none => none

/-- Take a context out of every cache. -/
def State.ctxUncache (s : State) (n : Nat) : State :=
  s.each (List.range 12) (fun g t => if (t.cached g).contains n then t.setCached g ((t.cached g).filter (· != n)) else t)

/-! ### Counters and events of a context (R112, R136, R153, R163) -/

/-- Counter `j` of a context adds one; at full range it wraps and sets CNT_OVF (R112). -/
def State.ctxCount (s : State) (n j : Nat) : State :=
  let w := s.ctxAt n
  let v := getF w (C.ctr j) + 1
  let w1 := putF w (C.ctr j) (v % 2 ^ 48)
  s.ctxPut n (if v = 2 ^ 48 then putF w1 (if ctxKind w = 1 then C.mOvf else C.pOvf) 1 else w1)

/-- Quarantine a valid context (R149): QUAR, and one CTX_QUARANTINED record; cause 0 memory, 1 slice reset. -/
def State.quarantine (s : State) (n cause : Nat) : State :=
  let w := s.ctxAt n
  if !isF w C.valid || ctxQuar w then s
  else (s.ctxPut n (putF w (if ctxKind w = 1 then C.mQuar else C.pQuar) 1)).ctxEvent 4 n cause

/-- Set TX_GEN of a GENERATE context: a change loads a staged counter (R142). -/
def State.setTxGen (s : State) (n g : Nat) : State :=
  let w := s.ctxAt n
  if getF w C.txGen = g then s
  else
    let w1 := putF w C.txGen g
    s.ctxPut n (if isF w C.stageValid then
      putF (putF (putF (putF w1 C.nextCnt (getF w C.cntStage)) C.stageValid 0) C.pExhausted 0) C.pWarned 0 else w1)

/-! ### Flip sets (R154 to R157) -/

/-- Replace a flip set, and its state in FLIP_STATE (Table 6.12). -/
def State.setFlip (s : State) (f : Nat) (x : FlipSet) : State :=
  let s1 := s.setCtx { s.ctx with flips := Tbl.setD (fun _ => FlipSet.idle) s.ctx.flips f x }
  s1.put ⟨R.FLIP_STATE (f / 16), 2 * (f % 16) + 1, 2 * (f % 16)⟩ x.state

/-- Record a membership in the member's PEND fields, or clear it. -/
def State.setPend (s : State) (m : FlipMember) (f : Nat) (on : Bool) : State :=
  match m with
  | .secy p an =>
    let w := s.secyTx p
    s.setSecyTx p (if on then putF (putF (putF w M.txPend 1) M.txPendAn an) M.txPendSet f
      else putF (putF (putF w M.txPend 0) M.txPendAn 0) M.txPendSet 0)
  | .gen n g =>
    let w := s.ctxAt n
    s.ctxPut n (if on then putF (putF (putF w C.pend 1) C.pendGen g) C.pendSet f
      else putF (putF (putF w C.pend 0) C.pendGen 0) C.pendSet 0)

/-- Switch a member to its target (R156). -/
def State.flipMember (s : State) : FlipMember → State
  | .secy p an => s.setSecyTx p (putF (s.secyTx p) M.txAn an)
  | .gen n g => s.setTxGen n g

/-- Fire an armed set at an instant: every member switches to its target (R155, R156). -/
def State.fireFlip (s : State) (f t : Nat) : State :=
  let x := s.flip f
  (s.each x.members (fun m u => u.flipMember m)).setFlip f
    { x with state := 2, fireAt := (t / 1000000000, t % 1000000000) }

/-- FLIP_DONE (R157): a fired set clears its members' PEND fields, returns to IDLE and posts its number and member count. -/
def execFlipDone (f : Fin 256) (s : State) : Res :=
  let x := s.flip f.val
  if x.state = 2 then
    .next (((s.each x.members (fun m u => u.setPend m f.val false)).setFlip f.val
      { FlipSet.idle with notBefore := x.notBefore, fireAt := x.fireAt }).ctxEvent 6 f.val x.members.length)
  else .next s

/-! ### SCI map (R100, R101) -/

/-- The two buckets of a key. -/
def State.scmBuckets (s : State) (sci port : Nat) : Nat × Nat :=
  let k := beBytes 8 sci ++ beBytes 1 port
  (tableHash (s.fld F.SCM_SEED0.SEED) k % 8192, tableHash (s.fld F.SCM_SEED1.SEED) k % 8192)

/-- The positions a key may take, in the order SCM_ADD tries them. -/
def State.scmSlots (s : State) (sci port : Nat) : List Nat :=
  let (b0, b1) := s.scmBuckets sci port
  let of (b : Nat) := (List.range 8).map (8 * b + ·)
  of b0 ++ (if b1 = b0 then [] else of b1)

/-- The position of a key in the SCI map. -/
def State.scmFind (s : State) (sci port : Nat) : Option Nat :=
  (s.scmSlots sci port).find? (fun i =>
    let e := Tbl.at0 s.ctx.scm i
    isF e M.scmValid && getF e M.scmSci == sci && getF e M.scmPort == port)

/-- The key equals that of some SecY's transmit SC: a valid transmit context of its TX_SC with that SCI (R101). -/
def State.isTxKey (s : State) (sci port : Nat) : Bool :=
  (List.range 4).any (fun a =>
    let w := s.ctxAt (s.txCtx port a)
    isF w C.valid && ctxKind w == 1 && isF w C.dir && getF w C.sci == sci && getF w C.port == port)

/-- SCM_USED: valid entries. -/
def State.scmGauge (s : State) : State := s.put F.SCM_USED.USED (s.ctx.scm.filter (fun e => isF e.2 M.scmValid)).length

/-! ### CTX_INSTALL (R151) -/

/-- The image of a MACsec SA is acceptable in itself: encodings, slot and packet number (R151 list, item 1). -/
def macImageOk (w : BitVec 2048) : Bool :=
  isF w C.valid && decide (getF w C.port < 96) && decide (getF w C.slot < 262144) &&
  decide (1 ≤ getF w C.nextPn) && decide (getF w C.nextPn ≤ ctxMax w)

/-- A slot that a profile generation may name (R204): Profile L names an even slot with its successor. -/
def profSlotOk (prof k : Nat) : Bool := decide (k < 262144) && (prof != 3 || (k % 2 == 0 && decide (k + 1 < 262144)))

/-- The image of a profile context is acceptable in itself. -/
def profImageOk (w : BitVec 2048) : Bool :=
  let prof := getF w C.profile
  let l := getF w C.lMode
  isF w C.valid && decide (1 ≤ prof) && (if prof = 3 then l == 1 || l == 2 else l == 0) &&
  profSlotOk prof (getF w C.slot) && profSlotOk prof (getF w C.slot1) &&
  decide (getF w C.replayWindow ≤ 2 ^ 30) && !(isF w C.dup && decide (64 < getF w C.replayWindow)) &&
  decide (1 ≤ getF w C.nextCnt) && decide (getF w C.nextCnt ≤ ctxMax w)

/-- The context that an install of a MACsec image writes: every RW field; the replay state, EXHAUSTED, WARNED and QUAR start
anew; the counters are kept, or start at zero after a quarantine (R149). -/
def macInstall (old img : BitVec 2048) : BitVec 2048 :=
  let xpn := decide (2 ≤ getF img C.cs)
  let keep := isF old C.valid && ctxQuar old
  let base : BitVec 2048 := if keep then 0 else
    putF (putF (0 : BitVec 2048) (bytesAt 0x80 66) (getF old (bytesAt 0x80 66))) C.mOvf (if ctxKind old = 1 then getF old C.mOvf else 0)
  let b1 := putF (putF (putF (putF (putF base C.valid 1) C.kind 1) C.dir (getF img C.dir)) C.cs (getF img C.cs)) C.port (getF img C.port)
  let b2 := putF (putF (putF (putF b1 C.slot (getF img C.slot)) C.nextPn (getF img C.nextPn)) C.mWarn (getF img C.mWarn)) C.sci (getF img C.sci)
  let b3 := if xpn then putF (putF b2 C.ssci (getF img C.ssci)) C.salt (getF img C.salt) else b2
  putF b3 C.mChkpt (if ctxKind old = 1 then getF old C.mChkpt else 0)

/-- Copy a list of fields from one image to another. -/
def copyF (src : BitVec 2048) (fs : List BF) (dst : BitVec 2048) : BitVec 2048 := fs.foldl (fun w f => putF w f (getF src f)) dst

/-- The fields of generation `g` (R151). -/
def genFields (g : Nat) : List BF :=
  if g = 0 then [C.slot, C.keyId0, C.timeOfKey0, C.timeToNext0] else [C.slot1, C.keyId1, C.timeOfKey1, C.timeToNext1]

/-- The common fields of a profile context. -/
def commonFields : List BF :=
  [C.valid, C.kind, C.dir, C.profile, C.lMode, C.replay, C.dup, C.senderId, C.nextCnt, C.pWarn, C.ivFixed, C.replayWindow,
   C.tunnelId, C.template]

/-- The context that an install of a profile image writes (R151): the fields of the generations of the mask, the common
fields while both GEN_EN bits are 0, and the staged counter. -/
def profInstall (s : State) (n : Nat) (img : BitVec 2048) (mask : Nat) : BitVec 2048 :=
  let old := s.ctxAt n
  let quar := isF old C.valid && ctxQuar old
  let free := !(isF old C.gen0 || isF old C.gen1) || ctxKind old != 2
  let base0 := if ctxKind old = 2 then old else 0
  let base := if quar then putF (putF (putF base0 C.pQuar 0) (bytesAt 0x80 48) 0) C.pOvf 0 else base0
  let b1 := if free then
      putF (putF (putF (copyF img commonFields base) C.seen 0) C.pExhausted 0) C.pWarned 0
    else base
  let b2 := if free && !s.ctxPinned n then putF b1 C.owner 0 else b1
  let b3 := if natBit mask 0 then copyF img (genFields 0) b2 else b2
  let b4 := if natBit mask 1 then copyF img (genFields 1) b3 else b3
  if isF img C.stageValid then putF (putF b4 C.cntStage (getF img C.cntStage)) C.stageValid 1 else b4

/-- The first line of a context in the CTX region (Table 15.1), which an install writes whole (R360). -/
def ctxLine (n : Nat) : Nat := 0x01000000 / 64 + 4 * n

/-- CTX_INSTALL (R151): the first refusal of its list in order, or the write. -/
def ctxInstall : Body := fun c s =>
  let n := c.a0 17 0
  let img : BitVec 2048 := BitVec.ofNat 2048 (leAt c.cont 0 256)
  let old := s.ctxAt n
  let mac := ctxKind img == 1
  let mask := c.a1 1 0
  if c.a0 63 18 ≠ 0 then refuse s 6
  else if !((mac && macImageOk img) || (ctxKind img == 2 && profImageOk img)) then refuse s 6
  else if ((List.range 4).any (fun a =>
      let m := 4 * (n / 4) + a
      m != n && s.ctxValid m && ctxKind (s.ctxAt m) != ctxKind img)) then refuse s 13
  else if isF old C.valid && (if ctxKind old = 1 || mac then ctxEnabled old
      else (natBit mask 0 && isF old C.gen0) || (natBit mask 1 && isF old C.gen1)) then refuse s 7
  else if mac && getF img C.cs ≠ s.fld (F.SECY_CFG.CS (getF img C.port)) then refuse s 8
  else if mac && isF img C.dir && (s.scmFind (getF img C.sci) (getF img C.port)).isSome then refuse s 2
  else if mac && !isF img C.dir && !(s.ctx.scm.any (fun e =>
      isF e.2 M.scmValid && getF e.2 M.scmIndex == n / 4 && getF e.2 M.scmPort == getF img C.port)) then refuse s 6
  else if mac && isF img C.dir && n / 4 ≠ s.fld (F.SECY_CFG.TX_SC (getF img C.port)) then refuse s 6
  else if mac && s.ctxRef n && getF img C.port / 8 ≠ s.ctxHoldGroup n then refuse s 6
  else
    let w := if mac then macInstall old img else profInstall s n img mask
    if s.ctxRef n && !(ctxSlots w).all s.slotPinned then refuse s 10
    else
      let moved := isF old C.valid && ctxGroup old != ctxGroup w
      let s1 := ((if moved then s.ctxUncache n else s).ctxPut n w).unpoison (ctxLine n) (ctxLine n + 4)
      if s1.isTxSelected n then
        match s1.keepResident n with
        | some s2 => (s2, {})
        | none => refuse s 9
      else (s1, {})

/-! ### The other context commands (Table 6.9) -/

/-- CTX_READ (R112, R149): the image, or with SC_SUM the counter sums of the quad in place of a MACsec context's counters. -/
def ctxRead : Body := fun c s =>
  let n := c.a0 17 0
  if c.a0 63 18 ≠ 0 then refuse s 6
  else
    let w := s.ctxImage n
    if isF w C.valid && ctxQuar w then refuse s 11
    else if c.a1 0 0 = 1 && ctxKind w = 1 then
      let sums := (List.range 11).foldl (fun v j =>
        putF v (C.ctr j) (((List.range 4).map (fun a => getF (s.ctxAt (4 * (n / 4) + a)) (C.ctr j))).sum % 2 ^ 48)) w
      (s, { conts := leBytes 256 sums.toNat })
    else (s, { conts := leBytes 256 w.toNat })

/-- CTX_ENABLE (R150, R148, R146): RX_EN or TX_EN by DIR, or GEN_EN of the generation of ARG1. -/
def ctxEnable : Body := fun c s =>
  let n := c.a0 17 0
  let w := s.ctxAt n
  if c.a0 63 18 ≠ 0 then refuse s 6
  else if !isF w C.valid then refuse s 1
  else if ctxQuar w then refuse s 11
  else if s.ctxRef n && !(ctxSlots w).all s.slotPinned then refuse s 10
  else if ctxKind w = 1 then
    let s1 := s.ctxPut n (putF w (if isF w C.dir then C.txEn else C.rxEn) 1)
    if s1.isTxSelected n then
      match s1.keepResident n with
      | some s2 => (s2, {})
      | none => refuse s 9
    else (s1, {})
  else (s.ctxPut n (putF w (if c.a1 0 0 = 0 then C.gen0 else C.gen1) 1), {})

/-- CTX_RETIRE (R150): the same bits cleared; IN_USE for the selected AN or generation and for the target of an armed flip. -/
def ctxRetire : Body := fun c s =>
  let n := c.a0 17 0
  let w := s.ctxAt n
  let g := c.a1 0 0
  if c.a0 63 18 ≠ 0 then refuse s 6
  else if !isF w C.valid then refuse s 1
  else if ctxKind w = 1 then
    if isF w C.dir && (s.isTxSelected n || s.armedTargets.contains n) then refuse s 7
    else (s.ctxPut n (putF (putF w C.txEn 0) C.rxEn 0), {})
  else
    let target := s.ctx.flips.any (fun e => e.2.state == 1 && e.2.members.contains (FlipMember.gen n g))
    if isF w C.dir && (getF w C.txGen == g || target) then refuse s 7
    else (s.ctxPut n (putF w (if g = 0 then C.gen0 else C.gen1) 0), {})

/-- CTX_SELECT (R150, R146, R142): TX_AN of a SecY or TX_GEN of a GENERATE context, at once. -/
def ctxSelect : Body := fun c s =>
  if c.a1 20 20 = 0 then
    let p := c.a0 6 0
    let a := c.a1 1 0
    if 96 ≤ p || c.a0 63 7 ≠ 0 then refuse s 6
    else
      let n := s.txCtx p a
      let w := s.ctxAt n
      if isF w C.valid && ctxQuar w then refuse s 11
      else if !(isF w C.valid && ctxKind w == 1 && isF w C.dir && isF w C.txEn) then refuse s 7
      else
        match (s.setSecyTx p (putF (s.secyTx p) M.txAn a)).keepResident n with
        | some s1 => (s1, {})
        | none => refuse s 9
  else
    let n := c.a0 17 0
    let g := c.a1 0 0
    let w := s.ctxAt n
    if c.a0 63 18 ≠ 0 || (isF w C.valid && !(ctxKind w == 2 && isF w C.dir)) then refuse s 6
    else if isF w C.valid && ctxQuar w then refuse s 11
    else if !(isF w C.valid && isF w (if g = 0 then C.gen0 else C.gen1)) then refuse s 7
    else (s.setTxGen n g, {})

/-- CTX_FREE (R150, R148): VALID cleared and the counters kept; PROTECTED under a contract, IN_USE while enabled or pinned. -/
def ctxFree : Body := fun c s =>
  let n := c.a0 17 0
  let w := s.ctxAt n
  if c.a0 63 18 ≠ 0 then refuse s 6
  else if !isF w C.valid then (s, {})
  else if s.ctxRef n then refuse s 5
  else if ctxEnabled w || s.ctxPinned n then refuse s 7
  else ((s.ctxPut n (putF w C.valid 0)).ctxUncache n, {})

/-- Pin a context in a group (R147, R148): resident and exempt from eviction; `ref` marks a contract's pin, which a pin by
command outlives. -/
def State.pinCtx (s : State) (n g : Nat) (ref : Bool) : State :=
  let w := s.ctxAt n
  let s1 := if ctxKind w = 2 || !isF w C.valid then s.ctxPut n (if ctxKind w = 2 then putF w C.owner (128 + g) else w) else s
  let old := Tbl.atN s1.ctx.hold n
  let s2 := s1.setCtx { s1.ctx with hold := Tbl.setN s1.ctx.hold n (((old % 16) ||| (if ref then 3 else 5)) + 16 * g) }
  s2.ctxPlace g n

/-- The last contract that named a context is withdrawn (R274): its CONTRACT_REF ends, and its pin unless a command made one. -/
def State.unrefCtx (s : State) (n : Nat) : State :=
  let old := Tbl.atN s.ctx.hold n
  let s1 := s.setCtx { s.ctx with hold := Tbl.setN s.ctx.hold n (if natBit old 2 then old - 2 else 0) }
  if natBit old 2 || s.ctxValid n then s1 else s1.ctxUncache n

/-- Pinned contexts of a group's cache (R147). -/
def State.pinnedIn (s : State) (g : Nat) : Nat := ((s.cached g).filter s.ctxPinned).length

/-- CTX_PIN (R147). -/
def ctxPin : Body := fun c s =>
  let n := c.a0 17 0
  let w := s.ctxAt n
  let g := match ctxGroup w with | some g => g | none => c.a1 3 0
  if c.a0 63 18 ≠ 0 then refuse s 6
  else if !isF w C.valid then refuse s 1
  else if 12 ≤ g then refuse s 6
  else if ctxQuar w then refuse s 11
  else if s.ctxPinned n then (s, {})
  else if 12288 ≤ s.pinnedIn g then refuse s 9
  else if !(ctxSlots w).all s.slotPinned then refuse s 10
  else (s.pinCtx n g false, {})

/-- CTX_UNPIN (R148): PROTECTED under a contract. -/
def ctxUnpin : Body := fun c s =>
  let n := c.a0 17 0
  if c.a0 63 18 ≠ 0 then refuse s 6
  else if !s.ctxValid n then refuse s 1
  else if s.ctxRef n then refuse s 5
  else
    let g := s.ctxHoldGroup n
    let s1 := s.setCtx { s.ctx with hold := Tbl.setN s.ctx.hold n 0 }
    (s1.setCached g (s1.cached g), {})

/-- CTX_CLEAR_CNT (R112): the counters and CNT_OVF zeroed. -/
def ctxClearCnt : Body := fun c s =>
  let n := c.a0 17 0
  let w := s.ctxAt n
  if c.a0 63 18 ≠ 0 then refuse s 6
  else if isF w C.valid && ctxQuar w then refuse s 11
  else (s.ctxPut n (putF (putF w (bytesAt 0x80 66) 0) (if ctxKind w = 2 then C.pOvf else C.mOvf) 0), {})

/-- SCM_ADD (R100, R101). -/
def scmAdd : Body := fun c s =>
  let d := leAt c.cont 0 16
  let port := natBits d 102 96
  let sci := natBits d 63 0
  if natBits d 127 127 ≠ 1 || 96 ≤ port then refuse s 6
  else if (s.scmFind sci port).isSome || s.isTxKey sci port then refuse s 2
  else
    match (s.scmSlots sci port).find? (fun i => !isF (Tbl.at0 s.ctx.scm i) M.scmValid) with
    | some i =>
      let e : BitVec 128 := putF (putF (BitVec.ofNat 128 d) ⟨126, 103⟩ 0) ⟨95, 80⟩ 0
      ((s.setCtx { s.ctx with scm := Tbl.set0 s.ctx.scm i e }).scmGauge, {})
    | none => refuse s 3

/-- SCM_DELETE: IN_USE while a context of its SC is enabled for receive. -/
def scmDelete : Body := fun c s =>
  let d := leAt c.cont 0 16
  let port := natBits d 102 96
  if 96 ≤ port then refuse s 6
  else match s.scmFind (natBits d 63 0) port with
    | none => refuse s 1
    | some i =>
      let sc := getF (Tbl.at0 s.ctx.scm i) M.scmIndex
      if (List.range 4).any (fun a =>
          let w := s.ctxAt (4 * sc + a)
          isF w C.valid && ctxKind w == 1 && isF w C.rxEn) then refuse s 7
      else ((s.setCtx { s.ctx with scm := Tbl.set0 s.ctx.scm i 0 }).scmGauge, {})

/-- FLIP_ADD (R154). -/
def flipAdd : Body := fun c s =>
  let f := c.a0 7 0
  let x := s.flip f
  if c.a0 63 8 ≠ 0 then refuse s 6
  else if c.a1 20 20 = 0 then
    let p := c.a1 17 0
    let an := c.a1 19 18
    if 96 ≤ p then refuse s 6
    else
      let w := s.ctxAt (s.txCtx p an)
      if isF w C.valid && ctxQuar w then refuse s 11
      else if x.state ≠ 0 then refuse s 12
      else if isF (s.secyTx p) M.txPend || !(isF w C.valid && ctxKind w == 1 && isF w C.dir && isF w C.txEn) then refuse s 7
      else ((s.setPend (.secy p an) f true).setFlip f { x with members := x.members ++ [.secy p an] }, {})
  else
    let n := c.a1 17 0
    let g := c.a1 18 18
    let w := s.ctxAt n
    if isF w C.valid && !(ctxKind w == 2 && isF w C.dir) then refuse s 6
    else if isF w C.valid && ctxQuar w then refuse s 11
    else if x.state ≠ 0 then refuse s 12
    else if !isF w C.valid || isF w C.pend || !isF w (if g = 0 then C.gen0 else C.gen1) then refuse s 7
    else ((s.setPend (.gen n g) f true).setFlip f { x with members := x.members ++ [.gen n g] }, {})

/-- Keep every target of a list resident (R146). -/
def State.keepAll (s : State) : List Nat → Option State
  | [] => some s
  | n :: rest => match s.keepResident n with | some t => t.keepAll rest | none => none

/-- FLIP_ARM (R155): IDLE only; a set armed less than 10 µs before NOT_BEFORE, or after it, fires late. -/
def flipArm : Body := fun c s =>
  let f := c.a0 7 0
  let x := s.flip f
  if c.a0 63 8 ≠ 0 || 1000000000 ≤ leAt c.cont 6 4 then refuse s 6
  else if x.state ≠ 0 then refuse s 12
  else
    let nb := instantOf c.cont
    match s.keepAll (x.members.map s.flipTarget) with
    | none => refuse s 9
    | some s1 =>
      (s1.setFlip f { x with state := 1, notBefore := (leAt c.cont 0 6, leAt c.cont 6 4), armedLate := decide (nb < s.now + 10000) }, {})

/-- FLIP_CANCEL (R155): an armed or idle set loses its members; BUSY when it has fired. -/
def flipCancel : Body := fun c s =>
  let f := c.a0 7 0
  let x := s.flip f
  if c.a0 63 8 ≠ 0 then refuse s 6
  else if x.state = 2 then refuse s 12
  else ((s.each x.members (fun m u => u.setPend m f false)).setFlip f { FlipSet.idle with notBefore := x.notBefore, fireAt := x.fireAt }, {})

/-- FLIP_STATUS: state, NOT_BEFORE, fire instant and member count. -/
def flipStatus : Body := fun c s =>
  let x := s.flip (c.a0 7 0)
  if c.a0 63 8 ≠ 0 then refuse s 6
  else (s, { conts := padTo 32 (leBytes 2 x.state ++ leBytes 6 x.notBefore.1 ++ leBytes 4 x.notBefore.2 ++
    leBytes 6 x.fireAt.1 ++ leBytes 4 x.fireAt.2 ++ leBytes 4 x.members.length) })

/-- SECY_TX_READ: Table 6.5 for a port. -/
def secyTxRead : Body := fun c s =>
  if 96 ≤ c.a0 63 0 then refuse s 6 else (s, { r0 := (s.secyTx (c.a0 6 0)).toNat })

/-- CTX_READ (R161). -/
def execCtxRead (c : RingCmd) (s : State) : Res := ringExec 1 0 ctxRead c s

/-- CTX_INSTALL (R151). -/
def execCtxInstall (c : RingCmd) (s : State) : Res := ringExec 1 1 ctxInstall c s

/-- CTX_ENABLE (R150). -/
def execCtxEnable (c : RingCmd) (s : State) : Res := ringExec 1 2 ctxEnable c s

/-- CTX_RETIRE (R150). -/
def execCtxRetire (c : RingCmd) (s : State) : Res := ringExec 1 3 ctxRetire c s

/-- CTX_SELECT (R150). -/
def execCtxSelect (c : RingCmd) (s : State) : Res := ringExec 1 4 ctxSelect c s

/-- CTX_FREE (R150). -/
def execCtxFree (c : RingCmd) (s : State) : Res := ringExec 1 5 ctxFree c s

/-- CTX_PIN (R147). -/
def execCtxPin (c : RingCmd) (s : State) : Res := ringExec 1 6 ctxPin c s

/-- CTX_UNPIN (R148). -/
def execCtxUnpin (c : RingCmd) (s : State) : Res := ringExec 1 7 ctxUnpin c s

/-- CTX_CLEAR_CNT (R112). -/
def execCtxClearCnt (c : RingCmd) (s : State) : Res := ringExec 1 8 ctxClearCnt c s

/-- SCM_ADD (R100). -/
def execScmAdd (c : RingCmd) (s : State) : Res := ringExec 1 9 scmAdd c s

/-- SCM_DELETE (R161). -/
def execScmDelete (c : RingCmd) (s : State) : Res := ringExec 1 10 scmDelete c s

/-- FLIP_ADD (R154). -/
def execFlipAdd (c : RingCmd) (s : State) : Res := ringExec 1 11 flipAdd c s

/-- FLIP_ARM (R155). -/
def execFlipArm (c : RingCmd) (s : State) : Res := ringExec 1 12 flipArm c s

/-- FLIP_CANCEL (R155). -/
def execFlipCancel (c : RingCmd) (s : State) : Res := ringExec 1 13 flipCancel c s

/-- FLIP_STATUS (R161). -/
def execFlipStatus (c : RingCmd) (s : State) : Res := ringExec 1 14 flipStatus c s

/-- SECY_TX_READ (R143). -/
def execSecyTxRead (c : RingCmd) (s : State) : Res := ringExec 1 15 secyTxRead c s

/-! ### PN_LEAP (R159, R164) -/

/-- RW-L registers take a write only in SETUP (R7, R514, R518). -/
def State.inSetup (s : State) : Bool := s.op == .setup

/-- In RUN, HOLD and FAULT the RW-L fields are locked (R514). -/
def State.locked (s : State) : Bool := s.op == .run || s.op == .hold || s.op == .fault

/-- Registers that a command of the outside may write: SETUP, RUN, HOLD and FAULT (R514). -/
def State.regsOpen (s : State) : Bool := s.inSetup || s.locked

/-- PN_LEAP in force. -/
def State.pnLeap (s : State) : Nat := s.fld F.CTX_LEAP_HI.LEAP * 2 ^ 32 + s.fld F.CTX_LEAP_LO.LEAP

/-- A locked write that differs from the stored value raises LOCK_WRITE (R514). -/
def State.lockWrite (s : State) (differs : Bool) : State := if s.locked && differs then s.hostEvent 0 0 else s

/-- CTX_LEAP_LO_WRITE (R164): the word is held, unchecked, until CTX_LEAP_HI is written. -/
def execCtxLeapLoWrite (v : Word) (s : State) : Res :=
  if s.inSetup then .next (s.setCtx { s.ctx with leapHeld := some v })
  else .next (s.lockWrite (v.toNat ≠ s.fld F.CTX_LEAP_LO.LEAP))

/-- CTX_LEAP_HI_WRITE (R164): PN_LEAP is formed from bit 0 and the held word, checked against 2^10 to 2^32, and applied or
refused as a whole. -/
def execCtxLeapHiWrite (v : Word) (s : State) : Res :=
  if s.inSetup then
    let lo := match s.ctx.leapHeld with | some w => w.toNat | none => s.fld F.CTX_LEAP_LO.LEAP
    let leap := v.toNat % 2 * 2 ^ 32 + lo
    let s1 := s.setCtx { s.ctx with leapHeld := none }
    if 2 ^ 10 ≤ leap ∧ leap ≤ 2 ^ 32 then .next ((s1.put F.CTX_LEAP_LO.LEAP lo).put F.CTX_LEAP_HI.LEAP (v.toNat % 2))
    else .next (s1.record 0x04 7 0 0 0 0)
  else .next (s.lockWrite (v.toNat % 2 ≠ s.fld F.CTX_LEAP_HI.LEAP))

end Sys2Proof.Machine
end

