-- ==== Sys2Proof/Machine/Crypto.lean ====
section
/-!
DEFINITION. The ciphers that the spec names by their standards: AES (FIPS 197), CTR, CBC, CFB-128 and GCM modes, AES-CMAC
(SP 800-38B), the AES key wrap (RFC 3394) and the counter-mode KDF of R216 (spec/09_key_store.md). A block is 16 bytes; a
key is 16 or 32 bytes.
-/
namespace Sys2Proof.Machine

/-! ### AES -/

/-- Multiplication by x in GF(2^8) of AES. -/
def xtime (b : Nat) : Nat := if b < 128 then 2 * b else (2 * b - 256) ^^^ 0x1B

/-- Multiplication in GF(2^8) of AES. -/
def gmul (a b : Nat) : Nat :=
  ((List.range 8).foldl (fun (p : Nat × Nat) i => (if b.testBit i then p.1 ^^^ p.2 else p.1, xtime p.2)) (0, a)).1

/-- The inverse in GF(2^8): the 254th power; 0 for 0. -/
def ginv (a : Nat) : Nat :=
  let a2 := gmul a a
  let a4 := gmul a2 a2
  let a8 := gmul a4 a4
  let a16 := gmul a8 a8
  let a32 := gmul a16 a16
  let a64 := gmul a32 a32
  let a128 := gmul a64 a64
  gmul a2 (gmul a4 (gmul a8 (gmul a16 (gmul a32 (gmul a64 a128)))))

/-- An 8-bit rotation to the left. -/
def rot8 (b n : Nat) : Nat := (b * 2 ^ n) % 256 ||| b / 2 ^ (8 - n)

/-- The AES S-box. -/
def sbox (a : Nat) : Nat :=
  let b := ginv a
  b ^^^ rot8 b 1 ^^^ rot8 b 2 ^^^ rot8 b 3 ^^^ rot8 b 4 ^^^ 0x63

/-- The inverse S-box. -/
def invSbox (a : Nat) : Nat :=
  let b := rot8 a 1 ^^^ rot8 a 3 ^^^ rot8 a 6 ^^^ 0x05
  ginv b

/-- Exclusive or of two words of four bytes. -/
def xorList (a b : List Nat) : List Nat := List.zipWith (fun x y => x ^^^ y) a b

/-- The expanded key as words, last word first: `fuel` words more. -/
def expandFrom (nk : Nat) : Nat → Nat → List (List Nat) → List (List Nat)
  | 0, _, ws => ws
  | fuel + 1, i, ws =>
    let prev := ws.headD []
    let old := ws.getD (nk - 1) []
    let t :=
      if i % nk = 0 then
        let r := (prev.drop 1 ++ prev.take 1).map sbox
        xorList r [(List.range (i / nk - 1)).foldl (fun b _ => xtime b) 1, 0, 0, 0]
      else if 6 < nk ∧ i % nk = 4 then prev.map sbox
      else prev
    expandFrom nk fuel (i + 1) (xorList old t :: ws)

/-- The round keys of AES, each 16 bytes, first to last. -/
def roundKeys (key : List Byte) : List (List Nat) :=
  let nk := key.length / 4
  let ks := key.map BitVec.toNat
  let words := (List.range nk).map (fun i => (ks.drop (4 * i)).take 4)
  let all := (expandFrom nk (4 * (nk + 7) - nk) nk words.reverse).reverse
  (List.range (nk + 7)).map (fun r => ((all.drop (4 * r)).take 4).flatten)

/-- One column mixed by a circulant of four coefficients. -/
def mixColumn (m : List Nat) (c : List Nat) : List Nat :=
  (List.range 4).map (fun r => (List.range 4).foldl (fun a k => a ^^^ gmul (m.getD ((k + 4 - r) % 4) 0) (c.getD k 0)) 0)

/-- Every column mixed. -/
def mixColumns (m : List Nat) (s : List Nat) : List Nat :=
  (List.range 4).flatMap (fun c => mixColumn m ((s.drop (4 * c)).take 4))

/-- Row `r` rotated left by `r`. -/
def shiftRows (s : List Nat) : List Nat := (List.range 16).map (fun i => s.getD ((i + 4 * (i % 4)) % 16) 0)

/-- Row `r` rotated right by `r`. -/
def unshiftRows (s : List Nat) : List Nat := (List.range 16).map (fun i => s.getD ((i + 12 * (i % 4)) % 16) 0)

/-- The bytes of a list of numbers. -/
def toBytes (s : List Nat) : List Byte := s.map (BitVec.ofNat 8)

/-- AES encryption of one block. -/
def aesEnc (key block : List Byte) : List Byte :=
  match roundKeys key with
  | [] => block
  | k0 :: ks =>
    let s0 := xorList (block.map BitVec.toNat) k0
    let mid := ks.dropLast.foldl (fun s k => xorList (mixColumns [2, 3, 1, 1] (shiftRows (s.map sbox))) k) s0
    toBytes (xorList (shiftRows (mid.map sbox)) (ks.getLastD []))

/-- AES decryption of one block. -/
def aesDec (key block : List Byte) : List Byte :=
  match (roundKeys key).reverse with
  | [] => block
  | k0 :: ks =>
    let s0 := xorList (block.map BitVec.toNat) k0
    let mid := ks.dropLast.foldl (fun s k => mixColumns [14, 11, 13, 9] (xorList ((unshiftRows s).map invSbox) k)) s0
    toBytes (xorList ((unshiftRows mid).map invSbox) (ks.getLastD []))

/-! ### Modes -/

/-- A block of zeros. -/
def zeroBlock : List Byte := List.replicate 16 0

/-- A byte string cut into blocks of 16; the last may be shorter. -/
def blocks (bs : List Byte) : List (List Byte) :=
  (List.range ((bs.length + 15) / 16)).map (fun i => (bs.drop (16 * i)).take 16)

/-- CTR mode: the keystream of the counter blocks, the counter being the whole block, or its last 4 bytes. -/
def ctrCrypt (key : List Byte) (iv : List Byte) (low32 : Bool) (msg : List Byte) : List Byte :=
  let n := beNat iv
  ((blocks msg).zipIdx).flatMap (fun (b, i) =>
    let c := if low32 then n - n % 2 ^ 32 + (n + i) % 2 ^ 32 else (n + i) % 2 ^ 128
    xorBytes b (aesEnc key (beBytes 16 c)))

/-- CBC encryption of whole blocks. -/
def cbcEnc (key iv msg : List Byte) : List Byte :=
  ((blocks msg).foldl (fun (p : List Byte × List Byte) b =>
    let c := aesEnc key (xorBytes p.1 b)
    (c, p.2 ++ c)) (iv, [])).2

/-- CBC decryption of whole blocks. -/
def cbcDec (key iv msg : List Byte) : List Byte :=
  ((blocks msg).foldl (fun (p : List Byte × List Byte) c => (c, p.2 ++ xorBytes p.1 (aesDec key c))) (iv, [])).2

/-- CFB-128 encryption. -/
def cfbEnc (key iv msg : List Byte) : List Byte :=
  ((blocks msg).foldl (fun (p : List Byte × List Byte) b =>
    let c := xorBytes b (aesEnc key p.1)
    (padTo 16 c, p.2 ++ c)) (iv, [])).2

/-- CFB-128 decryption. -/
def cfbDec (key iv msg : List Byte) : List Byte :=
  ((blocks msg).foldl (fun (p : List Byte × List Byte) c => (padTo 16 c, p.2 ++ xorBytes c (aesEnc key p.1))) (iv, [])).2

/-! ### AES-CMAC -/

/-- Doubling in GF(2^128) of CMAC. -/
def dbl (v : Nat) : Nat := let w := 2 * v; if v < 2 ^ 127 then w else (w - 2 ^ 128) ^^^ 0x87

/-- AES-CMAC of a message: 16 bytes. -/
def cmac (key msg : List Byte) : List Byte :=
  let l := beNat (aesEnc key zeroBlock)
  let bs := blocks msg
  let last := bs.getLastD []
  let whole := last.length = 16
  let lastNat := if whole then beNat last ^^^ dbl l else beNat (padTo 16 (last ++ [0x80])) ^^^ dbl (dbl l)
  let x := bs.dropLast.foldl (fun x b => aesEnc key (xorBytes x b)) zeroBlock
  aesEnc key (xorBytes x (beBytes 16 lastNat))

/-- The KDF of R216: SP 800-108 in counter mode, AES-CMAC as PRF; `bits` a multiple of 8. -/
def kdf (key label context : List Byte) (bits : Nat) : List Byte :=
  (((List.range ((bits + 127) / 128)).flatMap (fun i =>
    cmac key (beBytes 4 (i + 1) ++ label ++ [0x00] ++ context ++ beBytes 4 bits))).take (bits / 8))

/-- The ASCII bytes of a label. -/
def ascii (t : String) : List Byte := t.toList.map (fun c => BitVec.ofNat 8 c.toNat)

/-! ### GCM and GMAC -/

/-- Multiplication in GF(2^128) of GCM: bit 0 is the most significant. -/
def ghashMul (x y : Nat) : Nat :=
  ((List.range 128).foldl (fun (p : Nat × Nat) i =>
    let z := if x.testBit (127 - i) then p.1 ^^^ p.2 else p.1
    let v := if p.2.testBit 0 then (p.2 / 2) ^^^ (0xE1 * 2 ^ 120) else p.2 / 2
    (z, v)) (0, y)).1

/-- GHASH of a byte string padded to whole blocks. -/
def ghash (h : Nat) (bs : List Byte) : Nat := (blocks bs).foldl (fun y b => ghashMul (y ^^^ beNat (padTo 16 b)) h) 0

/-- Zero padding to whole blocks. -/
def padBlocks (bs : List Byte) : List Byte := bs ++ List.replicate ((16 - bs.length % 16) % 16) 0

/-- The GCM tag of additional data and ciphertext under a 12-byte IV: 16 bytes. -/
def gcmTag (key iv aad ct : List Byte) : List Byte :=
  let h := beNat (aesEnc key zeroBlock)
  let s := ghash h (padBlocks aad ++ padBlocks ct ++ beBytes 8 (8 * aad.length) ++ beBytes 8 (8 * ct.length))
  xorBytes (beBytes 16 s) (aesEnc key (iv ++ beBytes 4 1))

/-- GCM encryption or decryption of the payload under a 12-byte IV. -/
def gcmCrypt (key iv msg : List Byte) : List Byte := ctrCrypt key (iv ++ beBytes 4 2) true msg

/-! ### AES key wrap (RFC 3394) -/

/-- One step of the wrap: step number `t`, register `a`, halves `r`. -/
def wrapStep (key : List Byte) (n : Nat) (p : List Byte × List (List Byte)) (t : Nat) : List Byte × List (List Byte) :=
  let i := t % n
  let b := aesEnc key (p.1 ++ p.2.getD i [])
  (xorBytes (b.take 8) (beBytes 8 (t + 1)), p.2.set i (b.drop 8))

/-- The key wrapped: 8 bytes longer than the key. -/
def keyWrap (key plain : List Byte) : List Byte :=
  let n := plain.length / 8
  let r := (List.range n).map (fun i => (plain.drop (8 * i)).take 8)
  let (a, rs) := (List.range (6 * n)).foldl (wrapStep key n) (List.replicate 8 0xA6, r)
  a ++ rs.flatten

/-- One step of the unwrap. -/
def unwrapStep (key : List Byte) (n : Nat) (p : List Byte × List (List Byte)) (t : Nat) : List Byte × List (List Byte) :=
  let i := t % n
  let b := aesDec key (xorBytes p.1 (beBytes 8 (t + 1)) ++ p.2.getD i [])
  (b.take 8, p.2.set i (b.drop 8))

/-- The key unwrapped, none when the integrity value fails (R222). -/
def keyUnwrap (key wrapped : List Byte) : Option (List Byte) :=
  let n := wrapped.length / 8 - 1
  let r := (List.range n).map (fun i => (wrapped.drop (8 * i + 8)).take 8)
  let (a, rs) := (List.range (6 * n)).reverse.foldl (unwrapStep key n) (wrapped.take 8, r)
  if a = List.replicate 8 0xA6 then some rs.flatten else none

end Sys2Proof.Machine
end

