-- ==== Sys2Proof/Machine/Keys.lean ====
section
/-!
DEFINITION. The key store (spec/09_key_store.md, R204 to R229): slots, the checks of a delivery, use counters, roots and
the derivation tree, wrapped keys, quarantine, and the key commands.
-/
namespace Sys2Proof.Machine

/-! ### Fields of the attribute image (Table 9.2) -/

namespace K
def uses : BF := ⟨95, 64⟩
def refs : BF := ⟨114, 96⟩
def resident : BF := ⟨28, 28⟩
def ksize : BF := ⟨27, 27⟩
def life : BF := ⟨26, 26⟩
def exportBit : BF := ⟨25, 25⟩
def lc : BF := ⟨24, 22⟩
def derive : BF := ⟨21, 21⟩
def wrap : BF := ⟨20, 20⟩
def macv : BF := ⟨19, 19⟩
def macg : BF := ⟨18, 18⟩
def dec : BF := ⟨17, 17⟩
def enc : BF := ⟨16, 16⟩
end K

/-- Device slot `d` (R204). -/
def devSlot (d : Nat) : Nat := 262144 + d

/-- A slot that host commands may name: not D0 to D15, not beyond D1023 (Table 9.1). -/
def hostSlot (k : Nat) : Bool := decide (k < 262144) || (decide (262160 ≤ k) && decide (k < 263168))

/-- A slot of the host device range D16 to D1023. -/
def hostDevSlot (k : Nat) : Bool := decide (262160 ≤ k) && decide (k < 263168)

/-- Write a slot. -/
def State.setSlot (s : State) (k : Nat) (x : Slot) : State :=
  s.setKey { s.key with slots := Tbl.setD (fun _ => ⟨0, 0, false⟩) s.key.slots k x }

/-- A slot holds a key. -/
def State.slotValid (s : State) (k : Nat) : Bool := isF (s.slot k).attr M.attrValid

/-- The key of a slot as bytes. -/
def State.keyBytes (s : State) (k : Nat) : List Byte :=
  leBytes (if isF (s.slot k).attr K.ksize then 32 else 16) (s.slot k).key.toNat

/-- A key of 16 or 32 bytes as a slot holds it. -/
def keyNat (bs : List Byte) : BitVec 256 := BitVec.ofNat 256 (leNat bs)

/-- The attribute image that KEY_ATTR_READ returns: an empty slot reads all zeros but REFS (R208). -/
def State.attrImage (s : State) (k : Nat) : BitVec 128 :=
  let a := (s.slot k).attr
  putF (if isF a M.attrValid then putF a K.resident (b2n (s.slotResident k)) else 0) K.refs (s.refs k)

/-! ### Use counters (R210) -/

/-- The events of a change of USES from `old` to `new`: KEY_LOW at or through KEY_LOW_WATER, KEY_SPENT at zero. -/
def State.usesEvents (s : State) (k old new : Nat) : State :=
  let low := s.fld F.KEY_LOW_WATER.USES
  let s1 := s.when (decide (low < old) && decide (new ≤ low)) (fun t => t.keyEvent 0 k new)
  s1.when (decide (0 < old) && new == 0) (fun t => t.keyEvent 1 k 0)

/-- One use of a slot: a COUNTED slot loses one from USES. -/
def State.spend (s : State) (k : Nat) : State :=
  let x := s.slot k
  let u := getF x.attr K.uses
  if isF x.attr K.life || u = 0 then s
  else (s.setSlot k { x with attr := putF x.attr K.uses (u - 1) }).usesEvents k u (u - 1)

/-- Make a slot resident for a command or a delivery: an unwrap when it is not (R206, event 0x6A0). Without a position that
can be freed the slot stays where it is. -/
def State.touch (s : State) (k : Nat) : State :=
  if s.slotResident k then
    if k < 262144 then s.setKey { s.key with lru := k :: s.key.lru.filter (· != k) } else s
  else
    let s1 := s.count 0x6A0
    match s1.slotPlace k with
    | some t => t
    | none => s1

/-- The first refusal of a key that a command uses, in the order of R224 item 3. -/
def State.useCheck (s : State) (k : Nat) (bit : BF) (sizeOk : Bool) : Option Nat :=
  let a := (s.slot k).attr
  if !isF a M.attrValid then some 1
  else if isF a M.attrQuar then some 11
  else if getF a K.lc ≠ s.lc then some 13
  else if !isF a bit then some 12
  else if !sizeOk then some 8
  else if !isF a K.life && getF a K.uses = 0 then some 15
  else none

/-- The refusal of the slot that a command fills (R224 item 4): a quarantined slot is reloaded by an import or a derivation
whatever REFS holds (R226). -/
def State.fillCheck (s : State) (k : Nat) (reload : Bool) : Option Nat :=
  let a := (s.slot k).attr
  if isF a M.attrQuar && isF a M.attrValid then (if reload then none else some 11)
  else if isF a M.attrValid then some 2
  else if s.refs k ≠ 0 then some 7
  else none

/-- The record of a context slot in the KEY region (Table 15.1, R205), which a fill writes whole (R360). -/
def slotLine (k : Nat) : Nat := 0x05000000 / 64 + k

/-- Fill a slot: attributes, key, VALID; a reload keeps PIN and clears QUAR. The slot takes an on-die position when one can
be freed (R205). -/
def State.fill (s : State) (k : Nat) (attr : BitVec 128) (key : BitVec 256) (fromRoot : Bool) : State :=
  let base : BitVec 128 := putF (putF 0 ⟨27, 16⟩ (getF attr ⟨27, 16⟩)) K.uses (getF attr K.uses)
  let a := putF (putF base M.attrValid 1) M.attrPin (getF (s.slot k).attr M.attrPin)
  let s0 := s.setSlot k ⟨a, key, fromRoot⟩
  let s1 := if k < 262144 then s0.unpoison (slotLine k) (slotLine k + 1) else s0
  match s1.slotPlace k with
  | some t => t
  | none => s1

/-- Attributes that a fill accepts: no reserved LC, no SESSION slot with USES (R208). -/
def attrOk (a : BitVec 128) : Bool := decide (getF a K.lc ≤ 5) && !(isF a K.life && getF a K.uses ≠ 0)

/-! ### Roots and the derivation tree (R213 to R220) -/

/-- The root slot that a life-cycle state selects (Table 9.4). -/
def rootOf (lc : Nat) : Option Nat :=
  match lc with | 1 => some 0 | 2 => some 1 | 3 => some 2 | 4 => some 3 | _ => none

/-- The device seed DS, from its fuses (R217). -/
def State.ds (s : State) : List Byte := beBytes 32 (s.fuse 1599 1344)

/-- N_RESET, drawn by the TRNG at the last reset (R217). -/
def State.nonce (s : State) : List Byte := beBytes 32 (Config.freeValue s.key.nReset 256).toNat

/-- K_SEAL_n (Table 9.6). -/
def State.kSeal (s : State) (n : Nat) : List Byte := kdf s.ds (ascii "XCLN ROOT SEAL") (beBytes 1 n) 256

/-- A root sealed: two AES-256 blocks (R214). -/
def State.sealRoot (s : State) (n : Nat) (root : List Byte) : BitVec 256 :=
  let k := s.kSeal n
  keyNat (aesEnc k (root.take 16) ++ aesEnc k (root.drop 16))

/-- A root slot unsealed. -/
def State.unseal (s : State) (n : Nat) : List Byte :=
  let k := s.kSeal n
  let c := leBytes 32 (Tbl.at0 s.bat.roots n).toNat
  aesDec k (c.take 16) ++ aesDec k (c.drop 16)

/-- The check value of a root (Table 9.6). -/
def rootCheck (root : List Byte) : BitVec 64 := BitVec.ofNat 64 (leNat (kdf root (ascii "XCLN KCV") [] 64))

/-- Root slot `n` holds a root with a valid check value (Table 9.14). -/
def State.rootPresent (s : State) (n : Nat) : Bool :=
  Tbl.at0 s.bat.roots n != 0 && rootCheck (s.unseal n) == Tbl.at0 s.bat.rootChecks n

/-- ROOT, where root-derived keys exist. -/
def State.root (s : State) : List Byte :=
  match rootOf s.lc with | some n => s.unseal n | none => []

/-- The life-cycle state as one byte. -/
def State.lcByte (s : State) : List Byte := beBytes 1 s.lc

/-- The Ed25519 seed (Table 9.6). -/
def State.edSeed (s : State) : BitVec 256 :=
  BitVec.ofNat 256 (beNat (kdf (kdf s.ds (ascii "XCLN DEVICE") s.root 256) (ascii "XCLN ID ED25519") s.lcByte 256))

/-- The ML-DSA-65 seed (Table 9.6). -/
def State.mlSeed (s : State) : BitVec 256 :=
  BitVec.ofNat 256 (beNat (kdf (kdf s.ds (ascii "XCLN DEVICE") s.root 256) (ascii "XCLN ID MLDSA65") s.lcByte 256))

/-- Attributes of a device slot of Gheor's: 256-bit, SESSION, the current state, and usage bits. -/
def State.gheorAttr (s : State) (usage : Nat) : BitVec 128 :=
  putF (putF (putF (putF (putF (0 : BitVec 128) M.attrValid 1) K.ksize 1) K.life 1) K.lc s.lc) M.usage usage

/-- Form or zero a device slot of Gheor's. -/
def State.formSlot (s : State) (d usage : Nat) (label : String) (id : Nat) : State :=
  if s.key.rootUp then
    s.setSlot (devSlot d) ⟨s.gheorAttr usage, keyNat (kdf s.root (ascii label) (beBytes 2 id ++ s.lcByte) 256), true⟩
  else s.setSlot (devSlot d) ⟨0, 0, false⟩

/-- D0 and D2 under PAIR_ID (Table 9.6, R309): WRAP; MACG and MACV. -/
def State.formPair (s : State) : State :=
  let id := s.fld F.KEY_GROUP_ID.PAIR_ID
  (s.formSlot 0 0x10 "XCLN PAIR" id).formSlot 2 0x0C "XCLN PAIR LINK" id

/-- D1 under DOMAIN_ID (Table 9.6): WRAP, MACG and MACV. -/
def State.formDomain (s : State) : State := s.formSlot 1 0x1C "XCLN DOMAIN" (s.fld F.KEY_GROUP_ID.DOMAIN_ID)

/-- The selected root is present: the identity keys, D0, D1 and D2 are formed (R217, R219, R220). -/
def State.formRootKeys (s : State) : State := ((s.setKey { s.key with rootUp := true }).formPair).formDomain

/-- R215: every key derived from the root is zeroed: the identity keys, D0, D1, D2 and each slot filled from the root. -/
def State.dropRootKeys (s : State) : State :=
  s.setKey { s.key with rootUp := false, slots := s.key.slots.filter (fun e => !e.2.fromRoot) }

/-- Zero a root slot and its check value. -/
def State.zeroRoot (s : State) (n : Nat) : State :=
  { s with bat := { s.bat with roots := Tbl.set0 s.bat.roots n 0, rootChecks := Tbl.set0 s.bat.rootChecks n 0 } }

/-- The current state's root slot in KEY_ROOT_STATUS form (Table 9.14). -/
def State.rootStatus (s : State) : Nat :=
  let present := (allBelow s.rootPresent 4).foldl natSet 0
  s.lc * 256 + present * 16 + (match rootOf s.lc with | some n => 4 + n | none => 0)

/-! ### Quarantine (R226) -/

/-- Quarantine a filled slot: QUAR, and one KEY_QUARANTINED event with REFS. -/
def State.quarSlot (s : State) (k : Nat) : State :=
  let x := s.slot k
  if !isF x.attr M.attrValid || isF x.attr M.attrQuar then s
  else (s.setSlot k { x with attr := putF x.attr M.attrQuar 1 }).keyEvent 2 k (s.refs k)

/-- KEY_SLOT_UNCORR: an uncorrectable error on an on-die position; a slot held in DRAM has none. -/
def execKeySlotUncorr (k : Fin 263168) (s : State) : Res :=
  .next (if s.slotResident k.val then s.quarSlot k.val else s)

/-! ### The command bodies (R224) -/

/-- The attributes that a command carries. -/
def RingCmdAttr (c : RingCmd) : BitVec 128 := BitVec.ofNat 128 (leAt c.cont 0 16)

/-- The first BAD_REQUEST of a key command: ROOT set where it does not belong, a slot out of range or reserved. -/
def keyBad (c : RingCmd) (usesKey : Bool) : Bool :=
  c.a1 31 31 = 1 || !hostSlot (c.a0 63 0) || (usesKey && !hostSlot (c.a1 18 0))

/-- Refuse with the first code found, or go on. -/
def orElse (o : Option Nat) (s : State) (k : State × Reply) : State × Reply :=
  match o with | some code => refuse s code | none => k

/-- KEY_IMPORT_KW (R222): the key wrapped as IEEE 802.1X wraps it; EXPORT is forced to 0 (R223). -/
def keyImportKw : Body := fun c s =>
  let k := c.a0 18 0
  let w := c.a1 18 0
  let a := RingCmdAttr c
  let len := if isF a K.ksize then 40 else 24
  if keyBad c true || !attrOk a || c.cont.length < 16 + len then refuse s 6
  else orElse (s.useCheck w K.wrap true) s (orElse (s.fillCheck k true) s (
    let s1 := (s.touch w).spend w
    match keyUnwrap (s.keyBytes w) (slice c.cont 16 len) with
    | some key => (s1.fill k (putF a K.exportBit 0) (keyNat key) false, {})
    | none => (s1, { code := 10 })))

/-- The XWRAP header of attributes (Table 9.7). -/
def xwHeader (a : BitVec 128) (lc : Nat) : List Byte :=
  beBytes 1 1 ++ beBytes 1 (getF a K.ksize) ++ beBytes 1 lc ++ beBytes 1 (getF a K.life) ++
  beBytes 1 (getF a K.exportBit * 64 + getF a M.usage) ++ beBytes 3 0 ++ leBytes 4 (getF a K.uses) ++ beBytes 4 0

/-- The attributes of an XWRAP header. -/
def xwAttr (h : List Byte) : BitVec 128 :=
  putF (putF (putF (putF (putF (putF (0 : BitVec 128) K.ksize (leAt h 1 1 % 2)) K.lc (leAt h 2 1)) K.life (leAt h 3 1 % 2))
    K.exportBit (natBits (leAt h 4 1) 6 6)) M.usage (natBits (leAt h 4 1) 5 0)) K.uses (leAt h 8 4)

/-- The initial counter block of XWRAP: the tag with bits 63 and 31 cleared (R221). -/
def xwIv (tag : List Byte) : List Byte := beBytes 16 (natClr (natClr (beNat tag) 63) 31)

/-- An XWRAP blob of a key under a wrapping key (R221). -/
def xwWrap (w : List Byte) (a : BitVec 128) (lc : Nat) (key : List Byte) : List Byte :=
  let tag := cmac (kdf w (ascii "XCLN XWRAP MAC") [] 256) (xwHeader a lc ++ key)
  xwHeader a lc ++ ctrCrypt (kdf w (ascii "XCLN XWRAP ENC") [] 256) (xwIv tag) false key ++ tag

/-- The key of an XWRAP blob, none when its tag fails (R221). -/
def xwUnwrap (w blob : List Byte) : Option (List Byte) :=
  let n := if leAt blob 1 1 % 2 = 1 then 32 else 16
  let tag := slice blob (16 + n) 16
  let key := ctrCrypt (kdf w (ascii "XCLN XWRAP ENC") [] 256) (xwIv tag) false (slice blob 16 n)
  if cmac (kdf w (ascii "XCLN XWRAP MAC") [] 256) (slice blob 0 16 ++ key) = tag then some key else none

/-- KEY_IMPORT_XW (R221): the attributes are those of the blob. -/
def keyImportXw : Body := fun c s =>
  let k := c.a0 18 0
  let w := c.a1 18 0
  let blob := c.cont.drop 16
  let n := if leAt blob 1 1 % 2 = 1 then 32 else 16
  let a := xwAttr blob
  if keyBad c true || !attrOk (RingCmdAttr c) || !attrOk a || leAt blob 0 1 ≠ 1 || 5 < leAt blob 2 1 ||
      blob.length < 32 + n then refuse s 6
  else orElse (s.useCheck w K.wrap true) s (orElse (s.fillCheck k true) s (
    if leAt blob 2 1 ≠ s.lc then refuse s 13
    else
      let s1 := (s.touch w).spend w
      match xwUnwrap (s.keyBytes w) (blob.take (32 + n)) with
      | some key => (s1.fill k a (keyNat key) false, {})
      | none => (s1, { code := 10 })))

/-- KEY_GENERATE: the slot filled from the TRNG with the given attributes. -/
def keyGenerate : Body := fun c s =>
  let k := c.a0 18 0
  let a := RingCmdAttr c
  if keyBad c false || !attrOk a then refuse s 6
  else orElse (s.fillCheck k false) s (
    let (v, s1) := s.draw 256
    (s1.fill k a (BitVec.ofNat 256 (v.toNat % 2 ^ (if isF a K.ksize then 256 else 128))) false, {}))

/-- KEY_DERIVE (R216, R392): from a slot with DERIVE, or from the root under the prefix XCLN OWN, into host device slots. -/
def keyDerive : Body := fun c s =>
  let k := c.a0 18 0
  let w := c.a1 18 0
  let a := RingCmdAttr c
  let fromRoot := c.a1 31 31 = 1
  let bits := leAt c.cont 16 2
  let ll := leAt c.cont 18 1
  let cl := leAt c.cont 19 1
  let label := slice c.cont 32 ll
  let context := slice c.cont (32 + ll) cl
  let sizeOk := bits = 128 || bits = 256
  let a1 := putF a K.ksize (if bits = 256 then 1 else 0)
  if !hostSlot (c.a0 63 0) || (!fromRoot && !hostSlot w) || !attrOk a || 64 < ll || 64 < cl || c.cont.length < 32 + ll + cl ||
      (fromRoot && !hostDevSlot k) then refuse s 6
  else if fromRoot then
    if !s.key.rootUp then refuse s 14
    else if !sizeOk then refuse s 8
    else orElse (s.fillCheck k true) s
      (s.fill k a1 (keyNat (kdf s.root (ascii "XCLN OWN " ++ label) context bits)) true, {})
  else orElse (s.useCheck w K.derive sizeOk) s (orElse (s.fillCheck k true) s
    (((s.touch w).spend w).fill k a1 (keyNat (kdf (s.keyBytes w) label context bits)) false, {}))

/-- An export (R223): the wrapping key has WRAP and the source EXPORT. -/
def keyExport (form : State → Nat → Nat → List Byte) : Body := fun c s =>
  let k := c.a0 18 0
  let w := c.a1 18 0
  if keyBad c true then refuse s 6
  else orElse (s.useCheck w K.wrap true) s (orElse (s.useCheck k K.exportBit true) s
    (((s.touch w).spend w).touch k, { conts := form s w k }))

/-- KEY_EXPORT_KW: 24 or 40 bytes. -/
def keyExportKw : Body := keyExport (fun s w k => keyWrap (s.keyBytes w) (s.keyBytes k))

/-- KEY_EXPORT_XW: 48 or 64 bytes, LC the current state. -/
def keyExportXw : Body := keyExport (fun s w k => xwWrap (s.keyBytes w) (s.slot k).attr s.lc (s.keyBytes k))

/-- AES-CMAC over 1 to 2,048 bytes in host memory under the key of ARG1. -/
def keyCmac (bit : BF) (answer : List Byte → RingCmd → Reply) : Body := fun c s =>
  let w := c.a1 18 0
  let n := c.bufLen.toNat
  if c.a1 31 31 = 1 || !hostSlot w || n = 0 || 2048 < n then refuse s 6
  else match c.bufIn with
    | none => dmaError s
    | some data => orElse (s.useCheck w bit true) s
        ((s.touch w).spend w, answer (cmac (s.keyBytes w) (padTo n data)) c)

/-- KEY_CMAC_GEN returns the 16 bytes. -/
def keyCmacGen : Body := keyCmac K.macg (fun t _ => { conts := t })

/-- KEY_CMAC_VERIFY compares them with the supplied tag. -/
def keyCmacVerify : Body := keyCmac K.macv (fun t c => { code := if t = slice c.cont 0 16 then 0 else 10 })

/-- KEY_ATTR_READ (R208). -/
def keyAttrRead : Body := fun c s =>
  if keyBad c false then refuse s 6 else (s, { conts := leBytes 16 (s.attrImage (c.a0 18 0)).toNat })

/-- A quarantined or empty slot refuses a command that acts on a filled one. -/
def State.filledCheck (s : State) (k : Nat) : Option Nat :=
  let a := (s.slot k).attr
  if !isF a M.attrValid then some 1 else if isF a M.attrQuar then some 11 else none

/-- KEY_ATTR_REDUCE (R208): usage bits and EXPORT only cleared, USES only lowered, the rest unchanged. -/
def keyAttrReduce : Body := fun c s =>
  let k := c.a0 18 0
  let a := RingCmdAttr c
  let old := (s.slot k).attr
  let raises := isF old M.attrValid && (getF a M.usage &&& (63 - getF old M.usage) ≠ 0 ||
    getF old K.exportBit < getF a K.exportBit ||
    getF a K.ksize ≠ getF old K.ksize || getF a K.life ≠ getF old K.life || getF a K.lc ≠ getF old K.lc ||
    getF old K.uses < getF a K.uses)
  if keyBad c false || !attrOk a || raises then refuse s 6
  else orElse (s.filledCheck k) s (
    let new := putF (putF (putF old M.usage (getF a M.usage)) K.exportBit (getF a K.exportBit)) K.uses (getF a K.uses)
    ((s.setSlot k { s.slot k with attr := new }).usesEvents k (getF old K.uses) (getF a K.uses), {}))

/-- KEY_PIN (R205): at most 6,144 context slots are pinned; device slots are always resident. -/
def keyPin : Body := fun c s =>
  let k := c.a0 18 0
  if keyBad c false then refuse s 6
  else orElse (s.filledCheck k) s (
    if 262144 ≤ k || s.slotPinned k then (s, {})
    else if 6144 ≤ s.fld F.KEY_STATUS.PINNED then refuse s 9
    else match (s.when (!s.slotResident k) (fun t => t.count 0x6A0)).slotPlace k with
      | some t => ((t.setSlot k { t.slot k with attr := putF (t.slot k).attr M.attrPin 1 }).keyGauges, {})
      | none => refuse s 9)

/-- KEY_UNPIN: PROTECTED while a context of an accepted contract names the slot (R148). -/
def keyUnpin : Body := fun c s =>
  let k := c.a0 18 0
  if keyBad c false then refuse s 6
  else orElse (s.filledCheck k) s (
    if s.ctx.ctx.any (fun e => isF e.2 C.valid && (ctxSlots e.2).contains k && s.ctxRef e.1) then refuse s 5
    else ((s.setSlot k { s.slot k with attr := putF (s.slot k).attr M.attrPin 0 }).keyGauges, {}))

/-- KEY_FREE (R211): IN_USE while a valid context names the slot. -/
def keyFree : Body := fun c s =>
  let k := c.a0 18 0
  if keyBad c false then refuse s 6
  else if s.refs k ≠ 0 then refuse s 7
  else
    let s1 := s.setSlot k ⟨0, 0, false⟩
    ((s1.setKey { s1.key with lru := s1.key.lru.filter (· != k) }).keyGauges, {})

/-- ROOT_INJECT (R220): SETUP only; the selected slot, when zero. -/
def rootInject : Body := fun c s =>
  if c.a1 31 31 = 1 || s.op != .setup then refuse s 6
  else match rootOf s.lc with
    | none => refuse s 14
    | some n =>
      if Tbl.at0 s.bat.roots n ≠ 0 then refuse s 2
      else
        let root := slice c.cont 0 32
        let chk := rootCheck root
        let s1 : State := { s with bat := { s.bat with
          roots := Tbl.set0 s.bat.roots n (s.sealRoot n root), rootChecks := Tbl.set0 s.bat.rootChecks n chk } }
        (s1.formRootKeys.keyEvent 4 n chk.toNat, { r0 := chk.toNat })

/-- ROOT_ERASE (R220, R215): SETUP only. -/
def rootErase : Body := fun c s =>
  if c.a1 31 31 = 1 || s.op != .setup then refuse s 6
  else match rootOf s.lc with
    | none => refuse s 14
    | some n => ((s.zeroRoot n).dropRootKeys, {})

/-- ROOT_STATUS (Table 9.8): the check value, the status, and the public keys in BUF while a root is present. -/
def rootStatus : Body := fun c s =>
  if c.a1 31 31 = 1 then refuse s 6
  else
    let chk := match rootOf s.lc with | some n => (Tbl.at0 s.bat.rootChecks n).toNat | none => 0
    (s, { r0 := chk, r1 := s.rootStatus,
          bufOut := if s.key.rootUp then
            leBytes 32 (Config.ed25519Public s.edSeed).toNat ++ leBytes 1952 (Config.mldsaPublic s.mlSeed).toNat else [] })

/-! ### The meanings -/

/-- A key command reaches the key store: event 0x6A2 counts it. A command sequencer in the safe state of R428 (register 2)
carries out none. -/
def keyExec (op : Nat) (body : Body) (c : RingCmd) (s : State) : Res :=
  if s.alarm.stopped.testBit 2 then .next s else ringExec 2 op (fun c s => body c (s.count 0x6A2)) c s

/-- KEY_IMPORT_KW (R222). -/
def execKeyImportKw (c : RingCmd) (s : State) : Res := keyExec 0 keyImportKw c s

/-- KEY_IMPORT_XW (R221). -/
def execKeyImportXw (c : RingCmd) (s : State) : Res := keyExec 1 keyImportXw c s

/-- KEY_GENERATE (R224, R225): while the TRNG's health tests fail, the command waits. -/
def execKeyGenerate (c : RingCmd) (healthy : Bool) (s : State) : Res :=
  if healthy then keyExec 2 keyGenerate c s
  else .next (s.setKey { s.key with trngBad := true, generating := s.key.generating ++ [c] })

/-- TRNG_HEALTH_RESTORED (R225): the waiting KEY_GENERATE commands proceed. -/
def execTrngHealthRestored (s : State) : Res :=
  let s1 := s.setKey { s.key with trngBad := false, generating := [] }
  .next (s1.each s.key.generating (fun c t => ringRun 2 2 (fun c s => keyGenerate c (s.count 0x6A2)) c t))

/-- KEY_DERIVE (R216). -/
def execKeyDerive (c : RingCmd) (s : State) : Res := keyExec 3 keyDerive c s

/-- KEY_EXPORT_KW (R223). -/
def execKeyExportKw (c : RingCmd) (s : State) : Res := keyExec 4 keyExportKw c s

/-- KEY_EXPORT_XW (R223). -/
def execKeyExportXw (c : RingCmd) (s : State) : Res := keyExec 5 keyExportXw c s

/-- KEY_CMAC_GEN (R224). -/
def execKeyCmacGen (c : RingCmd) (s : State) : Res := keyExec 6 keyCmacGen c s

/-- KEY_CMAC_VERIFY (R224). -/
def execKeyCmacVerify (c : RingCmd) (s : State) : Res := keyExec 7 keyCmacVerify c s

/-- KEY_ATTR_READ (R208). -/
def execKeyAttrRead (c : RingCmd) (s : State) : Res := keyExec 8 keyAttrRead c s

/-- KEY_ATTR_REDUCE (R208). -/
def execKeyAttrReduce (c : RingCmd) (s : State) : Res := keyExec 9 keyAttrReduce c s

/-- KEY_PIN (R205). -/
def execKeyPin (c : RingCmd) (s : State) : Res := keyExec 10 keyPin c s

/-- KEY_UNPIN (R224). -/
def execKeyUnpin (c : RingCmd) (s : State) : Res := keyExec 11 keyUnpin c s

/-- KEY_FREE (R211). -/
def execKeyFree (c : RingCmd) (s : State) : Res := keyExec 12 keyFree c s

/-- ROOT_INJECT (R220). -/
def execRootInject (c : RingCmd) (s : State) : Res := keyExec 13 rootInject c s

/-- ROOT_ERASE (R220). -/
def execRootErase (c : RingCmd) (s : State) : Res := keyExec 14 rootErase c s

/-- ROOT_STATUS (R224). -/
def execRootStatus (c : RingCmd) (s : State) : Res := keyExec 15 rootStatus c s

/-- KEY_GROUP_ID_WRITE (R219): in SETUP a change of PAIR_ID forms D0 and D2 again, one of DOMAIN_ID D1; a domain member
takes DOMAIN_ID from FW_START only (R323). -/
def execKeyGroupIdWrite (v : Word) (s : State) : Res :=
  let pair := natBits v.toNat 15 0
  let dom := natBits v.toNat 31 16
  if s.inSetup then
    let member := s.config = 2 && !s.on F.DOM_STATUS.HAWK
    let dom := if member then s.fld F.KEY_GROUP_ID.DOMAIN_ID else dom
    let newPair := pair ≠ s.fld F.KEY_GROUP_ID.PAIR_ID
    let newDom := dom ≠ s.fld F.KEY_GROUP_ID.DOMAIN_ID
    let s1 := (s.put F.KEY_GROUP_ID.PAIR_ID pair).put F.KEY_GROUP_ID.DOMAIN_ID dom
    .next ((s1.when newPair State.formPair).when newDom State.formDomain)
  else .next (s.lockWrite (v ≠ s.reg R.KEY_GROUP_ID))

end Sys2Proof.Machine
end

