-- ==== Sys2Proof/Machine/GateOps.lean ====
section
/-!
DEFINITION. Line times, gate lists as functions of time, windows and reservations (spec/10_time_and_gates.md, R247 to R253,
R258, R260; spec/02_ports_and_mac.md, Tables 2.1, 2.3, 2.6).
-/
namespace Sys2Proof.Machine

/-! ### Lane modes (Table 2.1) -/

/-- The lane mode of a port. -/
def State.mode (s : State) (p : Nat) : Nat := s.fld (F.PORT_MODE.LANE_MODE p)

/-- Picoseconds that one byte takes on the line in a lane mode. -/
def bytePs (mode : Nat) : Nat :=
  match mode with
  | 1 => 8000 | 2 => 8000 | 3 => 800 | 4 => 320 | 5 => 160 | 6 => 80 | _ => 0

/-- The line rate of a lane mode in units of 100 kb/s. -/
def rate100k (mode : Nat) : Nat :=
  match mode with
  | 1 => 10000 | 2 => 10000 | 3 => 100000 | 4 => 250000 | 5 => 500000 | 6 => 1000000 | _ => 0

/-- The line time of `n` bytes on a port, in picoseconds. -/
def State.linePs (s : State) (p n : Nat) : Nat := n * bytePs (s.mode p)

/-- SGMII and 1000BASE-X, the 8b/10b modes (R20). -/
def State.is8b10b (s : State) (p : Nat) : Bool := s.mode p == 1 || s.mode p == 2

/-- The trust zone CIPHER (R15). -/
def State.cipher (s : State) (p : Nat) : Bool := s.on (F.PORT_MODE.ZONE p)

/-- E of R251: 40 ns on a CIPHER egress port, in nanoseconds. -/
def State.encap (s : State) (p : Nat) : Nat := if s.cipher p then 40 else 0

/-- Maximum ingress latency of a port in nanoseconds (Table 2.3). -/
def State.inLat (s : State) (p : Nat) : Nat :=
  match s.mode p, s.fld (F.PORT_MODE.FEC p) with
  | 1, _ => 700 | 2, _ => 700 | 3, 0 => 105 | 3, _ => 212 | 4, 0 => 78 | 4, 1 => 150 | 4, _ => 302 | 5, _ => 262 | 6, _ => 160
  | _, _ => 0

/-- Maximum egress latency of a port in nanoseconds (Table 2.3). -/
def State.outLat (s : State) (p : Nat) : Nat :=
  match s.mode p, s.fld (F.PORT_MODE.FEC p) with
  | 1, _ => 600 | 2, _ => 600 | 3, 0 => 88 | 3, _ => 170 | 4, 0 => 66 | 4, 1 => 128 | 4, _ => 210 | 5, _ => 188 | 6, _ => 118
  | _, _ => 0

/-- The sleep time Ts in nanoseconds (Table 2.6). -/
def sleepNs (mode : Nat) : Nat := match mode with | 2 => 20000 | 3 => 2900 | 4 => 2900 | 5 => 3000 | 6 => 3000 | _ => 0

/-- The minimum wake time in nanoseconds (Table 2.6). -/
def wakeMinNs (mode : Nat) : Nat := match mode with | 2 => 16500 | 3 => 4500 | 4 => 5000 | 5 => 6000 | 6 => 6000 | _ => 0

/-- Preemption is active on a port (R37): MM_STATE 2. -/
def State.preemption (s : State) (p : Nat) : Bool := s.fld (F.PORT_STATUS.MM_STATE p) == 2

/-- A class is preemptible (PREEMPT_CLASS). -/
def State.preemptible (s : State) (p c : Nat) : Bool := natBit (s.fld (F.PORT_MM_CFG.PREEMPT_CLASS p)) c

/-- fmin of R258: the smallest non-final fragment. -/
def State.fmin (s : State) (p : Nat) : Nat := 64 * (1 + s.fld (F.PORT_MM_CFG.ADD_FRAG_SIZE p))

/-- LINK_STATE of a port (Table 2.4). -/
def State.link (s : State) (p : Nat) : Nat := s.fld (F.PORT_STATUS.LINK_STATE p)

/-- A port that frames may leave through: UP and not in serial far-end loopback (R30, R31). -/
def State.txUp (s : State) (p : Nat) : Bool := s.link p == 3 && s.fld (F.PORT_MODE.LOOPBACK p) != 2

/-- The transmission selection algorithm of a class (Table 10.17). -/
def State.tsa (s : State) (p c : Nat) : Nat := natBits (s.fld (F.SCHED_CLASS_CFG.TSA p)) (2 * c + 1) (2 * c)

/-- DBF_EN of a class. -/
def State.dbfEn (s : State) (p c : Nat) : Bool := natBit (s.fld (F.SCHED_CLASS_CFG.DBF_EN p)) c

/-- The class that a PCP maps to (R243). -/
def State.pcpClass (s : State) (p pcp : Nat) : Nat := natBits (s.fld (F.SCHED_PCP_TC.MAP p)) (3 * pcp + 2) (3 * pcp)

/-! ### Gate lists (Table 10.3) -/

namespace G
def op : BF := ⟨63, 60⟩
def gates : BF := ⟨59, 52⟩
def arg : BF := ⟨45, 32⟩
def flip : BF := ⟨39, 32⟩
def interval : BF := ⟨31, 0⟩
end G

/-- The scheduling state of a port. -/
def State.sch (s : State) (p : Nat) : SchedSt := Tbl.getD (fun _ => SchedSt.idle) s.sched p

/-- Replace the scheduling state of a port. -/
def State.setSch (s : State) (p : Nat) (x : SchedSt) : State :=
  { s with sched := Tbl.setD (fun _ => SchedSt.idle) s.sched p x }

/-- The operational bank. -/
def State.operBank (s : State) (p : Nat) : GateBank :=
  if s.fld (F.SCHED_STATUS.OPER_BANK p) = 0 then (s.sch p).bank0 else (s.sch p).bank1

/-- The administrative bank. -/
def State.adminBank (s : State) (p : Nat) : GateBank :=
  if s.fld (F.SCHED_STATUS.OPER_BANK p) = 0 then (s.sch p).bank1 else (s.sch p).bank0

/-- Replace the administrative bank. -/
def State.setAdmin (s : State) (p : Nat) (b : GateBank) : State :=
  s.setSch p (if s.fld (F.SCHED_STATUS.OPER_BANK p) = 0 then { s.sch p with bank1 := b } else { s.sch p with bank0 := b })

/-- Gate lists are in use on a port. -/
def State.gateEn (s : State) (p : Nat) : Bool := s.on (F.SCHED_CFG.GATE_EN p)

/-- A list runs on a port. -/
def State.listRuns (s : State) (p : Nat) : Bool := s.gateEn p && s.on (F.SCHED_STATUS.OPER_VALID p)

/-- The entries of a bank up to LENGTH. -/
def GateBank.list (b : GateBank) : List (BitVec 64) := (List.range b.length).map (Tbl.at0 b.entries)

/-- A stretch of a cycle with its gate states and hold: offsets from the cycle's start. -/
structure Seg where
  lo : Nat
  hi : Nat
  gates : Nat
  hold : Bool
deriving DecidableEq, Repr

/-- The hold in force at a cycle's start: what the last SET_HOLD or SET_RELEASE of the list leaves (R249). -/
def GateBank.holdAtStart (b : GateBank) : Bool :=
  b.list.foldl (fun h e => if getF e G.op = 1 then true else if getF e G.op = 2 then false else h) false

/-- The stretches of a cycle in order (R248): cut at CYCLE; the last states hold to the cycle's end. -/
def GateBank.segs (b : GateBank) : List Seg :=
  let r := b.list.foldl (fun (x : Nat × Bool × List Seg) e =>
    let op := getF e G.op
    if 2 < op then x
    else
      let hold := if op = 1 then true else if op = 2 then false else x.2.1
      let hi := x.1 + getF e G.interval
      (hi, hold, if x.1 < b.cycle then x.2.2 ++ [⟨x.1, min hi b.cycle, getF e G.gates, hold⟩] else x.2.2))
    (0, b.holdAtStart, [])
  if r.1 < b.cycle then
    match r.2.2.getLast? with
    | some l => r.2.2.dropLast ++ [{ l with hi := b.cycle }]
    | none => [⟨0, b.cycle, 0xFF, false⟩]
  else r.2.2

/-- The KEYFLIP and RESERVE entries of a cycle: list index, offset, entry (R248). -/
def GateBank.marks (b : GateBank) : List (Nat × Nat × BitVec 64) :=
  (b.list.zipIdx.foldl (fun (x : Nat × List (Nat × Nat × BitVec 64)) (e, i) =>
    if 2 < getF e G.op then (x.1, if x.1 < b.cycle then x.2 ++ [(i, x.1, e)] else x.2)
    else (x.1 + getF e G.interval, x.2)) (0, [])).2

/-- The offsets of the RESERVE entries that name a contract, with their list indices. -/
def GateBank.reserves (b : GateBank) (ct : Nat) : List (Nat × Nat) :=
  b.marks.filterMap (fun (i, o, e) => if getF e G.op = 4 && getF e G.arg = ct then some (i, o) else none)

/-- The start of the cycle in progress at an instant. -/
def GateBank.cycleAt (b : GateBank) (t : Nat) : Nat :=
  if b.cycle = 0 || t < b.base then b.base else t - (t - b.base) % b.cycle

/-- Gate states and hold of a running bank at an instant, and the end of that stretch. -/
def GateBank.at (b : GateBank) (t : Nat) : Nat × Bool × Nat :=
  let c := b.cycleAt t
  match b.segs.find? (fun g => decide (g.lo ≤ t - c) && decide (t - c < g.hi)) with
  | some g => (g.gates, g.hold, c + g.hi)
  | none => (0xFF, false, c + max b.cycle 1)

/-- Gate states, hold and the end of the stretch at an instant on a port (R247, R250): none for no end. The old list runs
until a pending change; a cycle that would begin no more than CYCLE_EXT before it is not begun. -/
def State.gatesAt (s : State) (p t : Nat) : Nat × Bool × Option Nat :=
  if !s.gateEn p then (0xFF, false, none)
  else
    let old := s.operBank p
    let valid := s.on (F.SCHED_STATUS.OPER_VALID p)
    let dflt := s.fld (F.SCHED_CFG.DEFAULT_GATES p)
    match (s.sch p).change with
    | some c =>
      if c ≤ t then
        let (g, h, e) := (s.adminBank p).at t
        (g, h, some e)
      else if valid then
        let k := old.cycleAt c
        if k ≤ t && decide (c - k ≤ old.ext) then
          let (g, h, _) := old.at (k - 1)
          (g, h, some c)
        else
          let (g, h, e) := old.at t
          (g, h, some (min e c))
      else (dflt, false, some c)
    | none =>
      if valid then
        let (g, h, e) := old.at t
        (g, h, some e)
      else (dflt, false, none)

/-- The end of the window of a class that holds an instant (R248): none when the gate stays open. -/
def State.windowEnd (s : State) (p c : Nat) : Nat → Nat → Option Nat
  | 0, _ => none
  | fuel + 1, t =>
    let (g, h, e) := s.gatesAt p t
    if !natBit g c || (h && s.preemptible p c && s.preemption p) then some t
    else match e with
      | none => none
      | some e => s.windowEnd p c fuel e

/-- The most stretches a window search looks through. -/
def windowFuel : Nat := 2200

/-- The first instant at or after `t` at which any gate of the port opens: none when none does. -/
def State.nextOpen (s : State) (p : Nat) : Nat → Nat → Option Nat
  | 0, _ => none
  | fuel + 1, t =>
    let (g, _, e) := s.gatesAt p t
    if g ≠ 0 then some t else match e with | none => none | some e => s.nextOpen p fuel e

/-- The longest window of a class in a cycle of a bank, in nanoseconds: none when its gate never closes (R260). -/
def GateBank.longest (b : GateBank) (cls : Nat) (pre : Bool) : Option Nat :=
  let ok (g : Seg) := natBit g.gates cls && !(pre && g.hold)
  if b.segs.all ok then none
  else
    let (best, _) := (b.segs ++ b.segs).foldl (fun (x : Nat × Nat) g =>
      if ok g then let r := x.2 + (g.hi - g.lo); (max x.1 r, r) else (x.1, 0)) (0, 0)
    some best

/-! ### Reservations (R251, R252) -/

/-- A contract is accepted (Table 11.1). -/
def State.accepted (s : State) (ct : Nat) : Bool := natBits (Tbl.at0 s.ct.ct ct).toNat (8 * 0x30 + 7) (8 * 0x30) == 1

/-- The instants of a bank's reservations for a contract in three cycles from the one at `t`. -/
def GateBank.instants (b : GateBank) (ct t : Nat) : List Nat :=
  if b.cycle = 0 then []
  else (List.range 3).flatMap (fun k => (b.reserves ct).map (fun r => b.cycleAt t + k * b.cycle + r.2))

/-- The MAC instants of a contract's reservations on a port from `t` on, in order: of the operational list until a pending
change, of the new list from it. -/
def State.reservedFrom (s : State) (p ct t : Nat) : List Nat :=
  if !s.accepted ct || !s.gateEn p then []
  else
    let old := if s.on (F.SCHED_STATUS.OPER_VALID p) then (s.operBank p).instants ct t else []
    match (s.sch p).change with
    | some c => (old.filter (fun x => t ≤ x && x < c)) ++ ((s.adminBank p).instants ct (max t c)).filter (fun x => max t c ≤ x)
    | none => old.filter (fun x => t ≤ x)

/-- A start of the port at a MAC instant. -/
def SchedSt.startAt (x : SchedSt) (mac : Nat) : Option Start := x.starts.find? (fun g => g.mac = mac)

/-- The earliest reservation of a contract that no copy has taken and whose S is at or after `t` (R252). -/
def State.freeReservation (s : State) (p ct t : Nat) : Option Nat :=
  (s.reservedFrom p ct (t + s.encap p)).find? (fun m =>
    match (s.sch p).startAt m with | some g => g.taken.isNone | none => true)

/-- Record a start, in order of its instant. -/
def State.setStart (s : State) (p : Nat) (g : Start) : State :=
  let x := s.sch p
  let rest := x.starts.filter (fun h => h.mac != g.mac)
  s.setSch p { x with starts := rest.filter (fun h => h.mac < g.mac) ++ [g] ++ rest.filter (fun h => g.mac < h.mac) }

/-- Drop a start. -/
def State.dropStart (s : State) (p mac : Nat) : State :=
  let x := s.sch p
  s.setSch p { x with starts := x.starts.filter (fun h => h.mac != mac) }

end Sys2Proof.Machine
end

