-- ==== Sys2Proof/Machine/Recovery.lean ====
section
/-!
DEFINITION. Stream redundancy and the Stencil engine (spec/12_stream_redundancy.md, R278 to R295): recovery decisions and
updates, the examination of sampled values, and the recovery and Stencil commands.
-/
namespace Sys2Proof.Machine

/-! ### Fields (Tables 12.2, 12.4) -/

namespace S
def valid : BF := ⟨31, 31⟩
def takeAny : BF := ⟨30, 30⟩
def histLen : BF := ⟨23, 16⟩
def recov : BF := ⟨15, 0⟩
def resetMs : BF := bytesAt 4 2
def txSeq : BF := bytesAt 6 2
def history : BF := bytesAt 8 16
/-- Counter `j`: 0 SRC_PASSED, 1 SRC_DISCARDED, 2 SRC_OUT_OF_ORDER, 3 SRC_OUT_OF_WINDOW, 4 SRC_LOST, 5 SRC_RESETS. -/
def ctr (j : Nat) : BF := bytesAt (0x18 + 6 * j) 6
end S

namespace T
def valid : BF := ⟨255, 255⟩
def pairEn : BF := ⟨254, 254⟩
def timeEn : BF := ⟨253, 253⟩
def shift : BF := ⟨252, 249⟩
def chCount : BF := ⟨248, 244⟩
def wrap : BF := ⟨239, 224⟩
def qualMask : BF := ⟨223, 192⟩
def thresh : BF := ⟨191, 168⟩
def runLen : BF := ⟨167, 152⟩
def arrMin : BF := ⟨151, 136⟩
def arrMax : BF := ⟨135, 120⟩
def pair : BF := ⟨119, 108⟩
def pairWait : BF := ⟨107, 96⟩
end T

/-- The recovery context of a stream handle. -/
def State.srcAt (s : State) (h : Nat) : BitVec 512 := Tbl.at0 s.rcv.src h

/-- Write a recovery context. -/
def State.srcPut (s : State) (h : Nat) (w : BitVec 512) : State := { s with rcv := { s.rcv with src := Tbl.set0 s.rcv.src h w } }

/-- Counter `j` of a recovery context adds `n`, modulo 2^48. -/
def srcAdd (w : BitVec 512) (j n : Nat) : BitVec 512 := putF w (S.ctr j) ((getF w (S.ctr j) + n) % 2 ^ 48)

/-- What the recovery engine decides on a sequence number (R281). -/
inductive SrcDecision where
  | pass
  /-- Passed outside the window, under PRP and HSR. -/
  | restart
  | duplicate
  /-- Discarded outside the window, under the vector algorithm. -/
  | outside
deriving DecidableEq, Repr

/-- The difference d of R281. -/
def srcDiff (w : BitVec 512) (seq : Nat) : Int := signed 16 ((seq + 2 ^ 16 - getF w S.recov) % 2 ^ 16)

/-- The decision of R281 in SRC_MODE 0 vector, 1 match, 2 PRP, 3 HSR. -/
def srcDecide (w : BitVec 512) (mode seq : Nat) : SrcDecision :=
  let d := srcDiff w seq
  let len : Int := getF w S.histLen
  if isF w S.takeAny then .pass
  else if mode = 1 then (if d = 0 then .duplicate else .pass)
  else if len ≤ d || d ≤ -len then (if mode = 0 then .outside else .restart)
  else if d ≤ 0 then (if natBit (getF w S.history) (-d).toNat then .duplicate else .pass)
  else .pass

/-- The update of R281 for a passed number: applied when the frame is set. A number that was inside the window when it was
decided and has left it changes nothing (R282). -/
def srcUpdate (w : BitVec 512) (mode seq : Nat) (restart : Bool) : BitVec 512 :=
  let d := srcDiff w seq
  let len := getF w S.histLen
  let fresh := putF (putF w S.recov seq) S.history 1
  if isF w S.takeAny then putF fresh S.takeAny 0
  else if mode = 1 then
    if d = 0 then w else srcAdd (putF w S.recov seq) 2 (if d ≠ 1 then 1 else 0)
  else if (len : Int) ≤ d || d ≤ -(len : Int) then
    if restart then srcAdd fresh 3 1 else w
  else if d ≤ 0 then
    let b := (-d).toNat
    if natBit (getF w S.history) b then w else srcAdd (putF w S.history (natSet (getF w S.history) b)) 2 1
  else
    let n := d.toNat
    let h := getF w S.history
    let lost := ((List.range n).filter (fun i => !natBit h (len - 1 - i))).length
    let h1 := (h * 2 ^ n) % 2 ^ len
    srcAdd (srcAdd (putF (putF w S.recov seq) S.history (natSet h1 0)) 4 lost) 2 (if n ≠ 1 then 1 else 0)

/-- TAKE_ANY_RESET (R283): RESET_MS without a passed frame sets TAKE_ANY and counts SRC_RESETS. -/
def execTakeAnyReset (h : Fin 16384) (s : State) : Res :=
  let w := s.srcAt h.val
  if isF w S.valid && getF w S.resetMs ≠ 0 && !isF w S.takeAny then
    .next (s.srcPut h.val (srcAdd (putF w S.takeAny 1) 5 1))
  else .next s

/-- SRC_READ: the context. -/
def srcRead : Body := fun c s =>
  if 16384 ≤ c.a0 63 0 then refuse s 6 else (s, { conts := leBytes 64 (s.srcAt (c.a0 13 0)).toNat })

/-- The stream entry of a handle is under a contract. -/
def State.streamContracted (s : State) (h : Nat) : Bool := isF (Tbl.at0 s.cls.stream h) E.strContracted

/-- The RW fields of a recovery context image. -/
def srcImage (img : BitVec 512) : BitVec 512 :=
  [S.valid, S.histLen, S.resetMs, S.txSeq].foldl (fun w f => putF w f (getF img f)) (putF (0 : BitVec 512) S.takeAny 1)

/-- SRC_WRITE (R280, R293): TAKE_ANY is set, HISTORY cleared, the counters kept; PROTECTED under a contract. -/
def srcWrite : Body := fun c s =>
  let h := c.a0 13 0
  let img : BitVec 512 := BitVec.ofNat 512 (leAt c.cont 0 64)
  if 16384 ≤ c.a0 63 0 || getF img S.histLen < 2 || 128 < getF img S.histLen then refuse s 6
  else if s.streamContracted h then refuse s 5
  else
    let old := s.srcAt h
    (s.srcPut h (putF (srcImage img) (bytesAt 0x18 36) (getF old (bytesAt 0x18 36))), {})

/-- SRC_READ (R293). -/
def execSrcRead (c : RingCmd) (s : State) : Res := ringExec 6 0 srcRead c s

/-- SRC_WRITE (R280). -/
def execSrcWrite (c : RingCmd) (s : State) : Res := ringExec 6 1 srcWrite c s

/-! ### The Stencil engine -/

/-- The entry of a Stencil stream. -/
def State.stnAt (s : State) (k : Nat) : BitVec 256 := Tbl.at0 s.rcv.stn k

/-- What a Stencil stream holds beside its entry. -/
def State.dyn (s : State) (k : Nat) : StnDyn := Tbl.getD (fun _ => StnDyn.idle) s.rcv.dyn k

/-- Replace it. -/
def State.setDyn (s : State) (k : Nat) (d : StnDyn) : State :=
  { s with rcv := { s.rcv with dyn := Tbl.setD (fun _ => StnDyn.idle) s.rcv.dyn k d } }

/-- Counter `j` of a Stencil stream adds `n`: 0 STN_SAMPLES, 1 STN_MISSING, 2 STN_BACK, 3 STN_EARLY, 4 STN_LATE,
5 STN_QUALITY, 6 STN_PAIR_MISS, 7 STN_SAT (R293). -/
def State.stnAdd (s : State) (k j n : Nat) : State :=
  let d := s.dyn k
  s.setDyn k { d with ctr := Tbl.setN d.ctr j ((Tbl.atN d.ctr j + n) % 2 ^ 48) }

/-- Post a Stencil event when its kind is enabled (R292): the 24 bytes of Table 12.5. -/
def State.stnPost (s : State) (k kind ch smp detail sec ns tail : Nat) : State :=
  if natBit (s.reg R.STN_EVENT_EN).toNat kind then
    let b := leBytes 2 k ++ leBytes 1 kind ++ leBytes 1 ch ++ leBytes 2 smp ++ leBytes 2 detail ++ leBytes 6 sec ++
      leBytes 4 ns ++ leBytes 6 tail
    s.record 0x0A kind (leAt b 0 4) (leAt b 4 8) (leAt b 12 8) (leAt b 20 4)
  else s

/-- Post an event at most once in each second of the working clock (R289, R291): slot 0 EARLY, 1 LATE, 2 PAIR_MISS. -/
def State.stnOnce (s : State) (k slot : Nat) (f : State → State) : State :=
  let d := s.dyn k
  if Tbl.atN d.posted slot = s.sec + 1 then s
  else f (s.setDyn k { d with posted := Tbl.setN d.posted slot (s.sec + 1) })

/-- Queue an ASDU (R286): a full queue drops and counts it. -/
def State.stnQueue (s : State) (a : Asdu) : State :=
  if 4096 ≤ s.rcv.queue.length then (s.blk 23).stnEvent 0
  else
    let s1 : State := { s with rcv := { s.rcv with queue := s.rcv.queue ++ [a] } }
    s1.put F.STN_STATUS.QUEUED s1.rcv.queue.length

/-- The 32-bit value and quality of channel `c` of seqData. -/
def Asdu.value (a : Asdu) (c : Nat) : Int := signed 32 (beAt a.data (8 * c) 4)

/-- The quality of a channel. -/
def Asdu.quality (a : Asdu) (c : Nat) : Nat := beAt a.data (8 * c + 4) 4

/-- An arithmetic shift and the saturation to 24 bits (R287). -/
def saturate (shift : Nat) (v : Int) : Int := max (-8388608) (min 8388607 (v / 2 ^ shift))

/-- Continuity (R288). -/
def State.stnContinuity (s : State) (a : Asdu) : State :=
  let e := s.stnAt a.stn
  let wrap := getF e T.wrap
  let d := s.dyn a.stn
  let take := s.setDyn a.stn { d with last := some a.smp }
  match d.last with
  | none => take
  | some l =>
    let x := (l + 1) % wrap
    if a.smp = x then take
    else
      let g := (a.smp + wrap - x) % wrap
      if 2 * g < wrap then (take.stnAdd a.stn 1 g).stnPost a.stn 1 0xFF a.smp g a.sec a.ns 0
      else (s.stnAdd a.stn 2 1).stnPost a.stn 2 0xFF a.smp 0 a.sec a.ns 0

/-- Arrival timing (R289). -/
def State.stnTiming (s : State) (a : Asdu) : State :=
  let e := s.stnAt a.stn
  if isF e T.timeEn && a.synch ≠ 0 && s.on F.TIME_STATUS.LOCKED then
    let n := a.smp * 1000000000 / getF e T.wrap
    let m := (a.ns + 1000000000 - n % 1000000000) % 1000000000
    let l : Int := if 500000000 ≤ m then (m : Int) - 1000000000 else m
    let tail := (l % 2 ^ 48).toNat
    if l < 100 * getF e T.arrMin then
      (s.stnAdd a.stn 3 1).stnOnce a.stn 0 (fun t => t.stnPost a.stn 3 0xFF a.smp 0 a.sec a.ns tail)
    else if 100 * getF e T.arrMax < l then
      (s.stnAdd a.stn 4 1).stnOnce a.stn 1 (fun t => t.stnPost a.stn 4 0xFF a.smp 0 a.sec a.ns tail)
    else s
  else s

/-- The bad channels of an ASDU (R290). -/
def State.stnBad (s : State) (a : Asdu) : Nat :=
  let e := s.stnAt a.stn
  (allBelow (fun c => a.quality c &&& getF e T.qualMask ≠ 0) (getF e T.chCount)).foldl natSet 0

/-- Quality (R290): changes of each channel post QUAL_BAD and QUAL_GOOD. -/
def State.stnQuality (s : State) (a : Asdu) : State :=
  let e := s.stnAt a.stn
  let d := s.dyn a.stn
  let bad := s.stnBad a
  let s1 := (s.setDyn a.stn { d with bad := bad }).when (bad ≠ 0) (fun t => t.stnAdd a.stn 5 1)
  s1.each (List.range (getF e T.chCount)) (fun c t =>
    if natBit bad c && !natBit d.bad c then t.stnPost a.stn 5 c a.smp 0 a.sec a.ns 0
    else if !natBit bad c && natBit d.bad c then t.stnPost a.stn 6 c a.smp 0 a.sec a.ns 0
    else t)

/-- The comparison of one channel (R291): the run after a difference, and whether it starts or ends a divergence. -/
def Run.next (r : Run) (diff thresh len : Nat) : Run × Bool × Bool :=
  let acc := min (2 ^ 48 - 1) (r.acc + diff)
  if thresh < diff then
    let x := min 65535 (r.exceed + 1)
    let start := !r.diverged && decide (len ≤ x)
    (⟨x, 0, r.diverged || start, acc⟩, start, false)
  else
    let y := min 65535 (r.agree + 1)
    let stop := r.diverged && decide (len ≤ y)
    (⟨0, y, r.diverged && !stop, if r.diverged && !stop then acc else 0⟩, false, stop)

/-- Compare two samples of one count: `lo` names the stream with the lower index, which holds the runs and takes the events. -/
def State.stnCompare (s : State) (lo : Nat) (x y : Sample) (sec ns : Nat) : State :=
  let e := s.stnAt lo
  s.each (List.range (min x.values.length y.values.length)) (fun c t =>
    if natBit x.bad c || natBit y.bad c then t
    else
      let d := t.dyn lo
      let diff := (x.values.getD c 0 - y.values.getD c 0).natAbs
      let (r, start, stop) := (Tbl.getD (fun _ => Run.idle) d.runs c).next diff (getF e T.thresh) (getF e T.runLen)
      let t1 := t.setDyn lo { d with runs := Tbl.setD (fun _ => Run.idle) d.runs c r }
      if start then t1.stnPost lo 7 c x.smp r.exceed sec ns r.acc
      else if stop then t1.stnPost lo 8 c x.smp r.agree sec ns 0
      else t1)

/-- Two streams form a pair: each has PAIR_EN and names the other (R291). -/
def State.stnPaired (s : State) (k : Nat) : Option Nat :=
  let e := s.stnAt k
  let j := getF e T.pair
  let f := s.stnAt j
  if isF e T.pairEn && isF f T.valid && isF f T.pairEn && getF f T.pair = k && j ≠ k then some j else none

/-- A sample whose partner has not come counts STN_PAIR_MISS and posts PAIR_MISS on the lower-index stream. -/
def State.stnMiss (s : State) (k : Nat) (x : Sample) : State :=
  let lo := match s.stnPaired k with | some j => min j k | none => k
  (s.stnAdd k 6 1).stnOnce lo 2 (fun t => t.stnPost lo 9 0xFF x.smp 0 x.sec x.ns 0)

/-- The pair comparison (R291): with the partner's waiting sample of the same count, or the sample waits; of more than 8
waiting samples the oldest stops waiting. -/
def State.stnPair (s : State) (a : Asdu) (values : List Int) (bad : Nat) : State :=
  match s.stnPaired a.stn with
  | none => s
  | some j =>
    let x : Sample := ⟨a.smp, values, bad, a.sec, a.ns⟩
    let dj := s.dyn j
    match dj.waiting.find? (fun y => y.smp = a.smp) with
    | some y =>
      let s1 := s.setDyn j { dj with waiting := dj.waiting.filter (fun z => z.smp != a.smp) }
      if a.stn < j then s1.stnCompare a.stn x y a.sec a.ns else s1.stnCompare j y x a.sec a.ns
    | none =>
      let d := s.dyn a.stn
      let w := d.waiting ++ [x]
      if 8 < w.length then
        let s1 := s.setDyn a.stn { d with waiting := w.drop 1 }
        match w.head? with | some o => s1.stnMiss a.stn o | none => s1
      else s.setDyn a.stn { d with waiting := w }

/-- STN_ASDU_EXAMINE (R285 to R291): the ASDU at the head of the queue. -/
def execStnAsduExamine (s : State) : Res :=
  match s.rcv.queue with
  | [] => .next s
  | a :: rest =>
    let s0 : State := { s with rcv := { s.rcv with queue := rest } }
    let s1 := s0.put F.STN_STATUS.QUEUED rest.length
    let e := s1.stnAt a.stn
    let n := getF e T.chCount
    if !isF e T.valid then .next s1
    else if a.data.length < 8 * n || getF e T.wrap ≤ a.smp then
      .next ((s1.blk 22).stnPost a.stn 10 0xFF a.smp 0 a.sec a.ns 0)
    else
      let raw := (List.range n).map (fun c => a.value c / 2 ^ getF e T.shift)
      let values := (List.range n).map (fun c => saturate (getF e T.shift) (a.value c))
      let sat := (List.zipWith (fun x y => decide (x ≠ y)) raw values).filter id |>.length
      let s2 := (((s1.stnAdd a.stn 0 1).stnAdd a.stn 7 sat).stnContinuity a).stnTiming a
      .next ((s2.stnQuality a).stnPair a values (s2.stnBad a))

/-- STN_PAIR_WAIT_EXPIRE (R291): a waiting sample's partner has not come within PAIR_WAIT. -/
def execStnPairWaitExpire (k : Fin 4096) (smp : BitVec 16) (s : State) : Res :=
  let d := s.dyn k.val
  match d.waiting.find? (fun x => x.smp = smp.toNat) with
  | none => .next s
  | some x => .next ((s.setDyn k.val { d with waiting := d.waiting.filter (fun y => y.smp != smp.toNat) }).stnMiss k.val x)

/-- STN_READ: entry, last, runs, ACC and counters (Table 16.7, R293). -/
def stnRead : Body := fun c s =>
  if 4096 ≤ c.a0 63 0 then refuse s 6
  else
    let k := c.a0 11 0
    let d := s.dyn k
    let run (j : Nat) := Tbl.getD (fun _ => Run.idle) d.runs j
    (s, { conts := leBytes 32 (s.stnAt k).toNat ++ leBytes 2 (d.last.getD 0) ++
      (List.range 24).flatMap (fun j => leBytes 2 (run j).exceed) ++
      (List.range 24).flatMap (fun j => leBytes 6 (run j).acc) ++
      (List.range 8).flatMap (fun j => leBytes 6 (Tbl.atN d.ctr j)) })

/-- A Stencil entry within Table 12.4. -/
def stnOk (e : BitVec 256) : Bool :=
  decide (getF e T.shift ≤ 8) && (!isF e T.valid ||
    (decide (1 ≤ getF e T.chCount) && decide (getF e T.chCount ≤ 24) && decide (2 ≤ getF e T.wrap) &&
     decide (getF e T.thresh ≤ 8388607) && decide (1 ≤ getF e T.runLen) && decide (getF e T.arrMin ≤ getF e T.arrMax) &&
     decide (1 ≤ getF e T.pairWait)))

/-- STN_WRITE (R293): PROTECTED while a contracted stream names the entry. The stream's history starts anew. -/
def stnWrite : Body := fun c s =>
  let k := c.a0 11 0
  let e : BitVec 256 := putF (putF (BitVec.ofNat 256 (leAt c.cont 0 32)) ⟨243, 240⟩ 0) ⟨95, 0⟩ 0
  if 4096 ≤ c.a0 63 0 || !stnOk e then refuse s 6
  else if s.cls.stream.any (fun x =>
      isF x.2 E.strContracted && isF x.2 E.strStnEn && getF x.2 E.strStnIdx == k) then refuse s 5
  else
    let s1 : State := { s with rcv := { s.rcv with stn := Tbl.set0 s.rcv.stn k e } }
    (s1.setDyn k { StnDyn.idle with ctr := (s.dyn k).ctr }, {})

/-- STN_CLEAR_CNT. -/
def stnClearCnt : Body := fun c s =>
  if 4096 ≤ c.a0 63 0 then refuse s 6 else (s.setDyn (c.a0 11 0) { s.dyn (c.a0 11 0) with ctr := [] }, {})

/-- STN_READ (R293). -/
def execStnRead (c : RingCmd) (s : State) : Res := ringExec 6 2 stnRead c s

/-- STN_WRITE (R293). -/
def execStnWrite (c : RingCmd) (s : State) : Res := ringExec 6 3 stnWrite c s

/-- STN_CLEAR_CNT (R293). -/
def execStnClearCnt (c : RingCmd) (s : State) : Res := ringExec 6 4 stnClearCnt c s

end Sys2Proof.Machine
end

