-- ==== Sys2Proof/Machine/Filters.lean ====
section
/-!
DEFINITION. Stream filters and meters and the tunnel header table (spec/10_time_and_gates.md, R256, R257; R195; R393;
spec/05_substation_profiles.md, Table 5.7).
-/
namespace Sys2Proof.Machine

namespace L
def valid : BF := ⟨63, 63⟩
def blockEn : BF := ⟨62, 62⟩
def blocked : BF := ⟨61, 61⟩
def meterEn : BF := ⟨60, 60⟩
def meter : BF := ⟨59, 46⟩
def maxSdu : BF := ⟨13, 0⟩
def cir : BF := ⟨127, 104⟩
def eir : BF := ⟨103, 80⟩
def cbs : BF := ⟨79, 56⟩
def ebs : BF := ⟨55, 32⟩
def cf : BF := ⟨31, 31⟩
def dropYellow : BF := ⟨30, 30⟩
def markRedEn : BF := ⟨29, 29⟩
def markRed : BF := ⟨28, 28⟩
end L

/-- A filter entry. -/
def State.fltAt (s : State) (k : Nat) : BitVec 64 := Tbl.at0 s.flt.flt k

/-- A meter entry. -/
def State.mtrAt (s : State) (k : Nat) : BitVec 128 := Tbl.at0 s.flt.mtr k

/-- The state with the filter block replaced. -/
def State.setFlt (s : State) (f : FilterSt) : State := { s with flt := f }

/-- Filter counter `j` adds one: 0 FLT_MATCH, 1 FLT_PASS, 2 FLT_DROP_SDU, 3 FLT_DROP_BLOCKED, 4 FLT_DROP_RED,
5 FLT_DROP_YELLOW, 6 FLT_YELLOW (Table 10.10). -/
def State.fltCount (s : State) (k j : Nat) : State :=
  s.setFlt { s.flt with ctr := Tbl.setN s.flt.ctr (8 * k + j) ((Tbl.atN s.flt.ctr (8 * k + j) + 1) % 2 ^ 48) }

/-- One byte in the units of the buckets: a rate of 100 kb/s gains one unit in each core cycle of 2/3 ns. -/
def fillUnit : Nat := 120000

/-- The fills of a meter's buckets now, in bucket units: each gains its rate since the last refill, up to its burst; under
the coupling flag what overflows the committed bucket goes to the excess bucket. -/
def State.mtrFills (s : State) (k : Nat) : Nat × Nat :=
  let e := s.mtrAt k
  let dt := s.cyc - Tbl.atN s.flt.fillAt k
  let c := Tbl.atN s.flt.fill (2 * k) + dt * getF e L.cir
  let cap := getF e L.cbs * fillUnit
  let spill := if isF e L.cf then c - cap else 0
  (min c cap, min (Tbl.atN s.flt.fill (2 * k + 1) + dt * getF e L.eir + spill) (getF e L.ebs * fillUnit))

/-- Store the fills of a meter. -/
def State.setFills (s : State) (k c x : Nat) : State :=
  s.setFlt { s.flt with
    fill := Tbl.setN (Tbl.setN s.flt.fill (2 * k) c) (2 * k + 1) x, fillAt := Tbl.setN s.flt.fillAt k s.cyc }

/-- The colour of a frame (R257). -/
inductive Colour where
  | green | yellow | red
deriving DecidableEq, Repr

/-- The meter colours a frame of `len` bytes, colour-blind, and charges it (R195, R257). -/
def State.colour (s : State) (k len : Nat) : State × Colour :=
  let e := s.mtrAt k
  let (c, x) := s.mtrFills k
  let n := len * fillUnit
  if isF e L.markRed then (s.setFills k c x, .red)
  else if n ≤ c then (s.setFills k (c - n) x, .green)
  else if n ≤ x then (s.setFills k c (x - n), .yellow)
  else
    let s1 := s.setFills k c x
    (if isF e L.markRedEn then s1.setFlt { s1.flt with mtr := Tbl.set0 s1.flt.mtr k (putF e L.markRed 1) } else s1, .red)

/-- Return the charge of a spoiled frame to its bucket, capped at the bucket's size (R195). -/
def State.refund (s : State) (k len : Nat) (c : Colour) : State :=
  let e := s.mtrAt k
  let (a, b) := s.mtrFills k
  match c with
  | .green => s.setFills k (min (a + len * fillUnit) (getF e L.cbs * fillUnit)) b
  | .yellow => s.setFills k a (min (b + len * fillUnit) (getF e L.ebs * fillUnit))
  | .red => s

/-- Whether an accepted contract's stream uses a filter or a meter (R270). -/
def State.fltHeld (s : State) (p : Nat → BitVec 64 → Bool) : Bool :=
  s.cls.stream.any (fun x => isF x.2 E.strContracted && getF x.2 E.strFilter ≠ 0 &&
    p (getF x.2 E.strFilter) (s.fltAt (getF x.2 E.strFilter)))

/-- A filter named by an accepted contract's stream. -/
def State.filterHeld (s : State) (k : Nat) : Bool := s.fltHeld (fun f _ => f == k)

/-- A meter applied by such a filter. -/
def State.meterHeld (s : State) (k : Nat) : Bool :=
  s.fltHeld (fun _ e => isF e L.valid && isF e L.meterEn && getF e L.meter == k)

/-- FLT_WRITE: BLOCKED is kept. -/
def fltWrite : Body := fun c s =>
  let k := c.a0 13 0
  if 16384 ≤ c.a0 63 0 then refuse s 6
  else if s.filterHeld k then refuse s 5
  else
    let e := putF (putF (BitVec.ofNat 64 (leAt c.cont 0 8)) ⟨45, 14⟩ 0) L.blocked (getF (s.fltAt k) L.blocked)
    (s.setFlt { s.flt with flt := Tbl.set0 s.flt.flt k e }, {})

/-- FLT_READ: the entry, then the counters of Table 10.10. -/
def fltRead : Body := fun c s =>
  let k := c.a0 13 0
  if 16384 ≤ c.a0 63 0 then refuse s 6
  else (s, { conts := padTo 64 (leBytes 8 (s.fltAt k).toNat ++
    (List.range 7).flatMap (fun j => leBytes 8 (Tbl.atN s.flt.ctr (8 * k + j)))) })

/-- MTR_WRITE (R257): both buckets are set full to the CBS and EBS written; MARK_RED is kept. -/
def mtrWrite : Body := fun c s =>
  let k := c.a0 13 0
  if 16384 ≤ c.a0 63 0 then refuse s 6
  else if s.meterHeld k then refuse s 5
  else
    let e := putF (putF (BitVec.ofNat 128 (leAt c.cont 0 16)) ⟨27, 0⟩ 0) L.markRed (getF (s.mtrAt k) L.markRed)
    ((s.setFlt { s.flt with mtr := Tbl.set0 s.flt.mtr k e }).setFills k (getF e L.cbs * fillUnit) (getF e L.ebs * fillUnit), {})

/-- MTR_READ. -/
def mtrRead : Body := fun c s =>
  if 16384 ≤ c.a0 63 0 then refuse s 6 else (s, { conts := leBytes 16 (s.mtrAt (c.a0 13 0)).toNat })

/-- FLT_UNBLOCK: BLOCKED cleared. -/
def fltUnblock : Body := fun c s =>
  let k := c.a0 13 0
  if 16384 ≤ c.a0 63 0 then refuse s 6
  else if s.filterHeld k then refuse s 5
  else (s.setFlt { s.flt with flt := Tbl.set0 s.flt.flt k (putF (s.fltAt k) L.blocked 0) }, {})

/-- MTR_UNMARK: MARK_RED cleared; the fill stays as it is. -/
def mtrUnmark : Body := fun c s =>
  let k := c.a0 13 0
  if 16384 ≤ c.a0 63 0 then refuse s 6
  else if s.meterHeld k then refuse s 5
  else (s.setFlt { s.flt with mtr := Tbl.set0 s.flt.mtr k (putF (s.mtrAt k) L.markRed 0) }, {})

/-- FLT_CLEAR_CNT. -/
def fltClearCnt : Body := fun c s =>
  let k := c.a0 13 0
  if 16384 ≤ c.a0 63 0 then refuse s 6
  else if s.filterHeld k then refuse s 5
  else (s.setFlt { s.flt with ctr := (List.range 7).foldl (fun t j => Tbl.setN t (8 * k + j) 0) s.flt.ctr }, {})

/-- FLT_WRITE (R393). -/
def execFltWrite (c : RingCmd) (s : State) : Res := ringExec 4 0 fltWrite c s

/-- FLT_READ (R393). -/
def execFltRead (c : RingCmd) (s : State) : Res := ringExec 4 1 fltRead c s

/-- MTR_WRITE (R257). -/
def execMtrWrite (c : RingCmd) (s : State) : Res := ringExec 4 2 mtrWrite c s

/-- MTR_READ (R393). -/
def execMtrRead (c : RingCmd) (s : State) : Res := ringExec 4 3 mtrRead c s

/-- FLT_UNBLOCK (R393). -/
def execFltUnblock (c : RingCmd) (s : State) : Res := ringExec 4 4 fltUnblock c s

/-- MTR_UNMARK (R393). -/
def execMtrUnmark (c : RingCmd) (s : State) : Res := ringExec 4 5 mtrUnmark c s

/-- FLT_CLEAR_CNT (R393). -/
def execFltClearCnt (c : RingCmd) (s : State) : Res := ringExec 4 6 fltClearCnt c s

end Sys2Proof.Machine
end

