-- ==== Sys2Proof/Machine/Path.lean ====
section
/-!
DEFINITION. Frames and copies in the device: queues, lines, deferred counts, contract counters, deliveries to and from PF2,
and the loss of copies (R32, R85, R196, R252, R272, R273, R300, R327, R394 to R396).
-/
namespace Sys2Proof.Machine

namespace V
def stream : BF := ⟨13, 0⟩
def cls : BF := ⟨18, 16⟩
def burst : BF := bytesAt 0x03 1
def maxLen : BF := bytesAt 0x04 2
def count : BF := bytesAt 0x06 1
def period : BF := bytesAt 0x08 4
def arrOfs : BF := bytesAt 0x0C 4
def arrJit : BF := bytesAt 0x10 4
def bound : BF := bytesAt 0x14 4
def inPort : BF := bytesAt 0x18 1
def inPort2 : BF := bytesAt 0x19 1
def egress : BF := bytesAt 0x20 12
def state : BF := bytesAt 0x30 1
/-- Counter `j`: 0 CT_OK, 1 CT_LATE, 2 CT_NONCONF, 3 CT_LOST. -/
def ctr (j : Nat) : BF := bytesAt (0x40 + 6 * j) 6
def worst : BF := bytesAt 0x58 4
end V

/-! ### Reading and replacing -/

/-- The state with the frame path replaced. -/
def State.setPath (s : State) (x : PathSt) : State := { s with path := x }

/-- What a port holds beside its registers. -/
def State.port (s : State) (p : Nat) : PortSt := Tbl.getD (fun _ => PortSt.idle) s.ports p

/-- Replace it. -/
def State.setPort (s : State) (p : Nat) (x : PortSt) : State :=
  { s with ports := Tbl.setD (fun _ => PortSt.idle) s.ports p x }

/-- A received frame that the device holds. -/
def State.frame? (s : State) (id : Nat) : Option FrameRec := s.path.frames.find? (fun f => f.id == id)

/-- Replace a received frame. -/
def State.setFrame (s : State) (f : FrameRec) : State :=
  s.setPath { s.path with frames := s.path.frames.map (fun g => if g.id = f.id then f else g) }

/-- Forget a received frame. -/
def State.dropFrame (s : State) (id : Nat) : State :=
  s.setPath { s.path with frames := s.path.frames.filter (fun g => g.id != id) }

/-- The queue of a class of a port. -/
def State.queue (s : State) (p c : Nat) : List Copy := Tbl.getD (fun _ => []) s.path.queues (8 * p + c)

/-- Replace the queue of a class of a port. -/
def State.setQueue (s : State) (p c : Nat) (q : List Copy) : State :=
  s.setPath { s.path with queues := Tbl.setD (fun _ => []) s.path.queues (8 * p + c) q }

/-- The line of a port. -/
def State.line (s : State) (p : Nat) : LineSt := Tbl.getD (fun _ => LineSt.idle) s.path.line p

/-- Replace the line of a port. -/
def State.setLine (s : State) (p : Nat) (l : LineSt) : State :=
  s.setPath { s.path with line := Tbl.setD (fun _ => LineSt.idle) s.path.line p l }

/-- Every copy of a port: queued, on the line, or preempted. -/
def State.copiesOn (s : State) (p : Nat) : List Copy :=
  (List.range 8).flatMap (s.queue p) ++
  (match (s.line p).now with | some x => [x.copy] | none => []) ++ (match (s.line p).rest with | some x => [x.copy] | none => [])

/-- The ports that hold a copy, with their copies. -/
def State.allCopies (s : State) : List (Nat × Copy) := (List.range 96).flatMap (fun p => (s.copiesOn p).map (fun c => (p, c)))

/-- Forget a received frame when its verdict or end is known and no cut-through copy of it is still to end. -/
def State.reap (s : State) (id : Nat) : State :=
  if s.allCopies.any (fun x => x.2.frame == some id && x.2.cut) then s else s.dropFrame id

/-- Occupancy of a class queue in bytes. -/
def State.occupied (s : State) (p c : Nat) : Nat :=
  (((s.queue p c).filter (fun x => !x.deep)).map (fun x => x.bytes.length + 4)).sum

/-! ### Counts that wait (R85, R462) -/

/-- Count one occurrence. -/
def State.tally (s : State) : Tally → State
  | .quiet => s
  | .blk i => s.blk i
  | .stat p i => s.stat p i
  | .ctx n j => s.ctxCount n j
  | .flt k j => s.fltCount k j

/-- Count the deferred occurrences of a frame. -/
def State.settleLater (s : State) (f : FrameRec) : State :=
  (s.each f.later (fun t u => u.tally t)).each f.laterEv (fun e u => u.count e)

/-! ### Contracts (R271 to R273) -/

/-- A contract's image. -/
def State.ctAt (s : State) (n : Nat) : BitVec 1024 := Tbl.at0 s.ct.ct n

/-- Write a contract's image. -/
def State.ctPut (s : State) (n : Nat) (w : BitVec 1024) : State := { s with ct := { s.ct with ct := Tbl.set0 s.ct.ct n w } }

/-- A contract counter adds one, modulo 2^48. -/
def State.ctCount (s : State) (n j : Nat) : State :=
  s.ctPut n (putF (s.ctAt n) (V.ctr j) ((getF (s.ctAt n) (V.ctr j) + 1) % 2 ^ 48))

/-- A conforming copy that is not delivered set counts in CT_LOST and posts the first (R273). -/
def State.ctLost (s : State) : Option Nat → State
  | none => s
  | some n => (s.ctCount n 3).ctEvent 1 n 0

/-- The frame's nonconformance counts once (R271). -/
def State.ctNonconf (s : State) : Option Nat → State
  | none => s
  | some n => s.ctCount n 2

/-- A conforming copy has been delivered with this residence (R272). -/
def State.ctDelivered (s : State) (n res : Nat) : State :=
  let w := s.ctAt n
  let s1 := s.ctPut n (putF w V.worst (max (getF w V.worst) (min res (2 ^ 32 - 1))))
  if res ≤ getF w V.bound then s1.ctCount n 0 else (s1.ctCount n 1).ctEvent 0 n 0

/-! ### PF2 (R394 to R396, R300) -/

/-- A TX completion (Table 16.10): 0 SENT, 1 REFUSED, 2 DROPPED, which counts in EXC_TX_DROP of the ring (Table 16.19),
3 QUIET, 4 UNREACHABLE. -/
def State.txDone (s : State) (ring tag result : Nat) : State :=
  let s1 := s.when (result == 2) (fun t => (t.blk (128 + ring)).hostEvent 3 ring)
  if s1.running ring then s1.cqWrite ring (leBytes 4 (result * 2 ^ 20 + tag)) [] else s1

/-- The completion of a copy that came from PF2. -/
def State.hostDone (s : State) (c : Copy) (result : Nat) : State :=
  match c.host with
  | some (n, t) => s.txDone n t result
  | none => s

/-- The tokens of exception reason `r` now, in units of 1/1,500,000 frame, and the bucket's size (R395): RATE × 1,000
frames/s is RATE units per core cycle. -/
def State.tokens (s : State) (r : Nat) : Nat × Nat :=
  let rate := s.fld (F.EXC_STEER.RATE r)
  let cap := max 1 (rate * 10) * 1500000
  let spent := Tbl.atN s.host.tokens r
  (cap - (spent - (s.cyc - Tbl.atN s.host.tokenAt r) * rate), cap)

/-- Take one token of reason `r`: none when the frame exceeds the rate. The table holds what is missing from a full bucket. -/
def State.takeToken (s : State) (r : Nat) : Option State :=
  if s.fld (F.EXC_STEER.RATE r) = 0 then some s
  else
    let (have_, cap) := s.tokens r
    if have_ < 1500000 then none
    else some { s with host := { s.host with
      tokens := Tbl.setN s.host.tokens r (cap - have_ + 1500000), tokenAt := Tbl.setN s.host.tokenAt r s.cyc } }

/-- The buffers that a frame of `n` bytes fills, in order; none when they do not suffice. -/
def fillBufs : List RxBuf → Nat → Option (List (RxBuf × Nat) × List RxBuf)
  | rest, 0 => some ([], rest)
  | [], _ => none
  | b :: rest, n =>
    if n ≤ b.len then some ([(b, n)], rest)
    else (fillBufs rest (n - b.len)).map (fun (used, left) => ((b, b.len) :: used, left))

/-- What an RX completion says of a frame (Table 16.11). -/
structure RxInfo where
  port : Nat
  reason : Nat
  source : Nat
  prot : Bool
  sec : Nat
  ns : Nat
  handle : Option Nat
  sci : Nat
deriving DecidableEq, Repr

/-- Write a frame into RX buffers of the ring that EXC_STEER names, one completion a buffer; a frame without enough
buffers, completion slots or tokens is discarded whole and counted in EXC_RX_DROP of the ring (R395). -/
def State.pf2Write (s : State) (frame : List Byte) (i : RxInfo) : State :=
  let n := s.fld (F.EXC_STEER.PAIR i.reason)
  let drop (t : State) := (t.blk (128 + n)).hostEvent 3 n
  let r := s.ring n
  if !(s.running n && s.kind n == 3) then drop s
  else match fillBufs r.rxBufs frame.length with
    | none => drop s
    | some (used, left) =>
      if s.cqFree n < used.length then drop s
      else match s.takeToken i.reason with
        | none => drop s
        | some s1 =>
          let s2 := s1.setRing n { s1.ring n with rxBufs := left }
          let k := used.length
          ((used.zipIdx.foldl (fun (x : State × Nat) (u, j) =>
            let (b, m) := u
            let head := leBytes 4 (b2n (decide (j + 1 < k)) * 2 ^ 23 + i.port * 2 ^ 16 + b.tag.toNat) ++
              leBytes 4 (m * 2 ^ 16 + i.reason * 2 ^ 14 + i.source * 2 ^ 8 + b2n i.prot * 2 ^ 7) ++
              leBytes 6 i.sec ++ leBytes 2 0 ++ leBytes 4 i.ns ++
              leBytes 2 (match i.handle with | some h => 2 ^ 15 + h | none => 0) ++ leBytes 2 0 ++ leBytes 8 i.sci
            (((x.1.emit (.hostWrite b.addr (slice frame x.2 m))).cqWrite n head []), x.2 + m)) (s2, 0)).1).count 0x6C4

/-- The bytes of an exception frame as a member relays it (R327). -/
def excRecord (frame : List Byte) (i : RxInfo) : List Byte :=
  [BitVec.ofNat 8 i.port, BitVec.ofNat 8 (i.reason + 16 * b2n i.prot)] ++ leBytes 6 i.sec ++ leBytes 4 i.ns ++
  leBytes 2 (match i.handle with | some h => 2 ^ 15 + h | none => 0) ++ leBytes 8 i.sci ++ frame

/-- Deliver an exception frame to PF2 (R396): on a domain member it travels through the hawk (R327). -/
def State.pf2Deliver (s : State) (frame : List Byte) (i : RxInfo) : State :=
  if s.isMember then s.lathSend Kind.exc.num 0x7E (excRecord frame i)
  else s.pf2Write frame i

/-! ### Coat pairs (R299, R300, R310) -/

/-- The role of a coat-pair member (Table 13.1). -/
def State.role (s : State) : Nat := s.fld F.PAIR_STATUS.ROLE

/-- A twin-held port of a coat pair. -/
def State.twinHeld (s : State) (p : Nat) : Bool := s.config == 1 && natBit (s.reg (R.PAIR_TWIN (p / 32))).toNat (p % 32)

/-- A twin-held port whose frames are computed and dropped at the MAC: STANDBY and BLOCKED (Table 13.1). -/
def State.quiet (s : State) (p : Nat) : Bool := s.twinHeld p && (s.role == 2 || s.role == 5)

/-- A frame of a twin-held port whose MAC start is `m` is computed and dropped: as above, and before the first start that a
takeover or handover allows (R304, R308). -/
def State.quietAt (s : State) (p m : Nat) : Bool := s.quiet p || (s.twinHeld p && decide (m < s.pair.txFrom))

/-- A twin-held port that is not operational: OFFLINE and JOINING. -/
def State.twinOff (s : State) (p : Nat) : Bool := s.twinHeld p && decide (s.role ≤ 1)

/-- A port that copies may be forwarded to (R30 to R32, Table 13.1). -/
def State.fwdUp (s : State) (p : Nat) : Bool := s.txUp p && !s.twinOff p

/-- The CRC-64 of R310 over a record: one byte, most significant bit first. -/
def crc64Byte (r : Nat) (b : Byte) : Nat :=
  (List.range 8).foldl (fun x _ => if 2 ^ 63 ≤ x then (2 * x - 2 ^ 64) ^^^ 0x42F0E1EBA9EA3693 else 2 * x) (r ^^^ (b.toNat * 2 ^ 56))

/-- The CRC-64 of a byte string. -/
def crc64 (bs : List Byte) : Nat := bs.foldl crc64Byte 0

/-- The digests of a port. -/
def State.twin (s : State) (p : Nat) : TwinSt := Tbl.getD (fun _ => TwinSt.idle) s.path.twin p

/-- Replace the digests of a port. -/
def State.setTwin (s : State) (p : Nat) (x : TwinSt) : State :=
  s.setPath { s.path with twin := Tbl.setD (fun _ => TwinSt.idle) s.path.twin p x }

/-- The digests of a port at a MAC instant: a new cycle closes the one before it, keeping the last 8. -/
def TwinSt.atCycle (x : TwinSt) (cycle : Nat) : TwinSt :=
  if x.cycle = cycle then x
  else { x with cycle := cycle, rank := 0, sum := 0, count := 0,
                own := if x.count = 0 then x.own else ((x.cycle, x.sum, x.count) :: x.own).take 8 }

/-- A contracted copy starts at MAC instant `m` on a twin-held port: a sequenced one that is not spoiled enters the digest
with its rank; every one raises the rank (R310). -/
def State.twinStart (s : State) (p m : Nat) (c : Copy) (spoiled : Bool) : State :=
  if !s.twinHeld p then s
  else
    let x := (s.twin p).atCycle ((s.operBank p).cycleAt m)
    match c.seq, c.handle with
    | some q, some h =>
      if spoiled then s.setTwin p { x with rank := x.rank + 1 }
      else
        let v := crc64 (beBytes 1 p ++ beBytes 2 h ++ beBytes 2 q ++ beBytes 2 x.rank ++ c.bytes)
        s.setTwin p { x with rank := x.rank + 1, sum := (x.sum + v) % 2 ^ 64, count := x.count + 1 }
    | _, _ => s.setTwin p { x with rank := x.rank + 1 }

/-! ### In-flight gauges (R196) -/

/-- TX_INFLIGHT of a slice falls or rises by one. -/
def State.txGauge (s : State) (sl : Nat) (up : Bool) : State :=
  let f := F.WET_GAUGE.TX_INFLIGHT sl
  s.put f (if up then s.fld f + 1 else s.fld f - 1)

/-- RX_INFLIGHT of a slice falls or rises by one, to at most 255. -/
def State.rxGauge (s : State) (sl : Nat) (up : Bool) : State :=
  let f := F.WET_GAUGE.RX_INFLIGHT sl
  s.put f (if up then min 255 (s.fld f + 1) else s.fld f - 1)

/-! ### Extra work (R172, R173) -/

/-- The extra work of a slice. -/
def State.extra (s : State) (sl : Nat) : List Extra := Tbl.getD (fun _ => []) s.path.extra sl

/-- Replace the extra work of a slice and its gauge. -/
def State.setExtra (s : State) (sl : Nat) (l : List Extra) : State :=
  (s.setPath { s.path with extra := Tbl.setD (fun _ => []) s.path.extra sl l }).put (F.CIPHER_STATUS.EXTRA_QUEUED sl) l.length

/-! ### Loss of copies -/

/-- A copy leaves the device without being sent: its contract loses it, PF2 learns that it was dropped, its reservation and
its extra work end. -/
def State.copyGone (s : State) (p : Nat) (c : Copy) : State :=
  let s1 := (s.ctLost c.contract).hostDone c 2
  let s2 := match c.start with | some m => s1.dropStart p m | none => s1
  let s3 := if c.wet then
      (match c.frame.bind s2.frame? with
       | some f => if f.verdict.isNone then s2.txGauge (s2.portSlice p) false else s2
       | none => s2)
    else s2
  if c.waitExtra then
    let sl := s3.portSlice p
    s3.setExtra sl ((s3.extra sl).filter (fun e => e != Extra.copy c.no))
  else s3

/-- Remove the copies of a port's queues that satisfy a test. -/
def State.purge (s : State) (p : Nat) (test : Copy → Bool) (gone : Nat → Copy → State → State) : State :=
  s.each (List.range 8) (fun k t =>
    let q := t.queue p k
    ((q.filter test).foldl (fun u c => gone k c (u.copyGone p c)) (t.setQueue p k (q.filter (fun c => !test c)))))

/-- Remove every copy of a received frame that is not yet cut through (R18, R35): it is stored, and never sent. -/
def State.discardStored (s : State) (id : Nat) : State :=
  s.each (List.range 96) (fun p t => t.purge p (fun c => c.frame == some id && !c.cut) (fun _ _ u => u))

/-- A frame being sent is cut off without an FCS (R30, R32): TX_ABORT. -/
def State.abortLine (s : State) (p : Nat) : State :=
  let cut (t : State) (x : Option Sending) : State :=
    match x with
    | some y => (((t.copyGone p y.copy).when y.copy.start.isSome (fun u => u.twinStart p y.begun y.copy true)).stat p 48).emit
        (.cut (Fin.ofNat 96 p))
    | none => t
  let l := s.line p
  cut (cut (s.setLine p LineSt.idle) l.now) l.rest

/-- Every frame queued on a port is discarded and counted in TX_DROP_LINK (R32). -/
def State.dropQueues (s : State) (p : Nat) : State := s.purge p (fun _ => true) (fun _ _ t => t.stat p 47)

/-- A received frame that leaves the device before its end: its copies that left cut through are spoiled by `r`, the others
are discarded. -/
def State.frameGone (s : State) (f : FrameRec) (r : Nat) : State :=
  let s1 := s.discardStored f.id
  let s2 := s1.setFrame { f with verdict := some r, ended := some 16 }
  let s3 := match f.charge with
    | some (k, col) =>
      s2.refund k (f.bytes.length + 4) (match col with | 0 => .green | 1 => .yellow | _ => .red)
    | none => s2
  s3.reap f.id

end Sys2Proof.Machine
end

