-- ==== Sys2Proof/Machine/Perf.lean ====
section
/-!
DEFINITION. Snapshots, dumps, samples and the PERF commands (spec/20_counters.md, R465 to R473).
-/
namespace Sys2Proof.Machine

/-- Replace the counters. -/
def State.setPerf (s : State) (x : Perf) : State := { s with perf := x }

/-- The overflow words that a snapshot copies: PERF_TH_OVF, PERF_OVF and PERF_BOVF, by register offset. -/
def State.ovfWords (s : State) : Tbl Nat :=
  (s.regs.filter (fun e => e.1 = R.PERF_TH_OVF || (decide (R.PERF_OVF 0 ≤ e.1) && decide (e.1 < R.PERF_BOVF 256)))).map
    (fun e => (e.1, e.2.toNat))

/-- The number of entries of an area (Table 20.4): 0 events, 1 threshold, 2 statistics, 3 block counters. -/
def areaSize (kind : Nat) : Nat := if kind = 0 then 2048 else if kind = 1 then 16 else if kind = 2 then 6144 else 8192

/-- The first shadow line of an area: eight entries a line, in area order. -/
def areaLine (kind : Nat) : Nat := if kind = 0 then 0 else if kind = 1 then 256 else if kind = 2 then 258 else 1026

/-- The events that count cycles and beats of hardware use (R462): operations in the cipher cores, beats of the crossbar, and
the instructions, stalls and DRAM accesses of T0 to T3. -/
def useEvent (e : Nat) : Bool :=
  if e < 0x680 then (decide (16 ≤ e % 128) && decide (e % 128 ≤ 21)) || (decide (43 ≤ e % 128) && decide (e % 128 ≤ 45))
  else decide (e ≤ 0x68B)

/-- A 64-bit entry (R465) at a core cycle: the value, and in bit 63 the overflow bit of an event, threshold or block entry. A
count of hardware use is a free value of its event and the cycle. -/
def entryWord (cyc : Nat) (ev th stat blk ovf : Tbl Nat) (kind i : Nat) : Nat :=
  let v := if kind = 0 && useEvent i then (Config.useCount i cyc).toNat
    else Tbl.atN (if kind = 0 then ev else if kind = 1 then th else if kind = 2 then stat else blk) i
  let o :=
    if kind = 0 then natBit (Tbl.atN ovf (R.PERF_OVF (i / 32))) (i % 32)
    else if kind = 1 then natBit (Tbl.atN ovf R.PERF_TH_OVF) i
    else if kind = 3 then natBit (Tbl.atN ovf (R.PERF_BOVF (i / 32))) (i % 32) else false
  v % 2 ^ 48 + b2n o * 2 ^ 63

/-- A live entry. -/
def State.liveEntry (s : State) (kind i : Nat) : Nat :=
  entryWord s.cyc s.perf.ev s.perf.th s.perf.stat s.perf.blk s.ovfWords kind i

/-- An entry of a snapshot: all ones where its shadow line is poisoned (R471). -/
def Snapshot.entry (x : Snapshot) (kind i : Nat) : Nat :=
  if x.poison.contains (areaLine kind + i / 8) then 2 ^ 64 - 1 else entryWord x.cyc x.ev x.th x.stat x.blk x.ovf kind i

/-- A snapshot bank. -/
def State.bank (s : State) (b : Nat) : Option Snapshot := Tbl.getD (fun _ => none) s.perf.bank b

/-- Replace a snapshot bank. -/
def State.setBank (s : State) (b : Nat) (x : Option Snapshot) : State :=
  s.setPerf { s.perf with bank := Tbl.setD (fun _ => none) s.perf.bank b x }

/-- The snapshot being written is complete: the view and PERF_SNAP_SEQ change to it (R468). -/
def State.showSnapshot (s : State) : State :=
  match s.perf.writing with
  | none => s
  | some b =>
    match s.bank b with
    | some x => (s.setPerf { s.perf with writing := none, view := some b }).put F.PERF_SNAP_SEQ.SEQ x.seq
    | none => s.setPerf { s.perf with writing := none }

/-- A snapshot is lost (R468). -/
def State.dumpLoss (s : State) : State := ((s.setPerf { s.perf with dumpLost := true }).blk 40).perfEvent 2

/-- Take a snapshot at this tick (R467, R468): it goes into the bank that does not hold the latest one, and is lost when that
bank's snapshot has still to be dumped. Only a snapshot taken while DUMP_EN is 1 is to be dumped. -/
def State.snapshot (s : State) (periodic : Bool) : State :=
  let s0 := s.showSnapshot
  let b := match s0.perf.view with | some v => 1 - v | none => 0
  let busy := match s0.bank b with | some x => !x.dumped | none => false
  if busy then s0.dumpLoss
  else
    let q := (s0.perf.lastSeq + 1) % 2 ^ 32
    let x : Snapshot := ⟨q, s0.sec, s0.ns, s0.cyc, periodic, !s0.on F.PERF_CTL.DUMP_EN, s0.perf.ev, s0.perf.th, s0.perf.stat, s0.perf.blk,
      s0.ovfWords, []⟩
    let s1 := s0.setBank b (some x)
    s1.setPerf { s1.perf with lastSeq := q, writing := some b }

/-- PERIODIC_SNAPSHOT (R467). -/
def execPeriodicSnapshot (s : State) : Res := if s.on F.PERF_CTL.DUMP_EN then .next (s.snapshot true) else .next s

/-- SNAP_AT_FIRE (R467): the instant T of PERF_SNAP_AT. -/
def execSnapAtFire (s : State) : Res :=
  match s.perf.snapAt with
  | some t =>
    if t.1 * 1000000000 + t.2 ≤ s.now then .next ((s.setPerf { s.perf with snapAt := none }).snapshot false) else .next s
  | none => .next s

/-- SNAPSHOT_DONE (R468). -/
def execSnapshotDone (s : State) : Res := .next s.showSnapshot

/-! ### Dumps (R469 to R471) -/

/-- A dump record header (Table 20.5). -/
def dumpHeader (flags length seq sec ns source sections : Nat) : List Byte :=
  [0x58, 0x43, 0x44, 0x50] ++ leBytes 2 1 ++ leBytes 2 flags ++ leBytes 4 length ++ leBytes 4 seq ++ leBytes 6 sec ++
  leBytes 4 ns ++ leBytes 1 source ++ leBytes 1 sections ++ leBytes 36 0

/-- The areas selected by DUMP_SEL, in area order. -/
def State.dumpAreas (s : State) : List Nat := allBelow (fun k => natBit (s.fld F.PERF_CTL.DUMP_SEL) k) 4

/-- One section of a record (R470). -/
def Snapshot.section_ (x : Snapshot) (kind : Nat) : List Byte :=
  leBytes 1 kind ++ leBytes 3 0 ++ leBytes 4 0 ++ leBytes 4 (areaSize kind) ++ leBytes 4 0 ++
  (List.range (areaSize kind)).flatMap (fun i => leBytes 8 (x.entry kind i))

/-- A shadow line that a record needs is poisoned. -/
def Snapshot.bad (x : Snapshot) (areas : List Nat) : Bool :=
  areas.any (fun k => x.poison.any (fun l => decide (areaLine k ≤ l) && decide (l < areaLine k + (areaSize k + 7) / 8)))

/-- Write the snapshot of a bank into the dump buffer as one record, or lose it (R469). -/
def State.dumpRecord (s : State) (b : Nat) : State :=
  match s.bank b with
  | none => s
  | some x =>
    let areas := s.dumpAreas
    let len := 64 + (areas.map (fun k => 16 + 8 * areaSize k)).sum
    let size := s.fld F.PERF_DUMP_SIZE.SIZE
    let head := s.fld F.PERF_DUMP_HEAD.HEAD % size
    let tail := s.fld F.PERF_DUMP_TAIL.TAIL % size
    let base := s.fld F.PERF_DUMP_BASE_HI.ADDR * 2 ^ 32 + s.fld F.PERF_DUMP_BASE_LO.ADDR * 4096
    let rest := size - tail
    let skip := if rest < len then rest else 0
    let free_ := size - (tail + size - head) % size
    let s1 := s.setBank b (some { x with dumped := true })
    if free_ < skip + len + 64 then s1.dumpLoss
    else
      let bad := x.bad areas
      let flags := 2 * b2n s.perf.dumpLost + 4 * b2n bad + 8 * b2n x.periodic
      let at_ := if skip = 0 then tail else 0
      let s2 := s1.when (skip != 0) (fun t => t.dma (base + tail) (dumpHeader 1 64 x.seq x.sec x.ns s.source 0))
      let s3 := s2.dma (base + at_) (dumpHeader flags len x.seq x.sec x.ns s.source areas.length ++ areas.flatMap x.section_)
      let s4 := (s3.put F.PERF_DUMP_TAIL.TAIL ((at_ + len) % size)).setPerf { s3.perf with dumpLost := false }
      (s4.when bad (fun t => t.perfEvent 1)).perfEvent 5

/-- The complete snapshot that the dump engine writes next: of two, the earlier. -/
def State.nextDump (s : State) : Option Nat :=
  let want (b : Nat) : Option Nat :=
    match s.bank b with
    | some x => if !x.dumped && s.perf.writing ≠ some b then some x.seq else none
    | none => none
  match want 0, want 1 with
  | some a, some b => if a < b then some 0 else some 1
  | some _, none => some 0
  | none, some _ => some 1
  | none, none => none

/-- DUMP_RECORD_WRITE (R469). -/
def execDumpRecordWrite (s : State) : Res :=
  if !s.on F.PERF_CTL.DUMP_EN then .next s
  else
    match s.nextDump with
    | some b => .next (s.dumpRecord b)
    | none => .next s

/-! ### Samples (R472) -/

/-- The events that sampler `j` accepts (R472). -/
def sampleEventOk (j e : Nat) : Bool := if j = 0 then decide (0x680 ≤ e) && decide (e ≤ 0x68B) else decide (e < 0x680) && decide (e % 128 ≤ 45)

/-- PERF_SAMPLE (R472): the sampler's event has occurred PERIOD times. The operand is what the sample carries (Table 20.6). -/
def execPerfSample (j : Fin 2) (x : SampleInfo) (s : State) : Res :=
  let e := s.fld (F.PERF_SAMPLE_CFG.EVENT j.val)
  if !s.on (F.PERF_SAMPLE_CFG.EN j.val) || !sampleEventOk j.val e then .next s
  else
    let from_ := Tbl.atN s.perf.rateFrom j.val
    let fresh := decide (from_ + 1500000000 ≤ s.cyc)
    let n := if fresh then 0 else Tbl.atN s.perf.rate j.val
    if 100000 ≤ n then .next ((s.blk 41).perfEvent 3)
    else
      let s1 := s.setPerf { s.perf with
        rate := Tbl.setN s.perf.rate j.val (n + 1), rateFrom := Tbl.setN s.perf.rateFrom j.val (if fresh then s.cyc else from_) }
      if j.val = 0 then .next (s1.record 0x0F 1 (x.object.toNat % 4) (x.v0.toNat % 2 ^ 24 + e * 2 ^ 32) 0 0)
      else .next (s1.record 0x0F 2 x.object.toNat x.v0.toNat x.v1.toNat x.v2.toNat)

/-! ### PF1 BAR0 (R465, R466) -/

/-- The 64-bit entry at an offset below the snapshot view. -/
def pf1Area (entry : Nat → Nat → Nat) (off : Nat) : Nat :=
  if off < 0xC000 then entry 2 (off / 8)
  else if 0x10000 ≤ off ∧ off < 0x14000 then entry 0 ((off - 0x10000) / 8)
  else if 0x14000 ≤ off ∧ off < 0x14080 then entry 1 ((off - 0x14000) / 8)
  else if 0x100000 ≤ off ∧ off < 0x110000 then entry 3 ((off - 0x100000) / 8)
  else 0

/-- What an aligned 64-bit read of PF1 BAR0 returns. -/
def State.pf1Read (s : State) (off : Nat) : Nat :=
  if !s.on F.PERF_CTL.PERF_USER_EN then 0
  else if off < 0x2000000 then pf1Area s.liveEntry off
  else if off < 0x4000000 then
    match s.perf.view.bind s.bank with
    | some x => pf1Area x.entry (off - 0x2000000)
    | none => 0
  else 0

/-! ### The PERF group (R473) -/

/-- PERF_SNAPSHOT: RESULT0 holds the sequence of the latest snapshot. -/
def perfSnapshot : Body := fun _ s => let s1 := s.snapshot false; (s1, { r0 := s1.perf.lastSeq })

/-- PERF_SNAP_AT. -/
def perfSnapAt : Body := fun c s =>
  let t := instantOf c.cont
  if leAt c.cont 6 4 ≥ 1000000000 || decide (t < s.now + 10000) then refuse s 6
  else if s.perf.snapAt.isSome then refuse s 12
  else (s.setPerf { s.perf with snapAt := some (leAt c.cont 0 6, leAt c.cont 6 4) }, {})

/-- PERF_DUMP: the latest complete snapshot; without one there is nothing to dump. -/
def perfDump : Body := fun _ s =>
  match s.perf.view with
  | some b => (s.dumpRecord b, {})
  | none => refuse s 6

/-- PERF_READ: live entries to BUF. -/
def perfRead : Body := fun c s =>
  let kind := c.a0 1 0
  let first := c.a0 30 16
  let n := c.arg1.toNat
  if areaSize kind < first + n || decide (c.bufLen.toNat < 8 * n) then refuse s 6
  else (s, { bufOut := (List.range n).flatMap (fun i => leBytes 8 (s.liveEntry kind (first + i))) })

/-- PERF_SNAPSHOT. -/
def execPerfSnapshot (c : RingCmd) (s : State) : Res := ringExec 11 0 perfSnapshot c s

/-- PERF_SNAP_AT. -/
def execPerfSnapAt (c : RingCmd) (s : State) : Res := ringExec 11 1 perfSnapAt c s

/-- PERF_DUMP. -/
def execPerfDump (c : RingCmd) (s : State) : Res := ringExec 11 2 perfDump c s

/-- PERF_READ. -/
def execPerfRead (c : RingCmd) (s : State) : Res := ringExec 11 3 perfRead c s

end Sys2Proof.Machine
end

