-- ==== Sys2Proof/Machine/Ports.lean ====
section
/-!
DEFINITION. Ports, link states, MAC merge verification and reassembly, Energy-Efficient Ethernet (spec/02_ports_and_mac.md,
R23 to R50; R75; R192).
-/
namespace Sys2Proof.Machine

/-! ### Low-power idle -/

/-- The wake time in force in nanoseconds: max(Tw_min, TW_REQ) (R41). -/
def State.wakeNs (s : State) (p : Nat) : Nat := max (wakeMinNs (s.mode p)) (1000 * (s.port p).tw)

/-- TW_APPLIED: the wake time in force, in microseconds rounded up (Table 2.14). -/
def State.twApplied (s : State) (p : Nat) : State := s.put (F.PORT_EEE_STATUS.TW_APPLIED p) ((s.wakeNs p + 999) / 1000)

/-- A new TW_REQ takes force, is reported and raises TW_APPLIED (R44). -/
def State.applyTw (s : State) (p : Nat) : State :=
  let r := s.fld (F.PORT_EEE_CFG.TW_REQ p)
  if (s.port p).tw = r then s
  else ((s.setPort p { s.port p with tw := r }).twApplied p).portEvent p 9

/-- Nothing is queued, sent or held for a port (R42). -/
def State.txIdle (s : State) (p : Nat) : Bool := (s.copiesOn p).isEmpty

/-- The transmitter enters LPI: it sleeps for Ts and is then quiet (R42). The sleep ends with the Tw in force now (R44). -/
def State.sleepTx (s : State) (p : Nat) : State :=
  let s1 := s.setPort p { s.port p with twSleep := s.wakeNs p, quietAt := some (s.cyc + sleepNs (s.mode p) * 3 / 2), wakeEnd := none }
  ((s1.put (F.PORT_STATUS.LPI_TX p) 1).stat p 51).emit (.lpi (Fin.ofNat 96 p) true)

/-- The microseconds of quiet end and count in TX_LPI_TIME. -/
def State.endQuiet (s : State) (p : Nat) : State :=
  match (s.port p).quietAt with
  | some q => (s.statAdd p 52 ((s.cyc - q) * 2 / 3000)).setPort p { s.port p with quietAt := none }
  | none => s

/-- The transmitter starts to wake (R42, R43): it is active Tw later. -/
def State.wakeTx (s : State) (p : Nat) : State :=
  if s.on (F.PORT_STATUS.LPI_TX p) && (s.port p).wakeEnd.isNone then
    let s1 := s.endQuiet p
    (s1.setPort p { s1.port p with wakeEnd := some (s1.cyc + ((s1.port p).twSleep * 3 + 1) / 2) }).emit (.lpi (Fin.ofNat 96 p) false)
  else s

/-- A frame queued for a sleeping port without a gate list starts the wake (R43). -/
def State.wakeOnQueue (s : State) (p : Nat) : State := if s.listRuns p then s else s.wakeTx p

/-- The remaining wake time in nanoseconds; none while the transmitter sleeps and has not begun to wake. -/
def State.wakeLeft (s : State) (p : Nat) : Option Nat :=
  if s.on (F.PORT_STATUS.LPI_TX p) then
    match (s.port p).wakeEnd with
    | some e => some ((e - s.cyc) * 2 / 3)
    | none => none
  else some 0

/-! ### Entering and leaving UP -/

/-- MM_STATE while UP (R37): 0 disabled, 1 verifying, 2 active without verification. -/
def State.startVerify (s : State) (p : Nat) : State :=
  let v := if !s.on (F.PORT_MM_CFG.MM_EN p) then 0 else if s.on (F.PORT_MM_CFG.VERIFY_DIS p) then 2 else 1
  (s.setPort p { s.port p with verifySent := 0 }).put (F.PORT_STATUS.MM_STATE p) v

/-- A port enters UP (R30, R37, R237). -/
def State.enterUp (s : State) (p : Nat) : State :=
  let s1 := (s.put (F.PORT_STATUS.LINK_STATE p) 3).setPort p { s.port p with lock := true, lockLost := false }
  let s2 := if s1.fld (F.PORT_MODE.LOOPBACK p) = 2 then s1 else s1.startVerify p
  (s2.put ⟨R.TS_CAL_OK (p / 32), p % 32, p % 32⟩ 0).portEvent p 0

/-- The dynamic entries toward a port with FLUSH_ON_DOWN are removed and logged (R75). -/
def State.flushOnDown (s : State) (p : Nat) : State :=
  if s.on (F.CLS_PORT_CFG.FLUSH_ON_DOWN p) then
    s.fdbFlush 4 (fun e => isF e E.fdbValid && !isF e E.fdbStatic && !isF e E.fdbGroup && getF e E.fdbDest == p)
  else s

/-- The frames partly received on a port are discarded; copies already forwarded cut through are stomped (R32, R35). -/
def State.dropPartial (s : State) (p : Nat) : State :=
  s.each (s.path.frames.filter (fun f => f.port == p && f.ended.isNone)) (fun f t => t.frameGone f 2)

/-- A port in UP leaves it for another state (R32, R75). -/
def State.leaveUp (s : State) (p next : Nat) : State :=
  let s1 := ((s.put (F.PORT_STATUS.LINK_STATE p) next).stat p 53)
  let s2 := ((s1.abortLine p).dropQueues p).dropPartial p
  let s3 := ((s2.endQuiet p).flushOnDown p).setPort p
    { PortSt.idle with tw := (s2.port p).tw }
  (((s3.put (F.PORT_STATUS.MM_STATE p) 0).put (F.PORT_STATUS.LPI_TX p) 0).put (F.PORT_STATUS.LPI_RX p) 0).portEvent p 1

/-- A port goes to a state other than UP. -/
def State.toLink (s : State) (p next : Nat) : State :=
  if s.link p = 3 then s.leaveUp p next
  else (s.setPort p { PortSt.idle with tw := (s.port p).tw }).put (F.PORT_STATUS.LINK_STATE p) next

/-- The port's lane works: a mode is set and the operational state is SETUP, RUN or HOLD (Table 2.4). -/
def State.lane (s : State) (p : Nat) : Bool :=
  s.mode p != 0 && (s.op == .setup || s.op == .run || s.op == .hold)

/-! ### PORT_MODE -/

/-- The FEC settings that a lane mode accepts (Table 2.1). -/
def fecOk (mode fec : Nat) : Bool :=
  match mode with
  | 3 => decide (fec ≤ 1) | 4 => decide (fec ≤ 2) | 5 => fec == 3 | 6 => fec == 3 | _ => fec == 0

/-- The refusal of a PORT_MODE write, 0 for none (Table 2.2). -/
def State.modeErr (s : State) (p v : Nat) : Nat :=
  let mode := natBits v 3 0
  let fec := natBits v 10 8
  let neg := natBits v 12 11
  let mate := if p % 2 = 0 then p + 1 else p - 1
  if 6 < mode || 3 < fec || natBits v 14 13 = 3 then 7
  else if 4 < mode && s.grade2496 then 1
  else if (mode = 6 && (p % 2 = 1 || s.mode mate ≠ 0)) || (p % 2 = 1 && mode ≠ 0 && s.mode mate = 6) then 2
  else if !fecOk mode fec then 3
  else if (mode = 0 && neg ≠ 0) || ((mode = 1 || mode = 2) && 2 ≤ neg) then 4
  else 0

/-- A refused port set-up write records its reason and raises MODE_REFUSED (R24). -/
def State.modeRefused (s : State) (p code : Nat) : State := (s.put (F.PORT_STATUS.MODE_ERR p) code).portEvent p 2

/-- The fields of PORT_MODE. -/
def modeMask : Nat := 0xFF0F

/-- PORT_MODE_WRITE (R23 to R25, R30, R31): in SETUP the write takes force or is refused; locked elsewhere (R514). -/
def execPortModeWrite (p : Fin 96) (v : Word) (s : State) : Res :=
  let p := p.val
  let w : Word := v &&& BitVec.ofNat 32 modeMask
  if s.inSetup then
    let code := s.modeErr p w.toNat
    if code ≠ 0 then .next (s.modeRefused p code)
    else
      let s1 := s.setReg (R.PORT_MODE p) w
      let mode := s1.mode p
      let s2 := s1.toLink p (if mode = 0 then 0 else 1)
      let s3 := (s2.put (F.PORT_STATUS.BONDED p) (b2n (mode == 6))).put (F.PORT_EEE_STATUS.RX_TW p) (if mode = 0 then 0 else (Config.rxTw mode).toNat)
      .next (s3.twApplied p)
  else .next (s.lockWrite (w ≠ s.reg (R.PORT_MODE p)))

/-- PORT_STATUS_READ (R24): the word, and MODE_ERR cleared. -/
def execPortStatusRead (p : Fin 96) (s : State) : Res :=
  .next ((s.emit (.readData (s.reg (R.PORT_STATUS p.val)))).put (F.PORT_STATUS.MODE_ERR p.val) 0)

/-! ### Bring-up -/

/-- Training takes place: enabled, and not skipped by the near-end loop (R31). -/
def State.trains (s : State) (p : Nat) : Bool := s.on (F.PORT_MODE.LT_EN p) && s.fld (F.PORT_MODE.LOOPBACK p) != 1

/-- Negotiation takes place. -/
def State.negotiates (s : State) (p : Nat) : Bool := s.on (F.PORT_MODE.AN_EN p) && s.fld (F.PORT_MODE.LOOPBACK p) != 1

/-- A port in SEEK that has lock and has negotiated moves on to TRAIN when training is enabled (Table 2.4). -/
def State.seekOn (s : State) (p : Nat) : State :=
  let x := s.port p
  if s.link p = 1 && x.lock && (!s.negotiates p || x.resolved) && s.trains p then s.put (F.PORT_STATUS.LINK_STATE p) 2 else s

/-- NEGOTIATION_RESOLVED (R29): on the one ability advertised. -/
def execNegotiationResolved (p : Fin 96) (s : State) : Res :=
  if s.lane p.val && s.link p.val = 1 && s.negotiates p.val then
    .next ((s.setPort p.val { s.port p.val with resolved := true }).seekOn p.val)
  else .next s

/-- AN_FAIL (R29): negotiation unresolved after 500 ms; it starts again. -/
def execAnFail (p : Fin 96) (s : State) : Res :=
  if s.lane p.val && s.link p.val = 1 && s.negotiates p.val && !(s.port p.val).resolved then .next (s.portEvent p.val 3) else .next s

/-- SIGNAL_LOCK (R30): lock gained in SEEK, or regained in UP before DOWN_HOLD. -/
def execSignalLock (p : Fin 96) (s : State) : Res :=
  if s.lane p.val then .next ((s.setPort p.val { s.port p.val with lock := true, lockLost := false }).seekOn p.val) else .next s

/-- TRAINING_DONE (R30): the port goes on toward UP. -/
def execTrainingDone (p : Fin 96) (s : State) : Res :=
  if s.lane p.val && s.link p.val = 2 then .next (s.setPort p.val { s.port p.val with trained := true }) else .next s

/-- TRAINING_FAIL (R30): back to SEEK. -/
def execTrainingFail (p : Fin 96) (s : State) : Res :=
  if s.lane p.val && s.link p.val = 2 && !(s.port p.val).trained then .next (s.toLink p.val 1) else .next s

/-- What a port needs before UP: lock, negotiation and training where they take place, and an ACTIVE slice (R479). -/
def State.readyUp (s : State) (p : Nat) : Bool :=
  let x := s.port p
  let sl := s.portSlice p
  natBits (s.reg R.PWR_SLICE_STATUS).toNat (2 * sl + 1) (2 * sl) == 3 && s.lane p && x.lock && (!s.negotiates p || x.resolved) && (!s.trains p || x.trained) && (s.link p == 1 || s.link p == 2)

/-- LINK_UP (R30): lock has been stable for UP_HOLD. -/
def execLinkUp (p : Fin 96) (s : State) : Res := if s.readyUp p.val then .next (s.enterUp p.val) else .next s

/-- LOCK_LOSS (R30): a loss shorter than DOWN_HOLD does not leave UP. -/
def execLockLoss (p : Fin 96) (s : State) : Res :=
  if s.lane p.val then
    .next (s.setPort p.val { s.port p.val with lockLost := true, lock := (s.port p.val).lock && s.link p.val == 3 })
  else .next s

/-- LINK_DOWN (R32): DOWN is declared. -/
def execLinkDown (p : Fin 96) (s : State) : Res := if s.link p.val = 3 then .next (s.leaveUp p.val 1) else .next s

/-- FAULT_LOCAL_ENTER (R30). -/
def execFaultLocalEnter (p : Fin 96) (s : State) : Res :=
  if s.link p.val = 3 || s.link p.val = 5 then .next ((s.toLink p.val 4).portEvent p.val 6) else .next s

/-- FAULT_LOCAL_CLEAR (R30). -/
def execFaultLocalClear (p : Fin 96) (s : State) : Res := if s.link p.val = 4 then .next (s.toLink p.val 1) else .next s

/-- FAULT_REMOTE_ENTER (R30). -/
def execFaultRemoteEnter (p : Fin 96) (s : State) : Res :=
  if s.link p.val = 3 then .next ((s.toLink p.val 5).portEvent p.val 6) else .next s

/-- FAULT_REMOTE_CLEAR (R30): to UP. -/
def execFaultRemoteClear (p : Fin 96) (s : State) : Res := if s.link p.val = 5 then .next (s.enterUp p.val) else .next s

/-! ### MAC merge -/

/-- VERIFY_MPACKET_SEND (R37): the first at entry to UP, at most three. -/
def execVerifyMpacketSend (p : Fin 96) (s : State) : Res :=
  let x := s.port p.val
  if s.link p.val = 3 && s.fld (F.PORT_STATUS.MM_STATE p.val) = 1 && x.verifySent < 3 then
    .next ((s.setPort p.val { x with verifySent := x.verifySent + 1 }).emit (.mpacket p false))
  else .next s

/-- RESPOND_MPACKET_RECEIVE (R37): verification succeeds. -/
def execRespondMpacketReceive (p : Fin 96) (s : State) : Res :=
  if s.link p.val = 3 && s.fld (F.PORT_STATUS.MM_STATE p.val) = 1 then
    .next ((s.put (F.PORT_STATUS.MM_STATE p.val) 2).portEvent p.val 4)
  else .next s

/-- MM_VERIFY_FAIL (R37): three verify mPackets have gone unanswered. -/
def execMmVerifyFail (p : Fin 96) (s : State) : Res :=
  if s.link p.val = 3 && s.fld (F.PORT_STATUS.MM_STATE p.val) = 1 && (s.port p.val).verifySent = 3 then
    .next ((s.put (F.PORT_STATUS.MM_STATE p.val) 3).portEvent p.val 5)
  else .next s

/-- The preemptible frame in reassembly fails (R40): it is discarded whole and counted in statistic `i`, at its verdict when
it is wet; a copy already forwarded is stomped. -/
def State.failAssembly (s : State) (p i : Nat) : State :=
  let s1 := s.setPort p { s.port p with assembly := none }
  match s1.path.frames.find? (fun f => f.port == p && !f.express && f.ended.isNone) with
  | some f => if f.wet then s1.setFrame { f with asm := i, ended := some 0 } else (s1.stat p i).frameGone f 3
  | none => s1.stat p i

/-- A fragment begins a preemptible frame. -/
def State.firstFragment (s : State) (p : Nat) (f : Fragment) : State :=
  let s1 := if (s.port p).assembly.isSome then s.failAssembly p 29 else s
  if f.mcrcOk then (s1.setPort p { s1.port p with assembly := some ⟨f.data, 0⟩ }).stat p 30
  else s1.failAssembly p 28

/-- MM_FRAGMENT_RECEIVE (R40). -/
def execMmFragmentReceive (p : Fin 96) (f : Fragment) (s : State) : Res :=
  let p := p.val
  if !s.txUp p then .next s
  else match f.kind, (s.port p).assembly with
    | .first, _ => .next (s.firstFragment p f)
    | .badSmd, _ => .next (s.failAssembly p 29)
    | .middle _, none => .next (s.failAssembly p 29)
    | .middle last, some a =>
      if f.count.val ≠ a.next || (!last && !f.mcrcOk) then .next (s.failAssembly p 28)
      else if last then .next ((s.setPort p { s.port p with assembly := none }).stat p 27)
      else .next ((s.setPort p { s.port p with assembly := some ⟨a.bytes ++ f.data, (a.next + 1) % 4⟩ }).stat p 30)

/-- SPOIL_MARKER_RECEIVE (R192): the bad-FCS frame before the marker counts in RX_STOMPED and not in RX_FCS_ERR. -/
def execSpoilMarkerReceive (p : Fin 96) (s : State) : Res :=
  let p := p.val
  match (s.port p).badFcs with
  | none => .next s
  | some id =>
    let s1 := s.setPort p { s.port p with badFcs := none }
    match s1.frame? id with
    | some f => .next (s1.setFrame { f with ended := some 22 })
    | none =>
      let n := Tbl.atN s1.perf.stat (64 * p + 16)
      let s2 : State := { s1 with perf := { s1.perf with stat := Tbl.setN s1.perf.stat (64 * p + 16) (n - 1) } }
      .next (s2.stat p 22)

/-! ### LPI commands -/

/-- LPI is available on a port (R41): EEE_EN, a mode other than SGMII, UP, the transmitter active and nothing to send. -/
def State.mayLpi (s : State) (p : Nat) : Bool :=
  s.on (F.PORT_EEE_CFG.EEE_EN p) && s.mode p != 1 && s.txUp p && !s.on (F.PORT_STATUS.LPI_TX p) && s.txIdle p

/-- The interval from now during which every gate stays closed exceeds Ts + Tw (R42). -/
def State.closedLong (s : State) (p : Nat) : Bool :=
  match s.nextOpen p windowFuel s.now with
  | some t => decide (sleepNs (s.mode p) + s.wakeNs p < t - s.now)
  | none => true

/-- LPI_ENTER (R42). -/
def execLpiEnter (p : Fin 96) (s : State) : Res :=
  if s.mayLpi p.val && s.listRuns p.val && s.closedLong p.val then .next (s.sleepTx p.val) else .next s

/-- LPI_WAKE (R42). -/
def execLpiWake (p : Fin 96) (s : State) : Res := .next (s.wakeTx p.val)

/-- LPI_IDLE_EXPIRY (R43): on a port without an operational list. -/
def execLpiIdleExpiry (p : Fin 96) (s : State) : Res :=
  if s.mayLpi p.val && !s.listRuns p.val then .next (s.sleepTx p.val) else .next s

/-- RX_LPI_ENTRY (R45). -/
def execRxLpiEntry (p : Fin 96) (s : State) : Res :=
  if s.on (F.PORT_EEE_CFG.EEE_EN p.val) && s.link p.val = 3 && !s.on (F.PORT_STATUS.LPI_RX p.val) then
    .next ((s.put (F.PORT_STATUS.LPI_RX p.val) 1).stat p.val 26)
  else .next s

/-- RX_LPI_EXIT (R45). -/
def execRxLpiExit (p : Fin 96) (s : State) : Res := .next (s.put (F.PORT_STATUS.LPI_RX p.val) 0)

/-- TW_REQ_WRITE (R44, Table 2.14): a write of PORT_EEE_CFG. In SETUP an LPI_IDLE of 0 or EEE_EN on an SGMII port is refused
with code 6; in RUN only TW_REQ takes force. A new value applies at once on a port without a gate list. -/
def execTwReqWrite (p : Fin 96) (v : Word) (s : State) : Res :=
  let p := p.val
  if s.inSetup && (natBits v.toNat 30 16 = 0 || (natBits v.toNat 31 31 = 1 && s.mode p = 1)) then .next (s.modeRefused p 6)
  else if s.inSetup || s.locked then
    let s1 := if s.inSetup then s.setReg (R.PORT_EEE_CFG p) v
      else (s.lockWrite (natBits v.toNat 31 16 ≠ natBits (s.reg (R.PORT_EEE_CFG p)).toNat 31 16)).put
        (F.PORT_EEE_CFG.TW_REQ p) (natBits v.toNat 15 0)
    .next (if s1.listRuns p then s1 else s1.applyTw p)
  else .next s

/-- TW_APPLY (R44): the gate-cycle boundary. -/
def execTwApply (p : Fin 96) (s : State) : Res := .next (s.applyTw p.val)

/-- ERRORED_BLOCK_RECEIVE (R30). -/
def execErroredBlockReceive (p : Fin 96) (k : LineError) (s : State) : Res :=
  if s.link p.val = 0 then .next s
  else match k with
    | .block => .next (s.stat p.val 23)
    | .fecCorrected => .next (s.stat p.val 24)
    | .fecUncorrectable => .next ((s.stat p.val 25).portEvent p.val 7)

end Sys2Proof.Machine
end

