-- ==== Sys2Proof/Machine/Parse.lean ====
section
/-!
DEFINITION. The parser, stream identification, and the sequence numbers and samples that a frame carries
(spec/03_forwarding.md, R53, R54, R57 to R61; spec/12_stream_redundancy.md, R278, R284, R285; R235).
-/
namespace Sys2Proof.Machine

/-! ### The clear headers (Table 3.1) -/

/-- A recognised IP header (Table 3.3): version bit, addresses, DSCP, next protocol, UDP ports, and the offsets of the IP
header and of the UDP header. -/
structure IpHead where
  v6 : Bool
  src : Nat
  dst : Nat
  dscp : Nat
  proto : Nat
  at_ : Nat
  udp : Option Nat
  sport : Nat
  dport : Nat
deriving DecidableEq, Repr

/-- What the parser found: clear VLAN tags (offsets 12, 16), HSR tag, R-TAG and SecTAG by the offset of their EtherType, the
payload type (0 none) and the offset after it. -/
structure Parsed where
  tags : Nat
  hsr : Option Nat
  rtag : Option Nat
  sec : Option Nat
  pay : Nat
  payAt : Nat
  appid : Option Nat
  ip : Option IpHead
  deep : Bool
deriving DecidableEq, Repr

/-- The two bytes at an offset. -/
def type16 (bs : List Byte) (off : Nat) : Nat := beAt bs off 2

/-- The number of clear VLAN tags from byte 12 (Table 3.1, orders 1 and 2), at most 2, and whether a third follows. -/
def clearTags (bs : List Byte) : Nat × Bool :=
  let t0 := type16 bs 12
  if t0 ≠ 0x8100 && t0 ≠ 0x88A8 then (0, false)
  else if type16 bs 16 ≠ 0x8100 then (1, false)
  else (2, type16 bs 20 = 0x8100 || type16 bs 20 = 0x88A8)

/-- The IP header at an offset, where it fits below `lim` (Table 3.1, orders 8 and 9); `none` where it does not fit, and a
flag for a UDP header that does not. -/
def parseIp (bs : List Byte) (pay off lim : Nat) : Option IpHead × Bool :=
  if pay = 0x0800 then
    let ihl := beAt bs off 1 % 16
    if lim < off + 20 || ihl < 5 || lim < off + 4 * ihl then (none, true)
    else
      let proto := beAt bs (off + 9) 1
      let frag := beAt bs (off + 6) 2 % 2 ^ 13
      let u := off + 4 * ihl
      let isUdp := proto = 17 && frag = 0
      if isUdp && lim < u + 8 then (none, true)
      else (some ⟨false, beAt bs (off + 12) 4, beAt bs (off + 16) 4, beAt bs (off + 1) 1 / 4, proto, off,
        if isUdp then some u else none, if isUdp then beAt bs u 2 else 0, if isUdp then beAt bs (u + 2) 2 else 0⟩, false)
  else
    let proto := beAt bs (off + 6) 1
    let u := off + 40
    if lim < u || (proto = 17 && lim < u + 8) then (none, true)
    else (some ⟨true, beAt bs (off + 8) 16, beAt bs (off + 24) 16, beAt bs off 2 / 64 % 64, proto, off,
      if proto = 17 then some u else none, if proto = 17 then beAt bs u 2 else 0, if proto = 17 then beAt bs (u + 2) 2 else 0⟩, false)

/-- The payload types that the parser recognises (Table 3.1, order 6). -/
def payloadTypes : List Nat := [0x88BA, 0x88B8, 0x88F7, 0x88CC, 0x888E, 0x0800, 0x86DD]

/-- Parse the clear headers within the first 128 bytes (R53, R54). -/
def parse (bs : List Byte) : Parsed :=
  let lim := min 128 bs.length
  let cut := decide (128 ≤ bs.length)
  let (tags, third) := clearTags bs
  let none_ : Parsed := ⟨tags, none, none, none, 0, 0, none, none, false⟩
  if third then { none_ with deep := true }
  else
    let o0 := 12 + 4 * tags
    let hsr := if type16 bs o0 = 0x892F && o0 + 6 ≤ lim then some o0 else none
    let o1 := if hsr.isSome then o0 + 6 else o0
    let rtag := if type16 bs o1 = 0xF1C1 && o1 + 6 ≤ lim then some o1 else none
    let o2 := if rtag.isSome then o1 + 6 else o1
    let t := type16 bs o2
    let base : Parsed := { none_ with hsr := hsr, rtag := rtag }
    if t = 0x88E5 then
      let n := if natBit (beAt bs (o2 + 2) 1) 5 then 16 else 8
      if o2 + n ≤ lim then { base with sec := some o2 } else { base with deep := cut }
    else if o2 + 2 ≤ lim && payloadTypes.contains t then
      if t = 0x88BA || t = 0x88B8 then
        if o2 + 4 ≤ lim then { base with pay := t, payAt := o2 + 2, appid := some (type16 bs (o2 + 2)) } else { base with deep := cut }
      else if t = 0x0800 || t = 0x86DD then
        match parseIp bs t (o2 + 2) lim with
        | (some h, _) => { base with pay := t, payAt := o2 + 2, ip := some h }
        | (none, _) => { base with deep := cut }
      else { base with pay := t, payAt := o2 + 2 }
    else { base with deep := cut && decide (lim < o2 + 2) }

/-! ### VLAN classification (R57) -/

/-- The outer tag control information, when the tag's EtherType matches the port's TAG_TYPE. -/
def State.outerTci (s : State) (p : Nat) (bs : List Byte) : Option Nat :=
  let want := if s.on (F.CLS_PORT_CFG.TAG_TYPE p) then 0x88A8 else 0x8100
  if type16 bs 12 = want then some (type16 bs 14) else none

/-- The classified VID and the PCP of a frame. -/
def State.vidPcp (s : State) (p : Nat) (bs : List Byte) : Nat × Nat :=
  match s.outerTci p bs with
  | some t => (if t % 4096 = 0 then s.fld (F.CLS_PORT_CFG.PVID p) else t % 4096, t / 8192)
  | none => (s.fld (F.CLS_PORT_CFG.PVID p), s.fld (F.CLS_PORT_CFG.DEF_PCP p))

/-- ACCEPT lets a frame in: 0 all, 1 tagged only, 2 untagged and priority-tagged only. -/
def State.accepts (s : State) (p : Nat) (bs : List Byte) : Bool :=
  let tagged := match s.outerTci p bs with | some t => t % 4096 != 0 | none => false
  match s.fld (F.CLS_PORT_CFG.ACCEPT p) with
  | 1 => tagged | 2 => !tagged | _ => true

/-- The VLAN entry of a VID. -/
def State.vlanAt (s : State) (vid : Nat) : BitVec 256 := Tbl.at0 s.cls.vlan vid

/-- A port is a member of a VLAN whose entry is valid. -/
def State.member (s : State) (vid p : Nat) : Bool :=
  isF (s.vlanAt vid) E.vlanValid && natBit (getF (s.vlanAt vid) E.vlanMember) p

/-! ### Stream identification (R58 to R61) -/

/-- A key of `b` bits packed from bit 479 downwards (R59). -/
def sidKeyOf (b v : Nat) : Nat := v * 2 ^ (480 - b)

/-- The key of an identification method (Table 3.3), where the frame forms one. -/
def sidKey (bs : List Byte) (x : Parsed) (vid : Nat) : Nat → Option Nat
  | 0 => some (sidKeyOf 60 (beAt bs 0 6 * 2 ^ 12 + vid))
  | 1 => some (sidKeyOf 60 (beAt bs 6 6 * 2 ^ 12 + vid))
  | 2 => x.ip.map (fun h =>
      let v := ((((((beAt bs 0 6 * 2 ^ 12 + vid) * 2 + b2n h.v6) * 2 ^ 128 + h.src) * 2 ^ 128 + h.dst) * 2 ^ 6 + h.dscp) * 2 ^ 8 + h.proto)
      sidKeyOf 363 ((v * 2 ^ 16 + h.sport) * 2 ^ 16 + h.dport))
  | 3 => x.sec.bind (fun o =>
      if natBit (beAt bs (o + 2) 1) 5 then some (sidKeyOf 76 (beAt bs (o + 8) 8 * 2 ^ 12 + vid)) else none)
  | 4 => x.appid.map (fun a => sidKeyOf 92 (((x.pay * 2 ^ 16 + a) * 2 ^ 48 + beAt bs 0 6) * 2 ^ 12 + vid))
  | _ => none

/-- The ingress port lies in a port set (R60): 0 every port, n the image n − 1. -/
def State.inPset (s : State) (pset p : Nat) : Bool :=
  pset == 0 || natBit (getF (Tbl.at0 s.cls.mcast (pset - 1)) E.groupMask) p

/-- Identify a frame (R58, R60): the handle of the first method that matches in the order SCI, IP, APPID, Source, Null, and
whether a key was present with the port outside its set. -/
def State.identify (s : State) (p vid : Nat) (bs : List Byte) (x : Parsed) : Option Nat × Bool :=
  let methods := s.fld (F.CLS_PORT_CFG.ID_METHODS p)
  [3, 2, 4, 1, 0].foldl (fun (r : Option Nat × Bool) m =>
    if r.1.isSome || !natBit methods m then r
    else match (sidKey bs x vid m).bind (s.sidFind (m + 1)) with
      | some pos =>
        let e := Tbl.at0 s.cls.sid pos
        if s.inPset (getF e E.sidPset) p then (some (getF e E.sidHandle), r.2) else (none, true)
      | none => r) (none, false)

/-- The stream entry of a handle. -/
def State.streamAt (s : State) (h : Nat) : BitVec 256 := Tbl.at0 s.cls.stream h

/-! ### Sequence numbers (R278) -/

/-- The PRP trailer of a frame (IEC 62439-3): its number, when its LSDU size matches the frame. -/
def prpSeq (bs : List Byte) : Option Nat :=
  let n := bs.length
  if n < 20 || type16 bs (n - 2) ≠ 0x88FB then none
  else if beAt bs (n - 4) 2 % 4096 = (n - 14 - 4 * (clearTags bs).1) % 4096 then some (type16 bs (n - 6)) else none

/-- The sequence number of a frame under SRC_MODE: R-TAG, PRP trailer or HSR tag. -/
def seqOf (mode : Nat) (bs : List Byte) : Option Nat :=
  let x := parse bs
  match mode with
  | 2 => prpSeq bs
  | 3 => x.hsr.map (fun o => type16 bs (o + 4))
  | _ => x.rtag.map (fun o => type16 bs (o + 4))

/-! ### RedBox tags (R284) -/

/-- Insert a tag of a RedBox pair: role 0 PRP, 1 HSR; `b` names port B. -/
def redTag (hsr b : Bool) (seq : Nat) (bs : List Byte) : List Byte :=
  let tags := (clearTags bs).1
  let size := (bs.length + 6 - 14 - 4 * tags) % 4096
  if hsr then
    let o := 12 + 4 * tags
    bs.take o ++ beBytes 2 0x892F ++ beBytes 2 (b2n b * 4096 + size) ++ beBytes 2 seq ++ bs.drop o
  else
    bs ++ beBytes 2 seq ++ beBytes 2 ((if b then 0xB else 0xA) * 4096 + size) ++ beBytes 2 0x88FB

/-- A frame carries the tag of a role. -/
def hasRedTag (hsr : Bool) (bs : List Byte) : Bool :=
  if hsr then (parse bs).hsr.isSome else decide (20 ≤ bs.length) && type16 bs (bs.length - 2) == 0x88FB

/-- A frame without the tag of a role. -/
def redUntag (hsr : Bool) (bs : List Byte) : List Byte :=
  if hsr then match (parse bs).hsr with | some o => bs.take o ++ bs.drop (o + 6) | none => bs
  else bs.take (bs.length - 6)

/-- The RedBox pair that holds a port: its number and whether the port is B. -/
def State.redPair (s : State) (p : Nat) : Option (Nat × Bool) :=
  (List.range 48).findSome? (fun j =>
    if !s.on (F.SRC_PAIR_CFG.EN j) then none
    else if s.fld (F.SRC_PAIR_CFG.PORT_A j) = p then some (j, false)
    else if s.fld (F.SRC_PAIR_CFG.PORT_B j) = p then some (j, true)
    else none)

/-! ### Untagging (R65) -/

/-- The outer tag is removed on an egress port whose UNTAG bit is set. -/
def State.untag (s : State) (vid p : Nat) (bs : List Byte) : List Byte :=
  if natBit (getF (s.vlanAt vid) E.vlanUntag) p && decide (0 < (clearTags bs).1) then bs.take 12 ++ bs.drop 16 else bs

/-! ### Sampled values (R285) -/

/-- One BER element at the front of a byte string: tag, contents, the rest. -/
def berHead (bs : List Byte) : Option (Nat × List Byte × List Byte) :=
  match bs with
  | t :: l :: rest =>
    let k := l.toNat
    if k < 128 then
      if rest.length < k then none else some (t.toNat, rest.take k, rest.drop k)
    else
      let m := k - 128
      let n := beNat (rest.take m)
      if rest.length < m + n then none else some (t.toNat, (rest.drop m).take n, (rest.drop m).drop n)
  | _ => none

/-- The elements of a byte string, at most `fuel`. -/
def berList : Nat → List Byte → List (Nat × List Byte)
  | 0, _ => []
  | fuel + 1, bs =>
    match berHead bs with
    | some (t, v, rest) => (t, v) :: berList fuel rest
    | none => []

/-- The ASDUs of a sampled-value frame, at most 8: smpCnt, smpSynch and seqData. -/
def asdusOf (bs : List Byte) : List (Nat × Nat × List Byte) :=
  let x := parse bs
  if x.pay ≠ 0x88BA then []
  else
    match berHead (bs.drop (x.payAt + 8)) with
    | some (_, body, _) =>
      match (berList 8 body).find? (fun e => e.1 = 0xA2) with
      | some (_, seq) =>
        (berList 8 seq).map (fun (_, a) =>
          let es := berList 16 a
          let get (t : Nat) := match es.find? (fun e => e.1 = t) with | some e => e.2 | none => []
          (beNat (get 0x82), beNat (get 0x85), get 0x87))
      | none => []
    | none => []

/-! ### PTP messages (R235) -/

/-- The transport of a PTP message (0 L2, 1 UDP/IPv4, 2 UDP/IPv6) and the offset of its header. -/
def ptpAt (bs : List Byte) : Option (Nat × Nat) :=
  let x := parse bs
  if x.pay = 0x88F7 then some (0, x.payAt)
  else match x.ip with
    | some h => match h.udp with
      | some u => if h.dport = 319 || h.dport = 320 then some (if h.v6 then 2 else 1, u + 8) else none
      | none => none
    | none => none

/-- An event message: Sync, Delay_Req, Pdelay_Req or Pdelay_Resp. -/
def ptpEvent (bs : List Byte) (o : Nat) : Bool := decide (beAt bs o 1 % 16 < 4)

/-- The instance, enabled on a port, that matches a PTP message's domain number and transport. -/
def State.ptpInst (s : State) (p : Nat) (bs : List Byte) : Option (Nat × Nat) :=
  match ptpAt bs with
  | none => none
  | some (tr, o) =>
    ((List.range 4).find? (fun i =>
      s.on (F.PTP_INST_CFG.EN i) && natBit (s.fld (F.PTP_PORT_CFG.INST_EN p)) i &&
      s.fld (F.PTP_INST_CFG.TRANSPORT i) == tr && s.fld (F.PTP_INST_CFG.DOMAIN i) == beAt bs (o + 4) 1)).map (fun i => (i, o))

end Sys2Proof.Machine
end

