-- ==== Sys2Proof/Machine/Protect.lean ====
section
/-!
DEFINITION. Protection: replay decisions, MACsec validation and encapsulation (spec/04_macsec.md, R92 to R108), the profiles
IEC 62351-6, IEC 61850-90-5 and Profile L in both directions (spec/05_substation_profiles.md, R122 to R135), packet numbers
and counters at their limits (R153, R159).
-/
namespace Sys2Proof.Machine

/-! ### Replay (R104, R105, R123) -/

/-- The replay state and settings of a receive context. -/
structure ReplayView where
  next : Nat
  max : Nat
  window : Nat
  protect : Bool
  dup : Bool
  seen : Nat
deriving DecidableEq, Repr

/-- A row of Table 4.7. -/
inductive ReplayRow where
  | ok | delayed | late | duplicate
deriving DecidableEq, Repr

/-- L, the lowest acceptable number (R104). -/
def ReplayView.low (x : ReplayView) : Nat := Nat.max 1 (x.next - x.window)

/-- The row of Table 4.7 that a number falls in. -/
def ReplayView.row (x : ReplayView) (pn : Nat) : ReplayRow :=
  if x.next ≤ pn then .ok
  else if x.low ≤ pn then (if x.dup && natBit x.seen (x.next - 1 - pn) then .duplicate else .ok)
  else if x.protect then .late else .delayed

/-- NEXT and the seen-map after a frame with this number is set (Table 4.7, last column); NEXT sticks at the maximum. -/
def ReplayView.after (x : ReplayView) (pn : Nat) : Nat × Nat :=
  if x.next ≤ pn then
    let n := Nat.min (pn + 1) x.max
    let d := n - x.next
    (n, ((if d < 64 then x.seen * 2 ^ d else 0) ||| 1) % 2 ^ 64)
  else if x.low ≤ pn && x.dup then (x.next, natSet x.seen (x.next - 1 - pn))
  else (x.next, x.seen)

/-- The replay view of a receive context: settings of the SecY, or of a profile context. -/
def State.replayView (s : State) (n : Nat) : ReplayView :=
  let w := s.ctxAt n
  if ctxKind w = 1 then
    let p := getF w C.port
    ⟨getF w C.nextPn, ctxMax w, s.fld (F.SECY_REPLAY_WINDOW.WINDOW p), s.on (F.SECY_CFG.REPLAY_PROTECT p),
      s.on (F.SECY_CFG.DUP_CHECK p), getF w C.seen⟩
  else ⟨getF w C.nextCnt, ctxMax w, getF w C.replayWindow, isF w C.replay, isF w C.dup, getF w C.seen⟩

/-- The 64-bit packet number recovered from the 32 bits on the wire (R104). -/
def recoverPn (low field : Nat) : Nat :=
  let hi := low / 2 ^ 32
  (if field < low % 2 ^ 32 && decide (hi < 2 ^ 32 - 1) then hi + 1 else hi) * 2 ^ 32 + field

/-- NEXT_PN or NEXT_CNT. -/
def nextOf (w : BitVec 2048) : Nat := if ctxKind w = 1 then getF w C.nextPn else getF w C.nextCnt

/-- A context with NEXT_PN or NEXT_CNT replaced. -/
def setNext (w : BitVec 2048) (n : Nat) : BitVec 2048 := if ctxKind w = 1 then putF w C.nextPn n else putF w C.nextCnt n

/-- EXHAUSTED of a context of either kind. -/
def exhausted (w : BitVec 2048) : Bool := if ctxKind w = 1 then isF w C.mExhausted else isF w C.pExhausted

/-- WARNED of a context of either kind. -/
def warned (w : BitVec 2048) : Bool := if ctxKind w = 1 then isF w C.mWarned else isF w C.pWarned

/-- Set WARNED and post PN_WARN or PRF_WARN (R153). -/
def State.warnCtx (s : State) (n : Nat) : State :=
  let w := s.ctxAt n
  (s.ctxPut n (putF w (if ctxKind w = 1 then C.mWarned else C.pWarned) 1)).ctxEvent (if ctxKind w = 1 then 0 else 2) n (nextOf w)

/-- Set EXHAUSTED and post PN_EXHAUSTED or PRF_EXHAUSTED (R153). -/
def State.exhaustCtx (s : State) (n : Nat) : State :=
  let w := s.ctxAt n
  (s.ctxPut n (putF w (if ctxKind w = 1 then C.mExhausted else C.pExhausted) 1)).ctxEvent (if ctxKind w = 1 then 1 else 3) n (nextOf w)

/-- A frame with this number is set (R103, R106, R123): the replay state advances; the warning when NEXT first exceeds
MAX − WARN_DIST; exhaustion when the number is the maximum. -/
def State.replaySet (s : State) (n pn : Nat) : State :=
  let (next, seen) := (s.replayView n).after pn
  let w := putF (setNext (s.ctxAt n) next) C.seen seen
  let s1 := s.ctxPut n w
  let s2 := s1.when (!warned w && decide (ctxMax w - ctxWarn w < next)) (fun t => t.warnCtx n)
  s2.when (pn == ctxMax w) (fun t => t.exhaustCtx n)

/-! ### Taking a packet number or counter (R107, R124, R153, R159) -/

/-- The takeover leap of a context that has not been used since (R159). -/
def State.leap (s : State) (n : Nat) : State :=
  if !s.ctx.leapDue.contains n then s
  else
    let s1 := s.setCtx { s.ctx with leapDue := s.ctx.leapDue.filter (· != n) }
    let w := s1.ctxAt n
    let chk := if ctxKind w = 1 then getF w C.mChkpt else getF w C.pChkpt
    let lp := s1.pnLeap
    let v := Nat.max (nextOf w) (chk + lp)
    let s2 := s1.ctxPut n (setNext w (Nat.min v (ctxMax w)))
    let s3 := s2.when (!warned w && decide (ctxMax w - ctxWarn w < v)) (fun t => t.warnCtx n)
    s3.when (decide (ctxMax w < v)) (fun t => t.exhaustCtx n)

/-- Take the next number of a context that is not exhausted. -/
def State.take (s : State) (n : Nat) : State × Nat :=
  let w := s.ctxAt n
  let v := nextOf w
  if v = ctxMax w then (s.exhaustCtx n, v)
  else
    let s1 := s.ctxPut n (setNext w (v + 1))
    (s1.when (v == ctxMax w - ctxWarn w) (fun t => t.warnCtx n), v)

/-! ### Key delivery (R209, Table 9.3) -/

/-- A use of a slot that a frame makes: the usage bit, and the key size where it must match. -/
structure KeyUse where
  slot : Nat
  bit : BF
  size : Option Nat
deriving DecidableEq, Repr

/-- The Key Bus arbiter and the key store's command sequencer are in order: neither stands in the safe state of R428, in which
nothing is delivered. -/
def State.keyBusRuns (s : State) : Bool := !s.alarm.stopped.testBit 2 && !s.alarm.stopped.testBit 3

/-- The slot refuses the use. -/
def State.keyRefuses (s : State) (u : KeyUse) : Bool :=
  !s.keyBusRuns || (s.useCheck u.slot u.bit (match u.size with | some z => getF (s.slot u.slot).attr K.ksize == z | none => true)).isSome

/-- The key slots of an operation in their order: none where a size rule of Profile L fails. -/
def State.pairOk (s : State) (us : List KeyUse) : Bool :=
  match us with
  | [a, b] => getF (s.slot a.slot).attr K.ksize == getF (s.slot b.slot).attr K.ksize
  | _ => true

/-- A delivery is refused: the slice's counter and event (R209, R462). -/
def State.keyRefused (s : State) (sl : Nat) : State := (s.blk (sliceCtr sl 15)).count (128 * sl + 27)

/-- The keys of an operation are delivered to a slice (R210): each slot loses one use and is the most recently delivered. -/
def State.deliver (s : State) (sl : Nat) (us : List KeyUse) : State :=
  s.each us (fun u t => ((t.spend u.slot).touch u.slot).count (128 * sl + 26))

/-! ### MACsec on receive (R93 to R99, Table 4.6) -/

/-- A SecTAG and what follows it. -/
structure SecTag where
  at_ : Nat
  tci : Nat
  sl : Nat
  pn : Nat
  sci : Option Nat
  len : Nat
deriving DecidableEq, Repr

/-- The frame carries a SecTAG directly after at most `n` clear VLAN tags (check 3). -/
def secTagAfter (n : Nat) (bs : List Byte) : Option Nat :=
  let k := (clearTags bs).1
  (List.range (Nat.min n k + 1)).findSome? (fun j => if type16 bs (12 + 4 * j) = 0x88E5 then some (12 + 4 * j) else none)

/-- The fields of the SecTAG at an offset. -/
def secTagAt (bs : List Byte) (o : Nat) : SecTag :=
  let tci := beAt bs (o + 2) 1
  let sc := natBit tci 5
  ⟨o, tci, beAt bs (o + 3) 1, beAt bs (o + 4) 4, if sc then some (beAt bs (o + 8) 8) else none, if sc then 16 else 8⟩

/-- The secure-data length of a frame without its FCS. -/
def SecTag.secure (t : SecTag) (len : Nat) : Nat := if t.sl ≠ 0 then t.sl else len - t.at_ - t.len - 16

/-- The tag is well formed (check 4). -/
def SecTag.ok (t : SecTag) (len cs : Nat) : Bool :=
  let b := natBit t.tci
  !b 7 && (b 2 == b 3) && !(b 6 && b 5) && !(b 4 && b 5) && decide (t.sl < 48) &&
  decide (t.at_ + t.len + t.sl + 16 ≤ len) && (t.sl != 0 || decide (t.at_ + t.len + 16 + 48 ≤ len)) &&
  !(decide (cs < 2) && t.pn == 0)

/-- The SCI resolved (R99). -/
def State.resolveSci (s : State) (p : Nat) (bs : List Byte) (t : SecTag) : Option Nat :=
  match t.sci with
  | some x => some x
  | none =>
    if natBit t.tci 6 then some (beAt bs 6 6 * 2 ^ 16 + 1)
    else if s.on (F.SECY_CFG.IMPLICIT_EN p) then
      some (s.fld (F.SECY_IMPL_SCI_HI.SCI p) * 2 ^ 32 + s.fld (F.SECY_IMPL_SCI_LO.SCI p))
    else none

/-- The bytes of the confidentiality offset of a port. -/
def State.confOffset (s : State) (p : Nat) : Nat :=
  match s.fld (F.SECY_CFG.CONF_OFFSET p) with | 1 => 30 | 2 => 50 | _ => 0

/-- The key size that a suite needs: 0 for 128 bits, 1 for 256. -/
def suiteSize (cs : Nat) : Nat := cs % 2

/-- The IV of a packet number under a context (Table 4.1). -/
def macIv (w : BitVec 2048) (pn : Nat) : List Byte :=
  if getF w C.cs < 2 then beBytes 8 (getF w C.sci) ++ beBytes 4 pn
  else beBytes 12 ((getF w C.ssci * 2 ^ 64 + pn) ^^^ getF w C.salt)

/-- The key use of a MACsec receive frame (Table 9.3). -/
def macRxUse (w : BitVec 2048) (enc : Bool) : KeyUse := ⟨getF w C.slot, if enc then K.dec else K.macv, some (suiteSize (getF w C.cs))⟩

/-- Decapsulate (R95, R96, R98): the frame without SecTAG, ICV and padding, and whether the ICV is right. -/
def macOpen (key iv : List Byte) (co : Nat) (t : SecTag) (bs : List Byte) : List Byte × Bool :=
  let a := t.at_ + t.len
  let n := t.secure bs.length
  let sec := slice bs a n
  let icv := slice bs (a + n) 16
  if natBit t.tci 3 then
    let aad := bs.take a ++ sec.take co
    let ct := sec.drop co
    (bs.take t.at_ ++ sec.take co ++ gcmCrypt key iv ct, gcmTag key iv aad ct == icv)
  else (bs.take t.at_ ++ sec, gcmTag key iv (bs.take (a + n)) [] == icv)

/-! ### MACsec on transmit (R97, R107) -/

/-- Bytes that MACsec adds to a frame of a port. -/
def State.macAdds (s : State) (p : Nat) : Nat := 8 + 8 * s.fld (F.SECY_CFG.INCLUDE_SCI p) + 16

/-- The transmit SA of a port (R107 step 2). -/
def State.txSa (s : State) (p : Nat) : Nat := s.txCtx p (getF (s.secyTx p) M.txAn)

/-- The key use of MACsec transmission. -/
def State.macTxUse (s : State) (p : Nat) (w : BitVec 2048) : KeyUse :=
  ⟨getF w C.slot, if s.on (F.SECY_CFG.CONF_EN p) then K.enc else K.macg, some (suiteSize (getF w C.cs))⟩

/-- Encapsulate a frame under a transmit SA and a packet number (R107 step 6): the frame, and its secure-data octets. -/
def State.macSeal (s : State) (p n pn : Nat) (bs : List Byte) : List Byte × Nat :=
  let w := s.ctxAt n
  let k := Nat.min (s.fld (F.SECY_CFG.TAGS_IN_CLEAR p)) (clearTags bs).1
  let o := 12 + 4 * k
  let sec := bs.drop o
  let enc := s.on (F.SECY_CFG.CONF_EN p)
  let sc := s.fld (F.SECY_CFG.INCLUDE_SCI p)
  let tci := s.fld (F.SECY_CFG.USE_ES p) * 64 + sc * 32 + s.fld (F.SECY_CFG.USE_SCB p) * 16 + (if enc then 12 else 0) + n % 4
  let sl := if sec.length < 48 then sec.length else 0
  let tag := beBytes 2 0x88E5 ++ beBytes 1 tci ++ beBytes 1 sl ++ beBytes 4 pn ++ (if sc = 1 then beBytes 8 (getF w C.sci) else [])
  let key := s.keyBytes (getF w C.slot)
  let iv := macIv w pn
  let head := bs.take o ++ tag
  if enc then
    let co := s.confOffset p
    let ct := gcmCrypt key iv (sec.drop co)
    (head ++ sec.take co ++ ct ++ gcmTag key iv (head ++ sec.take co) ct, sec.length)
  else (head ++ sec ++ gcmTag key iv (head ++ sec) [], sec.length)

/-! ### IEC 62351-6 (R125 to R127) -/

/-- CRC-16 with polynomial 0x1021, initial value 0xFFFF, no reflection. -/
def crc16 (bs : List Byte) : Nat :=
  bs.foldl (fun r b => (List.range 8).foldl (fun x _ => if 2 ^ 15 ≤ x then ((2 * x) ^^^ 0x1021) % 2 ^ 16 else 2 * x)
    (r ^^^ (b.toNat * 256))) 0xFFFF

/-- The offset after the EtherType of a sampled-value or GOOSE frame directly after the clear tags. -/
def svBase (bs : List Byte) : Option Nat :=
  let o := 12 + 4 * (clearTags bs).1
  if type16 bs o = 0x88BA || type16 bs o = 0x88B8 then some (o + 2) else none

/-- A frame with Reserved 1 [7:0] replaced and Reserved 2 recomputed. -/
def svReserve (bs : List Byte) (b ext : Nat) : List Byte :=
  let r1 := natPut (type16 bs (b + 4)) 7 0 ext
  let x := overwrite bs (b + 4) (beBytes 2 r1)
  overwrite x (b + 6) (beBytes 2 (crc16 (slice x b 6)))

/-- The form of a protected frame (Table 5.4): base and Length. -/
def svHead (bs : List Byte) : Option (Nat × Nat) :=
  match svBase bs with
  | none => none
  | some b =>
    let n := type16 bs (b + 2)
    let r1 := type16 bs (b + 4)
    let alg := beAt bs (b + n + 2) 1
    if decide (8 ≤ n) && decide (b + n + 32 ≤ bs.length) && natBits r1 14 8 == 0 && natBits r1 7 0 == 0x20 &&
       type16 bs (b + 6) == crc16 (slice bs b 6) && type16 bs (b + n) == 0xAE1E && (alg == 1 || alg == 2) &&
       beAt bs (b + n + 3) 1 == 0 then some (b, n) else none

/-- The authenticated data (R126). -/
def svAad (bs : List Byte) (b n : Nat) : List Byte :=
  bs.take 12 ++ slice bs (b - 2) 2 ++ slice bs b 6 ++ slice bs (b + 8) (n - 8) ++ slice bs (b + n) 16

/-- The IV (R126). -/
def svIv (w : BitVec 2048) (cnt : Nat) : List Byte := beBytes 4 (getF w C.senderId) ++ beBytes 8 cnt

/-- Verify: the frame without its extension, and whether the tag is right. -/
def svOpen (key : List Byte) (w : BitVec 2048) (b n cnt : Nat) (bs : List Byte) : List Byte × Bool :=
  (svReserve (bs.take (b + n) ++ bs.drop (b + n + 32)) b 0,
   gcmTag key (svIv w cnt) (svAad bs b n) [] == slice bs (b + n + 16) 16)

/-- Generate (R127): none for an input of another form. -/
def svSeal (key : List Byte) (w : BitVec 2048) (keyId cnt : Nat) (bs : List Byte) : Option (List Byte) :=
  match svBase bs with
  | none => none
  | some b =>
    let n := type16 bs (b + 2)
    if n < 8 || bs.length < b + n || natBits (type16 bs (b + 4)) 7 0 ≠ 0 then none
    else
      let alg := if key.length = 32 then 2 else 1
      let ext := beBytes 2 0xAE1E ++ beBytes 1 alg ++ beBytes 1 0 ++ beBytes 4 keyId ++ beBytes 8 cnt
      let x := svReserve (bs.take (b + n) ++ ext ++ bs.drop (b + n)) b 0x20
      some (x.take (b + n + 16) ++ gcmTag key (svIv w cnt) (svAad x b n) [] ++ x.drop (b + n + 16))

/-! ### IP headers -/

/-- The ones' complement checksum of a byte string (RFC 1071). -/
def inetSum (bs : List Byte) : Nat :=
  let t := (List.range ((bs.length + 1) / 2)).foldl (fun a i => a + beAt bs (2 * i) 2) 0
  let f (x : Nat) := x % 2 ^ 16 + x / 2 ^ 16
  f (f (f t))

/-- The checksum field that completes a byte string. -/
def inetCheck (bs : List Byte) : Nat := 0xFFFF - inetSum bs

/-- Recompute the IPv4 header checksum at an offset. -/
def ip4Check (bs : List Byte) (o : Nat) : List Byte :=
  let x := overwrite bs (o + 10) (beBytes 2 0)
  overwrite x (o + 10) (beBytes 2 (inetCheck (slice x o (4 * (beAt x o 1 % 16)))))

/-- Set the lengths of an IP header and its UDP header to a UDP payload of `n` bytes, and the checksums (R130): over IPv4 the
header checksum and a UDP checksum of 0; over IPv6 the computed UDP checksum. -/
def ipEdit (bs : List Byte) (h : IpHead) (u n : Nat) : List Byte :=
  let x := overwrite bs (u + 4) (beBytes 2 (n + 8))
  if h.v6 then
    let y := overwrite (overwrite x (h.at_ + 4) (beBytes 2 (n + 8))) (u + 6) (beBytes 2 0)
    let c := inetCheck (slice y (h.at_ + 8) 32 ++ beBytes 4 (n + 8) ++ beBytes 4 17 ++ slice y u (n + 8))
    overwrite y (u + 6) (beBytes 2 (if c = 0 then 0xFFFF else c))
  else
    let y := overwrite (overwrite x (h.at_ + 2) (beBytes 2 (u - h.at_ + 8 + n))) (u + 6) (beBytes 2 0)
    ip4Check y h.at_

/-! ### IEC 61850-90-5 (R128 to R130) -/

/-- The UDP payload of a frame: its IP header, the offset of its UDP header and of the payload. -/
def udpOf (bs : List Byte) : Option (IpHead × Nat × Nat) :=
  match (parse bs).ip with
  | some h => h.udp.map (fun u => (h, u, u + 8))
  | none => none

/-- The session header fields that both forms share, at offset `o`. -/
def rgForm (bs : List Byte) (o : Nat) : Bool :=
  (beAt bs o 1 == 0xA1 || beAt bs o 1 == 0xA2) && beAt bs (o + 1) 3 == 0x1C801A && type16 bs (o + 12) == 2

/-- The secured form (Table 5.5): IP header, UDP offset, session offset, payload length. -/
def rgHead (bs : List Byte) : Option (IpHead × Nat × Nat × Nat) :=
  match udpOf bs with
  | none => none
  | some (h, u, o) =>
    let n := beAt bs (o + 26) 4
    let alg := beAt bs (o + 20) 1
    if rgForm bs o && decide (o + 48 + n ≤ bs.length) && beAt bs (o + 4) 4 == n + 40 && (alg == 1 || alg == 2) &&
       beAt bs (o + 21) 1 == alg && type16 bs (o + 30 + n) == 0x8510 then some (h, u, o, n) else none

/-- The unsecured form. -/
def rgPlain (bs : List Byte) : Option (IpHead × Nat × Nat × Nat) :=
  match udpOf bs with
  | none => none
  | some (h, u, o) =>
    let n := beAt bs (o + 26) 4
    if rgForm bs o && decide (o + 30 + n ≤ bs.length) && beAt bs (o + 4) 4 == n + 22 && beAt bs (o + 14) 12 == 0 then
      some (h, u, o, n) else none

/-- The IV (R129). -/
def rgIv (w : BitVec 2048) (cnt : Nat) : List Byte := beBytes 8 (getF w C.ivFixed) ++ beBytes 4 cnt

/-- Verify: the unsecured form, and whether the tag is right. -/
def rgOpen (key : List Byte) (w : BitVec 2048) (h : IpHead) (u o n cnt : Nat) (bs : List Byte) : List Byte × Bool :=
  let ct := slice bs (o + 30) n
  let head := overwrite (overwrite (slice bs o 30) 4 (beBytes 4 (n + 22))) 14 (List.replicate 12 0)
  (ipEdit (bs.take o ++ head ++ gcmCrypt key (rgIv w cnt) ct ++ bs.drop (o + 48 + n)) h u (30 + n),
   gcmTag key (rgIv w cnt) (slice bs o 30) ct == slice bs (o + 32 + n) 16)

/-- Generate (R130): none for an input of another form. -/
def rgSeal (key : List Byte) (w : BitVec 2048) (timeOf toNext keyId cnt : Nat) (bs : List Byte) : Option (List Byte) :=
  match rgPlain bs with
  | none => none
  | some (h, u, o, n) =>
    let alg := if key.length = 32 then 2 else 1
    let head := slice bs o 4 ++ beBytes 4 (n + 40) ++ beBytes 4 cnt ++ beBytes 2 2 ++ beBytes 4 timeOf ++ beBytes 2 toNext ++
      beBytes 1 alg ++ beBytes 1 alg ++ beBytes 4 keyId ++ beBytes 4 n
    let ct := gcmCrypt key (rgIv w cnt) (slice bs (o + 30) n)
    some (ipEdit (bs.take o ++ head ++ ct ++ beBytes 2 0x8510 ++ gcmTag key (rgIv w cnt) head ct ++ bs.drop (o + 30 + n)) h u (48 + n))

/-! ### Profile L (R131 to R134) -/

/-- The form of a tunnelled frame (Table 5.6, R134) under a mode and tunnel identifier, where given: the offset of the header
and the ciphertext length. -/
def plHead (want : Option (Nat × Nat)) (bs : List Byte) : Option (Nat × Nat) :=
  match udpOf bs with
  | none => none
  | some (h, u, o) =>
    let len := type16 bs (u + 4)
    let p := len - 8 - 44
    let ver := beAt bs o 1
    let mode := ver % 16
    let plain4 := h.v6 || (beAt bs h.at_ 1 % 16 == 5 && beAt bs (h.at_ + 6) 2 % 2 ^ 14 == 0)
    let fits := decide (52 ≤ len) && decide (u + len ≤ bs.length) && decide (p ≤ if mode = 1 then 9216 else 9212)
    let named := match want with | some (m, t) => mode == m && type16 bs (o + 2) == t | none => true
    if plain4 && fits && ver / 16 == 1 && (mode == 1 || mode == 2) && decide (beAt bs (o + 1) 1 < 2) && named then some (o, p) else none

/-- Remove the padding of R132: none when it does not have its form. -/
def plUnpad (bs : List Byte) : Option (List Byte) :=
  let r := bs.reverse.dropWhile (· == 0)
  match r with
  | b :: rest => if b = 0x80 && decide (bs.length - rest.length ≤ 16) then some rest.reverse else none
  | [] => none

/-- Pad under CBC (R132). -/
def plPad (bs : List Byte) : List Byte := bs ++ [0x80] ++ List.replicate (15 - bs.length % 16) 0

/-- Verify: the inner frame, and whether CMAC and padding are right. -/
def plOpen (ke ka : List Byte) (o p : Nat) (bs : List Byte) : List Byte × Bool :=
  let iv := slice bs (o + 12) 16
  let ct := slice bs (o + 28) p
  let good := cmac ka (slice bs o (28 + p)) == slice bs (o + 28 + p) 16
  if beAt bs o 1 % 16 = 1 then
    let x := cbcDec ke iv ct
    match plUnpad x with
    | some y => (y, good && p % 16 == 0)
    | none => (x, false)
  else (cfbDec ke iv ct, good)

/-- A tunnel header template (Table 5.7). -/
def State.tunAt (s : State) (k : Nat) : BitVec 1024 := Tbl.at0 s.flt.tun k

namespace U
def valid : BF := ⟨1023, 1023⟩
def ipv6 : BF := ⟨1022, 1022⟩
def vlan : BF := ⟨1021, 1021⟩
def hdrLen : BF := ⟨1015, 1008⟩
def hdr : BF := ⟨527, 0⟩
end U

/-- The header image of a template. -/
def tunHeader (e : BitVec 1024) : List Byte := (beBytes 66 (getF e U.hdr)).take (getF e U.hdrLen)

/-- Generate (R132, R133): the outer frame. -/
def plSeal (ke ka : List Byte) (w : BitVec 2048) (gen cnt : Nat) (e : BitVec 1024) (inner : List Byte) : List Byte :=
  let tid := getF w C.tunnelId
  let mode := getF w C.lMode
  let iv := aesEnc ke (beBytes 8 cnt ++ beBytes 2 tid ++ List.replicate 6 0)
  let ct := if mode = 1 then cbcEnc ke iv (plPad inner) else cfbEnc ke iv inner
  let body := beBytes 1 (16 + mode) ++ beBytes 1 gen ++ beBytes 2 tid ++ beBytes 8 cnt ++ iv ++ ct
  let pay := body ++ cmac ka body
  let head := tunHeader e
  let u := head.length - 8
  let x := overwrite head (u + 4) (beBytes 2 (pay.length + 8) ++ beBytes 2 0)
  if isF e U.ipv6 then overwrite x (u - 40 + 4) (beBytes 2 (pay.length + 8)) ++ pay
  else
    let ip := u - 20
    ip4Check (overwrite (overwrite x (ip + 2) (beBytes 2 (28 + pay.length) ++ beBytes 2 cnt)) (ip + 6) (beBytes 2 0x4000)) ip ++ pay

/-! ### The profiles together -/

/-- The slots of a generation of a profile context. -/
def genSlot (w : BitVec 2048) (g : Nat) : Nat := getF w (if g = 0 then C.slot else C.slot1)

/-- A generation is enabled. -/
def genOn (w : BitVec 2048) (g : Nat) : Bool := isF w (if g = 0 then C.gen0 else C.gen1)

/-- KEY_ID of a generation. -/
def genKeyId (w : BitVec 2048) (g : Nat) : Nat := getF w (if g = 0 then C.keyId0 else C.keyId1)

/-- The form of check 2 of Table 5.3 under a profile; Profile L also compares mode and tunnel with a valid context. -/
def State.profileForm (s : State) (prof n : Nat) (bs : List Byte) : Bool :=
  let w := s.ctxAt n
  match prof with
  | 1 => (svHead bs).isSome
  | 2 => (rgHead bs).isSome
  | _ => (plHead (if isF w C.valid && ctxKind w == 2 then some (getF w C.lMode, getF w C.tunnelId) else none) bs).isSome

/-- The key identifier or GEN bit, the counter and the key size code of a protected frame. -/
def profileFields (prof : Nat) (bs : List Byte) : Nat × Nat × Nat :=
  match prof with
  | 1 => match svHead bs with
    | some (b, n) => (beAt bs (b + n + 4) 4, beAt bs (b + n + 8) 8, beAt bs (b + n + 2) 1 - 1)
    | none => (0, 0, 0)
  | 2 => match rgHead bs with
    | some (_, _, o, _) => (beAt bs (o + 22) 4, beAt bs (o + 8) 4, beAt bs (o + 20) 1 - 1)
    | none => (0, 0, 0)
  | _ => match plHead none bs with
    | some (o, _) => (beAt bs (o + 1) 1 % 2, beAt bs (o + 4) 8, 0)
    | none => (0, 0, 0)

/-- The generation that a frame selects (check 4). -/
def genOf (w : BitVec 2048) (prof key : Nat) : Option Nat :=
  if prof = 3 then (if genOn w key then some key else none)
  else if genOn w 0 && genKeyId w 0 = key then some 0
  else if genOn w 1 && genKeyId w 1 = key then some 1
  else none

/-- The context serves a profile in a direction: 0 verify, 1 GENERATE. -/
def profileCtx (w : BitVec 2048) (prof dir : Nat) : Bool :=
  isF w C.valid && ctxKind w == 2 && getF w C.profile == prof && getF w C.dir == dir

/-- The key uses of a verification (Table 9.3). -/
def verifyUses (w : BitVec 2048) (prof g size : Nat) (strip : Bool) : List KeyUse :=
  let k := genSlot w g
  match prof with
  | 1 => [⟨k, K.macv, some size⟩]
  | 2 => [⟨k, if strip then K.dec else K.macv, some size⟩]
  | _ => [⟨k, K.dec, none⟩, ⟨k + 1, K.macv, none⟩]

/-- The key uses of a generation (Table 9.3). -/
def generateUses (w : BitVec 2048) (prof g : Nat) : List KeyUse :=
  let k := genSlot w g
  match prof with
  | 1 => [⟨k, K.macg, none⟩]
  | 2 => [⟨k, K.enc, none⟩]
  | _ => [⟨k, K.enc, none⟩, ⟨k + 1, K.macg, none⟩]

/-- Verify a frame under a context and generation: the stripped frame, and whether its tag check passes. -/
def State.profileOpen (s : State) (prof n g cnt : Nat) (bs : List Byte) : List Byte × Bool :=
  let w := s.ctxAt n
  let key := s.keyBytes (genSlot w g)
  match prof with
  | 1 => match svHead bs with | some (b, m) => svOpen key w b m cnt bs | none => (bs, false)
  | 2 => match rgHead bs with | some (h, u, o, m) => rgOpen key w h u o m cnt bs | none => (bs, false)
  | _ => match plHead none bs with
    | some (o, p) => plOpen key (s.keyBytes (genSlot w g + 1)) o p bs
    | none => (bs, false)

/-- Generate a frame under a context and counter: none for an input of another form, or without a valid template. -/
def State.profileSeal (s : State) (n cnt : Nat) (bs : List Byte) : Option (List Byte) :=
  let w := s.ctxAt n
  let g := getF w C.txGen
  let key := s.keyBytes (genSlot w g)
  match getF w C.profile with
  | 1 => svSeal key w (genKeyId w g) cnt bs
  | 2 => rgSeal key w (getF w (if g = 0 then C.timeOfKey0 else C.timeOfKey1))
      (getF w (if g = 0 then C.timeToNext0 else C.timeToNext1)) (genKeyId w g) cnt bs
  | _ =>
    let e := s.tunAt (getF w C.template)
    if isF e U.valid && decide (bs.length + 4 ≤ 9216) then some (plSeal key (s.keyBytes (genSlot w g + 1)) w g cnt e bs) else none

/-- The form that GENERATE requires of its input (R127, R128, R133): what `profileSeal` accepts. -/
def State.sealForm (s : State) (n : Nat) (bs : List Byte) : Bool :=
  let w := s.ctxAt n
  match getF w C.profile with
  | 1 => match svBase bs with
    | some b => decide (8 ≤ type16 bs (b + 2)) && decide (b + type16 bs (b + 2) ≤ bs.length) && natBits (type16 bs (b + 4)) 7 0 == 0
    | none => false
  | 2 => (rgPlain bs).isSome
  | _ => isF (s.tunAt (getF w C.template)) U.valid && decide (bs.length + 4 ≤ 9216)

/-- Bytes that a GENERATE context adds to a frame (Table 5.8). -/
def State.profileAdds (s : State) (n len : Nat) : Nat :=
  let w := s.ctxAt n
  match getF w C.profile with
  | 1 => 32
  | 2 => 18
  | _ => 44 + getF (s.tunAt (getF w C.template)) U.hdrLen + (if getF w C.lMode = 1 then 16 - len % 16 else 0)

/-- The protected length of a copy on a port, destination address to FCS (R97, R135). -/
def State.protectedLen (s : State) (p : Nat) (c : Copy) : Nat :=
  let n := c.bytes.length
  let a := match c.gen with | some g => s.profileAdds g n | none => 0
  n + 4 + a + (if s.cipher p && !c.unctrl then s.macAdds p else 0)

end Sys2Proof.Machine
end

