-- ==== Sys2Proof/Machine/Queue.lean ====
section
/-!
DEFINITION. Copies on their way to a line: context and key residency of frames and copies (R145, R206), class queues, fair
groups, the deep buffer, RedBox tags, and the release of stored copies (R173, R243 to R246, R255, R284, R363).
-/
namespace Sys2Proof.Machine

/-! ### Waiting for a context or a key (R145, R206) -/

/-- The fetches outstanding in a group. -/
def State.fetches (s : State) (g : Nat) : List CtxFetch := Tbl.getD (fun _ => []) s.ctx.fetches g

/-- Replace them. -/
def State.setFetches (s : State) (g : Nat) (l : List CtxFetch) : State :=
  s.setCtx { s.ctx with fetches := Tbl.setD (fun _ => []) s.ctx.fetches g l }

/-- Frames and copies of a group that wait for a context or its key. -/
def State.waitingIn (s : State) (g : Nat) : Nat :=
  (s.path.frames.filter (fun f => f.port / 8 == g && (f.waitCtx.isSome || f.waitKey.isSome))).length +
  ((s.path.queues.filter (fun e => e.1 / 64 == g)).map (fun e => (e.2.filter (·.waitCtx)).length)).sum

/-- Look a context up in the cache of a group (R145): a hit makes it the most recently used, event 23; a miss is event 24. -/
def State.lookCtx (s : State) (g n : Nat) : State × Bool :=
  let sl := s.sliceOf g
  if (s.cached g).contains n then ((s.ctxPlace g n).count (128 * sl + 23), true) else (s.count (128 * sl + 24), false)

/-- Start or join the fetch of a context for a frame or a copy (R145): none when a limit is exceeded. -/
def State.fetchCtx (s : State) (g n : Nat) (id : Option Nat) : Option State :=
  let l := s.fetches g
  if 512 ≤ s.waitingIn g then none
  else if l.any (fun x => x.ctx == n) then
    some (s.setFetches g (l.map (fun x => if x.ctx = n then { x with frames := x.frames ++ id.toList } else x)))
  else if 64 ≤ l.length then none
  else some ((s.setFetches g (l ++ [⟨n, id.toList⟩])).blk (sliceCtr (s.sliceOf g) 0))

/-- Start or join the unwrap of a slot (R206). -/
def State.startUnwrap (s : State) (sl k : Nat) (id : Option Nat) : State :=
  let l := s.key.unwraps
  if l.any (fun u => u.slot == k) then
    s.setKey { s.key with unwraps := l.map (fun u => if u.slot = k then
      { u with slices := addOnce u.slices sl, frames := u.frames ++ id.toList } else u) }
  else ((s.setKey { s.key with unwraps := l ++ [⟨k, [sl], id.toList⟩] }).blk (sliceCtr sl 16)).count 0x6A0

/-- The first slot of an operation that must be unwrapped before its delivery (R209 checks 1 and 2). -/
def State.wrapped (s : State) (us : List KeyUse) : Option Nat :=
  (us.find? (fun u => isF (s.slot u.slot).attr M.attrValid && !isF (s.slot u.slot).attr M.attrQuar && !s.slotResident u.slot)).map
    (·.slot)

/-! ### GENERATE copies (R120, R124, R145, R172, R173) -/

/-- Passes of extra work that a GENERATE copy needs on a port (R172): one more pass when MACsec follows a 90-5 or Profile L
pass, and the CMAC chain of Profile L. -/
def State.extraPasses (s : State) (p n : Nat) : Nat :=
  match getF (s.ctxAt n) C.profile with
  | 2 => b2n (s.cipher p)
  | 3 => b2n (s.cipher p) + 1
  | _ => 0

/-- A copy under a GENERATE context is taken in, or lost with what counts it: the context's owner, quarantine, form and
residency, the slots' residency, and room for extra work. -/
def State.genAdmit (s : State) (p prof n : Nat) (c : Copy) : State × Except Tally Copy :=
  let w := s.ctxAt n
  let g := p / 8
  let sl := s.sliceOf g
  if !profileCtx w prof 1 then (s, .error .quiet)
  else if natBit (getF w C.owner) 7 && natBits (getF w C.owner) 3 0 ≠ g then (s, .error (.blk 19))
  else
    let s1 := s.ctxPut n (putF w C.owner (128 + g))
    if ctxQuar w then (s1, .error (.blk (sliceCtr sl 2)))
    else if !s1.sealForm n c.bytes then (s1, .error (.blk 18))
    else
      let k := s1.extraPasses p n
      if 1024 < (s1.extra sl).length + k then (s1, .error (.blk (sliceCtr sl 5)))
      else
        let (s2, hit) := s1.lookCtx g n
        let take (t : State) (wait : Bool) : State × Except Tally Copy :=
          (if k = 0 then t else t.setExtra sl (t.extra sl ++ List.replicate k (.copy c.no)),
           .ok { c with gen := some n, waitCtx := wait, waitExtra := k != 0 })
        if hit then
          match s2.wrapped (generateUses w prof (getF w C.txGen)) with
          | some j => take (s2.startUnwrap sl j none) true
          | none => take s2 false
        else
          match s2.fetchCtx g n none with
          | some t => take t true
          | none => (s2, .error (.blk (sliceCtr sl 1)))

/-- The copies of a group that wait are looked at again: resident ones become eligible, those whose slot is wrapped start its
unwrap, those whose context is quarantined are lost. -/
def State.wakeCopies (s : State) (g : Nat) : State :=
  let sl := s.sliceOf g
  s.each ((s.path.queues.filter (fun e => e.1 / 64 == g)).map (·.1)) (fun e t =>
    let p := e / 8
    let k := e % 8
    (t.queue p k).foldl (fun u c =>
      match c.waitCtx, c.gen with
      | true, some n =>
        let w := u.ctxAt n
        if ctxQuar w then
          ((u.setQueue p k ((u.queue p k).filter (fun d => d.no != c.no))).copyGone p c).blk (sliceCtr sl 2)
        else if !(u.cached g).contains n then u
        else match u.wrapped (generateUses w (getF w C.profile) (getF w C.txGen)) with
          | some j => u.startUnwrap sl j none
          | none => u.setQueue p k ((u.queue p k).map (fun d => if d.no = c.no then { d with waitCtx := false } else d))
      | _, _ => u) t)

/-- EXTRA_WORK_DONE (R173): the pass at the front ends; its copy becomes eligible when no further pass of it waits. -/
def execExtraWorkDone (sl : Fin 13) (s : State) : Res :=
  match s.extra sl.val with
  | [] => .next s
  | .frame _ :: rest => .next (s.setExtra sl.val rest)
  | .copy no :: rest =>
    let s1 := s.setExtra sl.val rest
    if rest.contains (.copy no) then .next s1
    else .next (s1.each (s1.path.queues.map (·.1)) (fun e t =>
      t.setQueue (e / 8) (e % 8) ((t.queue (e / 8) (e % 8)).map (fun d => if d.no = no then { d with waitExtra := false } else d))))

/-! ### Class queues (R243 to R246, R255) -/

/-- The least common multiple of the weights 1 to 255: tags count in units of 1/tagScale byte. -/
def tagScale : Nat := (List.range 255).foldl (fun a i => Nat.lcm a (i + 1)) 1

/-- The weight of a fair group of a port. -/
def State.fgWeight (s : State) (p g : Nat) : Nat := natBits (s.reg (R.SCHED_FG_WEIGHT p (g / 4))).toNat (8 * (g % 4) + 7) (8 * (g % 4))

/-- The fair group of a copy (R255). -/
def State.fairGroup (s : State) (p k inPort vid : Nat) (bytes : List Byte) : Nat :=
  if natBit (s.fld (F.SCHED_FG_CFG.FG_SEL p)) k then
    tableHash 0xFFFFFFFF (slice bytes 6 6 ++ beBytes 2 vid) % 256
  else inPort

/-- The limit of a class queue in bytes. -/
def State.qlim (s : State) (p k : Nat) : Nat := 1024 * s.fld (F.SCHED_QLIM.QLIM p k)

/-- The gate states in force on a port: what the last gate operation set; before any, DEFAULT_GATES with GATE_EN, otherwise
all open (R247). -/
def State.gatesNow (s : State) (p : Nat) : Nat :=
  match (s.sch p).gates with
  | some g => g
  | none => if s.gateEn p then s.fld (F.SCHED_CFG.DEFAULT_GATES p) else 0xFF

/-- The credit of a shaped class after `dt` core cycles, in bits times 3,000,000 (R254): 100 kb/s is 200 of them a cycle. -/
def State.creditAfter (s : State) (p k : Nat) (dt : Nat) : Int :=
  let v := Tbl.getD (fun _ => (0 : Int)) (s.sch p).credit k
  let i : Int := 200 * s.fld (F.SCHED_CBS.IDLE_SLOPE p k)
  let r : Int := 200 * rate100k (s.mode p)
  let l := s.line p
  if l.now.any (fun x => x.cls == k) then v + (i - r) * dt
  else if !natBit (s.gatesNow p) k then v
  else if (s.queue p k).isEmpty && !l.rest.any (fun x => x.cls == k) then (if 0 < v then 0 else min 0 (v + i * dt))
  else v + i * dt

/-- Bring the credits of a port up to this cycle. -/
def State.credits (s : State) (p : Nat) : State :=
  let x := s.sch p
  let dt := s.cyc - x.creditAt
  s.setSch p { x with
    creditAt := s.cyc,
    credit := (allBelow (fun k => s.tsa p k == 1) 8).foldl (fun t k =>
      Tbl.setD (fun _ => (0 : Int)) t k (s.creditAfter p k dt)) x.credit }

/-- A copy joins its class queue, with its fair-queuing tags, and wakes a sleeping port without a gate list (R43). -/
def State.enqueue (s0 : State) (p k vid : Nat) (c : Copy) : State :=
  let s := s0.credits p
  let q := s.queue p k
  let x := s.sch p
  if s.tsa p k = 2 then
    let g := s.fairGroup p k c.inPort vid c.bytes
    let v := Tbl.atN x.vtime k
    let st := if q.any (fun d => d.group == g) then max v (Tbl.atN x.ftag (256 * k + g)) else v
    let fin := st + (s.protectedLen p c + 20) * tagScale / max 1 (s.fgWeight p g)
    (((s.setSch p { x with ftag := Tbl.setN x.ftag (256 * k + g) fin }).setQueue p k (q ++ [{ c with group := g, tag := st }]))).wakeOnQueue p
  else (s.setQueue p k (q ++ [c])).wakeOnQueue p

/-- The next copy number. -/
def State.serial (s : State) : State × Nat := (s.setPath { s.path with serial := s.path.serial + 1 }, s.path.serial)

/-- Bytes of DRAM lines that a deep-buffered copy takes. -/
def Copy.lines (c : Copy) : Nat := 64 * ((c.bytes.length + 4 + 63) / 64)

/-- The deep-buffer region has room for a copy (R246). -/
def State.deepRoom (s : State) (c : Copy) : Bool :=
  decide (((s.path.queues.map (fun e => ((e.2.filter (·.deep)).map Copy.lines).sum)).sum) + c.lines ≤
    s.fld (F.MEM_RGN_POS.SIZE 8) * 2 ^ 20)

/-- A set copy of a class with DBF_EN goes to the deep buffer when its queue is at QLIM or a copy of the class is there (R246). -/
def State.goesDeep (s : State) (p k : Nat) (c : Copy) : Bool :=
  s.dbfEn p k && ((s.queue p k).any (fun d => d.deep && d.no < c.no) || decide (s.qlim p k < s.occupied p k))

/-! ### RedBox numbers (R284) -/

/-- Insert the tags of RedBox pair `j` into the copies of a frame that hold none, with one number (R284). -/
def State.redBox (s : State) (id : Nat) (handle : Option Nat) (inPort j : Nat) : State :=
  let hsr := s.on (F.SRC_PAIR_CFG.ROLE j)
  let a := s.fld (F.SRC_PAIR_CFG.PORT_A j)
  let b := s.fld (F.SRC_PAIR_CFG.PORT_B j)
  let mine (c : Copy) := c.frame == some id && !c.cut && !hasRedTag hsr c.bytes
  let keys := (s.path.queues.map (·.1)).filter (fun e => e / 8 = a || e / 8 = b)
  if inPort = a || inPort = b || !keys.any (fun e => (s.queue (e / 8) (e % 8)).any mine) then s
  else
    let (q, s1) := match handle with
      | some h =>
        let w := s.srcAt h
        let q := getF w S.txSeq
        let mode := getF (s.streamAt h) E.strSrcMode
        let w1 := putF w S.txSeq ((q + 1) % 2 ^ 16)
        (q, s.srcPut h (if isF w S.valid then srcUpdate w1 mode q true else w1))
      | none =>
        let q := s.fld (F.SRC_PAIR_SEQ.SEQ j)
        (q, s.put (F.SRC_PAIR_SEQ.SEQ j) ((q + 1) % 2 ^ 16))
    s1.each keys (fun e t => t.setQueue (e / 8) (e % 8) ((t.queue (e / 8) (e % 8)).map (fun c =>
      if mine c then { c with bytes := redTag hsr (e / 8 = b) q c.bytes } else c)))

/-! ### Release and loss -/

/-- The stored copies of a set frame become ready, or go to the deep buffer (R17, R246, R284). -/
def State.release (s : State) (f : FrameRec) : State :=
  let s1 := s.each (allBelow (fun j => s.on (F.SRC_PAIR_CFG.EN j)) 48) (fun j t => t.redBox f.id f.handle f.port j)
  s1.each (s1.path.queues.map (·.1)) (fun e t =>
    let p := e / 8
    let k := e % 8
    ((t.queue p k).filter (fun c => c.frame == some f.id && !c.cut)).foldl (fun u c =>
      let put (d : Copy) (v : State) := v.setQueue p k ((v.queue p k).map (fun x => if x.no = c.no then d else x))
      if u.goesDeep p k c then
        if u.deepRoom c then ((put { c with frame := none, deep := true } u).blk (classCtr p 2 k)).count 0x69A
        else ((u.setQueue p k ((u.queue p k).filter (fun x => x.no != c.no))).copyGone p c).blk (classCtr p 1 k)
      else put { c with frame := none, ready := true } u) t)

/-- The stored copies of a frame that recovery discards: a duplicate is not lost (R273). -/
def State.discardDup (s : State) (id : Nat) : State :=
  s.each (s.path.queues.map (·.1)) (fun e t =>
    let p := e / 8
    let k := e % 8
    let q := t.queue p k
    let mine (c : Copy) := c.frame == some id && !c.cut
    (q.filter mine).foldl (fun u c => u.copyGone p { c with contract := none }) (t.setQueue p k (q.filter (fun c => !mine c))))

/-- DBF_READ_DONE (R364): the first deep-buffered copy of a class is back on the die whole, or is discarded on a line error. -/
def execDbfReadDone (p : Fin 96) (k : Fin 8) (ok : Bool) (s : State) : Res :=
  let q := s.queue p.val k.val
  match q.find? (·.deep) with
  | none => .next s
  | some c =>
    let s1 := s.count 0x69B
    if ok then .next (s1.setQueue p.val k.val (q.map (fun d => if d.no = c.no then { d with deep := false, ready := true } else d)))
    else .next (((s1.setQueue p.val k.val (q.filter (fun d => d.no != c.no))).copyGone p.val c).blk (classCtr p.val 4 k.val))

end Sys2Proof.Machine
end

