-- ==== Sys2Proof/Machine/Alarms.lean ====
section
/-!
DEFINITION. Entering HOLD and FAULT, pair roles, and the tamper and environment monitors (spec/18_tamper.md, R424 to R441;
R305, R407).
-/
namespace Sys2Proof.Machine

/-! ### Coat-pair roles (Table 13.1) -/

/-- ROLE takes a value; a change posts ROLE_CHANGE. -/
def State.setRole (s : State) (r : Nat) : State :=
  if s.role = r then s else (s.put F.PAIR_STATUS.ROLE r).pairEvent 0 0 r

/-- Replace the pair state. -/
def State.setPair (s : State) (x : PairSt) : State := { s with pair := x }

/-- The contexts that transmit: MACsec transmit contexts with TX_EN and GENERATE contexts (R159, R307). -/
def State.txContexts (s : State) : List Nat :=
  (s.ctx.ctx.filter (fun e => isF e.2 C.valid && isF e.2 C.dir && (ctxKind e.2 != 1 || isF e.2 C.txEn))).map (·.1)

/-- The takeover of R304: the role, ACTIVE_SINCE, the leap before first use, and transmission from the first MAC start at
least 2 µs later. -/
def State.takeOver (s : State) : State :=
  let s1 := (s.setRole 4).setPair { s.pair with since := s.now, txFrom := s.now + 2000 }
  ((s1.setCtx { s1.ctx with leapDue := s1.txContexts }).blk 25).pairEvent 3 0 0

/-- The transmitters of the twin-held ports stop: what is queued and sent on them is discarded. -/
def State.stopTwin (s : State) : State :=
  s.each (allBelow s.twinHeld 96) (fun p t => (t.abortLine p).dropQueues p)

/-- An ACTIVE member sends YIELD on both paths and then stops its transmitters (R305); outside RUN a member is OFFLINE. -/
def State.yieldOut (s : State) : State :=
  if s.config ≠ 1 then s
  else (((s.when (s.role == 3) (fun t => t.emit .yield)).stopTwin).setRole 0).setPair { s.pair with handover := none }

/-! ### HOLD and FAULT (R407, R414) -/

/-- The device enters HOLD from SETUP or RUN, or from LOAD by a raw debug access (R370). -/
def State.enterHold (s : State) : State := { s.yieldOut with op := .hold }

/-- Both lath links drop: paths and links are down. -/
def State.dropLath (s : State) : State :=
  (((s.put F.DOM_STATUS.LINK_A_OK 0).put F.DOM_STATUS.LINK_B_OK 0).put F.PAIR_STATUS.PATH_A_OK 0).put F.PAIR_STATUS.PATH_B_OK 0

/-- Every port is DISABLED. -/
def State.disablePorts (s : State) : State := s.each ((List.range 96).filter (fun p => s.link p != 0)) (fun p t => t.toLink p 0)

/-- The device enters FAULT: YIELD, then every port DISABLED and the lath links dropped. -/
def State.enterFault (s : State) : State :=
  { ((s.yieldOut.disablePorts).dropLath) with op := .fault, rub := { s.rub with halted := true } }

/-- The debug port closes until the next reset. -/
def State.shutDebug (s : State) : State :=
  ({ s with boot := { s.boot with debugShut := true } } : State).put F.BOOT_STATUS.DEBUG_OPEN 0

/-! ### Response sets (R430, R431) -/

/-- Response bits: ERASE 8, PURGE 4, CONTAIN 2, LOG 1. -/
def State.effSet (s : State) (k : Nat) : Nat :=
  if 16 ≤ k then 1
  else
    let resp := if k < 8 then natBits (s.reg R.ALARM_RESP_LO).toNat (4 * k + 3) (4 * k)
      else natBits (s.reg R.ALARM_RESP_HI).toNat (4 * k - 29) (4 * k - 32)
    let floor_ := s.fuse (1283 + 4 * k) (1280 + 4 * k)
    let e := resp ||| floor_ ||| 1 ||| (if k = 11 ∨ k = 15 then 4 else 0)
    if e.testBit 2 then e ||| 2 else e

/-- The union of the sets of the causes of a map. -/
def State.unionSet (s : State) (causes : Nat) : Nat :=
  (allBelow (fun k => causes.testBit k) 22).foldl (fun a k => a ||| s.effSet k) 0

/-! ### The responses (Table 18.3) -/

/-- ERASE: the root slots and their check values; R215 with D0 and D2. -/
def State.doErase (s : State) : State :=
  (({ s with bat := { s.bat with roots := [], rootChecks := [] } } : State).dropRootKeys).keyGauges

/-- An operation in flight fails as R174 has it. -/
def State.failInFlight (s : State) : State :=
  s.setPath { s.path with frames := s.path.frames.map (fun f =>
    if f.verdict.isNone && f.guard != .clear then { f with fault := true } else f) }

/-- Every key slot, key register, memory key set and identity key is zeroed; the sealed roots stay. -/
def State.zeroKeys (s : State) : State :=
  ((s.setKey { s.key with slots := [], lru := [], unwraps := [], rootUp := false }).keyGauges).put F.MCU_STATUS.KEYSET_VALID 0

/-- CONTAIN. -/
def State.doContain (s : State) : State :=
  let s1 := s.shutDebug
  if s1.op = .setup || s1.op = .run then s1.enterHold
  else if s1.op = .load then { s1 with boot := { s1.boot with loadBlocked := true } }
  else s1

/-- PURGE but for the CONTAIN that ends it; a rub-down pass stops where it stands (Table 19.3). -/
def State.doPurge (s : State) : State :=
  { (((s.failInFlight).zeroKeys).disablePorts).dropLath with rub := { s.rub with halted := true } }

/-- The steps of a set in their order, FAULT in the place of CONTAIN. -/
def State.respond (s : State) (set : Nat) (fault : Bool) : State :=
  let s1 := s.when (set.testBit 3) State.doErase
  let s2 := s1.when (set.testBit 2) State.doPurge
  if fault then s2.enterFault else s2.when (set.testBit 1) State.doContain

/-! ### The log (R436, R437, R440) -/

/-- The log entry that record number `n` occupies. -/
def logEntry (n : Nat) : Nat := if n < 60 then n else 60 + (n - 60) % 4

/-- A record of an alarm that starts now. -/
def State.newRecord (s : State) (causes detail done pending : Nat) : LogRec :=
  { seq := min (s.bat.seq + 1) (2 ^ 32 - 1), rtc := s.bat.rtc, opstate := s.op.code, battery := s.op == .battery, done := done,
    pending := pending, causes := causes, bootCount := s.bat.bootCount % 2 ^ 16, detail := detail }

/-- The lowest cause of a map. -/
def lowestCause (causes : Nat) : Nat := (firstBelow (fun k => causes.testBit k) 22).getD 0

/-- More than one cause. -/
def coincident (causes : Nat) : Bool := decide (1 < popCount causes 22)

/-- The record that the LOG step posts, when a running EVENT ring takes it (R440). -/
def State.postAlarm (s : State) (r : LogRec) : State :=
  if (s.eventRings 0x0E).isEmpty then s
  else s.record 0x0E (lowestCause r.causes) r.seq
    (r.causes + r.done * 2 ^ 24 + r.pending * 2 ^ 28 + b2n (coincident r.causes) * 2 ^ 32) r.detail 0

/-- The causes are set in ALARM_STATUS; a bit that becomes 1 while it is enabled posts a record (R440, R50). -/
def State.setAlarmStatus (s : State) (causes seq : Nat) : State :=
  let new_ := allBelow (fun k => causes.testBit k && !s.bat.status.testBit k) 22
  let s1 : State := { s with bat := { s.bat with status := s.bat.status ||| causes } }
  s1.each (new_.filter (fun k => natBit (s.fld F.ALARM_EVENT_EN.EN) k && decide (2 ≤ s.op.code))) (fun k t => t.record 0x0E k seq 0 0 0)

/-- Store a record at its entry. -/
def State.putLog (s : State) (entry : Nat) (r : LogRec) : State :=
  { s with bat := { s.bat with log := Tbl.insert s.bat.log entry r } }

/-- The record of an entry. -/
def State.tlogAt (s : State) (entry : Nat) : Option LogRec := (s.bat.log.find? (fun e => e.1 = entry)).map (·.2)

/-! ### An alarm (R432 to R434) -/

/-- Whether an alarm's responses are still executing. -/
def State.alarmRuns (s : State) : Option AlarmRun :=
  match s.alarm.running with
  | some a => if s.bat.rtc < a.until_ then some a else none
  | none => none

/-- Replace the alarm controller. -/
def State.setAlarm (s : State) (x : Alarm) : State := { s with alarm := x }

/-- Causes that trip now: one alarm, or they join the one whose responses are executing. What of a set BATTERY leaves
pending goes to the latch. -/
def State.alarmNow (s : State) (causes detail : Nat) (force : Nat) : State :=
  let bat := s.op == .battery
  let set := s.unionSet causes ||| force
  let fault := decide (2 ^ 16 ≤ causes) && !bat
  let all := if bat then set &&& 9 else set
  let left := if bat then set &&& 6 else 0
  match s.alarmRuns with
  | some a =>
    match s.tlogAt a.entry with
    | some r =>
      let causes' := r.causes ||| causes
      let d := if lowestCause causes' = lowestCause r.causes then r.detail else detail
      let s1 := (s.respond (all &&& (15 - a.done)) fault)
      let r' := { r with causes := causes', detail := d, done := r.done ||| all, pending := r.pending ||| left }
      let s2 := ((s1.putLog a.entry r').setAlarmStatus causes r.seq).postAlarm r'
      ({ s2 with bat := { s2.bat with latch := s2.bat.latch ||| left } } : State).setAlarm
        { s2.alarm with running := some { a with set := a.set ||| set, done := a.done ||| all, pending := a.pending ||| left } }
    | none => s
  | none =>
    let r := s.newRecord causes detail all left
    let n := s.bat.logCount
    let s1 := s.respond all fault
    let s2 : State := { s1 with bat := {
      s1.bat with seq := r.seq, logCount := n + 1, latch := s1.bat.latch ||| left,
                  notice := if bat then some (s1.bat.notice.getD r.seq) else s1.bat.notice } }
    let s3 := ((s2.putLog (logEntry n) r).setAlarmStatus causes r.seq).postAlarm r
    s3.setAlarm { s3.alarm with running := some ⟨logEntry n, set, all, left, s.bat.rtc + 2 + b2n (bat && all.testBit 3)⟩ }

/-- A cause raises an alarm, unless its condition was present within the last second (R432). The spec's causes without a
condition that lasts raise one at each trip as well: ALARM_REARM frees them. -/
def State.raise (s : State) (k detail : Nat) : State :=
  if s.alarm.present.testBit k || s.op = .off then s
  else
    let s1 := s.setAlarm { s.alarm with present := natSet s.alarm.present k }
    -- a failed ROM step (R408, R431)
    let step := if k = 21 then detail else if k = 18 then 6 else if k = 16 ∨ k = 19 then 8 else 0
    let s2 := s1.when (decide (16 ≤ k) && s.op == .rom && step != 0) (fun t => t.put F.BOOT_STATUS.ROM_STEP step)
    s2.alarmNow (2 ^ k) detail (if k = 9 && s.op == .battery then 8 else 0)

/-! ### Monitors (R425 to R428, R438) -/

/-- Whether cause `k` can trip in the present state (Table 18.2): in BATTERY only the battery domain's detectors run. -/
def State.monitorRuns (s : State) (k : Nat) : Bool :=
  match s.op with
  | .off => false
  | .battery =>
    k == 2 || k == 5 || k == 6 || k == 9 || (k == 7 && natBits s.bat.encCfg.toNat 3 2 != 0) ||
      (k == 8 && natBits s.bat.encCfg.toNat 7 6 != 0)
  | _ => (k != 7 || natBits s.bat.encCfg.toNat 3 2 != 0) && (k != 8 || natBits s.bat.encCfg.toNat 7 6 != 0)

/-- The detector of Table 18.6 that a trip comes from, by the cause and, where a cause has two, by its measurement. -/
def detectorOf (k detail : Nat) : Option Nat :=
  let v := signed 48 detail
  match k with
  | 0 => some (if 25000000 < detail then 0 else 1)
  | 1 => some 2
  | 2 => some 3
  | 3 => some (if v < 765 then 4 else 5)
  | 4 => some (if v < 1200 then 6 else 7)
  | 5 => some (if v < 2950 then 8 else 9)
  | 6 => some 10
  | 7 => some 11
  | 8 => some 12
  | 9 => some 13
  | _ => none

/-- The cause that a detector raises. -/
def causeOf (d : Nat) : Nat :=
  match d with
  | 0 => 0 | 1 => 0 | 2 => 1 | 3 => 2 | 4 => 3 | 5 => 3 | 6 => 4 | 7 => 4 | 8 => 5 | 9 => 5 | 10 => 6 | 11 => 7 | 12 => 8 | 13 => 9
  | _ => 14

/-- A state register of R428 holds an invalid code: its machine stops in its safe state until the next reset. The registers
are numbered in the order of R428: 2 the key store's sequencer, 3 the Key Bus arbiter, 4 the key-ID selector, 5 the debug port. -/
def State.stopMachine (s : State) (r : Nat) : State :=
  let s1 := s.setAlarm { s.alarm with stopped := natSet s.alarm.stopped r }
  if r = 5 then s1.shutDebug else s1

/-- MONITOR_TRIP (R425): a trip of the detector in its test window is suppressed (R438). -/
def execMonitorTrip (t : Trip) (s : State) : Res :=
  let k := t.cause.val
  let d := t.detail.toNat
  if !s.monitorRuns k || (s.alarm.testing.isSome && s.alarm.testing == detectorOf k d) then .next s
  else .next ((s.when (k == 9 && decide (2 ≤ s.op.code)) (fun t => t.stopMachine (d % 8))).raise k d)

/-- ALARM_REARM (R432): the cause's condition has been absent for 1 s. -/
def execAlarmRearm (k : Fin 22) (s : State) : Res := .next (s.setAlarm { s.alarm with present := natClr s.alarm.present k.val })

/-- ENC_CFG_APPLY (R427): 1 ms after a write of ENC_CFG, the value takes effect. -/
def execEncCfgApply (v : Word) (s : State) : Res :=
  if s.bat.vbat then
    .next (({ s with bat := { s.bat with encCfg := v &&& 0xEE } } : State).setAlarm { s.alarm with encPending := none })
  else .next s

/-- The detectors that a round stimulates (R438, R341): in a domain only those without a second detector. -/
def State.stimulated (s : State) : List Nat := if s.config = 2 then [2, 11, 12, 13, 14] else List.range 15

/-- MONITOR_TEST_ROUND (R438): from LOAD to HOLD, while TEST_EN is 1, a round starts with its first detector. -/
def execMonitorTestRound (s : State) : Res :=
  if decide (3 ≤ s.op.code ∧ s.op.code ≤ 6) && s.on F.ALARM_TEST_CFG.TEST_EN && s.alarm.testing.isNone then
    .next (s.setAlarm { s.alarm with testing := s.stimulated.head? })
  else .next s

/-- TEST_WINDOW_END (R438): the next detector's window follows. A stimulus that did not trip its detector raises cause 14; a
genuine condition that lasts past the window trips its detector. -/
def execTestWindowEnd (d : Fin 15) (tripped genuine : Bool) (s : State) : Res :=
  if s.alarm.testing ≠ some d.val then .next s
  else
    let s1 := s.setAlarm { s.alarm with testing := (s.stimulated.filter (fun e => d.val < e)).head? }
    let s2 := s1.when (!tripped) (fun t => (t.put F.ALARM_TEST_CFG.LAST_FAIL d.val).raise 14 d.val)
    .next (s2.when (genuine && s2.monitorRuns (causeOf d.val)) (fun t =>
      let (v, u) := t.draw 48
      u.raise (causeOf d.val) v.toNat))

/-- MON_DISAGREE (R341): in a domain, from ROM on, a monitor with two detectors. -/
def execMonDisagree (d : Fin 15) (s : State) : Res :=
  if s.config = 2 && decide (2 ≤ s.op.code) && !([2, 11, 12, 13, 14].contains d.val) then
    .next (((s.raise 13 d.val).blk 29).domEvent 5 s.index d.val)
  else .next s

/-! ### FLOOR_CMD and the pins -/

/-- FLOOR_CMD (R430): GO in SETUP, in any life-cycle state except RAW and SCRAP, burns the bits of ALARM_RESP; otherwise, and
while a burn runs, it completes with STATE (Table 17.12). -/
def execFloorCmd (s : State) : Res :=
  if !s.regsOpen then .next s
  else if !s.inSetup || s.lc = 0 || s.lc = 5 || s.boot.burn.isSome then .next (s.put F.FLOOR_CMD.CODE 1)
  else
    let resp := (s.reg R.ALARM_RESP_HI).toNat * 2 ^ 32 + (s.reg R.ALARM_RESP_LO).toNat
    .next (({ s with boot := { s.boot with burn := some (8, BitVec.ofNat 1600 (resp <<< 1280)) } } : State).put F.FLOOR_CMD.BUSY 1)

/-- HEALTH_KICK (R439). -/
def execHealthKick (s : State) : Res := if s.regsOpen then .next (s.setAlarm { s.alarm with kicked := true }) else .next s

/-- HEALTH_KICK_EXPIRY (R439). -/
def execHealthKickExpiry (s : State) : Res := .next (s.setAlarm { s.alarm with kicked := false })

/-- ALARM_N as driven (Table 18.7): true for low. -/
def State.alarmLow (s : State) : Bool :=
  match s.op with
  | .off => false
  | .battery => s.bat.status != 0
  | .fault => true
  | _ => s.bat.status != 0 || s.bat.latch != 0

end Sys2Proof.Machine
end

