-- ==== Sys2Proof/Machine/Memory.lean ====
section
/-!
DEFINITION. The stacked memory: regions, integrity tree, errors, scrubbing, Skim and Strip passes, raw access
(spec/15_stacked_memory.md, R345 to R372) and the memory cipher cores (R181).
-/
namespace Sys2Proof.Machine

/-! ### Lines and regions (R345 to R349) -/

/-- The address of a line. -/
def lineAddr (l : Nat) : Nat := 64 * l

/-- First line of region `k`. -/
def State.rgnBase (s : State) (k : Nat) : Nat := s.fld (F.MEM_RGN_POS.BASE k) * 2 ^ 14

/-- Number of lines of region `k`. -/
def State.rgnSize (s : State) (k : Nat) : Nat := s.fld (F.MEM_RGN_POS.SIZE k) * 2 ^ 14

/-- The region of a line. -/
def State.region (s : State) (l : Nat) : Option Nat :=
  firstBelow (fun k => decide (s.rgnBase k ≤ l) && decide (l < s.rgnBase k + s.rgnSize k)) 9

/-- The class of region `k`: 0 C, 1 T, 2 S, 3 none (Table 15.18). -/
def State.rgnClass (s : State) (k : Nat) : Nat := s.fld (F.MEM_RGN_ATTR.CLASS k)

/-- Line numbers of Table 15.3: the tree covers the lines below this one, where its own region begins. -/
def treeBase : Nat := 0x0A000000 / 64

/-- The number of tree nodes of levels 1 and 2, and of all levels (Table 15.3). -/
def level2First : Nat := 81920
def level3First : Nat := 84480
def nodeCount : Nat := 84560

/-- The line tagged by tag `n` (R349). -/
def State.taggedLine (s : State) (n : Nat) : Nat := if n < s.rgnBase 5 then n else n + s.rgnSize 5

/-! ### Poison (R357) -/

/-- Add the range [lo, hi) to a list of ranges in rising order. -/
def rangeAdd (lo hi : Nat) : List (Nat × Nat) → List (Nat × Nat)
  | [] => if lo < hi then [(lo, hi)] else []
  | (a, b) :: t =>
    if hi < a then (if lo < hi then (lo, hi) :: (a, b) :: t else (a, b) :: t)
    else if b < lo then (a, b) :: rangeAdd lo hi t
    else rangeAdd (min lo a) (max hi b) t

/-- A poisoned line. -/
def State.poisoned (s : State) (l : Nat) : Bool := s.mem.poison.any (fun (a, b) => decide (a ≤ l) && decide (l < b))

/-- Poison the lines [lo, hi). -/
def State.poison (s : State) (lo hi : Nat) : State := s.setMem { s.mem with poison := rangeAdd lo hi s.mem.poison }

/-! ### Events (R371) -/

/-- An occurrence with a line or node address: MEM_ERR_ADDR, the summary bit, and, for the kinds of R371 and at most 1,000
times a second, a record of its own. -/
def State.memOccur (s : State) (b addr v1 : Nat) : State :=
  let s1 := ((s.put F.MEM_ERR_ADDR_LO.ADDR (addr / 64)).put F.MEM_ERR_ADDR_HI.ADDR (addr / 2 ^ 32)).memEvent b addr
  let sec := s.cyc / 1500000000 + 1
  let n := if Tbl.atN s.mem.postedAt b = sec then Tbl.atN s.mem.posted b else 0
  if n < 1000 then
    (s1.setMem { s1.mem with posted := Tbl.setN s1.mem.posted b (n + 1), postedAt := Tbl.setN s1.mem.postedAt b sec }).record
      0x0D b 0 addr v1 0
  else s1

/-! ### What a poisoned data line holds (R360) -/

/-- A DRAM line of the STAT region is written with zeros: the statistics it held start again, or its entries of a snapshot's
shadow are lost (R360, R471). Line i holds statistics 8i to 8i + 7; shadow bank b is at line 4,096 (b + 1). -/
def State.zeroStatLine (s : State) (i : Nat) : State :=
  if i < 768 then
    { s with perf := { s.perf with stat := (List.range 8).foldl (fun t j => Tbl.setN t (8 * i + j) 0) s.perf.stat } }
  else
    let b := i / 4096 - 1
    match Tbl.getD (fun _ => none) s.perf.bank b with
    | some x =>
      let bank := Tbl.setD (fun _ => none) s.perf.bank b (some { x with poison := addOnce x.poison (i % 4096) })
      if 4096 ≤ i && decide (b < 2) && decide (i % 4096 < 2050) then { s with perf := { s.perf with bank := bank } } else s
    | none => s

/-- The snapshot staged for a dump is lost (R360, R468). -/
def State.loseStaged (s : State) : State :=
  match firstBelow (fun b => match Tbl.getD (fun _ => none) s.perf.bank b with | some x => !x.dumped | none => false) 2 with
  | some b =>
    match Tbl.getD (fun _ => none) s.perf.bank b with
    | some x =>
      let s1 : State := { s with perf := { s.perf with
        bank := Tbl.setD (fun _ => none) s.perf.bank b (some { x with dumped := true }), dumpLost := true } }
      (s1.blk 40).perfEvent 2
    | none => s
  | none => s

/-- The data lines [lo, hi) of one region are poisoned: R360. A resident context or slot is written back whole, a FREE context
is rewritten as zeros (R149); the rest of the contents is quarantined, zeroed or alarmed by region. -/
def State.poisonData (s : State) (k lo hi : Nat) : State :=
  let rel := lo - s.rgnBase k
  let len := hi - lo
  if k = 1 then
    let ns := (s.ctx.ctx.filter (fun e => decide (rel < 4 * e.1 + 4) && decide (4 * e.1 < rel + len) && isF e.2 C.valid)).map (·.1)
    let resident (n : Nat) : Bool := (List.range 12).any (fun g => (s.cached g).contains n)
    s.each (ns.filter (fun n => !resident n)) (fun n t =>
      (t.poison (max lo (s.rgnBase k + 4 * n)) (min hi (s.rgnBase k + 4 * n + 4))).quarantine n 0)
  else if k = 2 then
    let ns := (s.key.slots.filter (fun e => decide (rel ≤ e.1) && decide (e.1 < rel + len) && decide (e.1 < 262144))).map (·.1)
    s.each (ns.filter (fun n => !s.slotResident n)) (fun n t =>
      (t.poison (s.rgnBase k + n) (s.rgnBase k + n + 1)).quarSlot n)
  else if k = 0 || k = 3 then (s.poison lo hi).raise 20 (lineAddr lo)
  else if k = 6 then s.each (List.range len) (fun j t => t.zeroStatLine (rel + j))
  else if k = 7 then (s.poison lo hi).loseStaged
  else s.poison lo hi

/-! ### Tree nodes (R350 to R353, R359) -/

/-- The parent of a node of level 1 or 2. -/
def nodeParent (n : Nat) : Option Nat :=
  if n < level2First then some (level2First + n / 32)
  else if n < level3First then some (level3First + (n - level2First) / 32) else none

/-- The place of a node among its parent's children. -/
def nodeChild (n : Nat) : Nat := if n < level2First then n % 32 else (n - level2First) % 32

/-- The level of a node. -/
def nodeLevel (n : Nat) : Nat := if n < level2First then 1 else if n < level3First then 2 else 3

/-- The address of a node (Table 15.3). -/
def nodeAddr (n : Nat) : Nat := 0x0A000000 + 64 * n

/-- The lines under a node: the first and the number. -/
def nodeCover (n : Nat) : Nat × Nat :=
  if n < level2First then (32 * n, 32)
  else if n < level3First then (1024 * (n - level2First), 1024) else (32768 * (n - level3First), 32768)

/-- A node is in the cache: every level-3 node, and those of the list (R352). -/
def State.nodeCached (s : State) (n : Nat) : Bool := decide (level3First ≤ n) || s.mem.cached.contains n

/-- A line lies under a lost node that is not yet rebuilt: its accesses wait (R359). -/
def State.waitsRebuild (s : State) (l : Nat) : Bool :=
  s.mem.lost.any (fun n => decide ((nodeCover n).1 ≤ l) && decide (l < (nodeCover n).1 + (nodeCover n).2))

/-- A node enters the cache or becomes its most recently used one. The cache holds 2,048 nodes, the 80 of level 3 among
them; a node that leaves is written to DRAM when it is dirty (R352). -/
def State.nodeTouch (s : State) (n : Nat) (dirty : Bool) : State :=
  if level3First ≤ n then s
  else
    let l := (n :: s.mem.cached.filter (· != n))
    let kept := l.take 1968
    let d := if dirty then addOnce s.mem.dirty n else s.mem.dirty
    s.setMem { s.mem with cached := kept, dirty := d.filter (fun m => kept.contains m) }

/-- Walk from a node towards level 3, up to a node in the cache (R352), counting hits and misses (Table 20.2). -/
def State.walk (s : State) (n : Nat) : Nat → State
  | 0 => s
  | fuel + 1 =>
    if s.nodeCached n then (s.nodeTouch n false).count 0x696
    else
      let s1 := s.count 0x697
      match nodeParent n with
      | some p => (s1.walk p fuel).nodeTouch n false
      | none => s1

/-- The minor counter of a child. -/
def minorOf (w : BitVec 304) (c : Nat) : Nat := getF w ⟨8 * c + 7, 8 * c⟩

/-- MAJOR. -/
def majorOf (w : BitVec 304) : Nat := getF w ⟨303, 256⟩

/-- A node after the write of child `c`: its minor advances, or, at 255, MAJOR advances and every minor is 0, a rebase
(R351); none where MAJOR would pass its maximum (R353). -/
def bumpNode (w : BitVec 304) (c : Nat) : Option (BitVec 304) :=
  if minorOf w c < 255 then some (putF w ⟨8 * c + 7, 8 * c⟩ (minorOf w c + 1))
  else if majorOf w < 2 ^ 48 - 1 then some (BitVec.ofNat 304 ((majorOf w + 1) * 2 ^ 256))
  else none

/-- Child `c` of node `n` has been written: the node changes, and its parent records that change in the same way, up to the
root (R351). None, with the node at its limit, where R353 refuses the write. -/
def State.bump (s : State) (n c : Nat) : Nat → Except Nat State
  | 0 => .error n
  | fuel + 1 =>
    let w := Tbl.at0 s.mem.nodes n
    match bumpNode w c with
    | none => .error n
    | some w' =>
      let s1 := s.setMem { s.mem with nodes := Tbl.set0 s.mem.nodes n w', majorHigh := max s.mem.majorHigh (majorOf w') }
      let s2 := (s1.when (decide (majorOf w < majorOf w')) (fun t => t.count 0x695)).nodeTouch n true
      match nodeParent n with
      | some p => s2.bump p (nodeChild n) fuel
      | none =>
        let r := Tbl.atN s2.mem.root (n - level3First)
        if r < 2 ^ 56 - 1 then .ok (s2.setMem { s2.mem with root := Tbl.setN s2.mem.root (n - level3First) (r + 1) })
        else .error n

/-- A MAJOR or root counter stands at its limit: MAJOR_LIMIT and the MEM_INTEGRITY alarm (R353). -/
def State.majorLimit (s : State) (n : Nat) : State := (s.memEvent 7 (nodeAddr n)).raise 10 (nodeAddr n)

/-- A tree node is found uncorrectable or forged: it is lost, unless the cache holds a verified copy, which is written back
(R359). -/
def State.loseNode (s : State) (n : Nat) : State :=
  if s.nodeCached n then s.setMem { s.mem with dirty := s.mem.dirty.filter (· != n) }
  else s.setMem { s.mem with lost := addOnce s.mem.lost n }

/-- The nodes below and including a node. -/
def nodesUnder (n : Nat) : List Nat :=
  if n < level2First then [n]
  else if n < level3First then n :: (List.range 32).map (fun i => 32 * (n - level2First) + i)
  else
    let j := n - level3First
    n :: ((List.range 32).map (fun i => level2First + 32 * j + i) ++ (List.range 1024).map (fun i => 1024 * j + i))

/-- NODE_REBUILD_DONE (R359): the node and every node below it take MAJOR_HIGH + 1 and zero minors, the parent records the
write, the data lines are poisoned and handled (R360), and the loss is counted and posted with the level in VALUE1. -/
def execNodeRebuildDone (n : Nat) (s : State) : Res :=
  if !s.mem.lost.contains n then .next s
  else if 2 ^ 48 - 1 ≤ s.mem.majorHigh then .next (s.majorLimit n)
  else
    let m := s.mem.majorHigh + 1
    let w : BitVec 304 := BitVec.ofNat 304 (m * 2 ^ 256)
    let all := nodesUnder n
    let s1 := s.setMem { s.mem with
      nodes := all.foldl (fun t i => Tbl.set0 t i w) s.mem.nodes, majorHigh := m,
      cached := s.mem.cached.filter (fun i => !all.contains i), dirty := s.mem.dirty.filter (fun i => !all.contains i),
      lost := s.mem.lost.filter (fun i => !all.contains i) }
    let s2 := match nodeParent n with
      | some p => (match s1.bump p (nodeChild n) 3 with | .ok t => t | .error e => s1.majorLimit e)
      | none =>
        let r := Tbl.atN s1.mem.root (n - level3First)
        if r < 2 ^ 56 - 1 then s1.setMem { s1.mem with root := Tbl.setN s1.mem.root (n - level3First) (r + 1) }
        else s1.majorLimit n
    let (lo, len) := nodeCover n
    let s3 := match s2.region lo with
      | some k => s2.poisonData k lo (lo + len)
      | none => s2
    .next ((s3.blk 35).memOccur 4 (nodeAddr n) (nodeLevel n))

/-! ### Access rights (R369, R370) -/

/-- Whether a requester reaches a region (Table 15.10). The firmware region takes writes only in LOAD, and is read after the
image verifies; debug access needs the open debug port and MEMDBG (R420, R421). -/
def State.reaches (s : State) (r : Requester) (k : Nat) (write : Bool) : Bool :=
  match r with
  | .contexts => k = 1
  | .keyStore => k = 2
  | .gheor =>
    if k = 0 then (if write then s.op = .load else decide (4 ≤ s.op.code))
    else k = 3 || k = 6 || k = 7
  | .deepBuffer => k = 8
  | .dump => k = 6 || k = 7
  | .hostPf1 => k = 6 && !write
  | .hostOther => false
  | .debug => !write && (k = 6 || k = 7 || k = 8) && s.on F.BOOT_STATUS.DEBUG_OPEN && natBit s.debugRights 2
  | .skim => k ≠ 5
  | .scrubber => true

/-- A refused access: an error completion; by a host or debug master also ACCESS_REFUSED (R369). -/
def State.accessRefused (s : State) (r : Requester) (l : Nat) : State :=
  let s1 := s.emit (.memory r l none)
  s1.when (r = .hostPf1 || r = .hostOther || r = .debug) (fun t => t.memOccur 8 (lineAddr l) 0)

/-- Whether an access waits: a Strip pass holds regions 5 to 8 (R347), a rebuild the lines under its node (R359). -/
def State.accessWaits (s : State) (k l : Nat) : Bool := (s.on F.MEM_STATUS.STRIP_BUSY && decide (5 ≤ k)) || s.waitsRebuild l

/-! ### Errors found by a read (R356, Table 15.6) -/

/-- A data line of region `k` fails: an uncorrectable error or a failing tag. Class C lines are not poisoned; the deep buffer
discards the frame (R364). -/
def State.badData (s : State) (k l : Nat) (tag : Bool) : State :=
  let a := lineAddr l
  let c := s.rgnClass k
  if tag then
    if c = 0 then s
    else (((s.blk 32).memOccur 2 a 0).poisonData k l (l + 1)).when (c = 2) (fun t => t.raise 10 a)
  else
    let s1 := (s.blk 31).memOccur 1 a 0
    if c = 0 then s1 else s1.poisonData k l (l + 1)

/-- A tree node fails (Table 15.6). -/
def State.badNode (s : State) (n : Nat) (tag : Bool) : State :=
  let a := nodeAddr n
  if tag then ((((s.blk 32).memOccur 2 a 0).loseNode n).raise 10 a)
  else ((s.blk 31).memOccur 1 a 0).loseNode n

/-- A tag line is uncorrectable: each of its eight lines is poisoned as a data line, and a node among them is lost. -/
def State.badTags (s : State) (l : Nat) : State :=
  let t := l - s.rgnBase 5
  ((s.blk 31).memOccur 1 (lineAddr l) 0).each ((List.range 8).map (fun i => s.taggedLine (8 * t + i))) (fun d u =>
    match u.region d with
    | some k =>
      if k = 4 then (if d - treeBase < nodeCount then u.loseNode (d - treeBase) else u)
      else if u.rgnClass k = 0 then u else u.poisonData k d (d + 1)
    | none => u)

/-- A line as its requester sees it: context images and the lines whose contents this model keeps. -/
def State.lineBytes (s : State) (k l : Nat) : List Byte :=
  if k = 1 then
    let i := l - s.rgnBase 1
    leBytes 64 ((s.ctxImage (i / 4)).toNat >>> (512 * (i % 4)))
  else if k = 6 then
    let i := l - s.rgnBase 6
    if i < 768 then (List.range 8).flatMap (fun j => leBytes 8 (Tbl.atN s.perf.stat (8 * i + j))) else []
  else if k = 0 || k = 3 || k = 7 || k = 8 then leBytes 64 (Tbl.at0 s.mem.data l).toNat
  else []

/-- A read of a data line (R348, R352, R356, R357). -/
def State.readData (s : State) (k : Nat) (m : MemRead) : State :=
  let l := m.line
  let s1 := (s.when (s.rgnClass k == 2 && decide (l < treeBase)) (fun t => t.walk (l / 32) 3)).count (0x690 + s.rgnClass k)
  if s.mem.raw && s.on (F.MEM_RGN_ATTR.PRIV k) then s1.emit (.memory m.requester l none)
  else if s.poisoned l then ((s1.blk 33).memEvent 0 (lineAddr l)).emit (.memory m.requester l none)
  else
    match m.outcome with
    | .clean => s1.emit (.memory m.requester l (some (s.lineBytes k l)))
    | .corrected => (s1.blk 30).emit (.memory m.requester l (some (s.lineBytes k l)))
    | .uncorrectable => (s1.badData k l false).emit (.memory m.requester l none)
    | .tagFail =>
      if s.rgnClass k = 0 then s1.emit (.memory m.requester l (some (s.lineBytes k l)))
      else (s1.badData k l true).emit (.memory m.requester l none)

/-- A read of a node or of a tag line, by the memory controller or the scrubber. -/
def State.readMeta (s : State) (k : Nat) (m : MemRead) : State :=
  if k = 4 then
    let n := m.line - treeBase
    let s1 := s.count 0x692
    if nodeCount ≤ n then s1
    else
      match m.outcome with
      | .clean => s1.nodeTouch n false
      | .corrected => (s1.blk 30).nodeTouch n false
      | .uncorrectable => s1.badNode n false
      | .tagFail => s1.badNode n true
  else
    match m.outcome with
    | .uncorrectable => s.badTags m.line
    | .corrected => s.blk 30
    | _ => s

/-- A read of a line of region `k`. -/
def State.readLine (s : State) (k : Nat) (m : MemRead) : State :=
  if k = 4 || k = 5 then s.readMeta k m else s.readData k m

/-- MEM_READ_DONE (R348, R356). The memory controller itself reads node and tag lines with the lines they serve (R349, R352):
a requester's read of one stands for that read, since no path returns them (R369). -/
def execMemReadDone (m : MemRead) (s : State) : Res :=
  match s.region m.line with
  | none => .fault (.noSuchObject "line")
  | some k =>
    if k ≠ 4 && k ≠ 5 && !s.reaches m.requester k false then .next (s.accessRefused m.requester m.line)
    else if (k = 4 || k = 5) && (m.requester = .debug || m.requester = .hostPf1 || m.requester = .hostOther) then
      .next (s.accessRefused m.requester m.line)
    else if s.accessWaits k m.line then .next s
    else .next (s.readLine k m)

/-- SCRUB_READ (R362): as any requester's read; a node whose dirty copy is in the cache is skipped. -/
def execScrubRead (m : MemRead) (s : State) : Res :=
  match s.region m.line with
  | none => .fault (.noSuchObject "line")
  | some k =>
    if k = 4 && s.mem.dirty.contains (m.line - treeBase) then .next s
    else if s.accessWaits k m.line then .next s
    else .next ((s.count 0x699).readLine k { m with requester := .scrubber })

/-! ### Writes (R351, R355 to R358) -/

/-- The line's data with `data` written at `off`. -/
def State.storeLine (s : State) (k : Nat) (w : MemWrite) : State :=
  if k = 0 || k = 3 || k = 7 || k = 8 then
    let old := leBytes 64 (Tbl.at0 s.mem.data w.line).toNat
    let new_ := padTo 64 (overwrite old w.off w.data)
    s.setMem { s.mem with data := Tbl.set0 s.mem.data w.line (BitVec.ofNat 512 (leNat new_)) }
  else s

/-- Store a line under its next version, and clear its poison. -/
def State.writeLine (s : State) (k : Nat) (w : MemWrite) : State :=
  let l := w.line
  if s.rgnClass k = 2 then
    match (s.walk (l / 32) 3).bump (l / 32) (l % 32) 3 with
    | .ok t => (t.storeLine k w).unpoison l (l + 1)
    | .error n => (s.majorLimit n).emit (.memory w.requester l none)
  else (s.storeLine k w).unpoison l (l + 1)

/-- MEM_LINE_WRITE (R351, R355 to R358). A partial write reads, verifies and merges; one that meets poison, a failing tag or
an uncorrectable line is refused. -/
def execMemLineWrite (w : MemWrite) (s : State) : Res :=
  match s.region w.line with
  | none => .fault (.noSuchObject "line")
  | some k =>
    let l := w.line
    let full := w.off = 0 && decide (64 ≤ w.data.length)
    let merge (t : State) : State := (t.blk 34).memOccur 3 (lineAddr l) 0
    if k = 4 || k = 5 || !s.reaches w.requester k true then .next (s.accessRefused w.requester l)
    else if s.accessWaits k l then .next s
    else if s.mem.raw && s.on (F.MEM_RGN_ATTR.PRIV k) then .next (s.emit (.memory w.requester l none))
    else if full then .next ((s.count 0x693).writeLine k w)
    else
      let s1 := s.count 0x694
      if s.poisoned l then .next ((merge ((s1.blk 33).memEvent 0 (lineAddr l))).emit (.memory w.requester l none))
      else
        match w.outcome with
        | .clean => .next (s1.writeLine k w)
        | .corrected => .next ((s1.blk 30).writeLine k w)
        | .uncorrectable =>
          .next (((s1.badData k l false).when (s.rgnClass k != 0) merge).emit (.memory w.requester l none))
        | .tagFail =>
          if s.rgnClass k = 0 then .next (s1.writeLine k w)
          else .next ((merge (s1.badData k l true)).emit (.memory w.requester l none))

/-! ### The root, the sensor, the cipher cores -/

/-- MEM_ROOT_ERROR (R361): the tree is unusable; MEM_ROOT, whose response always includes PURGE. -/
def execMemRootError (k : Fin 80) (s : State) : Res :=
  .next ((s.setMem { s.mem with rootBad := true }).raise 11 (nodeAddr (level3First + k.val)))

/-- STACK_TEMP_CHANGE (R345). -/
def execStackTempChange (hot : Bool) (s : State) : Res :=
  if s.on F.MEM_STATUS.HOT = hot then .next s
  else .next ((s.put F.MEM_STATUS.HOT (b2n hot)).memEvent 5 0)

/-- MCU_CORE_FAULT (R181): a FAULT-class alarm, and the line in flight is treated as one whose tag failed. -/
def execMcuCoreFault (k : Fin 4) (line : Nat) (s : State) : Res :=
  let s1 := s.put F.MCU_STATUS.CORE_OK (natClr (s.fld F.MCU_STATUS.CORE_OK) k.val)
  let s2 := match s1.region line with
    | some r => if r = 4 then (if line - treeBase < nodeCount then s1.badNode (line - treeBase) true else s1)
      else if r = 5 then s1 else s1.badData r line true
    | none => s1
  .next (s2.raise 18 k.val)

/-! ### Key IDs, Skim and Strip passes (R365 to R368) -/

/-- The key IDs that regions hold, a running pass's new ones included. -/
def State.heldIds (s : State) : List Nat :=
  ((List.range 9).filter (· != 5)).map (fun k => s.fld (F.MEM_RGN_ATTR.KEY_ID k)) ++
    (match s.mem.skim with | some x => x.ids.map (·.2) | none => [])

/-- The free key IDs, lowest first (R365). -/
def State.freeIds (s : State) : List Nat := allBelow (fun i => !s.heldIds.contains i) 16

/-- FREE_IDS follows. -/
def State.idGauge (s : State) : State := s.put F.MEM_STATUS.FREE_IDS s.freeIds.length

/-- Load or zero the key set of a key ID (R179). -/
def State.keySet (s : State) (i : Nat) (on : Bool) : State :=
  let v := s.fld F.MCU_STATUS.KEYSET_VALID
  s.put F.MCU_STATUS.KEYSET_VALID (if on then natSet v i else natClr v i)

/-- A write of a refused value to a memory register (R372). -/
def State.memRefused (s : State) : State := s.memEvent 10 0

/-- SKIM_START (R365): a write of MEM_SKIM_CTL. Each selected region gets the lowest free key ID in region order, with its
next generation. -/
def execSkimStart (v : Word) (s : State) : Res :=
  if !s.regsOpen then .next s
  else
    let mask := natBits v.toNat 8 0
    let regions := allBelow (fun k => mask.testBit k) 9
    let start := natBit v.toNat 31
    let bad := mask.testBit 5 || (start && (s.on F.MEM_STATUS.SKIM_BUSY || s.on F.MEM_STATUS.STRIP_BUSY || mask = 0 ||
      decide (s.freeIds.length < regions.length) || s.alarm.stopped.testBit 4))
    if bad then .next s.memRefused
    else
      let s1 := (s.put F.MEM_SKIM_CTL.RATE (natBits v.toNat 26 24)).put F.MEM_SKIM_CTL.MASK mask
      if !start then .next s1
      else
        let ids := regions.zip s.freeIds
        let s2 := s1.each ids (fun (_, i) t =>
          (t.keySet i true).setMem { t.mem with gen := Tbl.setN t.mem.gen i (Tbl.atN t.mem.gen i + 1) })
        let s3 := s2.setMem { s2.mem with skim := some ⟨ids, false⟩ }
        .next (((s3.put F.MEM_STATUS.SKIM_BUSY 1).put F.MEM_SKIM_LINE.LINE 0).idGauge)

/-- The next group of a pass: the first group of 32 lines at or after line `l` in a selected region, with that region and its
new key ID. Lines outside the selected regions are passed over. -/
def State.skimNext (s : State) (ids : List (Nat × Nat)) (l : Nat) : Option (Nat × Nat × Nat) :=
  match ids.find? (fun (k, _) => decide (l < s.rgnBase k + s.rgnSize k)) with
  | some (k, i) => some (max l (s.rgnBase k), k, i)
  | none => none

/-- SKIM_GROUP_MOVE (R366): one group moves under the new key ID. At a region's end the region takes it and the old one is
retired; at the last, the pass ends. -/
def execSkimGroupMove (s : State) : Res :=
  match s.mem.skim with
  | none => .next s
  | some x =>
    if x.stopped || s.alarm.stopped.testBit 4 then .next s
    else
      match s.skimNext x.ids (s.fld F.MEM_SKIM_LINE.LINE) with
      | none => .next s
      | some (l, k, i) =>
        if s.accessWaits k l then .next s
        else
          let lines := (List.range 32).map (l + ·)
          let s1 := s.each lines (fun a t =>
            (t.when (t.poisoned a) (fun u => (u.blk 33).memEvent 0 (lineAddr a))).count (0x690 + t.rgnClass k))
          let s2 := (s1.each lines (fun _ t => t.count 0x693)).count 0x698
          let s3 := s2.put F.MEM_SKIM_LINE.LINE (l + 32)
          if l + 32 < s.rgnBase k + s.rgnSize k then .next s3
          else
            let s4 := ((s3.keySet (s.fld (F.MEM_RGN_ATTR.KEY_ID k)) false).put (F.MEM_RGN_ATTR.KEY_ID k) i)
            let rest := x.ids.filter (fun e => e.1 != k)
            if rest.isEmpty then
              let s5 := s4.setMem { s4.mem with skim := none }
              .next ((((s5.put F.MEM_STATUS.SKIM_BUSY 0).put F.MEM_SKIM_LINE.LINE 0).idGauge).memEvent 6 0)
            else .next ((s4.setMem { s4.mem with skim := some { x with ids := rest } }).idGauge)

/-- STRIP_DONE (R368). -/
def execStripDone (s : State) : Res :=
  if s.on F.MEM_STATUS.STRIP_BUSY then
    .next (({ s with boot := { s.boot with stripDone := true } } : State).put F.MEM_STATUS.STRIP_BUSY 0)
  else .next s

/-- DBUF_T_WRITE (R347): a write of MEM_CFG. A change relocates regions 5 to 8 and starts a Strip pass of them: their lines
hold zeros, and the statistics and snapshots that STAT backs are gone. -/
def execDbufTWrite (v : Word) (s : State) : Res :=
  let t := natBit v.toNat 31
  if s.inSetup then
    if !t && s.fuse 136 136 = 1 then .next s.memRefused
    else if t = s.on F.MEM_CFG.DBUF_T then .next s
    else
      let s1 := (s.put F.MEM_CFG.DBUF_T (b2n t)).put F.MEM_STATUS.STRIP_BUSY 1
      let ids := (List.range 4).map (fun j => s.fld (F.MEM_RGN_ATTR.KEY_ID (5 + j)))
      let s2 : State := { s1 with regs := memLayout t s1.regs }
      let s3 := s2.each ((List.range 4).zip ids) (fun (j, i) u => u.put (F.MEM_RGN_ATTR.KEY_ID (5 + j)) i)
      let s4 := s3.each (List.range 5) (fun k u => u.put (F.MEM_RGN_ATTR.KEY_ID k) (s.fld (F.MEM_RGN_ATTR.KEY_ID k)))
      let cut := s.rgnBase 5
      .next { (s4.setMem { s4.mem with
          data := s4.mem.data.filter (fun e => decide (e.1 < cut)), poison := rangeDel cut (2 ^ 28) s4.mem.poison }) with
        perf := { s4.perf with stat := [], bank := [], view := none, writing := none } }
  else .next (s.lockWrite (t ≠ s.on F.MEM_CFG.DBUF_T))

/-! ### Raw debug access (R370) -/

/-- The steps before the first raw access. -/
def State.firstRaw (s : State) : State :=
  let ids := (List.range 5).map (fun k => s.fld (F.MEM_RGN_ATTR.KEY_ID k)) ++
    (match s.mem.skim with | some x => (x.ids.filter (fun e => decide (e.1 < 5))).map (·.2) | none => [])
  let s1 := s.each ids (fun i t => t.keySet i false)
  let s2 := s1.setMem { s1.mem with raw := true, skim := s1.mem.skim.map (fun x => { x with stopped := true }) }
  let s3 := if s2.op = .run || s2.op = .setup || s2.op = .load then s2.enterHold else s2
  s3.memEvent 9 0

/-- RAW_DEBUG_ACCESS (R369, R370): granted while the debug port is open and DEBUG_POLICY grants RAWMEM (R420, R421), read
only; what it returns is ciphertext, a free value of the model. -/
def execRawDebugAccess (a : RawAccess) (s : State) : Res :=
  match s.region a.line with
  | none => .fault (.noSuchObject "line")
  | some _ =>
    if a.write.isSome || !(s.on F.BOOT_STATUS.DEBUG_OPEN && natBit s.debugRights 3) then
      .next (s.accessRefused .debug a.line)
    else
      let s1 := if s.mem.raw then s else s.firstRaw
      let (v, s2) := s1.draw 512
      .next (s2.emit (.memory .debug a.line (some (leBytes 64 v.toNat))))

end Sys2Proof.Machine
end

