-- ==== Sys2Proof/Machine/Receive.lean ====
section
/-!
DEFINITION. The path of a received frame (spec/01_architecture.md, R17 to R21; spec/02_ports_and_mac.md, R34 to R36, R46;
spec/03_forwarding.md; Tables 4.6 and 5.3; spec/08_wet_edge.md): head, context and key, wet, forwarding, end, verdict.
-/
namespace Sys2Proof.Machine

/-! ### The head of a frame -/

/-- A frame as the parser first sees it. -/
def FrameRec.new (id port : Nat) (bytes : List Byte) (express : Bool) (at_ : Nat) : FrameRec where
  id := id
  port := port
  bytes := bytes
  express := express
  sec := at_ / 1000000000
  ns := at_ % 1000000000
  vid := 0
  pcp := 0
  handle := none
  guard := .clear
  drop := none
  uncontrolled := false
  trap := false
  reserved := false
  waitCtx := none
  waitKey := none
  charge := none
  contract := none
  nonconf := none
  later := []
  laterEv := []
  window := false
  seq := none
  passed := true
  restart := false
  held := false
  wet := false
  looked := false
  decided := false
  fdbTrap := false
  ended := none
  plain := []
  secured := 0
  tagOk := false
  fault := false
  lost := false
  asm := 0
  verdict := none

/-- The ingress timestamp in nanoseconds. -/
def FrameRec.inAt (f : FrameRec) : Nat := f.sec * 1000000000 + f.ns

/-- The calibrated ingress delay of a port, at most the maximum of Table 2.3. -/
def State.inDelay (s : State) (p : Nat) : Nat := min (Config.ingressDelay p).toNat (s.inLat p)

/-- The calibrated egress delay of a port, at most the maximum of Table 2.3. -/
def State.outDelay (s : State) (p : Nat) : Nat := min (Config.egressDelay p).toNat (s.outLat p)

/-- A MAC control frame (R36). -/
def FrameRec.macCtrl (f : FrameRec) : Bool := type16 f.bytes 12 == 0x8808

/-- An uncontrolled frame of a CIPHER port (check 2 of Table 4.6). -/
def State.isUncontrolled (s : State) (p : Nat) (bs : List Byte) : Bool :=
  let t := type16 bs (12 + 4 * (clearTags bs).1)
  s.cipher p && (t == 0x888E || (t == 0x88CC && s.on (F.SECY_CFG.UNCTRL_LLDP p)))

/-- The RSV_ACTION of a destination address (R56): 0 for an address that is not reserved. -/
def State.rsvAction (s : State) (bs : List Byte) : Nat :=
  let d := beAt bs 0 6
  if d / 16 = 0x0180C200000 then natBits (s.fld F.RSV_ACTION.ACTION) (2 * (d % 16) + 1) (2 * (d % 16)) else 0

/-- The stream entry of a frame; zero without a handle. -/
def State.streamOf (s : State) (f : FrameRec) : BitVec 256 := match f.handle with | some h => s.streamAt h | none => 0

/-- A stream entry with a verify direction, and its profile. -/
def verifyProfile (e : BitVec 256) : Option Nat :=
  if getF e E.strProfile ≠ 0 && getF e E.strProfDir < 2 then some (getF e E.strProfile) else none

/-- The arrival window of a contract that holds an instant, by its number since time 0 (R264). -/
def arrivalWindow (w : BitVec 1024) (t : Nat) : Option Nat :=
  let period := getF w V.period
  let n := getF w V.count
  let o := t % period
  ((List.range n).find? (fun i =>
    let lo := getF w V.arrOfs + i * period / n
    decide (lo ≤ o) && decide (o < lo + getF w V.arrJit))).map (fun i => t / period * n + i)

/-- An arrival of a contracted stream counts in its window; whether it is among the first BURST (R271). -/
def State.arrive (s : State) (ct p t : Nat) : State × Bool :=
  let w := s.ctAt ct
  match arrivalWindow w t with
  | none => (s, false)
  | some i =>
    let k := 2 * ct + b2n (decide (getF w V.inPort ≠ p))
    let (j, n) := Tbl.getD (fun _ => ((0, 0) : Nat × Nat)) s.ct.seen k
    let n' := if j = i then n else 0
    ({ s with ct := { s.ct with seen := Tbl.setD (fun _ => (0, 0)) s.ct.seen k (i, n' + 1) } }, decide (n' < getF w V.burst))

/-- The stream filter (R256, R257): a discard, or the charge and what counts at the verdict. -/
def State.filter (s : State) (f : FrameRec) : State × FrameRec :=
  let e := s.streamOf f
  let k := getF e E.strFilter
  let x := s.fltAt k
  let len := f.bytes.length + 4
  if k = 0 || !isF x L.valid then (s, f)
  else
    let f := { f with later := f.later ++ [.flt k 0] }
    let pass (g : FrameRec) := { g with later := g.later ++ [.flt k 1] }
    if getF x L.maxSdu ≠ 0 && getF x L.maxSdu < len then
      (if isF x L.blockEn then s.setFlt { s.flt with flt := Tbl.set0 s.flt.flt k (putF x L.blocked 1) } else s,
       { f with drop := some (.flt k 2) })
    else if isF x L.blocked then (s, { f with drop := some (.flt k 3) })
    else if !isF x L.meterEn then (s, pass f)
    else
      let m := getF x L.meter
      match s.colour m len with
      | (t, .green) => (t, pass { f with charge := some (m, 0) })
      | (t, .yellow) =>
        if isF (t.mtrAt m) L.dropYellow then (t, { f with charge := some (m, 1), drop := some (.flt k 5) })
        else (t, let g := pass { f with charge := some (m, 1) }; { g with later := g.later ++ [.flt k 6] })
      | (t, .red) =>
        (if isF e E.strContracted then t.ctNonconf (some (getF e E.strContract)) else t,
         { f with charge := some (m, 2), drop := some (.flt k 4) })

/-- Check the keys of an operation (check 8 of Table 4.6, check 5 of Table 5.3): they wait for an unwrap, are refused with
counter `j` of the context, or are usable. -/
def State.checkKeys (s : State) (f : FrameRec) (n j : Nat) (us : List KeyUse) (next : State → FrameRec → State × FrameRec) :
    State × FrameRec :=
  let sl := s.inSlice f.port
  match s.wrapped us with
  | some k => (s.startUnwrap sl k (some f.id), { f with waitCtx := some n, waitKey := some k })
  | none =>
    if us.any s.keyRefuses || !s.pairOk us then (s.keyRefused sl, { f with drop := some (.ctx n j) })
    else next s f

/-- The replay pre-check with counters for late and duplicate, then the filter (R256). -/
def State.preCheck (s : State) (f : FrameRec) (n pn : Nat) (guard : Guard) : State × FrameRec :=
  match (s.replayView n).row pn with
  | .late => (s, { f with drop := some (.ctx n 2) })
  | .duplicate => (s, { f with drop := some (.ctx n 3) })
  | _ => s.filter { f with guard := guard }

/-- A receive SA of the port's SecY that may be used (check 7). -/
def saInUse (w : BitVec 2048) (p : Nat) : Bool :=
  isF w C.valid && ctxKind w == 1 && !isF w C.dir && isF w C.rxEn && !isF w C.mExhausted && getF w C.port == p

/-- A generation that may be used (check 4, check 8 of Table 5.3). -/
def genInUse (w : BitVec 2048) (prof g : Nat) : Bool := profileCtx w prof 0 && genOn w g && !isF w C.pExhausted

/-- Checks 7 to 9 of Table 4.6, or 4 to 6 of Table 5.3, for a frame whose context is at hand. -/
def State.useCtx (s : State) (f : FrameRec) (n : Nat) : State × FrameRec :=
  let w := s.ctxAt n
  if s.cipher f.port then
    if !saInUse w f.port then (s, { f with drop := some (if ctxKind w = 2 then .quiet else .ctx n 5) })
    else
      match secTagAfter (s.fld (F.SECY_CFG.TAGS_IN_CLEAR f.port)) f.bytes with
      | none => (s, f)
      | some o =>
        let t := secTagAt f.bytes o
        let enc := natBit t.tci 3
        let pn := if getF w C.cs < 2 then t.pn else recoverPn (s.replayView n).low t.pn
        s.checkKeys f n 6 [macRxUse w enc] (fun s f => s.preCheck f n pn (.macsec n pn enc))
  else
    let e := s.streamOf f
    let prof := getF e E.strProfile
    let (key, cnt, size) := profileFields prof f.bytes
    match genOf w prof key with
    | none => (s, { f with drop := some (if ctxKind w = 1 then .quiet else .ctx n 4) })
    | some g =>
      if !genInUse w prof g then (s, { f with drop := some (if ctxKind w = 1 then .quiet else .ctx n 4) })
      else
        s.checkKeys f n 5 (verifyUses w prof g size (getF e E.strProfDir == 1)) (fun s f => s.preCheck f n cnt (.profile n g cnt))

/-- The context lookup of a frame (R145, R149). -/
def State.selectCtx (s : State) (f : FrameRec) (n : Nat) : State × FrameRec :=
  let g := f.port / 8
  let sl := s.sliceOf g
  let w := s.ctxAt n
  if isF w C.valid && ctxQuar w then (s, { f with drop := some (.blk (sliceCtr sl 2)) })
  else
    let (s1, hit) := s.lookCtx g n
    if hit then s1.useCtx f n
    else match s1.fetchCtx g n (some f.id) with
      | some t => (t, { f with waitCtx := some n })
      | none => (s1, { f with drop := some (.blk (sliceCtr sl 1)) })

/-- Checks 3 to 6 of Table 4.6 (R102). -/
def State.macHead (s : State) (f : FrameRec) : State × FrameRec :=
  let p := f.port
  let fail (i : Nat) := (s, { f with drop := some (Tally.stat p i) })
  if !s.on (F.SECY_CFG.SECY_EN p) then fail 54
  else match secTagAfter (s.fld (F.SECY_CFG.TAGS_IN_CLEAR p)) f.bytes with
    | none => fail 54
    | some o =>
      let t := secTagAt f.bytes o
      if !t.ok f.bytes.length (s.fld (F.SECY_CFG.CS p)) then fail 55
      else match (s.resolveSci p f.bytes t).bind (fun x => s.scmFind x p) with
        | none => fail (if t.sci.isSome then 56 else 57)
        | some pos => s.selectCtx f (4 * getF (Tbl.at0 s.ctx.scm pos) M.scmIndex + t.tci % 4)

/-- Checks 2 and 3 of Table 5.3 (R120, R122): the first use of a context fixes its owner. -/
def State.profHead (s : State) (f : FrameRec) (prof : Nat) : State × FrameRec :=
  let e := s.streamOf f
  let n := getF e E.strCtx + s.fld (F.PRF_PORT_CFG.PRF_LANE f.port)
  let w := s.ctxAt n
  let g := f.port / 8
  let sl := s.sliceOf g
  if !s.profileForm prof n f.bytes then (s, { f with drop := some (.blk 18) })
  else if !(isF w C.valid && ctxKind w == 2) then s.selectCtx f n
  else if natBit (getF w C.owner) 7 && natBits (getF w C.owner) 3 0 ≠ g then (s, { f with drop := some (.blk 19) })
  else if prof = 3 && decide (1024 ≤ (s.extra sl).length) then (s, { f with drop := some (.blk (sliceCtr sl 5)) })
  else (s.ctxPut n (putF w C.owner (128 + g))).selectCtx f n

/-- The head checks of a frame after classification: MACsec on a CIPHER port, a profile on a PLAIN one, the filter. -/
def State.headChecks (s : State) (f : FrameRec) : State × FrameRec :=
  match s.cipher f.port, verifyProfile (s.streamOf f) with
  | true, some _ => (s, { f with drop := some (.blk 17) })
  | true, none => s.macHead f
  | false, some prof => s.profHead f prof
  | false, none => s.filter f

/-- Parse, classify and identify a frame (R53 to R61), then check its head. -/
def State.head (s : State) (f : FrameRec) : State × FrameRec :=
  let p := f.port
  if f.macCtrl then (s, { f with drop := some .quiet })
  else if s.isUncontrolled p f.bytes then (s, { f with uncontrolled := true })
  else
    let x := parse f.bytes
    let (vid, pcp) := s.vidPcp p f.bytes
    let (h, miss) := s.identify p vid f.bytes x
    let handle := h.bind (fun n => if isF (s.streamAt n) E.strValid then some n else none)
    let act := s.rsvAction f.bytes
    let f1 := { f with vid := vid, pcp := pcp, handle := handle, trap := act == 2, reserved := act == 1 || act == 2,
                       later := (if x.deep then [.blk ClsCtr.parseDepth.idx] else []) ++
                                (if miss then [.blk ClsCtr.psetMiss.idx] else []) }
    if !s.accepts p f.bytes then (s, { f1 with drop := some (.blk ClsCtr.acceptDrop.idx) })
    else if s.on (F.CLS_PORT_CFG.ING_FILTER p) && !s.member vid p then (s, { f1 with drop := some (.blk ClsCtr.ingressDrop.idx) })
    else
      let e := s.streamOf f1
      let ct := getF e E.strContract
      let (s1, ok) := if isF e E.strContracted && s.accepted ct then s.arrive ct p f.inAt else (s, false)
      s1.headChecks { f1 with window := ok }

/-- Put a frame among those the device holds. -/
def State.addFrame (s : State) (f : FrameRec) : State := s.setPath { s.path with frames := s.path.frames ++ [f] }

/-- FRAME_HEAD_RECEIVE (R102): a frame on a port that is UP is parsed and its head checked. The command stands for the first
beat at the ingress parser; the ingress timestamp lies the calibrated delay before it (R236). During a slice reset the frame is
discarded and counted in SLICE_RST_DROP (Table 21.9). -/
def execFrameHeadReceive (h : RxHead) (s : State) : Res :=
  let p := h.port.val
  if !s.txUp p || (s.frame? h.id).isSome then .next s
  else if s.sliceResets p then .next (s.blk (192 + p / 8))
  else
    let s1 := s.count (128 * s.portSlice p + p % 8)
    let f := FrameRec.new h.id p h.bytes h.express (s.now - s.inDelay p)
    let s2 := s1.addFrame f
    let (s3, g) := s2.head f
    .next (s3.setFrame g)

/-! ### Forwarding (R65, R187) -/

/-- The ports of a mask. -/
def portsOf (mask : Nat) : List Nat := allBelow (natBit mask) 96

/-- The result of a destination lookup (Table 3.7). -/
structure Dest where
  ports : List Nat
  later : List Tally := []
  flood : Bool := false
  trap : Bool := false
deriving DecidableEq, Repr

/-- The forwarding key of an address in a frame's filtering database. -/
def State.fdbKey (s : State) (f : FrameRec) (mac : Nat) : Nat := fdbKeyOf (getF (s.vlanAt f.vid) E.vlanFid) mac

/-- The destination of a frame (R56, R65, R133, R235). -/
def State.destOf (s : State) (f : FrameRec) (bc : Bool) : Dest :=
  let e := s.streamOf f
  let group (n : Nat) := portsOf (getF (Tbl.at0 s.cls.mcast n) E.groupMask)
  if f.reserved || bc then ⟨[], [], false, false⟩
  else if isF e E.strFwd || (verifyProfile e == some 3 && getF e E.strProfDir == 1) then ⟨group (getF e E.strDest), [], false, false⟩
  else match s.fdbFind (s.fdbKey f (beAt f.bytes 0 6)) with
    | some pos =>
      let d := s.fdbAt pos
      let trap := isF d E.fdbTrap
      if isF d E.fdbDiscard then ⟨[], [.blk ClsCtr.discard.idx], false, trap⟩
      else if isF d E.fdbGroup then ⟨group (getF d E.fdbDest), [], false, trap⟩
      else ⟨[getF d E.fdbDest], [], false, trap⟩
    | none =>
      if isF e E.strContracted then ⟨[], [.blk ClsCtr.contractMiss.idx], false, false⟩
      else ⟨portsOf (if isF (s.vlanAt f.vid) E.vlanValid then getF (s.vlanAt f.vid) E.vlanMember else 0), [.blk ClsCtr.flood.idx], true, false⟩

/-- A PTP message that an instance in boundary-clock mode takes (R235). -/
def State.ptpTaken (s : State) (p : Nat) (bs : List Byte) : Bool :=
  match s.ptpInst p bs with | some (i, _) => s.fld (F.PTP_INST_CFG.MODE i) == 0 | none => false

/-- The egress ports of a frame (R65): the destination's, without the ingress port, non-members and ports that are not UP. -/
def State.egressSet (s : State) (f : FrameRec) (d : Dest) : List Nat :=
  if s.op = .run || s.op = .hold then
    d.ports.filter (fun p => p != f.port && s.member f.vid p && s.fwdUp p)
  else []

/-- The frame as its egress slices see it: decrypted, stripped, or as it came. -/
def State.bodyOf (s : State) (f : FrameRec) : List Byte :=
  match f.guard with
  | .clear => f.bytes
  | .macsec _ _ _ => f.plain
  | .profile _ _ _ => if getF (s.streamOf f) E.strProfDir = 1 then f.plain else f.bytes

/-- Tunnelled frames that leave without their tunnel keep their inner tags (R133). -/
def State.tunnelled (s : State) (f : FrameRec) : Bool :=
  verifyProfile (s.streamOf f) == some 3 && getF (s.streamOf f) E.strProfDir == 1

/-- The bytes of a copy on an egress port before RedBox tags are inserted: untagged as R65 states, RedBox tags removed
(R284), padded to the minimum frame (R98). -/
def State.copyBytes (s : State) (f : FrameRec) (p : Nat) : List Byte :=
  let b := s.bodyOf f
  let b1 := if s.tunnelled f then b else s.untag f.vid p b
  let b2 := match s.redPair f.port with
    | some (j, _) =>
      let hsr := s.on (F.SRC_PAIR_CFG.ROLE j)
      if (s.redPair p).map (·.1) = some j || !hasRedTag hsr b1 then b1 else redUntag hsr b1
    | none => b1
  b2 ++ List.replicate (60 - b2.length) 0

/-- The class of a copy (R243). -/
def State.classOf (s : State) (f : FrameRec) (p : Nat) : Nat :=
  let e := s.streamOf f
  if isF e E.strTcOvr then getF e E.strTc else s.pcpClass p f.pcp

/-- The lane modes and rates of two ports allow cut-through (R20). -/
def State.rateOk (s : State) (i o : Nat) : Bool := !s.is8b10b i && !s.is8b10b o && decide (rate100k (s.mode o) ≤ rate100k (s.mode i))

/-- The zone pair of two ports is permitted (R186). -/
def State.zoneOk (s : State) (i o : Nat) : Bool :=
  s.on (match s.cipher i, s.cipher o with
    | true, true => F.WET_CFG.C2C | true, false => F.WET_CFG.C2P | false, true => F.WET_CFG.P2C | false, false => F.WET_CFG.P2P)

/-- A stream's recovery mode, when it is recovered. -/
def State.srcMode (s : State) (f : FrameRec) : Option Nat :=
  let e := s.streamOf f
  if isF e E.strSrcEn then some (getF e E.strSrcMode) else none

/-- The egress processing of a copy holds it whole: a checksum before its data (R130 over IPv6), a tunnel (R133), a RedBox tag
to insert or remove (R284). -/
def State.egressHold (s : State) (f : FrameRec) (p : Nat) : Bool :=
  let e := s.streamOf f
  let prof := getF e E.strProfile
  let v6 := match (parse f.bytes).ip with | some h => h.v6 | none => false
  (prof == 2 && getF e E.strProfDir != 0 && v6) || (prof == 3 && getF e E.strProfDir == 2) ||
  (s.redPair p).isSome || (s.redPair f.port).isSome

/-- The whole-frame holds of R187 condition 3 and R279. -/
def State.wholeHold (s : State) (f : FrameRec) (p : Nat) : Bool :=
  f.held || (match s.srcMode f with | some m => m == 2 || s.cipher f.port | none => false) ||
  (ptpAt (s.bodyOf f)).isSome || s.egressHold f p

/-- The tail condition (R188, R189) for a copy whose MAC start is `m`, in units of 1/3 ps: at the shortest ingress frame and
at the contract maximum. -/
def State.tailOk (s : State) (f : FrameRec) (p m : Nat) (c : Copy) (maxLen : Nat) : Bool :=
  let h := f.inAt + s.inDelay f.port
  let shrink : Int := (f.bytes.length + 4 : Nat) - (s.protectedLen p c : Nat)
  let ok (l : Nat) : Bool :=
    let e := (max 64 ((l : Int) - shrink)).toNat
    let leave := m * 3000 + s.linePs p e * 3
    let check := match f.guard with
      | .profile n _ _ =>
        if getF (s.ctxAt n) C.profile = 3 then 56 * 3000 + (18 + 16 * ((l - 4 - 42 + 15) / 16)) * 2000
        else max (82 * 3000) (s.linePs f.port l * 3 + 52 * 3000)
      | _ => max (82 * 3000) (s.linePs f.port l * 3 + 52 * 3000)
    decide (h * 3000 + check + 4000 ≤ leave)
  ok (if s.cipher f.port then 88 else 64) && ok maxLen

/-- The reserved window at MAC start `m` holds the contract maximum (R20). -/
def State.windowHolds (s : State) (p k m : Nat) (c : Copy) (f : FrameRec) (maxLen : Nat) : Bool :=
  let grow : Int := (s.protectedLen p c : Nat) - (f.bytes.length + 4 : Nat)
  let need := s.linePs p (((maxLen : Int) + grow).toNat + 20)
  match s.windowEnd p k windowFuel m with
  | some e => decide (m * 1000 + need ≤ e * 1000)
  | none => true

/-- Count now, or with the frame's verdict or end. -/
def State.countLater (s : State) (f : FrameRec) (t : Tally) : State × FrameRec :=
  if f.verdict.isSome then (s.tally t, f) else (s, { f with later := f.later ++ [t] })

/-- How a copy leaves (R20, R187): wet, cut through, or stored with the counter of Table 8.1 that it takes. -/
inductive CopyPath where
  | wet | cut
  | stored (why : Option Nat)
deriving DecidableEq, Repr

/-- The path of a copy of a frame with a reservation at `m`, in the order of R187. -/
def State.pathOf (s : State) (f : FrameRec) (p k : Nat) (c : Copy) (m : Option Nat) : CopyPath :=
  match f.contract with
  | none => .stored none
  | some ct =>
    let maxLen := getF (s.ctAt ct) V.maxLen
    match f.guard with
    | .clear =>
      match m with
      | some m =>
        if f.ended.isNone && s.rateOk f.port p && !s.egressHold f p && (s.srcMode f).isNone && (ptpAt f.bytes).isNone &&
          s.windowHolds p k m c f maxLen then .cut else .stored none
      | none => .stored none
    | _ =>
      if f.verdict.isSome then .stored none
      else if !s.zoneOk f.port p then .stored (some 9)
      else if !(s.rateOk f.port p) then .stored (some 10)
      else if s.wholeHold f p then .stored (some 11)
      else match m with
        | none => .stored (some 12)
        | some m =>
          if !s.windowHolds p k m c f maxLen then .stored (some 10)
          else if !s.tailOk f p m c maxLen then .stored (some 12)
          else if s.fld F.WET_CFG.WET_CAP ≤ s.fld (F.WET_GAUGE.TX_INFLIGHT (s.portSlice p)) then .stored (some 13)
          else .wet

/-- Decide and queue the copy of a frame toward one port. -/
def State.forwardCopy (s : State) (f : FrameRec) (p : Nat) : State × FrameRec :=
  let k := s.classOf f p
  let (s0, no) := s.serial
  let e := s0.streamOf f
  let c0 : Copy := {
    no := no, frame := some f.id, host := none, inPort := f.port, bytes := s0.copyBytes f p, handle := f.handle,
    seq := if f.passed then f.seq else none, contract := f.contract, inAt := f.inAt, wet := false, cut := false, ready := false,
    deep := false, gen := none, waitCtx := false, waitExtra := false, unctrl := false, start := none, group := 0, tag := 0 }
  if s.sliceResets p then ((s.blk (192 + p / 8)).ctLost f.contract, f)
  else
  let full := f.contract.isNone && !s0.dbfEn p k && decide (s0.qlim p k < s0.occupied p k + c0.bytes.length + 4)
  if full then s0.countLater f (.blk (classCtr p 1 k))
  else
    let prof := getF e E.strProfile
    let (s1, r) := if prof ≠ 0 && getF e E.strProfDir = 2 then s0.genAdmit p prof (getF e E.strCtx) c0 else (s0, .ok c0)
    match r with
    | .error t =>
      let (s2, g) := s1.countLater f t
      (s2.ctLost f.contract, g)
    | .ok c =>
      let m := f.contract.bind (fun ct => s1.freeReservation p ct (s1.now + 26))
      let path := s1.pathOf f p k c m
      let s2 := match m with
        | some m => s1.setStart p ⟨m, f.contract, some no, (match (s1.sch p).startAt m with | some g => g.committed | none => false), 0⟩
        | none => s1
      let c1 := { c with start := m, wet := path == .wet, cut := path == .wet || path == .cut,
                         ready := path == .wet || path == .cut }
      let s3 := s2.enqueue p k f.vid c1
      let sl := s3.portSlice p
      match path with
      | .wet =>
        let first := !s3.allCopies.any (fun x => x.2.frame == some f.id && x.2.wet && x.2.no != no)
        ((s3.txGauge sl true).when first (fun t => t.rxGauge (t.inSlice f.port) true), f)
      | .stored (some j) =>
        (s3, { f with later := f.later ++ [.blk (sliceCtr sl j)], laterEv := f.laterEv ++ [128 * sl + 31] })
      | .stored none =>
        (s3, if f.contract.isSome && f.guard != .clear then { f with laterEv := f.laterEv ++ [128 * sl + 31] } else f)
      | .cut => (s3, f)

/-- Judge the conformance of a frame (R271, R257): green or unmetered, within MAX_LEN, in a window among the first BURST. -/
def State.conform (s : State) (f : FrameRec) : FrameRec :=
  let e := s.streamOf f
  let ct := getF e E.strContract
  if !(isF e E.strContracted && s.accepted ct) then f
  else
    let green := match f.charge with | some (_, c) => c == 0 | none => true
    if green && f.window && decide (f.bytes.length + 4 ≤ getF (s.ctAt ct) V.maxLen) then { f with contract := some ct }
    else { f with nonconf := some ct }

/-- The forwarding decision of a frame, once its lookup is complete and it is wet or undergoes no tag check. -/
def State.decide_ (s : State) (f : FrameRec) : State × FrameRec :=
  if !f.looked || f.decided || f.drop.isSome || f.uncontrolled || f.waitCtx.isSome || f.waitKey.isSome ||
     (f.guard != .clear && !f.wet) || !(f.verdict == none || f.verdict == some 0) then (s, f)
  else if !f.passed then (s, { f with decided := true })
  else
    let bc := s.ptpTaken f.port (s.bodyOf f)
    let d := s.destOf f bc
    let sl := s.inSlice f.port
    let f1 := s.conform { f with decided := true, fdbTrap := d.trap }
    let (s1, f2) := d.later.foldl (fun (x : State × FrameRec) t => x.1.countLater x.2 t) (s, f1)
    let f3 := if d.flood then { f2 with laterEv := f2.laterEv ++ [128 * sl + 41] } else f2
    (s1.egressSet f3 d).foldl (fun (x : State × FrameRec) p => x.1.forwardCopy x.2 p) (s1, f3)

/-! ### Set frames: recovery, Stencil, learning, PF2 (R17) -/

/-- The bytes that inner parsing reads (R54): decrypted, or as received. -/
def FrameRec.inner (f : FrameRec) : List Byte := match f.guard with | .macsec _ _ _ => f.plain | _ => f.bytes

/-- The sequence number of a recovered frame (R278, R279): `none` where the frame carries no tag of the mode or the recovery
context is not valid. -/
def State.seqOfFrame (s : State) (f : FrameRec) : Option (Option Nat) :=
  match s.srcMode f, f.handle with
  | some m, some h => some (if isF (s.srcAt h) S.valid then seqOf m f.inner else none)
  | _, _ => none

/-- The recovery mode of a frame's stream as a number. -/
def State.modeOf (s : State) (f : FrameRec) : Nat := getF (s.streamOf f) E.strSrcMode

/-- Decide a frame's number with the history as it stands (R281); slice counters of R462 apart, events 0x6B0 and 0x6B1. -/
def State.srcJudge (s : State) (f : FrameRec) (h q : Nat) : State × FrameRec :=
  let s1 := s.count 0x6B0
  match srcDecide (s1.srcAt h) (s1.modeOf f) q with
  | .pass => (s1, { f with seq := some q, passed := true, restart := false })
  | .restart => (s1, { f with seq := some q, passed := true, restart := true })
  | .duplicate => (s1.count 0x6B1, { f with seq := some q, passed := false, restart := false })
  | .outside => (s1.count 0x6B1, { f with seq := some q, passed := false, restart := true })

/-- The recovery engine records a set frame (R281, R282). -/
def State.srcRecord (s : State) (f : FrameRec) : State :=
  match f.seq, f.handle with
  | some q, some h =>
    let w := s.srcAt h
    if f.passed then s.srcPut h (srcAdd (srcUpdate w (s.modeOf f) q f.restart) 0 1)
    else s.srcPut h (srcAdd w (if f.restart then 3 else 1) 1)
  | _, _ => match s.seqOfFrame f with
    | some none => s.blk 21
    | _ => s

/-- The Stencil engine takes the samples of a set frame that recovery passes (R285). -/
def State.stencil (s : State) (f : FrameRec) : State :=
  let e := s.streamOf f
  let k := getF e E.strStnIdx
  if isF e E.strStnEn && isF (s.stnAt k) T.valid && f.passed then
    s.each (asdusOf f.inner) (fun (smp, synch, data) t => (t.count 0x6B2).stnQueue ⟨k, smp, synch, data, f.sec, f.ns⟩)
  else s

/-- Learning from a set frame (R71, R72). -/
def State.learn (s : State) (f : FrameRec) : State :=
  let src := beAt f.bytes 6 6
  let v := s.vlanAt f.vid
  let p := f.port
  if s.on (F.CLS_PORT_CFG.LEARN_EN p) && isF v E.vlanValid && isF v E.vlanLearn && src ≠ 0 && !natBit src 40 then
    match s.fdbFind (s.fdbKey f src) with
    | none => (s.count (128 * s.inSlice p + 42)).learnRequest ⟨getF v E.vlanFid, src, p⟩
    | some pos =>
      let d := s.fdbAt pos
      let here := !isF d E.fdbGroup && getF d E.fdbDest == p
      if here then s.setHits pos (natSet (Tbl.atN s.cls.hits pos) (s.portSlice p))
      else if isF d E.fdbStatic then s.blk ClsCtr.staticConflict.idx
      else (s.count (128 * s.inSlice p + 42)).learnRequest ⟨getF v E.vlanFid, src, p⟩
  else s

/-- The size bin of a length (Table 2.8). -/
def sizeBin (l : Nat) : Nat :=
  if l ≤ 64 then 0 else if l ≤ 127 then 1 else if l ≤ 255 then 2 else if l ≤ 511 then 3 else if l ≤ 1023 then 4
  else if l ≤ 1518 then 5 else if l ≤ 2047 then 6 else if l ≤ 4095 then 7 else 8

/-- The destination type of a frame: 0 unicast, 1 multicast, 2 broadcast. -/
def destType (bs : List Byte) : Nat := if beAt bs 0 6 = 2 ^ 48 - 1 then 2 else if natBit (beAt bs 0 1) 0 then 1 else 0

/-- The receive statistics of a frame (R46, Table 2.8): `bad` is 0 for a good line frame, otherwise its failure's index. -/
def State.rxStats (s : State) (f : FrameRec) (bad : Nat) : State :=
  let l := f.bytes.length + 4
  let s1 := s.statAdd f.port 0 l
  if bad ≠ 0 then s1.stat f.port bad
  else if f.macCtrl then s1.stat f.port 6
  else (((s1.statAdd f.port 1 l).stat f.port 2).stat f.port (3 + destType f.bytes)).stat f.port (7 + sizeBin l)

/-- What PF2 learns of a frame (Table 16.11). -/
def State.rxInfo (s : State) (f : FrameRec) (reason : Nat) : RxInfo :=
  ⟨f.port, reason, s.index, f.guard != .clear, f.sec, f.ns, f.handle,
   match f.guard with | .macsec n _ _ => getF (s.ctxAt n) C.sci | _ => 0⟩

/-- Deliver a trapped frame to PF2 (R56, R396). -/
def State.trap (s : State) (f : FrameRec) : State :=
  if f.trap then s.pf2Deliver f.inner (s.rxInfo f 0)
  else if f.fdbTrap then s.pf2Deliver f.inner (s.rxInfo f 1)
  else s

/-- The timing unit takes a set PTP event message (R236). -/
def State.ptpStamp (s : State) (f : FrameRec) : State :=
  match s.ptpInst f.port f.inner with
  | some (_, o) => if ptpEvent f.inner o then s.count 0x6E0 else s
  | none => s

/-- A wet-edge counter of a slice (Table 8.10). -/
def isWetTally : Tally → Bool
  | .blk i => decide (256 ≤ i) && decide (i < 1024) && decide (6 ≤ (i - 256) % 32) && decide ((i - 256) % 32 ≤ 14)
  | _ => false

/-- A filter counter. -/
def isFltTally : Tally → Bool
  | .flt _ _ => true
  | _ => false

/-- The wet copies of a frame, by egress slice. -/
def State.wetSlices (s : State) (id : Nat) : List Nat :=
  (s.allCopies.filter (fun x => x.2.frame == some id && x.2.wet)).map (fun x => s.portSlice x.1)

/-- The gauges fall and the copies forwarded wet count at a frame's verdict (R196, R203). -/
def State.wetVerdict (s : State) (f : FrameRec) (set : Bool) : State :=
  let l := s.wetSlices f.id
  let s1 := s.each l (fun sl t =>
    let u := ((t.txGauge sl false).blk (sliceCtr sl 6)).count (128 * sl + 28)
    if set then (u.blk (sliceCtr sl 7)).count (128 * sl + 29) else u)
  s1.when (!l.isEmpty) (fun t => t.rxGauge (t.inSlice f.port) false)

/-- Recovery and Stencil, in their place in R17, for a frame that R21 does not hold. -/
def State.recordSet (s : State) (f : FrameRec) : State := (s.srcRecord f).stencil f

/-- What becomes of the stored copies of a set frame. -/
def State.sendOn (s : State) (f : FrameRec) : State := if f.passed then s.release f else s.discardDup f.id

/-- The frames of a stream and number held behind an earlier copy are decided again, in order (R21, R282). -/
def State.freeHeld (s : State) (h q : Nat) : State :=
  (s.path.frames.filter (fun g => g.held && g.handle == some h && g.seq == some q)).foldl (fun t g0 =>
    match t.frame? g0.id with
    | none => t
    | some g =>
      if t.path.frames.any (fun x => x.id != g.id && !x.held && x.wet && x.verdict.isNone && x.passed &&
          x.handle == some h && x.seq == some q) then t
      else
        let (t1, g1) := t.srcJudge { g with held := false } h q
        let t2 := t1.setFrame g1
        let t3 := if g1.passed then t2 else t2.discardDup g1.id
        if g1.verdict = some 0 then ((t3.recordSet g1).sendOn g1).reap g1.id else t3) s

/-- A set frame (R17): its replay floor, recovery, Stencil, learning, counters; then its deliveries and copies. -/
def State.setFrameDone (s : State) (f0 : FrameRec) : State :=
  let f := { f0 with verdict := some 0 }
  let s0 := (s.setFrame f).wetVerdict f true
  let row := match f.guard with
    | .macsec n pn _ => (s.replayView n).row pn
    | .profile n _ cnt => (s.replayView n).row cnt
    | .clear => ReplayRow.ok
  let s1 := match f.guard with
    | .macsec n pn _ => s0.replaySet n pn
    | .profile n _ cnt => s0.replaySet n cnt
    | .clear => s0
  let s2 := if f.held then s1 else s1.recordSet f
  let s3 := ((s2.learn f).settleLater f).ctNonconf f.nonconf
  let s4 := s3.rxStats f 0
  let s5 := match f.guard with
    | .macsec n _ enc => (s4.ctxCount n (if row = ReplayRow.delayed then 1 else 0)).statAdd f.port (if enc then 61 else 60) f.secured
    | .profile n _ _ => s4.ctxCount n 0
    | .clear => s4
  let s6 := (s5.ptpStamp f).trap f
  if f.held then s6
  else
    let s7 := (s6.sendOn f)
    let s8 := match f.seq, f.handle with
      | some q, some h => s7.freeHeld h q
      | _, _ => s7
    s8.reap f.id

/-- A spoiled frame (R18, R46, Table 8.4): its counters, the meter's refund, its stored copies discarded; copies that left wet
or cut through stay to be stomped. -/
def State.spoilFrame (s : State) (f0 : FrameRec) (reason : Nat) (drop : Tally) : State :=
  let f := { f0 with verdict := some reason }
  let s0 := (s.setFrame f).wetVerdict f false
  let line := reason ≠ 2 && reason ≠ 3
  let keep := f.later.filter (fun t => isWetTally t || (line && !isFltTally t))
  let s1 := s0.settleLater { f with later := keep }
  let s2 := if line then ((s1.rxStats f 0).tally drop).ctNonconf f.nonconf
    else if reason = 2 then s1.rxStats f (f.ended.getD 16) else s1.tally drop
  let s3 := match f.charge with
    | some (k, c) => s2.refund k (f.bytes.length + 4) (match c with | 0 => .green | 1 => .yellow | _ => .red)
    | none => s2
  let s4 := s3.discardStored f.id
  let s5 := match f.seq, f.handle with
    | some q, some h => if f.held then s4 else s4.freeHeld h q
    | _, _ => s4
  s5.reap f.id

/-- The verdict of a wet frame (R185, R193, Tables 4.6, 5.3 and 8.4): none for a set frame, otherwise the reason and what
counts it. -/
def State.verdictOf (s : State) (f : FrameRec) : Option (Nat × Tally) :=
  let sl := s.inSlice f.port
  let use_ (n pn early : Nat) (ok : Bool) : Option (Nat × Tally) :=
    if !ok then some (4, .ctx n early)
    else match (s.replayView n).row pn with
      | .late => some (4, .ctx n 2)
      | .duplicate => some (4, .ctx n 3)
      | _ => none
  if f.ended ≠ some 0 then some (2, .quiet)
  else if f.asm ≠ 0 then some (3, .stat f.port f.asm)
  else if f.fault then some (5, .quiet)
  else match f.guard with
    | .clear => none
    | .macsec n pn _ =>
      let w := s.ctxAt n
      if f.lost || (isF w C.valid && ctxQuar w) then some (6, .blk (sliceCtr sl 2))
      else if !f.tagOk then some (1, .ctx n 4)
      else use_ n pn 5 (saInUse w f.port)
    | .profile n g cnt =>
      let w := s.ctxAt n
      if f.lost || (isF w C.valid && ctxQuar w) then some (6, .blk (sliceCtr sl 2))
      else if !f.tagOk then some (1, .ctx n 1)
      else use_ n cnt 4 (genInUse w (getF w C.profile) g)

/-! ### The commands -/

/-- FRAME_WET (R184, R21): the keys are delivered and the frame is wet; the recovery engine checks its number; the forwarding
decision is made if the lookup is already complete. -/
def execFrameWet (id : Nat) (s : State) : Res :=
  match s.frame? id with
  | none => .next s
  | some f =>
    if f.guard == .clear || f.drop.isSome || f.wet || f.waitCtx.isSome || f.waitKey.isSome || f.verdict.isSome then .next s
    else
      let sl := s.inSlice f.port
      let opened := match f.guard with
        | .macsec n pn enc =>
          match secTagAfter (s.fld (F.SECY_CFG.TAGS_IN_CLEAR f.port)) f.bytes with
          | some o =>
            let w := s.ctxAt n
            let t := secTagAt f.bytes o
            let (b, ok) := macOpen (s.keyBytes (getF w C.slot)) (macIv w pn) (s.confOffset f.port) t f.bytes
            (b, ok, t.secure f.bytes.length, [macRxUse w enc])
          | none => ([], false, 0, [])
        | .profile n g cnt =>
          let w := s.ctxAt n
          let prof := getF w C.profile
          let (b, ok) := s.profileOpen prof n g cnt f.bytes
          (b, ok, 0, verifyUses w prof g 0 (getF (s.streamOf f) E.strProfDir == 1))
        | .clear => ([], false, 0, [])
      let (b, ok, octets, us) := opened
      let s1 := s.deliver sl us
      let s2 := if us.length = 2 then s1.setExtra sl (s1.extra sl ++ [.frame id]) else s1
      let f1 := { f with wet := true, plain := b, tagOk := ok, secured := octets }
      let (s3, f2) := match s2.seqOfFrame f1, f1.handle with
        | some (some q), some h =>
          let (t, g) := s2.srcJudge f1 h q
          (t, { g with held := g.passed && t.path.frames.any (fun x => x.id != id && x.wet && x.verdict.isNone && x.passed &&
            x.handle == some h && x.seq == some q) })
        | _, _ => (s2, f1)
      let (s4, f3) := s3.decide_ f2
      .next (s4.setFrame f3)

/-- FORWARDING_LOOKUP_DONE (R65, R187). -/
def execForwardingLookupDone (id : Nat) (s : State) : Res :=
  match s.frame? id with
  | none => .next s
  | some f =>
    if f.looked then .next s
    else
      let s1 := s.count (128 * s.inSlice f.port + 40)
      let (s2, f1) := s1.decide_ { f with looked := true }
      let s3 := s2.setFrame f1
      if f1.verdict = some 0 && !f1.held then .next (((s3.trap { f1 with trap := false }).sendOn f1).reap id) else .next s3

/-- The length and FCS of a received frame (Table 2.5, R35): 0 good, otherwise the statistic of its failure. -/
def State.endStatus (s : State) (f : FrameRec) (e : RxEnd) : Nat :=
  let l := f.bytes.length + 4
  let good := !e.errored && decide (e.fcs = fcsOf f.bytes)
  if l < 64 then (if good then 17 else 18)
  else if s.fld (F.PORT_MAC_CFG.RX_MAX_LEN f.port) < l then (if good then 19 else 20)
  else if good then 0 else 16

/-- Forget a frame and every wait for it. -/
def State.forget (s : State) (id : Nat) : State :=
  let s1 := s.dropFrame id
  let s2 := s1.setCtx { s1.ctx with fetches := s1.ctx.fetches.map (fun e =>
    (e.1, e.2.map (fun x => { x with frames := x.frames.filter (· != id) }))) }
  s2.setKey { s2.key with unwraps := s2.key.unwraps.map (fun u => { u with frames := u.frames.filter (· != id) }) }

/-- Note a frame of bad FCS for its spoil marker (R192). -/
def State.noteBad (s : State) (f : FrameRec) (i : Nat) : State := s.setPort f.port { s.port f.port with badFcs := if i = 16 then some f.id else none }

/-- A frame discarded before decryption leaves the device at the end of its reception: its line statistics, and, when it is
good, what counts its discard (R85, R102). A conforming frame of a contracted stream discarded at a quarantined context loses
its copies (R149, R273). -/
def State.finishDropped (s : State) (f : FrameRec) : State :=
  let i := f.ended.getD 0
  let t := (s.forget f.id).rxStats f i
  if i ≠ 0 then t
  else
    let e := t.streamOf f
    let u := (t.settleLater f).tally (f.drop.getD .quiet)
    let lost := isF e E.strContracted && f.window && f.drop == some (.blk (sliceCtr (t.inSlice f.port) 2))
    u.when lost (fun v => v.each (portsOf (getF (v.ctAt (getF e E.strContract)) V.egress)) (fun _ x =>
      x.ctLost (some (getF e E.strContract))))

/-- FRAME_END_RECEIVE (R34, R35, R46, R85, R102): the end of reception. A frame without a tag check is decided here; one that
passed its head checks awaits its verdict; a discarded one counts only when it is good. -/
def execFrameEndReceive (id : Nat) (e : RxEnd) (s : State) : Res :=
  match s.frame? id with
  | none => .next s
  | some f =>
    if f.ended.isSome then .next s
    else
      let i := s.endStatus f e
      let s1 := s.noteBad f i
      if f.drop.isSome || f.uncontrolled then
        if f.uncontrolled then
          let t := (s1.forget id).rxStats f i
          if i ≠ 0 then .next t else .next ((t.stat f.port 58).pf2Deliver f.bytes (t.rxInfo f 2))
        else .next (s1.finishDropped { f with ended := some i })
      else if f.guard != .clear || f.waitCtx.isSome || f.waitKey.isSome then
        if i ≠ 0 && !f.wet then
          .next (((s1.forget id).rxStats f i).when f.charge.isSome (fun t => match f.charge with
            | some (k, c) => t.refund k (f.bytes.length + 4) (match c with | 0 => .green | 1 => .yellow | _ => .red)
            | none => t))
        else
          let j := if i = 0 && f.wet && 9216 < f.plain.length + 4 then 21 else i
          .next (s1.setFrame { f with ended := some j })
      else
        let j := if i = 0 && 9216 < f.bytes.length + 4 && !f.macCtrl then 21 else i
        let f1 := { f with ended := some j }
        if j ≠ 0 then .next ((s1.setFrame f1).spoilFrame f1 2 .quiet)
        else
          let (s2, f2) := match s1.seqOfFrame f1, f1.handle with
            | some (some q), some h => s1.srcJudge f1 h q
            | _, _ => (s1, f1)
          let s3 := (s2.setFrame f2).setFrameDone f2
          if f2.looked then .next s3
          else .next (s3.when (s3.frame? id).isNone (fun t => t.addFrame { f2 with verdict := some 0 }))

/-- FRAME_VERDICT (R185): formed once, when a wet frame's check and reception have both ended. -/
def execFrameVerdict (id : Nat) (s : State) : Res :=
  match s.frame? id with
  | none => .next s
  | some f =>
    if !f.wet || f.verdict.isSome || f.ended.isNone then .next s
    else
      let sl := s.inSlice f.port
      let s1 := if (s.extra sl).contains (.frame id) then s.setExtra sl ((s.extra sl).filter (fun x => x != .frame id)) else s
      let f1 := { f with ended := f.ended.map (fun i => if i = 0 && 9216 < f.plain.length + 4 then 21 else i) }
      match s1.verdictOf f1 with
      | none =>
        let s2 := s1.setFrameDone f1
        if f1.looked then .next s2
        else .next (s2.when (s2.frame? id).isNone (fun t => t.addFrame { f1 with verdict := some 0 }))
      | some (r, t) => .next (s1.spoilFrame f1 r t)

/-- A frame goes on after its context or key arrived; one discarded now whose reception has ended counts now. -/
def State.resume (s : State) (id : Nat) (go : State → FrameRec → Nat → State × FrameRec) : State :=
  match s.frame? id with
  | none => s
  | some f =>
    match f.waitCtx with
    | none => s
    | some n =>
      let (s1, g) := go s { f with waitCtx := none, waitKey := none } n
      match g.drop, g.ended with
      | some _, some _ => s1.finishDropped g
      | _, _ =>
        let (s2, h) := s1.decide_ g
        s2.setFrame h

/-- CONTEXT_FETCH_DONE (R145, R146, R149): the context joins the cache of its owner group and its frames and copies go on; a
context that cannot be verified is quarantined, or rewritten as zeros when it is FREE. -/
def execContextFetchDone (g : Fin 12) (n : Fin 262144) (ok : Bool) (s : State) : Res :=
  let l := s.fetches g.val
  match l.find? (fun x => x.ctx == n.val) with
  | none => .next s
  | some x =>
    let s1 := s.setFetches g.val (l.filter (fun y => y.ctx != n.val))
    let w := s1.ctxAt n.val
    let s2 := if ok then (if ctxGroup w = some g.val then s1.ctxPlace g.val n.val else s1)
      else if isF w C.valid then s1.quarantine n.val 0 else s1.ctxPut n.val 0
    let bad := !ok && isF w C.valid
    let sl := s2.sliceOf g.val
    let s3 := s2.each x.frames (fun id t => t.resume id (fun u f m =>
      if bad then (u, { f with drop := some (.blk (sliceCtr sl 2)) }) else u.useCtx f m))
    .next (s3.wakeCopies g.val)

/-- KEY_UNWRAP_DONE (R206, R207, R226): the slot takes an on-die position and the deliveries that wait for it go on; a slot
that cannot be verified is quarantined. -/
def execKeyUnwrapDone (k : Fin 262144) (ok : Bool) (s : State) : Res :=
  match s.key.unwraps.find? (fun u => u.slot == k.val) with
  | none => .next s
  | some u =>
    let s1 := s.setKey { s.key with unwraps := s.key.unwraps.filter (fun v => v.slot != k.val) }
    let placed := if ok then s1.slotPlace k.val else some (s1.quarSlot k.val)
    match placed with
    | none => .next s
    | some s2 =>
      let s3 := s2.each u.frames (fun id t => t.resume id (fun v f n => v.useCtx f n))
      .next (s3.each (List.range 12) (fun g t => t.wakeCopies g))

end Sys2Proof.Machine
end

