-- ==== Sys2Proof/Machine/Transmit.lean ====
section
/-!
DEFINITION. Transmission: the window fit check, selection, preemption, reserved and committed starts, protection on the way
out, transparent-clock correction, tails and the end of a frame (R22, R39, R107, R124, R190 to R192, R238, R239, R244,
R251 to R255, R258 to R261, R272, R273, R310).
-/
namespace Sys2Proof.Machine

/-! ### The fit check (R258, R259) -/

/-- The smaller of two instants, where none is later than all. -/
def earlier : Option Nat → Option Nat → Option Nat
  | some a, some b => some (min a b)
  | some a, none => some a
  | none, b => b

/-- The contracts that the RESERVE entries of a port's banks name. -/
def State.listContracts (s : State) (p : Nat) : List Nat :=
  (((s.sch p).bank0.marks ++ (s.sch p).bank1.marks).filterMap (fun (_, _, e) =>
    if getF e G.op = 4 then some (getF e G.arg) else none)).foldl addOnce []

/-- The MAC start of the next committed start after `m`, other than those at `skip` (R251, R253, R258): reserved starts are
committed 200 ns before S. -/
def State.nextCommitted (s : State) (p m : Nat) (skip : Option Nat) : Option Nat :=
  let horizon := s.now + s.encap p + 200
  let res := (s.listContracts p).flatMap (fun ct => (s.reservedFrom p ct (m + 1)).filter (fun x => decide (x ≤ horizon)))
  let own := ((s.sch p).starts.filter (fun g => g.committed && decide (m ≤ g.mac))).map (·.mac)
  ((res ++ own).filter (fun x => some x != skip)).foldl (fun a x => earlier a (some x)) none

/-- The end that bounds a frame of a class at MAC start `m` (R258). -/
def State.fitEnd (s : State) (p k m : Nat) (skip : Option Nat) : Option Nat :=
  earlier (s.windowEnd p k windowFuel m) (s.nextCommitted p m skip)

/-- The outcome of the fit check: whole, a fragment of so many frame bytes, or wait. -/
inductive Fit where
  | whole | cut (n : Nat) | wait
deriving DecidableEq, Repr

/-- The fit check of `lp` bytes at MAC start `m` (R258, R259). -/
def State.fit (s : State) (p k lp m : Nat) (end_ : Option Nat) : Fit :=
  match s.wakeLeft p with
  | none => .wait
  | some w =>
    match end_ with
    | none => .whole
    | some e =>
      let room := (e - (m + w)) * 1000
      let b := bytePs (s.mode p)
      if (lp + 20) * b ≤ room then .whole
      else if s.preemption p && s.preemptible p k && decide (s.fmin p + 64 ≤ lp) && decide ((s.fmin p + 20) * b ≤ room) then
        .cut (min (room / b - 24) (lp - 64))
      else .wait

/-! ### Selection (R244, R252, R255, R260) -/

/-- The copy at the head of a class (R244, R255): the first that holds no reservation; under start-time fair queuing the
smallest start tag among the heads of the groups, the lowest group on a tie. -/
def State.headCopy (s : State) (p k : Nat) : Option Copy :=
  let q := (s.queue p k).filter (fun c => c.start.isNone)
  let able (c : Copy) := c.ready && !c.waitCtx && !c.waitExtra && !c.deep
  if s.tsa p k = 2 then
    let heads := q.foldl (fun l c => if l.any (fun d : Copy => d.group == c.group) then l else l ++ [c]) []
    (heads.filter able).foldl (fun best c => match best with
      | none => some c
      | some d => if c.tag < d.tag || (c.tag == d.tag && decide (c.group < d.group)) then some c else best) none
  else q.head?.filter able

/-- A head that fits no window of its class is discarded (R260). -/
def State.neverFits (s : State) (p k : Nat) (c : Copy) : Bool :=
  let pre := s.preemption p && s.preemptible p k
  let lp := s.protectedLen p c
  s.listRuns p &&
  (match (s.operBank p).longest k pre with
   | none => false
   | some n => decide (n * 1000 < ((if pre then min lp (s.fmin p + 63) else lp) + 20) * bytePs (s.mode p)))

/-- Remove a copy from its queue. -/
def State.unqueue (s : State) (p k : Nat) (c : Copy) : State :=
  (s.credits p).setQueue p k ((s.queue p k).filter (fun d => d.no != c.no))

/-- Discard the heads of a class that can never fit. -/
def State.dropNeverFit (s : State) (p k : Nat) : Nat → State
  | 0 => s
  | fuel + 1 =>
    match s.headCopy p k with
    | some c =>
      if s.neverFits p k c then
        ((((s.unqueue p k c).copyGone p c).blk (classCtr p 3 k)).schedEvent p 2 0).dropNeverFit p k fuel
      else s
    | none => s

/-- What a class would send at MAC start `m`: its preempted frame (no copy) or its head copy, with the fit check's outcome
and end. -/
def State.offer (s : State) (p k m : Nat) (skip : Option Nat) : Option (Option Copy × Fit × Option Nat) :=
  let e := s.fitEnd p k m skip
  let shaped := s.tsa p k == 1 && decide (Tbl.getD (fun _ => (0 : Int)) (s.sch p).credit k < 0)
  if shaped then none
  else
    let res := match (s.line p).rest with
      | some r =>
        if r.cls = k then some (none, s.fit p k (r.wire.length + 4 - r.sent) m e)
        else if s.preemptible p k then none
        else (s.headCopy p k).map (fun c => (some c, s.fit p k (s.protectedLen p c) m e))
      | none => (s.headCopy p k).map (fun c => (some c, s.fit p k (s.protectedLen p c) m e))
    match res with
    | some (c, f) => if f = .wait then none else some (c, f, e)
    | none => none

/-- The eligible class with the highest number (R244); `express` leaves the preemptible classes out. -/
def State.pick (s : State) (p m : Nat) (skip : Option Nat) (express : Bool) : Option (Nat × Option Copy × Fit × Option Nat) :=
  [7, 6, 5, 4, 3, 2, 1, 0].findSome? (fun k =>
    if express && s.preemptible p k then none else (s.offer p k m skip).map (fun x => (k, x)))

/-! ### Transparent-clock correction (R22, R236, R238, R239) -/

/-- A frame with a PTP message at `o` whose correctionField has grown by `v`, in 2^-16 ns; over UDP its checksum is settled. -/
def ptpCorrect (bs : List Byte) (o v : Nat) : List Byte :=
  let x := overwrite bs (o + 8) (beBytes 8 ((beAt bs (o + 8) 8 + v) % 2 ^ 64))
  match udpOf x with
  | some (h, u, q) => if q = o then ipEdit x h u (beAt x (u + 4) 2 - 8) else x
  | none => x

/-- Correct the PTP message of a copy that starts at MAC instant `m`, committed ahead or not (R238, R239): none when a Follow_Up without its entry is
discarded. -/
def State.ptpOut (s : State) (p : Nat) (c : Copy) (m : Nat) (committed : Bool) : State × Option Copy :=
  if c.host.isSome then (s, some c)
  else match s.ptpInst c.inPort c.bytes, ptpAt c.bytes with
    | some (i, o), some (tr, _) =>
      let s1 := if ptpEvent c.bytes o then s.count 0x6E0 else s
      let mode := s.fld (F.PTP_INST_CFG.MODE i)
      if mode = 0 then (s1, some c)
      else
        let type := beAt c.bytes o 1 % 16
        let res := (m + s.outDelay p) * 16 + s.fld (F.TS_BOARD.TX p) - (c.inAt * 16 - s.fld (F.TS_BOARD.RX c.inPort))
        let delay := if mode = 2 then (Config.linkDelay c.inPort).toNat else 0
        let src := beAt c.bytes (o + 20) 10
        let seq := beAt c.bytes (o + 30) 2
        let fixed := s.on (F.PTP_INST_CFG.ONE_STEP i) && (if s.cipher p then committed else tr != 2)
        let l := Tbl.getD (fun _ => ([] : List Residence)) s1.time.pendingRes p
        let keep (t : State) (l : List Residence) : State :=
          { t with time := { t.time with pendingRes := Tbl.setD (fun _ => ([] : List Residence)) t.time.pendingRes p l } }
        if ptpEvent c.bytes o then
          if fixed then (s1, some { c with bytes := ptpCorrect c.bytes o (res * 4096 + delay) })
          else if type = 0 then
            let new : Residence := ⟨i, src, seq, res * 4096 + delay⟩
            if l.length < 64 then (keep s1 (l ++ [new]), some c)
            else ((keep s1 (l.drop 1 ++ [new])).blk (portCtr p 2), some c)
          else (s1, some c)
        else if type = 8 && beAt c.bytes (o + 6) 1 / 2 % 2 = 0 && !fixed then
          match l.find? (fun r => r.inst == i && r.source == src && r.seq == seq) with
          | some r => (keep s1 (l.filter (fun x => x != r)), some { c with bytes := ptpCorrect c.bytes o r.time })
          | none => (s1, none)
        else (s1, some c)
    | _, _ => (s, some c)

/-! ### Protection on the way out (R97, R107, R108, R124, R209) -/

/-- A copy that the egress cipher discards: its loss, and what counts it. -/
def State.dropOut (s : State) (p : Nat) (c : Copy) (f : State → State) : State × Option (List Byte × Option (Nat × Nat × Bool)) :=
  (f (s.copyGone p c), none)

/-- Generate profile protection (R124): the frame, or nothing where the copy is discarded. -/
def State.generate (s : State) (p : Nat) (c : Copy) (n : Nat) : State × Option (List Byte) :=
  let s1 := s.leap n
  let w := s1.ctxAt n
  let sl := s1.portSlice p
  if ctxQuar w then (s1.blk (sliceCtr sl 2), none)
  else if exhausted w then (s1.ctxCount n 7, none)
  else if !genOn w (getF w C.txGen) then (s1, none)
  else
    let us := generateUses w (getF w C.profile) (getF w C.txGen)
    if us.any (fun u => s1.keyRefuses u) || !s1.pairOk us then (s1.keyRefused sl, none)
    else
      let (s2, cnt) := (s1.deliver sl us).take n
      (s2, s1.profileSeal n cnt c.bytes)

/-- The frame that a copy becomes on the line, without FCS, and its transmit SA with the secure-data octets and encryption
(R107, R124): none when it is discarded, by the first check that fails. -/
def State.protectOut (s : State) (p : Nat) (c : Copy) : State × Option (List Byte × Option (Nat × Nat × Bool)) :=
  let sl := s.portSlice p
  let mac := s.cipher p && !c.unctrl
  let n := s.txSa p
  if s.fld (F.PORT_MAC_CFG.TX_MAX_LEN p) < s.protectedLen p c then s.dropOut p c (fun t => t.stat p 46)
  else
    let s0 := if mac then s.leap n else s
    let w := s0.ctxAt n
    if mac && (!s0.on (F.SECY_CFG.SECY_EN p) || !(isF w C.valid && ctxKind w == 1 && isF w C.dir && isF w C.txEn && getF w C.port == p)) then
      s0.dropOut p c (fun t => t.stat p 59)
    else if mac && ctxQuar w then s0.dropOut p c (fun t => t.blk (sliceCtr sl 2))
    else if mac && exhausted w then s0.dropOut p c (fun t => t.ctxCount n 9)
    else if mac && s0.keyRefuses (s0.macTxUse p w) then s0.dropOut p c (fun t => (t.ctxCount n 10).keyRefused sl)
    else
      let (s1, inner) := match c.gen with
        | some g => s0.generate p c g
        | none => (s0, some c.bytes)
      match inner with
      | none => s1.dropOut p c id
      | some bs =>
        if mac then
          let (s2, pn) := (s1.deliver sl [s1.macTxUse p w]).take n
          let (out, octets) := s1.macSeal p n pn bs
          (s2, some (out, some (n, octets, s1.on (F.SECY_CFG.CONF_EN p))))
        else (s1, some (bs, none))

/-! ### Starting (R39, R252, R258, R300) -/

/-- A frame or fragment starts: the slice event of the port. -/
def State.lineStart (s : State) (p : Nat) (x : Sending) : State :=
  (s.setLine p { s.line p with now := some x }).count (128 * s.portSlice p + 8 + p % 8)

/-- A copy taken from its queue starts on the line: the frame of PF2 on a quiet port, a Follow_Up without its entry and a copy
that protection discards leave the device instead. -/
def State.startCopy (s : State) (p k : Nat) (c : Copy) (m : Nat) (cut : Option Nat) (end_ : Option Nat)
    (committed : Bool) : State :=
  if s.quietAt p m && c.host.isSome then (s.hostDone c 3).blk (portCtr p 3)
  else
    let (s1, r) := s.ptpOut p c m committed
    match r with
    | none => s1.copyGone p c
    | some d =>
      let (s2, w) := s1.protectOut p d
      match w with
      | none => s2
      | some (wire, sa) =>
        s2.lineStart p
          { copy := d, cls := k, wire := wire, sent := 0, part := cut.getD (wire.length + 4), final := cut.isNone,
            begun := m, until_ := end_, quiet := s.quietAt p m, tail := none, sa := sa, prf := d.gen }

/-- The bytes of a fit check's fragment. -/
def Fit.part : Fit → Option Nat
  | .cut n => some n
  | _ => none

/-- Cut a preemptible frame on the line at the first boundary that R39 allows: its bytes so far, at least the minimum
fragment, with 64 bytes left. -/
def State.boundary (s : State) (p : Nat) (x : Sending) : Option Nat :=
  if !(s.preemption p && s.preemptible p x.cls && x.final) then none
  else
    let b := max 1 (bytePs (s.mode p))
    let n := max (s.fmin p - 4) (((s.now + s.encap p - x.begun) * 1000 + b - 1) / b - 8)
    if x.sent + n + 64 ≤ x.wire.length + 4 then some n else none

/-- The frame on the line ends after `n` bytes of this fragment. -/
def State.cutAt (s : State) (p : Nat) (x : Sending) (n : Nat) : State :=
  s.setLine p { s.line p with now := some { x with part := n, final := false } }

/-- TX_COMMIT (R251, R253): a start is committed 200 ns ahead: a reservation of the port, or with LOOKAHEAD_EN any start. -/
def execTxCommit (p : Fin 96) (start : Nat) (s : State) : Res :=
  let p := p.val
  let x := s.sch p
  if start < s.now + s.encap p then .next s
  else match x.startAt start with
    | some g => .next (s.setStart p { g with committed := true })
    | none =>
      match (s.listContracts p).find? (fun ct => (s.reservedFrom p ct start).contains start) with
      | some ct => .next (s.setStart p ⟨start, some ct, none, true, 0⟩)
      | none => .next (s.when (s.on (F.SCHED_CFG.LOOKAHEAD_EN p)) (fun t => t.setStart p ⟨start, none, none, true, 0⟩))

/-- TRANSMIT_START (R33, R38, R39, R244, R253, R258 to R260). -/
def execTransmitStart (p : Fin 96) (s : State) : Res :=
  let p := p.val
  if !s.fwdUp p then .next s
  else
    let s0 := (s.credits p).each [7, 6, 5, 4, 3, 2, 1, 0] (fun k t => t.dropNeverFit p k ((t.queue p k).length))
    let m := s0.now + s0.encap p
    match (s0.line p).now with
    | some x =>
      match s0.boundary p x with
      | none => .next s0
      | some n =>
        let free := x.begun + ((n + 24) * bytePs (s0.mode p) + 999) / 1000
        .next (s0.when (s0.pick p (max m free) none true).isSome (fun t => t.cutAt p x n))
    | none =>
      let due := (s0.sch p).starts.find? (fun g => g.committed && g.contract.isNone && decide (g.mac ≤ m))
      if s0.on (F.SCHED_CFG.LOOKAHEAD_EN p) && due.isNone then .next s0
      else
        let s1 := match due with | some g => s0.dropStart p g.mac | none => s0
        match s1.pick p m none false with
        | none => .next s1
        | some (k, some c, f, e) =>
          let s2 := s1.unqueue p k c
          let s3 := if s2.tsa p k = 2 then s2.setSch p { s2.sch p with vtime := Tbl.setN (s2.sch p).vtime k c.tag } else s2
          .next (s3.startCopy p k c m f.part e due.isSome)
        | some (_, none, f, e) =>
          match (s1.line p).rest with
          | some r =>
            let left := r.wire.length + 4 - r.sent
            let s2 := s1.setLine p { s1.line p with rest := none }
            .next (s2.lineStart p { r with part := f.part.getD left, final := f.part.isNone, begun := m, until_ := e })
          | none => .next s1

/-- The reserved start of a contract that is due (R251, R252): the start that a copy took, or the list's. -/
def State.dueStart (s : State) (p ct : Nat) : Option Nat :=
  let m := s.now + s.encap p
  match (s.sch p).starts.find? (fun g => g.contract == some ct && decide (g.mac ≤ m)) with
  | some g => some g.mac
  | none => if (s.reservedFrom p ct m).head? = some m then some m else none

/-- RESERVED_START (R251, R252, R197): at S the copy that holds the start leaves when its head is present (wet, cut through)
or it is whole; otherwise the start is empty and the copy takes its stream's next reservation. -/
def execReservedStart (p : Fin 96) (ct : Fin 16384) (s : State) : Res :=
  let p := p.val
  let ct := ct.val
  match s.dueStart p ct with
  | none => .next s
  | some m =>
    let holder := (List.range 8).findSome? (fun k =>
      ((s.queue p k).find? (fun c => c.start == some m && c.contract == some ct)).map (fun c => (k, c)))
    let empty (t : State) := ((t.dropStart p m).blk (portCtr p 0)).count (128 * t.portSlice p + 32 + p % 8)
    match holder with
    | none => .next (empty s)
    | some (k, c) =>
      if !s.fwdUp p || !c.ready || c.waitCtx || c.waitExtra || c.deep then
        let s1 := empty s
        let next := s1.freeReservation p ct s1.now
        let s2 := match next with | some g => s1.setStart p ⟨g, some ct, some c.no, false, 0⟩ | none => s1
        .next (s2.setQueue p k ((s2.queue p k).map (fun d => if d.no = c.no then { d with start := next } else d)))
      else match (s.line p).now with
        | some x =>
          match s.boundary p x with
          | some n => .next (s.cutAt p x n)
          | none => .next s
        | none => .next (((s.unqueue p k c).dropStart p m).startCopy p k c (s.now + s.encap p) none (s.fitEnd p k m (some m)) true)

/-! ### Tails and ends (R46, R190 to R192, R259, R261, R272, R273) -/

/-- The tail of a copy that is leaving before its frame's verdict (R190): decided by the verdict, or late. -/
def State.tailOf (s : State) (p : Nat) (x : Sending) : State × Option Nat :=
  match x.tail, x.copy.frame with
  | some r, _ => (s, some r)
  | none, none => (s, none)
  | none, some id =>
    if !x.copy.cut then (s, none)
    else match (s.frame? id).bind (·.verdict) with
      | some r => (s, some r)
      | none =>
        if x.copy.wet then ((s.blk (sliceCtr (s.portSlice p) 14)).wetEvent 0, some 6) else (s, some 0)

/-- TAIL_RELEASE (R190, R191): unchanged, stomped, or late. -/
def execTailRelease (id : Nat) (p : Fin 96) (s : State) : Res :=
  let p := p.val
  match (s.line p).now with
  | none => .next s
  | some x =>
    if x.copy.frame ≠ some id || !x.copy.cut || x.tail.isSome || !x.final then .next s
    else if !x.copy.wet && ((s.frame? id).bind (·.verdict)).isNone then .next s
    else
      let (s1, r) := s.tailOf p x
      .next (s1.setLine p { s1.line p with now := some { x with tail := r } })

/-- A wet copy leaves before its frame's verdict: the gauges fall and it counts as forwarded wet now (R190, R196). -/
def State.wetLeaves (s : State) (p : Nat) (c : Copy) : State :=
  match c.frame.bind s.frame? with
  | some f =>
    if c.wet && f.verdict.isNone then
      let sl := s.portSlice p
      let t := ((s.txGauge sl false).blk (sliceCtr sl 6)).count (128 * sl + 28)
      t.when (!t.allCopies.any (fun x => x.2.frame == c.frame && x.2.wet)) (fun u => u.rxGauge (u.inSlice f.port) false)
    else s
  | none => s

/-- The transmit statistics of a frame (R46, Table 2.8). -/
def State.txStats (s : State) (p : Nat) (wire : List Byte) (stomped : Bool) : State :=
  let l := wire.length + 4
  let s1 := (s.statAdd p 31 l).stat p (36 + sizeBin l)
  if stomped then s1.stat p 45 else (s1.stat p 32).stat p (33 + destType wire)

/-- The bytes on the line: the frame and its FCS, inverted for a stomped frame (R190). -/
def wireBytes (wire : List Byte) (stomped : Bool) : List Byte :=
  wire ++ (if stomped then (fcsOf wire).map (fun b => ~~~b) else fcsOf wire)

/-- The last bit of a fragment has left, and the rest waits (R39, R259). -/
def State.fragmentEnd (s : State) (p : Nat) (x : Sending) : State :=
  let s1 := s.setLine p ⟨none, some { x with sent := x.sent + x.part }⟩
  if x.quiet then s1
  else (s1.stat p 49).emit (.fragment (Fin.ofNat 96 p) (slice (wireBytes x.wire false) x.sent x.part))

/-- The last bit of a frame has left. -/
def State.frameEnd (s0 : State) (p : Nat) (x : Sending) : State :=
  let (s, tail) := s0.tailOf p x
  let c := x.copy
  let sl := s.portSlice p
  let stomped := tail.any (· != 0)
  let reason := tail.getD 0
  let s1 := (s.setLine p { s.line p with now := none }).wetLeaves p c
  let s2 := if x.quiet then s1.blk (portCtr p 3)
    else
      let t := ((s1.emit (.frame (Fin.ofNat 96 p) ((wireBytes x.wire stomped).drop x.sent) stomped)).txStats p x.wire stomped).blk
        (classCtr p 0 x.cls)
      t.when (stomped && t.on F.WET_CFG.MARKER_EN) (fun u => u.emit (.marker (Fin.ofNat 96 p) reason c.inPort))
  let s3 := match x.sa with
    | some (n, octets, enc) => (s2.ctxCount n (if enc then 8 else 7)).statAdd p (if enc then 63 else 62) octets
    | none => s2
  let s4 := match x.prf with | some n => s3.ctxCount n 6 | none => s3
  let s5 := s4.when (stomped && c.wet) (fun t => (t.blk (sliceCtr sl 8)).count (128 * sl + 30))
  let s6 := match c.contract with
    | some ct => if stomped then s5.ctLost (some ct) else s5.ctDelivered ct (x.begun + s5.outDelay p - c.inAt)
    | none => s5
  let s7 := s6.when c.start.isSome (fun t => t.twinStart p x.begun c stomped)
  let s8 := (s7.hostDone c 0).when c.host.isSome (fun t => t.count 0x6C5)
  match c.frame with
  | some id => if ((s8.frame? id).bind (·.verdict)).isSome then s8.reap id else s8
  | none => s8

/-- TX_END (R46, R259, R261): the last bit of the fragment or frame on the line leaves the MAC. -/
def execTxEnd (p : Fin 96) (s : State) : Res :=
  let p := p.val
  match (s.line p).now with
  | none => .next s
  | some x =>
    let s1 := s.credits p
    let k := x.cls
    let gap : Int := ((s1.fld (F.SCHED_CBS.IDLE_SLOPE p k) : Int) - (rate100k (s1.mode p) : Int)) * (12 * bytePs (s1.mode p) * 3 / 10 : Nat)
    let y := s1.sch p
    let s2 := if s1.tsa p k = 1 then s1.setSch p { y with
        credit := Tbl.setD (fun _ => (0 : Int)) y.credit k (Tbl.getD (fun _ => (0 : Int)) y.credit k + gap) } else s1
    let over_ := x.until_.any (fun e => decide (e * 1000 < s.now * 1000 + 12 * bytePs (s.mode p)))
    let s3 := if over_ then (s2.blk (portCtr p 1)).schedEvent p 1 0 else s2
    .next (if x.final then s3.frameEnd p x else s3.fragmentEnd p x)

end Sys2Proof.Machine
end

