-- ==== Sys2Proof/Machine/Contracts.lean ====
section
/-!
DEFINITION. Latency contracts: the admission checks of Table 11.2, reservations and the bound (R264 to R270, R274), and the
contract commands. Times inside a gate cycle are in picoseconds from the cycle's start.
-/
namespace Sys2Proof.Machine

/-! ### The image (Table 11.1) -/

/-- The ingress ports of a contract. -/
def ctIns (w : BitVec 1024) : List Nat :=
  getF w V.inPort :: (if getF w V.inPort2 = 0xFF then [] else [getF w V.inPort2])

/-- The egress ports of a contract. -/
def ctEgs (w : BitVec 1024) : List Nat := portsOf (getF w V.egress)

/-- The fields that CT_ADMIT supplies, with STATE, counters and reserved bits 0. -/
def ctFields (w : BitVec 1024) : BitVec 1024 :=
  [V.stream, V.cls, V.burst, V.maxLen, V.count, V.period, V.arrOfs, V.arrJit, V.bound, V.inPort, V.inPort2, V.egress].foldl
    (fun x f => putF x f (getF w f)) 0

/-- Check 1: every field is within Table 11.1, and IN_PORT2 differs from IN_PORT. -/
def ctImageOk (w : BitVec 1024) : Bool :=
  let g := getF w
  let within (v lo hi : Nat) := decide (lo ≤ v) && decide (v ≤ hi)
  within (g V.burst) 1 8 && within (g V.maxLen) 64 9344 && within (g V.count) 1 64 && within (g V.period) 10000 1000000000 &&
  1000000000 % g V.period == 0 && decide (g V.arrOfs < g V.period) && within (g V.arrJit) 500 (g V.period / g V.count) &&
  within (g V.bound) 1200 10000000 && decide (g V.inPort < 96) && (decide (g V.inPort2 < 96) || g V.inPort2 == 0xFF) &&
  g V.inPort2 != g V.inPort

/-! ### The path (check 3) -/

/-- The identification entries of a stream that take a port in. -/
def State.sidOf (s : State) (h p : Nat) : Option (BitVec 512) :=
  (s.cls.sid.find? (fun x => isF x.2 E.sidValid && getF x.2 E.sidHandle == h && s.inPset (getF x.2 E.sidPset) p)).map (·.2)

/-- The VID of an identification key (Table 3.3). -/
def keyVid (m key : Nat) : Nat :=
  let b := match m with | 4 => 76 | 5 => 92 | _ => 60
  key / 2 ^ (480 - b) % 4096

/-- The destination address of an identification key: none for the methods without one. -/
def keyDa (m key : Nat) : Option Nat :=
  match m with
  | 1 => some (key / 2 ^ (480 - 48) % 2 ^ 48)
  | 3 => some (key / 2 ^ (480 - 48) % 2 ^ 48)
  | 5 => some (key / 2 ^ (480 - 80) % 2 ^ 48)
  | _ => none

/-- The path of a stream from one ingress port (R65): the forwarding key, the egress ports and the receive SC; none where the
stream has no static path. -/
def State.ctPath (s : State) (e : BitVec 256) (h p : Nat) : Option (List Nat × List Nat × Option Nat) :=
  match s.sidOf h p with
  | none => none
  | some i =>
    let m := getF i E.sidMethod
    let key := getF i E.sidKey
    let sc := (s.scmFind (key / 2 ^ 416) p).map (fun pos => getF (Tbl.at0 s.ctx.scm pos) M.scmIndex)
    if s.cipher p && (m != 4 || sc.isNone) then none
    else
      let vid := keyVid m key
      let group (n : Nat) := portsOf (getF (Tbl.at0 s.cls.mcast n) E.groupMask)
      let keep (l : List Nat) := l.filter (fun q => q != p && s.member vid q && s.txUp q)
      let rx := if s.cipher p then sc else none
      if isF e E.strFwd || (verifyProfile e == some 3 && getF e E.strProfDir == 1) then some ([], keep (group (getF e E.strDest)), rx)
      else match keyDa m key with
        | none => none
        | some da =>
          let k := fdbKeyOf (getF (s.vlanAt vid) E.vlanFid) da
          match s.fdbFind k with
          | none => none
          | some pos =>
            let d := s.fdbAt pos
            if !isF d E.fdbStatic || isF d E.fdbDiscard then none
            else some ([k], keep (if isF d E.fdbGroup then group (getF d E.fdbDest) else [getF d E.fdbDest]), rx)

/-- The contexts that a stream uses, with the port group that uses each (R148). -/
def State.ctContexts (s : State) (e : BitVec 256) (ins egs : List Nat) (scs : List (Nat × Option Nat)) : List (Nat × Nat) :=
  let quad (n g : Nat) := (List.range 4).map (fun a => (4 * n + a, g))
  let rx := scs.flatMap (fun (p, sc) => match sc with | some n => quad n (p / 8) | none => [])
  let tx := (egs.filter s.cipher).flatMap (fun q => quad (s.fld (F.SECY_CFG.TX_SC q)) (q / 8))
  let n := getF e E.strCtx
  let lane (j : Nat) := ((ins.find? (fun p => s.fld (F.PRF_PORT_CFG.PRF_LANE p) = j)).getD (ins.headD 0)) / 8
  let prof := if getF e E.strProfile = 0 then []
    else if getF e E.strProfDir = 2 then [(n, egs.headD 0 / 8)]
    else [(n, lane 0), (n + 1, lane 1)]
  (rx ++ tx ++ prof).foldl (fun l x => if l.any (fun y : Nat × Nat => y.1 == x.1) then l else l ++ [x]) []

/-- The bytes that ingress processing takes from a frame of a stream on a port at the least (R97, R135). -/
def State.ctStrips (s : State) (e : BitVec 256) (p : Nat) : Nat :=
  if s.cipher p then 32
  else if getF e E.strProfDir = 1 then
    (match getF e E.strProfile with | 1 => 32 | 2 => 18 | 3 => 86 | _ => 0)
  else 0

/-- The protected maximum of a stream's copy on a port (check 5). -/
def State.ctLen (s : State) (e : BitVec 256) (maxLen : Nat) (ins : List Nat) (q : Nat) : Nat :=
  let inner := (ins.map (fun p => max 64 (maxLen - s.ctStrips e p))).foldl max 64
  let red := if (s.redPair q).isSome then 6 else 0
  let gen := if getF e E.strProfile ≠ 0 && getF e E.strProfDir = 2 then s.profileAdds (getF e E.strCtx) (inner + red - 4) else 0
  inner + red + gen + (if s.cipher q then s.macAdds q else 0)

/-- A stream's copy on a port is cut-through (R20, R187 conditions 1 to 3, R267). -/
def State.ctCut (s : State) (e : BitVec 256) (h : Nat) (ins : List Nat) (q : Nat) : Bool :=
  let prof := getF e E.strProfile
  let dir := getF e E.strProfDir
  let v6 := match s.sidOf h (ins.headD 0) with
    | some i => getF i E.sidMethod ≠ 3 || natBit (getF i E.sidKey) (480 - 61)
    | none => true
  !isF e E.strSrcEn && (s.redPair q).isNone && !(prof == 3 && dir == 2) && !(prof == 2 && dir != 0 && v6) &&
  ins.all (fun p => (s.redPair p).isNone && s.rateOk p q &&
    (!(s.cipher p || (verifyProfile e).isSome) || s.zoneOk p q))

/-! ### Other resources (checks 6 to 10) -/

/-- The stream entry's filter and meter suffice (check 6). -/
def State.ctMeter (s : State) (e : BitVec 256) (w : BitVec 1024) : Bool :=
  let f := s.fltAt (getF e E.strFilter)
  let m := s.mtrAt (getF f L.meter)
  let sdu := getF f L.maxSdu
  let len := getF w V.maxLen
  let burst := getF w V.burst
  getF e E.strFilter != 0 && isF f L.valid && isF f L.meterEn && decide (0 < sdu) && decide (sdu ≤ len) &&
  decide (burst * len ≤ getF m L.cbs) &&
  decide (8 * burst * len * getF w V.count * 1000000000 ≤ getF m L.cir * 100000 * getF w V.period)

/-- The pins that check 7 asks for: 0 when it passes, PIN_FULL 9 or KEY_NOT_PINNED 10. -/
def State.ctPins (s : State) (l : List (Nat × Nat)) : Nat :=
  let group (n g : Nat) := if s.ctxValid n then (ctxGroup (s.ctxAt n)).getD g else g
  let need (g : Nat) := (l.filter (fun x => group x.1 x.2 == g && !s.ctxPinned x.1)).length
  if (List.range 12).any (fun g => decide (12288 < s.pinnedIn g + need g)) then 9
  else if l.any (fun x => s.ctxValid x.1 && !(ctxSlots (s.ctxAt x.1)).all s.slotPinned) then 10
  else 0

/-- The extra work of a contract in a slice, in bits a second (R172, check 8). -/
def State.ctExtra (s : State) (w : BitVec 1024) (lens : List (Nat × Nat)) (sl : Nat) : Nat :=
  let e := s.streamAt (getF w V.stream)
  let frames := 8 * getF w V.burst * getF w V.count * 1000000000
  let rate (len : Nat) := (frames * len + getF w V.period - 1) / getF w V.period
  let gen := if getF e E.strProfile ≠ 0 && getF e E.strProfDir = 2 then
    ((lens.filter (fun x => s.portSlice x.1 = sl)).map (fun x => s.extraPasses x.1 (getF e E.strCtx) * rate x.2)).sum else 0
  let ver := if verifyProfile e = some 3 then
    ((ctIns w).filter (fun p => s.portSlice p = sl)).length * rate (getF w V.maxLen) else 0
  gen + ver

/-- The accepted contracts. -/
def State.liveCts (s : State) : List Nat := (s.ct.ct.map (·.1)).filter s.accepted

/-- What an accepted contract depends on. -/
def State.ctUse (s : State) (ct : Nat) : CtUse := Tbl.getD (fun _ => CtUse.none_) s.ct.use ct

/-- The bytes of a slice's pool that a contract takes (R269). -/
def State.ctBytes (s : State) (w : BitVec 1024) (lens : List (Nat × Nat)) (sl : Nat) : Nat :=
  ((lens.filter (fun x => s.portSlice x.1 = sl)).map (fun x => getF w V.burst * ((x.2 + 255) / 256 * 256))).sum

/-- The bytes of a slice's pool that accepted contracts hold. -/
def State.poolUsed (s : State) (sl : Nat) : Nat :=
  (s.liveCts.map (fun c => s.ctBytes (s.ctAt c) (s.ctUse c).lens sl)).sum

/-! ### Reservations and the bound (R267, R268, checks 11 and 12) -/

/-- The stretch of a cyclic list that holds a picosecond of the cycle. -/
def GateBank.segAt (b : GateBank) (x : Nat) : Seg :=
  let y := x % (b.cycle * 1000)
  (b.segs.find? (fun g => decide (g.lo * 1000 ≤ y) && decide (y < g.hi * 1000))).getD ⟨0, b.cycle, 0xFF, false⟩

/-- A gate is open at a picosecond of the cycle; a hold closes a preemptible class where `held`. -/
def GateBank.openAt (b : GateBank) (k x : Nat) (held : Bool) : Bool :=
  let g := b.segAt x
  natBit g.gates k && !(held && g.hold)

/-- A gate stays open for `len` picoseconds from `x`. -/
def GateBank.spans (b : GateBank) (k : Nat) : Nat → Nat → Nat → Bool
  | 0, _, _ => false
  | fuel + 1, x, len =>
    let g := b.segAt x
    let left := g.hi * 1000 - x % (b.cycle * 1000)
    natBit g.gates k && (decide (len ≤ left) || b.spans k fuel (x + left) (len - left))

/-- A contract as the reservation checks see it on one port: the contract, its image, the largest P_i of its ingress ports
in nanoseconds, its protected maximum and whether its copy is cut-through. -/
structure Plan where
  ct : Nat
  image : BitVec 1024
  inLat : Nat
  inLine : Nat
  lens : List (Nat × Nat)
  cut : List Nat
deriving DecidableEq, Repr

/-- The protected maximum on a port. -/
def lenOn (l : List (Nat × Nat)) (q : Nat) : Nat := ((l.find? (fun x => x.1 = q)).map (·.2)).getD 0

/-- D of R267 in picoseconds. -/
def Plan.d (x : Plan) (q : Nat) : Nat :=
  if x.cut.contains q then 90000 else max 82000 (x.inLine + 52000) + 26000

/-- What one list of a port says of a contract: the RESERVE entry at which check 11 fails, the one at which check 12 does, and
the largest W in picoseconds. -/
structure Judged where
  window : Option Nat := none
  bound : Option Nat := none
  w : Nat := 0
deriving DecidableEq, Repr

/-- Join two judgements: the first failure of each kind stands. -/
def Judged.join (a b : Judged) : Judged := ⟨a.window.or b.window, a.bound.or b.bound, max a.w b.w⟩

/-- Put `x` into a list that rises by `key`, before the first element whose key is not smaller. -/
def insertBy {α : Type} (key : α → Nat) (x : α) : List α → List α
  | [] => [x]
  | y :: l => if key x ≤ key y then x :: y :: l else y :: insertBy key x l

/-- A list in rising order of `key`; elements of one key keep their order. -/
def sortBy {α : Type} (key : α → Nat) (l : List α) : List α := l.foldr (insertBy key) []

/-- The opening instants of the arrival windows within a cycle of a list, in nanoseconds from its start, in order. -/
def arrivalOpens (w : BitVec 1024) (b : GateBank) : List Nat :=
  let per := getF w V.period
  let ph := (per - b.base % per) % per
  let l := (List.range (b.cycle / per)).flatMap (fun j => (List.range (getF w V.count)).map (fun i =>
    (ph + j * per + getF w V.arrOfs + i * per / getF w V.count) % b.cycle))
  sortBy id l

/-- The RESERVE entries that each arrival window takes: the first BURST that are left, at or after its opening, cyclically. -/
def groupsOf (cycle burst : Nat) : List Nat → List (Nat × Nat) → List (Nat × List (Nat × Nat))
  | [], _ => []
  | a :: rest, free =>
    let key (x : Nat × Nat) := (x.2 + cycle - a) % cycle
    let g := (sortBy key free).take burst
    (a, g) :: groupsOf cycle burst rest (free.filter (fun x => !g.contains x))

/-- The reservations of accepted contracts and of this one in a list: offset in nanoseconds, contract, line time in ps. -/
def State.listReserves (s : State) (x : Plan) (q : Nat) (b : GateBank) : List (Nat × Nat × Nat) :=
  b.marks.filterMap (fun (_, o, e) =>
    let c := getF e G.arg
    if getF e G.op ≠ 4 then none
    else if c = x.ct then some (o, c, s.linePs q (lenOn x.lens q + 20))
    else if s.accepted c then some (o, c, s.linePs q (lenOn (s.ctUse c).lens q + 20))
    else none)

/-- Conditions 1 to 6 of R267 for one RESERVE entry of arrival window `a`. -/
def State.judgeEntry (s : State) (x : Plan) (q : Nat) (b : GateBank) (all : List (Nat × Nat × Nat)) (a idx off : Nat) : Judged :=
  let v := getF x.image
  let cyc := b.cycle * 1000
  let k := v V.cls
  let lp := lenOn x.lens q
  let line := s.linePs q (lp + 20)
  let active := s.on (F.PORT_MM_CFG.MM_EN q) && s.on (F.PORT_MM_CFG.VERIFY_DIS q)
  let o := off * 1000
  let before := (o + cyc - 1) % cyc
  let r := a + (off + b.cycle - a) % b.cycle
  let pre := (List.range 8).filter (s.preemptible q)
  let w := if pre.any (fun c => b.openAt c o active) then s.linePs q (min lp (s.fmin q + 63) + 20) else 0
  let opens := b.openAt k o false && !b.openAt k before false
  let follows := all.any (fun (o2, _, l2) =>
    let gap := (o + cyc - o2 * 1000) % cyc
    decide (0 < gap) && decide (gap ≤ 200000) && decide (l2 ≤ gap) && b.spans k 2100 (o2 * 1000) gap)
  let c5 := (List.range 8).all (fun c => c == k || (if s.preemptible q c then active || !b.openAt c o active
    else !(b.openAt c o false && b.openAt c before false)))
  let c6 := all.all (fun (o2, c2, l2) =>
    c2 == x.ct || (decide (l2 ≤ (o + cyc - o2 * 1000) % cyc) && decide (line ≤ (o2 * 1000 + cyc - o) % cyc)))
  let c1 := decide ((a + v V.arrJit + x.inLat + s.encap q) * 1000 + x.d q ≤ r * 1000)
  if !(c1 && b.spans k 2100 o line && (opens || follows) && c5 && c6) then { window := some idx, w := w }
  else if (v V.bound) * 1000 < (r - a + s.outLat q) * 1000 + w then { bound := some idx, w := w }
  else { w := w }

/-- Checks 11 and 12 of a contract on one list of a port. -/
def State.judgeList (s : State) (x : Plan) (q : Nat) (b : GateBank) : Judged :=
  let per := getF x.image V.period
  let burst := getF x.image V.burst
  let rs := b.reserves x.ct
  if b.cycle = 0 || b.cycle % per ≠ 0 || rs.length ≠ burst * getF x.image V.count * (b.cycle / per) then
    { window := some ((rs.head?.map (·.1)).getD 0) }
  else
    let all := s.listReserves x q b
    (groupsOf b.cycle burst (arrivalOpens x.image b) rs).foldl (fun j (a, g) =>
      g.foldl (fun j (idx, off) => j.join (s.judgeEntry x q b all a idx off)) j) {}

/-- Checks 11 and 12 on a list of ports and lists: the refusal with its RESULT0, or none (R265, R267, R268). -/
def State.judge (s : State) (x : Plan) (jobs : List (Nat × Option GateBank)) : Option (Nat × Nat) :=
  let js := jobs.map (fun (q, b) => (q, match b with | some b => s.judgeList x q b | none => { window := some 0 }))
  let at_ (q i : Nat) := q + i * 2 ^ 16 + 2 ^ 31
  match js.findSome? (fun (q, j) => j.window.map (at_ q)) with
  | some r => some (12, r)
  | none =>
    let top := (js.map (fun (q, j) => x.d q + s.outLat q * 1000 + j.w)).foldl max 0
    let floor_ := max 1200 (((x.inLat + 40 + 500) * 1000 + top + 99999) / 100000 * 100)
    if getF x.image V.bound < floor_ then some (13, 0)
    else (js.findSome? (fun (q, j) => j.bound.map (at_ q))).map (fun r => (13, r))

/-- The lists that admission looks at on a port: the operational one, and the administrative one under a pending change (R266). -/
def State.ctLists (s : State) (q : Nat) : List (Nat × Option GateBank) :=
  (q, if s.on (F.SCHED_STATUS.OPER_VALID q) then some (s.operBank q) else none) ::
  (if (s.sch q).change.isSome then [(q, some (s.adminBank q))] else [])

/-- The plan of a contract. -/
def State.planOf (s : State) (ct : Nat) (w : BitVec 1024) (lens : List (Nat × Nat)) (cut : List Nat) : Plan :=
  ⟨ct, w, ((ctIns w).map s.inLat).foldl max 0, ((ctIns w).map (fun p => s.linePs p (getF w V.maxLen))).foldl max 0, lens, cut⟩

/-- The contract of a port that a list would break (R270). -/
def State.breaks (s : State) (q : Nat) (b : GateBank) : Option Nat :=
  s.liveCts.find? (fun c =>
    let w := s.ctAt c
    natBit (getF w V.egress) q && (s.judge (s.planOf c w (s.ctUse c).lens (s.ctUse c).cut) [(q, some b)]).isSome)

/-! ### Commands -/

/-- The refusals of checks 4 to 10: a code and RESULT0. -/
def State.ctRefusal (s : State) (w : BitVec 1024) (e : BitVec 256) (u : CtUse) (ctxs : List (Nat × Nat)) : Option (Nat × Nat) :=
  let k := getF w V.cls
  let len := getF w V.maxLen
  let egs := ctEgs w
  let bad (q : Nat) := s.preemptible q k || s.tsa q k != 0 || s.dbfEn q k || !s.gateEn q
  let pins := s.ctPins ctxs
  let slices := List.range 13
  let limit := (if s.grade2496 then 512 else 96) * 1000000000
  match egs.find? bad with
  | some q => some (4, q + 2 ^ 31)
  | none =>
    match ((ctIns w).find? (fun p => decide (s.fld (F.PORT_MAC_CFG.RX_MAX_LEN p) < len))).or
        (egs.find? (fun q => decide (s.fld (F.PORT_MAC_CFG.TX_MAX_LEN q) < lenOn u.lens q))) with
    | some q => some (5, q + 2 ^ 31)
    | none =>
      if !s.ctMeter e w then some (8, 0)
      else if pins ≠ 0 then some (pins, 0)
      else if slices.any (fun sl => s.ctExtra w u.lens sl ≠ 0 &&
          decide (limit < (s.liveCts.map (fun c => s.ctExtra (s.ctAt c) (s.ctUse c).lens sl)).sum + s.ctExtra w u.lens sl)) then some (11, 0)
      else if slices.any (fun sl => s.ctBytes w u.lens sl ≠ 0 &&
          decide (s.fld (F.CT_POOL.POOL sl) * 1024 < s.poolUsed sl + s.ctBytes w u.lens sl)) then some (14, 0)
      else if slices.any (fun sl => u.cut.any (fun q => s.portSlice q == sl) && decide (s.fld F.WET_CFG.WET_CAP <
          ((s.liveCts.filter (fun c => (s.ctUse c).cut.any (fun q => s.portSlice q == sl))).map (fun c => getF (s.ctAt c) V.burst)).sum +
          getF w V.burst)) then some (15, 0)
      else none

/-- Acceptance (R269). -/
def State.accept (s : State) (ct : Nat) (w : BitVec 1024) (u : CtUse) (ctxs : List (Nat × Nat)) : State :=
  let h := getF w V.stream
  let e := putF (putF (s.streamAt h) E.strContracted 1) E.strContract ct
  let s1 := s.setCls { s.cls with stream := Tbl.set0 s.cls.stream h e }
  let s2 := s1.each u.keys (fun k t => match t.fdbFind k with
    | some pos => t.fdbPut pos (putF (Tbl.at0 t.cls.fdb pos) E.fdbCref 1)
    | none => t)
  let s3 := s2.each ctxs (fun (n, g) t => t.pinCtx n (if t.ctxValid n then (ctxGroup (t.ctxAt n)).getD g else g) true)
  let s4 := s3.ctPut ct (putF w V.state 1)
  { s4 with ct := { s4.ct with
      use := Tbl.setD (fun _ => CtUse.none_) s4.ct.use ct u,
      seen := [2 * ct, 2 * ct + 1].foldl (fun t k => Tbl.setD (fun _ => ((0, 0) : Nat × Nat)) t k (0, 0)) s4.ct.seen } }

/-- CT_ADMIT (R265, R266, R269). -/
def ctAdmit : Body := fun c s =>
  let ct := c.a0 13 0
  let w := ctFields (BitVec.ofNat 1024 (leAt c.cont 0 128))
  if 16384 ≤ c.a0 63 0 || !ctImageOk w then refuse s 6
  else if s.accepted ct then refuse s 2
  else
    let h := getF w V.stream
    let e := s.streamAt h
    if !isF e E.strValid || isF e E.strContracted then refuse s 7
    else
      let ins := ctIns w
      let egs := ctEgs w
      let paths := ins.map (fun p => (p, s.ctPath e h p))
      let loops := (ins ++ egs).any (fun p => s.fld (F.PORT_MODE.LOOPBACK p) != 0)
      if egs = [] || loops || paths.any (fun x => match x.2 with | some (_, l, _) => l != egs | none => true) then refuse s 3
      else
        let keys := (paths.flatMap (fun x => match x.2 with | some (k, _, _) => k | none => [])).foldl addOnce []
        let ctxs := s.ctContexts e ins egs (paths.map (fun x => (x.1, x.2.bind (fun y => y.2.2))))
        let u : CtUse := ⟨keys, ctxs.map (·.1), egs.map (fun q => (q, s.ctLen e (getF w V.maxLen) ins q)), egs.filter (s.ctCut e h ins)⟩
        match s.ctRefusal w e u ctxs with
        | some (code, r) => refuseAt s code r
        | none =>
          match s.judge (s.planOf ct w u.lens u.cut) (egs.flatMap s.ctLists) with
          | some (code, r) => refuseAt s code r
          | none => (s.accept ct w u ctxs, {})

/-- CT_WITHDRAW (R274): what no other contract uses is given back. -/
def ctWithdraw : Body := fun c s =>
  let ct := c.a0 13 0
  if 16384 ≤ c.a0 63 0 then refuse s 6
  else if !s.accepted ct then refuse s 1
  else
    let w := s.ctAt ct
    let u := s.ctUse ct
    let h := getF w V.stream
    let s1 := s.ctPut ct (putF w V.state 0)
    let s2 : State := { s1 with ct := { s1.ct with use := Tbl.setD (fun _ => CtUse.none_) s1.ct.use ct CtUse.none_ } }
    let e := putF (putF (s2.streamAt h) E.strContracted 0) E.strContract 0
    let s3 := s2.setCls { s2.cls with stream := Tbl.set0 s2.cls.stream h e }
    let others := s3.liveCts.map s3.ctUse
    let s4 := s3.each (u.keys.filter (fun k => !others.any (fun o => o.keys.contains k))) (fun k t => match t.fdbFind k with
      | some pos => t.fdbPut pos (putF (Tbl.at0 t.cls.fdb pos) E.fdbCref 0)
      | none => t)
    (s4.each (u.ctxs.filter (fun n => !others.any (fun o => o.ctxs.contains n))) (fun n t => t.unrefCtx n), {})

/-- CT_READ: Table 11.1. -/
def ctRead : Body := fun c s =>
  let ct := c.a0 13 0
  if 16384 ≤ c.a0 63 0 then refuse s 6
  else if !s.accepted ct then refuse s 1
  else (s, { conts := leBytes 128 (s.ctAt ct).toNat })

/-- CT_CLEAR_CNT: the counters and WORST become zero. -/
def ctClearCnt : Body := fun c s =>
  let ct := c.a0 13 0
  if 16384 ≤ c.a0 63 0 then refuse s 6
  else if !s.accepted ct then refuse s 1
  else (s.ctPut ct (putF (ctFields (s.ctAt ct)) V.state 1), {})

/-- CT_ADMIT (Table 16.7, group 7). -/
def execCtAdmit (c : RingCmd) (s : State) : Res := ringExec 7 0 ctAdmit c s

/-- CT_WITHDRAW. -/
def execCtWithdraw (c : RingCmd) (s : State) : Res := ringExec 7 1 ctWithdraw c s

/-- CT_READ. -/
def execCtRead (c : RingCmd) (s : State) : Res := ringExec 7 2 ctRead c s

/-- CT_CLEAR_CNT. -/
def execCtClearCnt (c : RingCmd) (s : State) : Res := ringExec 7 3 ctClearCnt c s

end Sys2Proof.Machine
end

