-- ==== Sys2Proof/Machine/Gates.lean ====
section
/-!
DEFINITION. Gate control lists: the entries as they execute, the change of lists, and the gate-list commands (R155, R247 to
R251, R260, R270; Tables 10.3 to 10.5).
-/
namespace Sys2Proof.Machine

/-! ### Executing a list (R248) -/

/-- The cycle that starts at `k` is begun: not when a pending change lies no more than CYCLE_EXT after it (R250). -/
def State.cycleBegun (s : State) (p k : Nat) : Bool :=
  match (s.sch p).change with
  | some c => !(decide (k ≤ c) && decide (c - k ≤ (s.operBank p).ext))
  | none => true

/-- A set armed late, or skipped by a clock step, fires at a cycle boundary of a port whose list names it (R155). -/
def State.fireLate (s : State) (p t f : Nat) : State :=
  let x := s.flip f
  if x.state = 1 && x.armedLate then ((s.fireFlip f t).ctxEvent 5 f 0).blk (sliceCtr (s.portSlice p) 3) else s

/-- GATE_CYCLE_START (R248, R155): the cycle that holds this instant begins at entry 0. -/
def execGateCycleStart (p : Fin 96) (s : State) : Res :=
  let p := p.val
  let b := s.operBank p
  if !s.listRuns p || s.now < b.base || b.cycle = 0 then .next s
  else
    let k := b.cycleAt s.now
    if !s.cycleBegun p k then .next s
    else
      let s1 := s.setSch p { s.sch p with cycleStart := k, idx := 0, nextAt := k }
      let named := (b.marks.filterMap (fun (_, _, e) => if getF e G.op = 3 then some (getF e G.flip) else none)).foldl addOnce []
      .next (s1.each named (fun f t => t.fireLate p k f))

/-- The next entry of the list in progress when its instant has come (R248): the list is cut at the cycle's end. -/
def State.dueEntry (s : State) (p op : Nat) : Option (BitVec 64) :=
  let b := s.operBank p
  let x := s.sch p
  if s.listRuns p && decide (x.idx < b.length) && decide (x.nextAt ≤ s.now) && decide (x.nextAt < x.cycleStart + b.cycle) then
    let e := Tbl.at0 b.entries x.idx
    if getF e G.op = op then some e else none
  else none

/-- The entry has executed: the next one starts where it ends. -/
def State.stepEntry (s : State) (p : Nat) (e : BitVec 64) : State :=
  let x := s.sch p
  (s.setSch p { x with idx := x.idx + 1, nextAt := x.nextAt + (if getF e G.op ≤ 2 then getF e G.interval else 0) }).count 0x6E1

/-- An entry sets the gates, and the hold where it says one (R248, R249). -/
def State.setGates (s : State) (p : Nat) (e : BitVec 64) (hold : Option Bool) : State :=
  let s1 := s.credits p
  let x := s1.sch p
  (s1.setSch p { x with gates := some (getF e G.gates), hold := hold.getD x.hold }).stepEntry p e

/-- GATE_SET_GATES (R248). -/
def execGateSetGates (p : Fin 96) (s : State) : Res :=
  match s.dueEntry p.val 0 with
  | some e => .next (s.setGates p.val e none)
  | none => .next s

/-- GATE_SET_HOLD (R249): under an active preemption a preemptible frame on the line is cut at the boundary that R39 allows;
a hold that stops one counts in MM_TX_HOLD. -/
def execGateSetHold (p : Fin 96) (s : State) : Res :=
  let p := p.val
  match s.dueEntry p 1 with
  | none => .next s
  | some e =>
    let at_ := (s.sch p).nextAt
    let s1 := s.setGates p e (some true)
    if !s1.preemption p then .next s1
    else
      let l := s1.line p
      let running := l.now.any (fun x => s1.preemptible p x.cls)
      let stopped := running || l.rest.any (fun x => x.until_ == some at_)
      let s2 := match l.now with
        | some x => match s1.boundary p x with
          | some n => s1.cutAt p x n
          | none => s1
        | none => s1
      .next (s2.when (stopped && !s2.quiet p) (fun t => t.stat p 50))

/-- GATE_SET_RELEASE (R249). -/
def execGateSetRelease (p : Fin 96) (s : State) : Res :=
  match s.dueEntry p.val 2 with
  | some e => .next (s.setGates p.val e (some false))
  | none => .next s

/-- GATE_KEYFLIP (R155, R156): an armed set that is not late fires when its entry starts at or after NOT_BEFORE. -/
def execGateKeyflip (p : Fin 96) (s : State) : Res :=
  let p := p.val
  match s.dueEntry p 3 with
  | none => .next s
  | some e =>
    let f := getF e G.flip
    let x := s.flip f
    let at_ := (s.sch p).nextAt
    let fires := x.state == 1 && !x.armedLate && decide (x.notBefore.1 * 1000000000 + x.notBefore.2 ≤ at_)
    .next ((s.when fires (fun t => t.fireFlip f at_)).stepEntry p e)

/-- GATE_RESERVE (R251): the entry reserves a start at its instant while its contract is accepted; otherwise it is inert. -/
def execGateReserve (p : Fin 96) (s : State) : Res :=
  let p := p.val
  match s.dueEntry p 4 with
  | none => .next s
  | some e =>
    let ct := getF e G.arg
    let at_ := (s.sch p).nextAt
    let fresh := s.accepted ct && decide (s.now ≤ at_ - s.encap p) && ((s.sch p).startAt at_).isNone
    .next ((s.when fresh (fun t => t.setStart p ⟨at_, some ct, none, false, 0⟩)).stepEntry p e)

/-! ### The change of lists (R250) -/

/-- Copies whose reservation no list in force or scheduled names any more take the next one of their stream (R252). -/
def State.reassign (s : State) (p : Nat) : State :=
  s.each (List.range 8) (fun k t =>
    (t.queue p k).foldl (fun u c =>
      match c.start, c.contract with
      | some m, some ct =>
        if !u.accepted ct || (u.reservedFrom p ct m).contains m then u
        else
          let v := u.dropStart p m
          let next := v.freeReservation p ct v.now
          let w := match next with | some g => v.setStart p ⟨g, some ct, some c.no, false, 0⟩ | none => v
          w.setQueue p k ((w.queue p k).map (fun d => if d.no = c.no then { d with start := next } else d))
      | _, _ => u) t)

/-- The administrative bank becomes operational at an instant, whose role is that of C (R250, R260). -/
def State.swapBanks (s : State) (p at_ : Nat) : State :=
  let s1 := s.credits p
  let s2 := s1.setSch p { s1.sch p with change := none, written := false, cycleStart := at_, idx := 0, nextAt := at_ }
  let s3 := (((s2.put (F.SCHED_STATUS.OPER_BANK p) (1 - s2.fld (F.SCHED_STATUS.OPER_BANK p))).put (F.SCHED_STATUS.OPER_VALID p) 1).put
    (F.SCHED_STATUS.PENDING p) 0)
  let s4 := (s3.reassign p).schedEvent p 0 0
  s4.each [7, 6, 5, 4, 3, 2, 1, 0] (fun k t => t.dropNeverFit p k (t.queue p k).length)

/-- GCL_CONFIG_CHANGE (R250): at C the banks swap and CHANGE_DONE is posted. -/
def execGclConfigChange (p : Fin 96) (s : State) : Res :=
  match (s.sch p.val).change with
  | some c => if c ≤ s.now then .next (s.swapBanks p.val c) else .next s
  | none => .next s

/-- The change time of a bank for a command carried out now (R250): none under ADMIN_PAST_REJECT. -/
def State.changeTime (s : State) (p : Nat) (b : GateBank) (reject : Bool) : Option Nat :=
  let e := s.now + 10000
  if e ≤ b.base then some b.base
  else if reject && s.on (F.SCHED_CFG.ADMIN_PAST_REJECT p) then none
  else some (b.base + (e - b.base + b.cycle - 1) / b.cycle * b.cycle)

/-- Schedule a change; a sleeping transmitter whose planned wake would be too late starts to wake at once (R250). -/
def State.schedule (s : State) (p c : Nat) : State :=
  let before := s.nextOpen p windowFuel s.now
  let s1 := (s.setSch p { s.sch p with change := some c }).put (F.SCHED_STATUS.PENDING p) 1
  let after := s1.nextOpen p windowFuel s1.now
  let sooner := match before, after with
    | some a, some b => decide (b < a)
    | none, some _ => true
    | _, _ => false
  (s1.reassign p).when sooner (fun t => t.wakeTx p)

/-! ### The gate-list commands (Tables 10.4, 10.5, 16.7) -/

/-- An entry is one of Table 10.3: no reserved operation or bit. -/
def gclEntryOk (e : BitVec 64) : Bool :=
  let op := getF e G.op
  decide (op ≤ 4) && getF e ⟨51, 46⟩ == 0 &&
  (match op with
   | 3 => getF e G.gates == 0 && getF e ⟨45, 40⟩ == 0
   | 4 => getF e G.gates == 0
   | _ => getF e G.arg == 0)

/-- An entry's interval is one of Table 10.3. -/
def gclIntervalOk (e : BitVec 64) : Bool := if getF e G.op ≤ 2 then decide (32 ≤ getF e G.interval) else getF e G.interval == 0

/-- The port of a gate-list command: none where ARG0 is out of range. -/
def gclPort (c : RingCmd) : Option Nat :=
  if c.a0 6 0 < 96 && c.a0 7 7 = 0 && c.a0 15 9 = 0 && c.a0 63 26 = 0 then some (c.a0 6 0) else none

/-- The entries of a range, 1 to 1,024 in all. -/
def gclRange (c : RingCmd) : Option (Nat × Nat) :=
  let i := c.a0 25 16
  let n := c.a1 10 0
  if 1 ≤ n && i + n ≤ 1024 then some (i, n) else none

/-- GCL_WRITE: entries of the administrative bank from BUF. -/
def gclWrite : Body := fun c s =>
  match gclPort c, gclRange c with
  | some p, some (i, n) =>
    if (s.sch p).change.isSome then refuse s 12
    else match c.bufIn with
      | none => dmaError s
      | some bs =>
        let es := (List.range n).map (fun j => BitVec.ofNat 64 (leAt bs (8 * j) 8))
        if !es.all gclEntryOk then refuse s 6
        else
          let b := s.adminBank p
          let t := es.zipIdx.foldl (fun t (e, j) => Tbl.set0 t (i + j) e) b.entries
          let s1 := s.setAdmin p { b with entries := t }
          (s1.setSch p { s1.sch p with written := true }, {})
  | _, _ => refuse s 6

/-- GCL_READ: entries of either bank into BUF. -/
def gclRead : Body := fun c s =>
  match gclPort c, gclRange c with
  | some p, some (i, n) =>
    let b := if c.a0 8 8 = 0 then s.operBank p else s.adminBank p
    (s, { bufOut := (List.range n).flatMap (fun j => leBytes 8 (Tbl.at0 b.entries (i + j)).toNat) })
  | _, _ => refuse s 6

/-- GCL_PARAMS: the administrative base time, CYCLE, CYCLE_EXT and LENGTH. -/
def gclParams : Body := fun c s =>
  match gclPort c with
  | none => refuse s 6
  | some p =>
    let ns := leAt c.cont 6 4
    let cycle := leAt c.cont 10 4
    let ext := leAt c.cont 14 4
    let len := leAt c.cont 18 2
    if 1000000000 ≤ ns || cycle < 1000 || 1000000000 < cycle || cycle < ext || len < 1 || 1024 < len then refuse s 6
    else if (s.sch p).change.isSome then refuse s 12
    else
      let s1 := s.setAdmin p { s.adminBank p with base := instantOf c.cont, cycle := cycle, ext := ext, length := len }
      (s1.setSch p { s1.sch p with written := true }, {})

/-- GCL_CHANGE (R250, R270): INVALID with GATE_EN 0, without parameters, for an interval outside Table 10.3, or when a contract
of the port would break, which posts BREAK; PAST; otherwise the change time is returned. -/
def gclChange : Body := fun c s =>
  match gclPort c with
  | none => refuse s 6
  | some p =>
    let b := s.adminBank p
    if (s.sch p).change.isSome then refuse s 12
    else if !s.gateEn p || b.length = 0 || !b.list.all gclIntervalOk then refuse s 15
    else match s.changeTime p b true with
      | none => refuse s 14
      | some t =>
        match s.breaks p b with
        | some ct => (s.ctEvent 2 ct p, { code := 15 })
        | none => (s.schedule p t, { conts := padTo 32 (instantBytes t) })

/-- GCL_CANCEL: a scheduled change is withdrawn. -/
def gclCancel : Body := fun c s =>
  match gclPort c with
  | none => refuse s 6
  | some p =>
    if (s.sch p).change.isNone then refuse s 1
    else
      let s1 := (s.setSch p { s.sch p with change := none }).put (F.SCHED_STATUS.PENDING p) 0
      (s1.reassign p, {})

/-- The parameters of a bank as GCL_PARAMS gives them. -/
def GateBank.params (b : GateBank) : List Byte := instantBytes b.base ++ leBytes 4 b.cycle ++ leBytes 4 b.ext ++ leBytes 2 b.length

/-- GCL_STATUS: operational and administrative parameters, the pending change time, the bank in force, and which of them exist. -/
def gclStatus : Body := fun c s =>
  match gclPort c with
  | none => refuse s 6
  | some p =>
    (s, { conts := padTo 64 ((s.operBank p).params ++ (s.adminBank p).params ++ instantBytes ((s.sch p).change.getD 0) ++
      leBytes 1 (s.fld (F.SCHED_STATUS.OPER_BANK p) + 2 * b2n (s.on (F.SCHED_STATUS.OPER_VALID p)) + 4 * b2n (s.sch p).change.isSome)) })

/-- GCL_WRITE (Table 16.7, group 3). -/
def execGclWrite (c : RingCmd) (s : State) : Res := ringExec 3 0 gclWrite c s

/-- GCL_READ. -/
def execGclRead (c : RingCmd) (s : State) : Res := ringExec 3 1 gclRead c s

/-- GCL_PARAMS. -/
def execGclParams (c : RingCmd) (s : State) : Res := ringExec 3 2 gclParams c s

/-- GCL_CHANGE. -/
def execGclChange (c : RingCmd) (s : State) : Res := ringExec 3 3 gclChange c s

/-- GCL_CANCEL. -/
def execGclCancel (c : RingCmd) (s : State) : Res := ringExec 3 4 gclCancel c s

/-- GCL_STATUS. -/
def execGclStatus (c : RingCmd) (s : State) : Res := ringExec 3 5 gclStatus c s

end Sys2Proof.Machine
end

