-- ==== Sys2Proof/Machine/Time.lean ====
section
/-!
DEFINITION. The working clock, its sources, PPS and time-of-day lines, PTP data sets and tables (R230 to R242), and the
tunnel header table (Table 5.7).
-/
namespace Sys2Proof.Machine

/-! ### Setting and stepping the clock (R231, R232) -/

/-- The source of the working clock. -/
def State.clockSrc (s : State) : Nat := s.fld F.TIME_CTL.SRC

/-- The first instant at or after `t` at offset `o` of a bank's cycles. -/
def GateBank.firstAt (b : GateBank) (o t : Nat) : Nat :=
  let x := b.base + o
  if t ≤ x || b.cycle = 0 then x else x + (t - x + b.cycle - 1) / b.cycle * b.cycle

/-- A forward step from `old` to `new` skips KeyFlip entries: an armed set that one of them would have fired is late (R232). -/
def State.skipFlips (s : State) (p old new : Nat) : State :=
  if !s.listRuns p then s
  else
    let b := s.operBank p
    s.each b.marks (fun (_, o, e) t =>
      let f := getF e G.flip
      let x := t.flip f
      let at_ := b.firstAt o (max (old + 1) (x.notBefore.1 * 1000000000 + x.notBefore.2))
      if getF e G.op = 3 && x.state = 1 && decide (at_ < new) then t.setFlip f { x with armedLate := true } else t)

/-- Gate states, hold and the next entry of a port follow the new value of the clock (R232). -/
def State.resync (s : State) (p : Nat) : State :=
  if !s.listRuns p then s
  else
    let b := s.operBank p
    let s1 := s.credits p
    let k := b.cycleAt s1.now
    let (g, h, _) := s1.gatesAt p s1.now
    let r := b.list.foldl (fun (x : Nat × Nat) e =>
      if x.2 < s1.now then (x.1 + 1, x.2 + (if getF e G.op ≤ 2 then getF e G.interval else 0)) else x) (0, k)
    s1.setSch p { s1.sch p with cycleStart := k, idx := r.1, nextAt := r.2, gates := some g, hold := h }

/-- Committed starts keep their instants on the line: their clock values move with the clock (R232). -/
def State.moveStarts (s : State) (p : Nat) (d : Int) : State :=
  let shift (m : Nat) : Nat := ((m : Int) + d).toNat
  let x := s.sch p
  let moved := (x.starts.filter (·.committed)).map (·.mac)
  let s1 := s.setSch p { x with starts := x.starts.map (fun g => if g.committed then { g with mac := shift g.mac } else g) }
  s1.each (List.range 8) (fun k t => t.setQueue p k ((t.queue p k).map (fun c =>
    match c.start with
    | some m => if moved.contains m then { c with start := some (shift m) } else c
    | none => c)))

/-- Set the working clock (R231, R232): STEP is posted for a change of more than 1 µs. -/
def State.setClock (s : State) (sec ns : Nat) : State :=
  let old := s.now
  let new : Nat := sec % 2 ^ 48 * 1000000000 + ns
  let d : Int := (new : Int) - (old : Int)
  let ports := List.range 96
  let s1 := s.each ports (fun p t => (t.moveStarts p d).when (decide (old < new)) (fun u => u.skipFlips p old new))
  let s2 : State := { s1 with sec := new / 1000000000, ns := new % 1000000000, frac := 0, res := 0 }
  (s2.each ports (fun p t => t.resync p)).when (decide (1000 < d.natAbs)) (fun t => t.timeEvent 0 0)

/-- Step the working clock by a signed number of nanoseconds. -/
def State.stepClock (s : State) (d : Int) : State :=
  let t := ((s.now : Int) + d).toNat
  let f := s.frac
  { s.setClock (t / 1000000000) (t % 1000000000) with frac := f }

/-- TIME_SET (R231): SET loads TIME_SET_* while the host is the source. -/
def execTimeSet (s : State) : Res :=
  if s.regsOpen && s.clockSrc = 6 then
    .next (s.setClock (s.fld F.TIME_SET_SEC_HI.SEC * 2 ^ 32 + s.fld F.TIME_SET_SEC_LO.SEC) (s.fld F.TIME_SET_NS.NS))
  else .next s

/-- TIME_STEP (R231): STEP applies TIME_STEP while the host is the source. -/
def execTimeStep (s : State) : Res :=
  if s.regsOpen && s.clockSrc = 6 then .next (s.stepClock (signed 32 (s.fld F.TIME_STEP.STEP))) else .next s

/-- TIME_SNAP: the clock is latched into TIME_SNAP_*. -/
def execTimeSnap (s : State) : Res :=
  if s.regsOpen then
    .next (((s.put F.TIME_SNAP_SEC_HI.SEC (s.sec / 2 ^ 32)).put F.TIME_SNAP_SEC_LO.SEC (s.sec % 2 ^ 32)).put F.TIME_SNAP_NS.NS s.ns)
  else .next s

/-- A rate adjustment within ±500 ppm, in units of 2^-8 ppb. -/
def rateOkFor (v : Word) : Bool := decide ((signed 32 v.toNat).natAbs ≤ 128000000)

/-- TIME_RATE_WRITE (R231): while the host is the source; a larger value is refused as R86 states. -/
def execTimeRateWrite (v : Word) (s : State) : Res :=
  if !(s.regsOpen && s.clockSrc = 6) then .next s
  else if rateOkFor v then .next (s.setReg R.TIME_RATE v)
  else .next (s.timeEvent 4 0)

/-! ### Lock (R233) -/

/-- LOCKED rises, or falls, and the change is posted. -/
def State.setLocked (s : State) (on : Bool) : State :=
  if s.on F.TIME_STATUS.LOCKED = on then s else (s.put F.TIME_STATUS.LOCKED (b2n on)).timeEvent (if on then 1 else 2) 0

/-- An update of the source with an offset in nanoseconds (R233). -/
def State.lockUpdate (s : State) (off : Int) : State :=
  let n := if off.natAbs ≤ 100 then min 16 (s.time.good + 1) else 0
  let s1 : State := { s with time := { s.time with good := n } }
  if n = 16 then s1.setLocked true else if 1000 < off.natAbs then s1.setLocked false else s1

/-- CLOCK_SOURCE_ADJUST (R231 to R233): an update by the source that SRC names, a PTP instance that runs or the PPS and TOD lines:
its offset is judged for LOCKED, then the clock takes a new rate, or a step by the offset. A PTP instance steps only beyond
its STEP_THR. -/
def execClockSourceAdjust (a : ClockAdjust) (s : State) : Res :=
  let src := s.clockSrc
  if 4 < src || (src < 4 && !s.on (F.PTP_INST_CFG.EN src)) then .next s
  else
    let s1 := s.lockUpdate a.offset
    match a.rate with
    | some v => .next (if rateOkFor v then s1.setReg R.TIME_RATE v else s1)
    | none =>
      let thr := s.fld (F.PTP_INST_CFG.STEP_THR src)
      if src = 4 || (thr ≠ 0 && decide (thr * 1000 < a.offset.natAbs)) then .next (s1.stepClock a.offset) else .next s1

/-- TS_CAL_DONE (R237): the measurement at entry to UP is complete. -/
def execTsCalDone (p : Fin 96) (s : State) : Res :=
  if s.link p.val = 3 then .next (s.put ⟨R.TS_CAL_OK (p.val / 32), p.val % 32, p.val % 32⟩ 1) else .next s

/-! ### PPS and time-of-day lines (R240 to R242) -/

/-- PPS_IN_EDGE (R241): the edge is latched. -/
def execPpsInEdge (s : State) : Res :=
  let s1 : State := { s with time := { s.time with edge := some s.now, label := none } }
  .next ((s1.put F.PPS_IN_SEC_LO.SEC (s.sec % 2 ^ 32)).put F.PPS_IN_NS.NS s.ns)

/-- PPS_IN_LOSS (R241): no edge for 1.5 s; the source of the PPS and TOD lines is lost. -/
def execPpsInLoss (s : State) : Res :=
  let s1 : State := { s with time := { s.time with edge := none, label := none } }
  if s.clockSrc = 4 then .next ({ s1 with time := { s1.time with good := 0 } }.setLocked false) else .next s1

/-- PPS_OUT_RISE (R240). -/
def execPpsOutRise (s : State) : Res :=
  if s.on F.PPS_CFG.PPS_OUT_EN && (s.on F.TIME_STATUS.LOCKED || s.on F.PPS_CFG.PPS_FREE) && !s.time.pps then
    .next (({ s with time := { s.time with pps := true, rise := some s.now } } : State).emit (.pps true))
  else .next s

/-- PPS_OUT_FALL (R240). -/
def execPpsOutFall (s : State) : Res :=
  if s.time.pps then .next (({ s with time := { s.time with pps := false } } : State).emit (.pps false)) else .next s

/-- The second that an edge at `t` marks, under PPS_OFFSET. -/
def State.markedSecond (s : State) (t : Nat) : Nat :=
  (((t : Int) - signed 20 (s.fld F.PPS_CFG.PPS_OFFSET) + 500000000) / 1000000000).toNat

/-- TOD_OUT_SEND (R242, Table 10.2): the message for the second that the last edge marked. UTC offset, flags, class outside free
run and accuracy are the source's: free values. -/
def execTodOutSend (s : State) : Res :=
  match s.time.rise with
  | none => .next s
  | some t =>
    if !s.on F.TOD_CFG.TOD_OUT_EN then .next s
    else
      let (utc, s1) := s.draw 16
      let (flags, s2) := s1.draw 5
      let (cls, s3) := s2.draw 8
      let (acc, s4) := s3.draw 8
      let body := [0x58, 0x54, 0x01, 0x12] ++ beBytes 6 (s.markedSecond t) ++ beBytes 2 utc.toNat ++ beBytes 1 flags.toNat ++
        beBytes 1 (if s.clockSrc = 5 then 248 else cls.toNat) ++ beBytes 1 acc.toNat ++ [0]
      .next (s4.emit (.tod (body ++ beBytes 2 (crc16 body))))

/-- TOD_IN_RECEIVE (R242): a message that ends within 500 ms after a PPS_IN edge labels that edge; a late or damaged one is
ignored and counted. -/
def execTodInReceive (msg : List Byte) (s : State) : Res :=
  if !s.on F.TOD_CFG.TOD_IN_EN then .next s
  else
    let good := msg.length == 18 && beAt msg 0 2 == 0x5854 && beAt msg 16 2 == crc16 (msg.take 16)
    match s.time.edge with
    | some e =>
      if good && decide (s.now ≤ e + 500000000) then
        .next { s with time := { s.time with label := some (beAt msg 4 6) } }
      else .next ((s.blk 20).timeEvent 3 0)
    | none => .next ((s.blk 20).timeEvent 3 0)

/-! ### PTP tables and data sets (R234, R239) -/

/-- PTP_TC_ENTRY_EXPIRE (R239): a pending residence is 1 s old. -/
def execPtpTcEntryExpire (p : Fin 96) (k : Fin 64) (s : State) : Res :=
  let l := Tbl.getD (fun _ => ([] : List Residence)) s.time.pendingRes p.val
  .next { s with time := { s.time with
    pendingRes := Tbl.setD (fun _ => ([] : List Residence)) s.time.pendingRes p.val (l.eraseIdx k.val) } }

/-- The instance, port and member that a PTP command names; none where they are out of range. -/
def ptpArg (c : RingCmd) : Option (Nat × Nat × Nat) :=
  let p := c.a0 14 8
  if c.a0 7 2 = 0 && c.a0 63 15 = 0 && c.a1 31 16 = 0 && (p < 96 || p = 0x7F) then some (c.a0 1 0, p, c.a1 15 0) else none

/-- The index of a member of the data sets. -/
def ptpKey (i p m : Nat) : Nat := (128 * i + p) * 65536 + m

/-- PTP_GET: the member's dataField. -/
def ptpGet : Body := fun c s =>
  match ptpArg c with
  | none => refuse s 6
  | some (i, p, m) =>
    if !Config.ptpSupported m then refuse s 1
    else (s, { conts := Tbl.getD (fun _ => Config.ptpMember i p m) s.time.members (ptpKey i p m) })

/-- PTP_SET: the member takes the dataField of the command. -/
def ptpSet : Body := fun c s =>
  match ptpArg c with
  | none => refuse s 6
  | some (i, p, m) =>
    if !Config.ptpSupported m then refuse s 1
    else ({ s with time := { s.time with members := Tbl.insert s.time.members (ptpKey i p m) c.cont } }, {})

/-- PTP_GET (Table 16.7, group 10). -/
def execPtpGet (c : RingCmd) (s : State) : Res := ringExec 10 0 ptpGet c s

/-- PTP_SET. -/
def execPtpSet (c : RingCmd) (s : State) : Res := ringExec 10 1 ptpSet c s

/-! ### The tunnel header table (Table 5.7; group 5) -/

/-- HDR_LEN matches IPV6 and VLAN. -/
def tunOk (e : BitVec 1024) : Bool := getF e U.hdrLen == 42 + 20 * getF e U.ipv6 + 4 * getF e U.vlan

/-- TUN_WRITE. -/
def tunWrite : Body := fun c s =>
  let e := putF (putF (BitVec.ofNat 1024 (leAt c.cont 0 128)) ⟨1020, 1016⟩ 0) ⟨1007, 528⟩ 0
  if 4096 ≤ c.a0 63 0 || !tunOk e then refuse s 6
  else (s.setFlt { s.flt with tun := Tbl.set0 s.flt.tun (c.a0 11 0) e }, {})

/-- TUN_READ. -/
def tunRead : Body := fun c s =>
  if 4096 ≤ c.a0 63 0 then refuse s 6 else (s, { conts := leBytes 128 (s.tunAt (c.a0 11 0)).toNat })

/-- TUN_WRITE (Table 16.7, group 5). -/
def execTunWrite (c : RingCmd) (s : State) : Res := ringExec 5 0 tunWrite c s

/-- TUN_READ. -/
def execTunRead (c : RingCmd) (s : State) : Res := ringExec 5 1 tunRead c s

end Sys2Proof.Machine
end

