-- ==== Sys2Proof/Machine/Slices.lean ====
section
/-!
DEFINITION. Slices: their power states (R477 to R482), core faults (R174, R175), rub-down passes (spec/19_rub_down.md) and
slice resets (R489, R493).
-/
namespace Sys2Proof.Machine

/-! ### Power states (Table 21.2) -/

/-- The state of a slice: 0 OFF, 1 PORTS, 2 TABLES, 3 ACTIVE. -/
def State.sliceState (s : State) (sl : Nat) : Nat := natBits (s.reg R.PWR_SLICE_STATUS).toNat (2 * sl + 1) (2 * sl)

/-- Set it; the slice PLL runs in ACTIVE only. -/
def State.setSliceState (s : State) (sl v : Nat) : State :=
  (s.put ⟨R.PWR_SLICE_STATUS, 2 * sl + 1, 2 * sl⟩ v).put ⟨R.CLK_STATUS, sl, sl⟩ (b2n (v == 3))

/-- A port of the group has a lane mode. -/
def State.groupEnabled (s : State) (g : Nat) : Bool := (List.range 8).any (fun j => s.mode (8 * g + j) != 0)

/-- The slice under test, 15 for none. -/
def State.testing (s : State) : Nat := s.fld F.RUB_STATUS.TESTING

/-- The phase of the pass. -/
def State.rubPhase (s : State) : Nat := s.fld F.RUB_STATUS.PHASE

/-- The group that the float carries, 15 for none. -/
def State.carried (s : State) : Nat := s.fld F.RUB_STATUS.CARRIED

/-- The state that the conditions of Table 21.2 give a slice. PORTS takes the steering from DRAIN on, as its row says. -/
def State.sliceWants (s : State) (sl : Nat) : Nat :=
  if sl = floatSlice then
    if s.carried ≠ 15 || (1 ≤ s.rubPhase && decide (s.rubPhase ≤ 5) && (!s.rub.inPlace || s.testing == 12)) then 3 else 2
  else if s.carried = sl then (if s.groupEnabled sl then 1 else 0)
  else if s.groupEnabled sl || (s.testing == sl && decide (1 ≤ s.rubPhase)) then 3
  else 0

/-- A copy of the hit bits of one replica to another (R52, R451). -/
def State.refillHits (s : State) (src dst : Nat) : State :=
  let h := s.cls.hits.foldl (fun t (k, v) => Tbl.setN t k (if natBit v src then natSet v dst else natClr v dst)) s.cls.hits
  { s with cls := { s.cls with hits := h } }

/-- The source of a replica refill (R479): the float's replica, or for the float that of the lowest-numbered ACTIVE slice. -/
def State.refillSource (s : State) (sl : Nat) : Nat :=
  if sl = floatSlice then (firstBelow (fun k => s.sliceState k == 3) 12).getD 12 else floatSlice

/-- A slice that loses power keeps nothing: its cache, gauges and counters (R477). -/
def State.clearSlice (s : State) (sl : Nat) : State :=
  let s1 := s.setExtra sl []
  let s2 := (s1.put (F.WET_GAUGE.TX_INFLIGHT sl) 0).put (F.WET_GAUGE.RX_INFLIGHT sl) 0
  { s2 with perf := { s2.perf with
      ev := s2.perf.ev.filter (fun e => e.1 / 128 != sl),
      blk := s2.perf.blk.filter (fun e => !(decide (256 + 32 * sl ≤ e.1) && decide (e.1 < 288 + 32 * sl))) } }

/-- SLICE_WAKE (R479): the condition for ACTIVE begins to hold. -/
def execSliceWake (sl : Fin 13) (s : State) : Res :=
  let sl := sl.val
  if decide (4 ≤ s.op.code ∧ s.op.code ≤ 6) && s.sliceWants sl = 3 && s.sliceState sl ≠ 3 then
    .next { s with power := { s.power with waking := addOnce s.power.waking sl } }
  else .next s

/-- SLICE_WAKE_DONE (Table 21.3): PLL locked, SRAM initialised, replicas refilled. -/
def execSliceWakeDone (sl : Fin 13) (s : State) : Res :=
  let sl := sl.val
  if !s.power.waking.contains sl then .next s
  else
    let s1 := s.refillHits (s.refillSource sl) sl
    .next (({ s1 with power := { s1.power with waking := s1.power.waking.filter (· != sl) } } : State).setSliceState sl 3)

/-- SLICE_SLEEP (R478, R479): the condition for another state than ACTIVE holds. -/
def execSliceSleep (sl : Fin 13) (s : State) : Res :=
  let sl := sl.val
  let v := s.sliceWants sl
  if v = 3 || v = s.sliceState sl then .next s
  else
    let s1 : State := { s with power := { s.power with waking := s.power.waking.filter (· != sl) } }
    .next ((if v = 0 then ((s1.clearSlice sl).setCached sl []) else s1).setSliceState sl v)

/-! ### A slice reset (R489, Table 21.9) -/

/-- The port groups that a slice serves. -/
def State.groupsOf (s : State) (sl : Nat) : List Nat := (List.range 12).filter (fun g => s.sliceOf g == sl)

/-- What a slice reset does at t = 0 to one port of its groups: frames in the ingress, queued copies and copies on the line. -/
def State.resetPort (s : State) (p : Nat) : State :=
  let g := p / 8
  let s1 := s.each (s.path.frames.filter (fun f => f.port == p && f.verdict.isNone)) (fun f t => (t.frameGone f 6).blk (192 + g))
  let s2 := (s1.purge p (fun _ => true) (fun _ _ t => t.blk (192 + g))).abortLine p
  let x := s2.sch p
  s2.setSch p { x with credit := [], vtime := [], ftag := [] }

/-- A slice reset is carried out (t = 0). -/
def State.resetSlice (s : State) (sl : Nat) : State :=
  let gs := s.groupsOf sl
  let ps := gs.flatMap (fun g => (List.range 8).map (fun j => 8 * g + j))
  let s1 := s.each ps (fun p t => t.resetPort p)
  let s2 := s1.each (s1.ctx.ctx.filter (fun e => isF e.2 C.valid && gs.any (fun g => ctxGroup e.2 == some g))) (fun e t => t.quarantine e.1 1)
  let s3 := s2.each gs (fun g t => (t.setCached g []).setCtx { (t.setCached g []).ctx with fetches := Tbl.erase t.ctx.fetches g })
  let s4 := s3.clearSlice sl
  ((s4.put F.RST_STATUS.SLICE_BUSY 1).put F.RST_STATUS.SLICE_HELD 0).put F.RST_STATUS.SLICE sl

/-- A slice reset is asked for: carried out, or held until the pass in progress ends (R453). -/
def State.askReset (s : State) (sl : Nat) : State :=
  let inPass := 1 ≤ s.rubPhase && decide (s.rubPhase ≤ 5) && (s.testing == sl || sl == floatSlice)
  if inPass then
    (({ s with power := { s.power with held := some sl } } : State).put F.RST_STATUS.SLICE_BUSY 1).put F.RST_STATUS.SLICE_HELD 1
      |>.put F.RST_STATUS.SLICE sl
  else s.resetSlice sl

/-- The slice is retired or failed (R450). -/
def State.sliceDead (s : State) (sl : Nat) : Bool :=
  s.rub.retired.contains sl || (sl == floatSlice && s.on F.RUB_STATUS.FLOAT_FAILED)

/-- SLICE_RESET: a write of RST_CTL with SLICE_GO, in SETUP, RUN and HOLD (R489). -/
def execSliceReset (v : Word) (s : State) : Res :=
  let sl := natBits v.toNat 3 0
  if !(s.op == .setup || s.op == .run || s.op == .hold) || !natBit v.toNat 30 then .next s
  else if 12 < sl || s.sliceDead sl || s.on F.RST_STATUS.SLICE_BUSY then .next (s.pwrEvent 2 sl)
  else .next (s.askReset sl)

/-- SLICE_RESET_DONE (R489): replicas refilled, schedulers at the position of the working clock, ingress resumed. -/
def State.resetSliceDone (s : State) : State :=
  let sl := s.fld F.RST_STATUS.SLICE
  let s1 := s.refillHits (s.refillSource sl) sl
  let s2 := (s1.put F.RST_STATUS.SLICE_BUSY 0).put F.RST_STATUS.SLICE 15
  let s3 := s2.when (s2.sliceState sl == 3) (fun t => t.setSliceState sl 3)
  let ps := (s3.groupsOf sl).flatMap (fun g => (List.range 8).map (fun j => 8 * g + j))
  (s3.each ps (fun p t => (t.setSch p { t.sch p with credit := [], creditAt := t.cyc }).resync p)).pwrEvent 0 sl

/-- SLICE_RESET_DONE (R489). -/
def execSliceResetDone (s : State) : Res :=
  if s.on F.RST_STATUS.SLICE_BUSY && !s.on F.RST_STATUS.SLICE_HELD then .next s.resetSliceDone else .next s

/-- SLICE_PLL_UNLOCK (R482): a slice reset with a fresh lock; one that runs on the same slice starts again, one on another
slice ends first. -/
def execSlicePllUnlock (sl : Fin 13) (s : State) : Res :=
  let sl := sl.val
  if s.sliceState sl ≠ 3 then .next s
  else
    let s1 := (s.put ⟨R.CLK_STATUS, sl, sl⟩ 0).pwrEvent 1 sl
    let busy := s1.on F.RST_STATUS.SLICE_BUSY && !s1.on F.RST_STATUS.SLICE_HELD && s1.fld F.RST_STATUS.SLICE ≠ sl
    .next ((s1.when busy State.resetSliceDone).askReset sl)

/-- CENTRAL_PLL_UNLOCK (R482): CPLL_M, CPLL_D, CPLL_T or LPLL; the LPLL runs in a coat pair or domain only. -/
def execCentralPllUnlock (k : Fin 4) (s : State) : Res :=
  if s.op.code < 2 || (k.val = 3 && s.config = 0) then .next s
  else .next ((s.put ⟨R.CLK_STATUS, 31 - k.val, 31 - k.val⟩ 0).raise 16 k.val)

/-! ### Rub-down: steering and gauges -/

/-- Replace the rub-down state. -/
def State.setRub (s : State) (x : RubSt) : State := { s with rub := x }

/-- Wet copies without a verdict on the ports of a group. -/
def State.wetOn (s : State) (g : Nat) : Nat :=
  (s.allCopies.filter (fun x => x.1 / 8 == g && x.2.wet &&
    ((x.2.frame.bind s.frame?).any (fun f => f.verdict.isNone)))).length

/-- The frames of a group's ports that count in RX_INFLIGHT. -/
def State.wetFrom (s : State) (g : Nat) : Nat :=
  (s.path.frames.filter (fun f => f.port / 8 == g && f.verdict.isNone && !(s.wetSlices f.id).isEmpty)).length

/-- Take `n` from the gauge of one slice to another's. -/
def State.moveGauge (s : State) (a b : Fld) (n : Nat) : State := (s.put a (s.fld a - n)).put b (s.fld b + n)

/-- The MAC feeds and the steering of a group pass from one slice to another (R447, R451): the group's extra work and its
in-flight copies go with it. -/
def State.steer (s : State) (g src dst : Nat) (ingress : Bool) : State :=
  let l := s.extra src
  let s1 := ((s.setExtra src []).setExtra dst l).put F.RUB_STATUS.CARRIED (if dst = floatSlice then g else 15)
  let s2 := s1.moveGauge (F.WET_GAUGE.TX_INFLIGHT src) (F.WET_GAUGE.TX_INFLIGHT dst) (s.wetOn g)
  let s3 := s2.when ingress (fun t => t.moveGauge (F.WET_GAUGE.RX_INFLIGHT src) (F.WET_GAUGE.RX_INFLIGHT dst) (s.wetFrom g))
  s3.setCached g (s3.cached g)

/-! ### The order and the hand-over instant (R442, R446) -/

/-- The slices that passes visit, in order: S0 to S11 that serve their own groups, then S12. -/
def State.rubOrder (s : State) : List Nat := ((List.range 12).filter (fun k => !s.rub.retired.contains k)) ++ [12]

/-- The first slice of the order at or after NEXT. -/
def State.rubNext (s : State) : Nat :=
  let o := s.rubOrder
  ((o.find? (fun k => decide (s.fld F.RUB_STATUS.NEXT ≤ k))).orElse (fun _ => o.head?)).getD 12

/-- The slice after `sl` in the order. -/
def State.rubAfter (s : State) (sl : Nat) : Nat :=
  let o := s.rubOrder
  ((o.find? (fun k => decide (sl < k))).orElse (fun _ => o.head?)).getD 12

/-- D of R446 for a group, in picoseconds rounded up to nanoseconds. -/
def State.drainNs (s : State) (g : Nat) : Nat :=
  let prfL := (s.cls.stream.filter (fun e => isF e.2 E.strValid && getF e.2 E.strProfile == 3 && decide (getF e.2 E.strProfDir ≤ 1))).any
    (fun e => (List.range 8).any (fun j => (s.sidOf e.1 (8 * g + j)).isSome))
  let one (p : Nat) : Nat :=
    let l := s.fld (F.PORT_MAC_CFG.RX_MAX_LEN p)
    let a := if prfL then 56000 + (18 + 16 * ((l - 4 - 42 + 15) / 16)) * 2000 / 3 else max 82000 (s.linePs p l + 52000)
    (a + 100000 + 999) / 1000
  ((List.range 8).map (fun j => one (8 * g + j))).foldl max 0

/-- The reference port of a group (R446). -/
def State.refPort (s : State) (g : Nat) : Option Nat :=
  ((List.range 8).map (fun j => 8 * g + j)).find? (fun p => s.link p == 3 && s.listRuns p)

/-- No arrival window of an accepted contract whose ingress port lies in the group intersects [H, H + D]. -/
def State.clearOf (s : State) (g h d : Nat) : Bool :=
  (s.liveCts.filter (fun c => (ctIns (s.ctAt c)).any (fun p => p / 8 == g))).all (fun c =>
    let w := s.ctAt c
    let per := max 1 (getF w V.period)
    (List.range (getF w V.count)).all (fun i =>
      let o := getF w V.arrOfs + i * per / max 1 (getF w V.count)
      let back := (h + d + per - o % per) % per
      decide (d + getF w V.arrJit < back)))

/-- The present instant serves as H or H2 for a group (R446): at least 1 µs after the copy, a cycle start of the reference
port where there is one, clear of arrival windows. -/
def State.mayHand (s : State) (g : Nat) : Bool :=
  s.rub.copy == 2 && decide (s.rub.copiedAt + 1000 ≤ s.now) && s.clearOf g s.now (s.drainNs g) &&
  (match s.refPort g with | some p => (s.operBank p).cycleAt s.now == s.now | none => true)

/-! ### Passes -/

/-- A pass runs (R443). -/
def State.rubRuns (s : State) : Bool :=
  (s.op == .run || s.op == .hold) && !s.rub.halted && decide (1 ≤ s.rubPhase) && decide (s.rubPhase ≤ 5)

/-- The slice that the pass, or the retirement, concerns. -/
def State.rubSlice (s : State) : Nat := s.rub.retiring.getD s.testing

/-- A retirement outside a pass begins: the float is prepared (R175, R454). -/
def State.startRetire (s : State) (sl : Nat) : State :=
  (s.setRub { s.rub with inPlace := false, copy := 0, result := 3, retiring := some sl, other := none }).put F.RUB_STATUS.PHASE 1

/-- A slice is retired (R450): the float keeps its group, and no pass starts again. A failed float is marked. -/
def State.retireNow (s : State) (sl : Nat) : State :=
  let s1 := (s.put F.RUB_STATUS.PHASE 6).put F.RUB_STATUS.TESTING 15
  if sl = floatSlice then ((s1.setRub RubSt.idle).put F.RUB_STATUS.FLOAT_FAILED 1).rubEvent 5 12
  else
    let s2 := s1.setRub { RubSt.idle with retired := [sl] }
    let s3 := if s2.carried = sl then s2 else s2.steer sl sl floatSlice true
    (((s3.setSliceState sl (if s3.groupEnabled sl then 1 else 0)).setSliceState 12 3).put (F.RUB_RESULT.LAST sl) 3).rubEvent 4 sl

/-- A held slice reset is carried out (R453). -/
def State.releaseHeld (s : State) : State :=
  match s.power.held with
  | some k => ({ s with power := { s.power with held := none } } : State).resetSlice k
  | none => s

/-- A pass ends with a result (R451, R458): LAST, the counter, the event; then a waiting retirement and a held reset. -/
def State.endPass (s : State) (sl result : Nat) : State :=
  let s1 := ((s.put (F.RUB_RESULT.LAST sl) result).put F.RUB_STATUS.PHASE 0).put F.RUB_STATUS.TESTING 15
  let s2 := s1.put F.RUB_STATUS.NEXT (s1.rubAfter sl)
  let s3 := match result with
    | 1 => (s2.blk 37).rubEvent 0 sl
    | 2 => (s2.blk 37).rubEvent 3 sl
    | 4 => (s2.blk 39).rubEvent 2 sl
    | _ => (s2.blk 38).rubEvent 1 sl
  let o := s3.rub.other
  let s4 := (s3.setRub { RubSt.idle with retired := s3.rub.retired }).setSliceState 12 2
  let s5 := if sl = floatSlice then s4 else s4.setSliceState sl (if s4.groupEnabled sl then 3 else 0)
  match o with
  | some k => s5.releaseHeld.startRetire k
  | none => s5.releaseHeld

/-- Start the next pass in the order, or skip it for temperature (R442 to R444). -/
def State.startPass (s : State) (temp : Int) : State :=
  let sl := s.rubNext
  if s.op ≠ .run || s.rub.halted || s.rubPhase ≠ 0 || s.on F.RUB_STATUS.FLOAT_FAILED then s
  else if (s.fld F.RUB_CFG.TEMP_MAX : Int) ≤ temp then
    (((s.put (F.RUB_RESULT.LAST sl) 6).put F.RUB_STATUS.NEXT sl).blk 38).rubEvent 1 sl
  else
    let inPlace := sl == floatSlice || !s.groupEnabled sl
    (((s.setRub { RubSt.idle with inPlace := inPlace, retired := s.rub.retired }).put F.RUB_STATUS.PHASE 1).put
      F.RUB_STATUS.TESTING sl).put F.RUB_STATUS.NEXT sl

/-- RUB_PASS_START (R442): every PERIOD, while RUB_EN is 1. -/
def execRubPassStart (temp : Int) (s : State) : Res :=
  if s.on F.RUB_CFG.RUB_EN then .next (s.startPass temp) else .next s

/-- RUB_NOW (R442). -/
def execRubNow (temp : Int) (s : State) : Res := .next (s.startPass temp)

/-- RUB_TEMP_RETRY (R444): the slice that was skipped is tried again. -/
def execRubTempRetry (temp : Int) (s : State) : Res :=
  if s.on F.RUB_CFG.RUB_EN && s.fld (F.RUB_RESULT.LAST s.rubNext) = 6 then .next (s.startPass temp) else .next s

/-- RUB_PREPARE_DONE (R443, R445): MIRROR begins copying; a pass in place goes straight to TEST. -/
def execRubPrepareDone (s : State) : Res :=
  if !s.rubRuns || s.rubPhase ≠ 1 then .next s
  else if s.rub.inPlace then .next ((s.setSliceState s.testing 3).put F.RUB_STATUS.PHASE 4)
  else .next ((s.setRub { s.rub with copy := 1 }).setSliceState 12 3 |>.put F.RUB_STATUS.PHASE 2)

/-- RUB_MIRROR_DONE (R445, R446): the copy into the float, or back, is complete; the other cache holds the same entries. -/
def execRubMirrorDone (s : State) : Res :=
  if !s.rubRuns || s.rub.copy ≠ 1 || !(s.rubPhase = 2 || s.rubPhase = 5) then .next s
  else
    let g := s.rubSlice
    let dst := if s.rubPhase = 2 then floatSlice else g
    let l := s.cached g
    .next (((s.setRub { s.rub with copy := 2, copiedAt := s.now }).put (F.CTX_CACHE_STATUS.CACHED dst) l.length).put
      (F.CTX_CACHE_STATUS.PINNED dst) (l.filter s.ctxPinned).length)

/-- RUB_HANDOVER (R447): at H the feeds and the steering pass to the float, and DRAIN begins. -/
def execRubHandover (s : State) : Res :=
  let g := s.rubSlice
  if !s.rubRuns || s.rubPhase ≠ 2 || !s.mayHand g then .next s
  else .next (((s.steer g g floatSlice false).put F.RUB_STATUS.PHASE 3).setSliceState g (if s.groupEnabled g then 1 else 0))

/-- RUB_GAP_TIMEOUT (R446): no H within 1 s. A retirement goes on seeking. -/
def execRubGapTimeout (s : State) : Res :=
  if !s.rubRuns || s.rubPhase ≠ 2 || s.rub.copy ≠ 2 || s.rub.retiring.isSome then .next s else .next (s.endPass s.testing 5)

/-- RUB_DRAIN_DONE (R447): the tested slice has no frame in flight; its hit bits are ORed into the float's replica, its cache
is no longer mirrored, and TEST begins, or the retirement is complete. A pass already aborted returns at once. -/
def execRubDrainDone (s : State) : Res :=
  let g := s.rubSlice
  if !s.rubRuns || s.rubPhase ≠ 3 || s.path.frames.any (fun f => f.port / 8 == g && f.verdict.isNone) then .next s
  else
    let h := s.cls.hits.foldl (fun t (k, v) => Tbl.setN t k (if natBit v g then natSet v 12 else v)) s.cls.hits
    let s1 : State := { s with cls := { s.cls with hits := h } }
    let s2 := (s1.put (F.CTX_CACHE_STATUS.CACHED g) 0).put (F.CTX_CACHE_STATUS.PINNED g) 0
    let s3 := s2.setRub { s2.rub with copy := 0 }
    if s.rub.retiring.isSome then .next (s3.retireNow g)
    else .next (s3.put F.RUB_STATUS.PHASE (if s.rub.result = 4 then 5 else 4))

/-- RUB_TEST_DONE (R449): the first case that applies. -/
def execRubTestDone (r : RubResult) (s : State) : Res :=
  let sl := s.testing
  if !s.rubRuns || s.rubPhase ≠ 4 then .next s
  else
    let s1 := (((s.put (F.RUB_RESULT.CORE_FAIL sl) r.coreFail.toNat).put (F.RUB_RESULT.SLICE_FAIL sl) (b2n r.sliceFail)).put
      (F.RUB_RESULT.SRAM_FAIL sl) (b2n r.sramFail)).put (F.RUB_RESULT.SRAM_REPAIRED sl) (b2n r.sramRepaired)
    let ok := s1.fld (F.CIPHER_STATUS.CORE_OK sl)
    let left := ok &&& (63 ^^^ r.coreFail.toNat)
    if r.sliceFail || r.sramFail then .next ((s1.put (F.RUB_RESULT.LAST sl) 3).retireNow sl)
    else if r.coreFail ≠ 0 then
      let s2 := s1.put (F.CIPHER_STATUS.CORE_OK sl) left
      if popCount left 6 < 5 then .next ((s2.put (F.RUB_RESULT.LAST sl) 3).retireNow sl)
      else .next ((s2.setRub { s2.rub with result := 2, copy := 0 }).put F.RUB_STATUS.PHASE 5)
    else .next (((s1.put (F.CIPHER_STATUS.CORE_OK sl) 63).setRub { s1.rub with result := 1, copy := 0 }).put F.RUB_STATUS.PHASE 5)

/-- RUB_REFILL_DONE (R451): the replicas are refilled, and the state is mirrored back; a pass in place ends. -/
def execRubRefillDone (s : State) : Res :=
  let sl := s.testing
  if !s.rubRuns || s.rubPhase ≠ 5 || s.rub.copy ≠ 0 then .next s
  else
    let s1 := s.refillHits (s.refillSource sl) sl
    if s.rub.inPlace then .next (s1.endPass sl s1.rub.result) else .next (s1.setRub { s1.rub with copy := 1 })

/-- RUB_HANDBACK (R451): at H2 the ports return, and after its drain the float sleeps. -/
def execRubHandback (s : State) : Res :=
  let g := s.testing
  if !s.rubRuns || s.rubPhase ≠ 5 || !s.mayHand g then .next s
  else
    let s1 := s.steer g floatSlice g true
    let s2 := (s1.put (F.CTX_CACHE_STATUS.CACHED 12) 0).put (F.CTX_CACHE_STATUS.PINNED 12) 0
    .next (s2.endPass g s2.rub.result)

/-- RUB_RETURN_RETRY (R451): no H2 within 1 s; the float keeps the group and RETURN tries again every 10 s. -/
def execRubReturnRetry (s : State) : Res := .next s

/-! ### Core faults (R174, R175, R181) -/

/-- A slice with fewer than five healthy cores (R175, Table 19.3): cause 17 when the float is in use for good; a pass of
another slice is abandoned first; a pass of the slice itself ends in its retirement. -/
def State.needRetire (s : State) (sl : Nat) : State :=
  if s.sliceDead sl then s
  else if s.rubPhase = 6 || s.on F.RUB_STATUS.FLOAT_FAILED || (sl = floatSlice && s.carried ≠ 15) then s.raise 17 sl
  else if sl = floatSlice then s.retireNow 12
  else if s.rubPhase = 0 then s.startRetire sl
  else if s.rub.retiring.isSome then (if s.rubSlice = sl then s else s.raise 17 sl)
  else if s.testing = sl then (if s.rubPhase ≤ 3 then s.setRub { s.rub with retiring := some sl } else s.setRub { s.rub with other := some sl })
  else
    let s1 := s.setRub { s.rub with other := some sl, result := 4 }
    match s.rubPhase with
    | 4 => (s1.setRub { s1.rub with copy := 0 }).put F.RUB_STATUS.PHASE 5
    | 5 => s1
    | 3 => s1
    | _ => s1.endPass s.testing 4

/-- The received frames in decryption or tag check on a slice, in order of arrival. -/
def State.decrypting (s : State) (sl : Nat) : List FrameRec :=
  s.path.frames.filter (fun f => f.guard != .clear && f.verdict.isNone && f.drop.isNone && s.inSlice f.port == sl)

/-- The ports of a slice that send a protected frame. -/
def State.encrypting (s : State) (sl : Nat) : List Nat :=
  allBelow (fun p => s.portSlice p == sl && (match (s.line p).now with | some x => x.sa.isSome || x.prf.isSome | none => false)) 96

/-- CIPHER_CORE_FAULT (R174): the k-th operation of the slice, received frames before frames sent, meets the fault. -/
def execCipherCoreFault (sl : Fin 13) (k : Fin 6) (s : State) : Res :=
  let sl := sl.val
  let ok := s.fld (F.CIPHER_STATUS.CORE_OK sl)
  if !natBit ok k.val || s.sliceState sl ≠ 3 then .next s
  else
    let rx := s.decrypting sl
    let tx := s.encrypting sl
    let s1 := match rx[k.val]?, tx[k.val - rx.length]? with
      | some f, _ => s.setFrame { f with fault := true }
      | none, some p =>
        (match (s.line p).now with
         | some x => s.setLine p { s.line p with now := some { x with tail := some 5 } }
         | none => s)
      | none, none => s
    let left := natClr ok k.val
    let s2 := ((s1.blk (sliceCtr sl 4)).put (F.CIPHER_STATUS.CORE_OK sl) left).record 0x11 0 sl k.val 0 0
    .next (if popCount left 6 < 5 then s2.needRetire sl else s2)

/-- TRNG_HEALTH_TIMEOUT (R225): the waiting KEY_GENERATE commands complete with BAD_REQUEST, and cause 19 is raised. -/
def execTrngHealthTimeout (s : State) : Res :=
  if s.op.code < 2 then .next s
  else
    let s1 := s.setKey { s.key with generating := [] }
    .next ((s1.each s.key.generating (fun c t => ringRun 2 2 (fun _ u => refuse u 6) c t)).raise 19 4)

end Sys2Proof.Machine
end

