-- ==== Sys2Proof/Machine/Reset.lean ====
section
/-!
DEFINITION. Power and resets (spec/21_power_clocks_reset.md, R483 to R490; R498, R501) and the ROM steps of Table 17.2
(R406, R408, R418, R419, R435).
-/
namespace Sys2Proof.Machine

/-! ### What a reset leaves (R488, Table 21.8) -/

/-- The codes of RESET_CAUSE. -/
def ResetKind.code : ResetKind → Nat
  | .powerOn => 0 | .cold => 1 | .warm => 2 | .domain => 3

/-- The lower code of two kinds (R487). -/
def ResetKind.merge (a b : ResetKind) : ResetKind := if a.code ≤ b.code then a else b

/-- Whether a kind samples the straps (Table 21.7). -/
def ResetKind.samples : ResetKind → Bool
  | .warm => false
  | _ => true

/-- Replace the boot state. -/
def State.setBoot (s : State) (b : Boot) : State := { s with boot := b }

/-- Everything but the battery domain, the fuses, the alarm controller's own state and the straps takes its reset value;
N_RESET is drawn anew (R217), and DBUF_T reads its fuse (R347). What the device has sent and the commands that wait are the
world's, not the device's. -/
def State.wiped (s : State) : State :=
  let t := natBit s.boot.fuses.toNat 136
  let regs := memLayout t []
  { State.reset with
    straps := s.straps
    regs := if t then Tbl.setD regReset regs R.MEM_CFG (BitVec.ofNat 32 (2 ^ 31)) else regs
    boot := { Boot.cold with fuses := s.boot.fuses }
    bat := s.bat
    alarm := { Alarm.idle with present := s.alarm.present, running := s.alarm.running, encPending := s.alarm.encPending }
    key := { KeySt.empty with nReset := s.free }
    free := s.free + 1
    out := s.out
    pending := s.pending }

/-- Burned bits of a burn that is cut short: any part of them (R487). -/
def State.cutBurn (s : State) : State :=
  match s.boot.burn with
  | some (_, m) =>
    let (v, t) := s.draw 1600
    t.setBoot { t.boot with fuses := t.boot.fuses ||| (m &&& v), burn := none }
  | none => s

/-- A reset is carried out (R488): it holds until its release. -/
def State.carryReset (s : State) (kind : ResetKind) (samples : Bool) : State :=
  let s1 := s.cutBurn.wiped
  (s1.setBoot { s1.boot with inReset := some (kind, samples) }).put F.BOOT_STATUS.RESET_CAUSE kind.code

/-- A reset is raised: it merges with one being carried out, and waits for the end of a burn (R487). -/
def State.raiseReset (s : State) (kind : ResetKind) : State :=
  match s.boot.inReset with
  | some (k, b) =>
    (s.setBoot { s.boot with inReset := some (k.merge kind, b || kind.samples) }).put F.BOOT_STATUS.RESET_CAUSE (k.merge kind).code
  | none =>
    if s.on F.FUSE_STATUS.BUSY then
      s.setBoot { s.boot with deferred := some (match s.boot.deferred with | some k => k.merge kind | none => kind) }
    else s.carryReset kind kind.samples

/-- Core power is present and the device has left OFF and BATTERY. -/
def State.corePowered (s : State) : Bool := decide (2 ≤ s.op.code)

/-- POWER_GOOD (R483): PWRGOOD is high and SYSREF has run in tolerance. -/
def execPowerGood (s : State) : Res :=
  if s.corePowered then .next s
  else .next (({ s with bat := { s.bat with core := true } } : State).carryReset .powerOn true)

/-- VBAT_PRESENT (R477). -/
def execVbatPresent (s : State) : Res :=
  .next { s with bat := { s.bat with vbat := true }, op := if s.op = .off then .battery else s.op }

/-- VBAT_LOSS (R501): battery memory is lost; with no core supply the device is OFF. -/
def execVbatLoss (s : State) : Res :=
  .next { s with bat := { Battery.fresh with vbat := false, core := s.bat.core }, op := if s.op = .battery then .off else s.op,
                 alarm := { s.alarm with encPending := none } }

/-- POWER_LOSS (R484): PWRGOOD falls; the device goes to BATTERY or OFF with nothing but the battery domain and the fuses. -/
def execPowerLoss (s : State) : Res :=
  if !s.corePowered then .next s
  else
    let s1 := s.cutBurn.wiped
    .next { s1 with op := if s.bat.vbat then .battery else .off, bat := { s1.bat with core := false } }

/-- COLD_RESET (R486): RST_N low for 100 ns or longer. -/
def execColdReset (s : State) : Res := if s.corePowered then .next (s.raiseReset .cold) else .next s

/-- A warm reset: after YIELD when the device is an ACTIVE coat-pair member (R305). -/
def State.warmReset (s : State) : State :=
  if 3 ≤ s.op.code && s.boot.inReset.isNone then
    (s.when (s.config == 1 && s.role == 3) (fun t => t.emit .yield)).raiseReset .warm
  else if s.corePowered then s.raiseReset .warm else s

/-- WARM_RESET (R486): RST_CTL.WARM, or a function-level reset of PF0. -/
def execWarmReset (s : State) : Res := .next s.warmReset

/-! ### ROM (R408) -/

/-- Step 1: a life-cycle group with some bits burned is completed (R418). -/
def completeLc (f : BitVec 1600) : BitVec 1600 :=
  (List.range 5).foldl (fun w g => if natBits f.toNat (8 * g + 7) (8 * g) = 0 then w else w ||| BitVec.ofNat 1600 (255 <<< (8 * g))) f

/-- The root slots that are zeroed at every boot in a life-cycle state (Table 17.7). -/
def leftBehind (lc : Nat) : List Nat := if lc = 2 then [0] else if lc = 3 then [0, 1] else if lc = 4 then [0, 1, 2] else if lc = 5 then [0, 1, 2, 3] else []

/-- Step 3: the responses of the pending-response latch, BOOT_DONE, and the latch cleared (R435). -/
def State.runLatch (s : State) : State :=
  let l := s.bat.latch
  if l = 0 then s
  else
    let s1 := s.when (l.testBit 2) (fun t => (t.zeroKeys).dropLath)
    let s2 := s1.when (l &&& 6 != 0) (fun t => t.shutDebug.put F.ALARM_PENDING.BOOT_DONE 1)
    { s2 with bat := { s2.bat with latch := 0 } }

/-- Steps 1 to 5 of Table 17.2: fuses, BOOT_COUNT, the latch, the roots left behind, the memory key sets. The debug port opens
by DBG_REQ and the fused policy (R421). A strap setting that names no configuration fails step 1 (Table 22.3). -/
def State.romSteps (s : State) : State :=
  let s1 := s.setBoot { s.boot with fuses := completeLc s.boot.fuses, romRun := true }
  if s1.straps.cfg.val = 3 then s1.raise 21 1
  else
    let s2 := s1.put F.BOOT_STATUS.DEBUG_OPEN (b2n (s1.straps.dbgReq && (natBit s1.debugRights 0 || natBit s1.debugRights 1)))
    let s3 : State := { s2 with bat := { s2.bat with bootCount := min (s2.bat.bootCount + 1) (2 ^ 48 - 1) } }
    let s4 := s3.runLatch
    let s5 := s4.each (leftBehind s4.lc) (fun n t => t.zeroRoot n)
    let s6 := (s5.put F.MCU_STATUS.KEYSET_VALID 0xFF).put F.CLK_STATUS.LPLL (b2n (s5.config != 0))
    s6.setSliceState floatSlice 2

/-- RESET_RELEASE (R488, R498): the straps are sampled as the kind says, DBG_REQ always; ROM begins and the UCIe link trains
(R374). -/
def execResetRelease (pins : Straps) (s : State) : Res :=
  match s.boot.inReset with
  | none => .next s
  | some (_, sample) =>
    let straps := if sample then pins else { s.straps with dbgReq := pins.dbgReq }
    let s1 : State := { s with straps := straps, boot := { s.boot with inReset := none } }
    .next ((s1.put F.HOST_STATUS.LINK 1).romSteps)

/-- Step 9: the selected root is unsealed and its keys are formed; where the check fails or the slot is zero, the slot is zeroed
and ROOT_ABSENT is posted (R214). With the debug port open the root counts as absent, and is left as it is (R421). -/
def State.unsealRoot (s : State) : State :=
  if s.on F.BOOT_STATUS.DEBUG_OPEN then s
  else
    match rootOf s.lc with
    | some n => if s.rootPresent n then s.formRootKeys else (s.zeroRoot n).keyEvent 3 n 0
    | none => s

/-- ROM_DONE (R408): the Strip pass and the boot tests have ended, so the device enters LOAD. A domain device whose UCIe link is
trained begins its claim (R320). -/
def execRomDone (s : State) : Res :=
  if s.op ≠ .rom || s.boot.inReset.isSome || s.on F.MEM_STATUS.STRIP_BUSY then .next s
  else
    let s1 := if s.boot.romRun then s else s.romSteps
    if s1.op ≠ .rom then .next s1
    else
      let s2 := { s1.unsealRoot with op := .load }
      .next { s2 with dom := { s2.dom with claiming := s2.config == 2 && s2.fld F.HOST_STATUS.LINK == 2 && s2.dom.hawk == 0 } }

end Sys2Proof.Machine
end

