-- ==== Sys2Proof/Machine/Host.lean ====
section
/-!
DEFINITION. The host interface: the UCIe link, doorbells, ring control, command fetch, the slow path's transmit side, and the
SYS group (spec/16_host_interface.md, R373 to R405).
-/
namespace Sys2Proof.Machine

/-- Replace the host interface. -/
def State.setHost (s : State) (h : HostIf) : State := { s with host := h }

/-! ### The link (R373 to R375, R401 to R403) -/

/-- UCIE_TRAIN_DONE (R374): rate and width reach HOST_STATUS; after a loss, LINK_RETRAINED and HOST_LINK_DOWN (R402). In LOAD a
domain device whose link trains begins its claim, or learns that another device is hawk (R4, R320). -/
def execUcieTrainDone (t : UcieTrain) (s : State) : Res :=
  let widthOk := if s.straps.uciePkg then t.width.val ≠ 0 else t.width.val = 0
  if !s.corePowered || s.boot.inReset.isSome || s.fld F.HOST_STATUS.LINK = 2 || !decide widthOk then .next s
  else
    let s1 := ((s.put F.HOST_STATUS.LINK 2).put F.HOST_STATUS.RATE t.rate.val).put F.HOST_STATUS.WIDTH t.width.val
    let s2 := if s1.host.linkLost then ((s1.setHost { s1.host with linkLost := false }).hostEvent 1 0).blk 36 else s1
    if s2.config = 2 && s2.op = .load && !s2.on F.DOM_STATUS.HAWK then
      if s2.dom.hawk = 0 then .next { s2 with dom := { s2.dom with claiming := true } }
      else .next (s2.domEvent 12 s2.index 0)
    else .next s2

/-- UCIE_TRAIN_RETRY (R374). -/
def execUcieTrainRetry (s : State) : Res :=
  if s.corePowered && s.boot.inReset.isNone && s.fld F.HOST_STATUS.LINK ≠ 2 then .next (s.put F.HOST_STATUS.LINK 1) else .next s

/-- Ring `n` stops as if EN were cleared: RUNNING falls once every fetched command has completed (R384). -/
def State.stopRing (s : State) (n : Nat) : State :=
  let s1 := s.put (F.RING_CTL.EN n) 0
  if (s.ring n).owed.isEmpty then s1.put (F.RING_STATUS.RUNNING n) 0 else s1

/-- The pairs that run. -/
def State.runningPairs (s : State) : List Nat := allBelow s.running 64

/-- UCIE_LINK_DOWN (R401 to R403): rings stop, completions owed are lost, MSI-X returns to its reset values; the data path
runs on. In LOAD the bytes read so far are discarded and FW_STATUS is 14 (R412). -/
def execUcieLinkDown (s : State) : Res :=
  if s.fld F.HOST_STATUS.LINK ≠ 2 then .next s
  else
    let s1 := (s.put F.HOST_STATUS.LINK 0).put F.HOST_STATUS.RATE 0
    let s2 := s1.setHost { s1.host with linkLost := true, msix := [], pba := [] }
    let s3 := s2.each s2.runningPairs (fun n t =>
      (t.setRing n { t.ring n with owed := (t.ring n).owed.map (fun o => { o with maxSlots := 0 }), armed := false }).stopRing n)
    if s3.op = .load && s3.fld F.BOOT_STATUS.FW_STATUS = 1 && !s3.isMember then
      .next ((s3.setBoot { s3.boot with image := [] }).put F.BOOT_STATUS.FW_STATUS 14)
    else if s3.op = .load then .next { s3 with dom := { s3.dom with claiming := false } }
    else .next s3

/-- A pair stops with an error (R404). -/
def State.ringErr (s : State) (n code : Nat) : State := ((s.put (F.RING_STATUS.ERR n) code).hostEvent 2 n).stopRing n

/-- HOST_READ_TIMEOUT (R375): a failed read of a descriptor stops its pair; of the firmware, ends the load with FW_STATUS 2; of a
shadow, ends the background compare's pass without a result. -/
def execHostReadTimeout (r : HostReadUse) (s : State) : Res :=
  match r with
  | .descriptor n => if s.running n.val then .next (s.ringErr n.val 1) else .next s
  | .firmware =>
    if s.op = .load && s.fld F.BOOT_STATUS.FW_STATUS = 1 then
      .next ((s.setBoot { s.boot with image := [] }).put F.BOOT_STATUS.FW_STATUS 2)
    else .next s
  | .shadow => .next s

/-! ### Ring control (R384) -/

/-- Whether a ring's kind and function are paired as Table 16.4 permits. -/
def State.kindOk (s : State) (n : Nat) : Bool :=
  let k := s.kind n
  let f := s.fld (F.RING_CFG.FUNC n)
  (k == 0 && f == 0) || (k == 1 && decide (f ≤ 1)) || (decide (2 ≤ k) && f == 2)

/-- Held records that a starting EVENT ring selects are written there, in order (R398). -/
def State.drainHold (s : State) (n : Nat) : State :=
  let takes (r : EvRec) : Bool := natBit (s.reg (R.RING_EVT_MASK n)).toNat r.block &&
    (s.fld (F.RING_CFG.FUNC n) == 0 || s.on F.PERF_CTL.PERF_USER_EN)
  let mine := s.host.hold.filter takes
  let s1 := s.setHost { s.host with hold := s.host.hold.filter (fun r => !takes r) }
  s1.each mine (fun r t => t.postTo State.overflow r n)

/-- RING_ENABLE (R384): a write of EN = 1. One that the rule does not allow leaves EN as it is: 0, or 1 while the pair runs. -/
def execRingEnable (n : Fin 64) (s : State) : Res :=
  let n := n.val
  if !s.regsOpen then .next s
  else if s.running n || !(s.ring n).fresh then .next s
  else if !s.kindOk n then .next (s.ringErr n 4)
  else
    let s1 := ((s.put (F.RING_CTL.EN n) 1).put (F.RING_STATUS.RUNNING n) 1).setRing n { s.ring n with fresh := false }
    .next (s1.when (s1.kind n == 1) (fun t => t.drainHold n))

/-- RING_DISABLE (R384): a write of EN = 0. -/
def execRingDisable (n : Fin 64) (s : State) : Res :=
  if s.regsOpen then .next (s.put (F.RING_CTL.EN n.val) 0) else .next s

/-- RING_STOP_DONE (R384). -/
def execRingStopDone (n : Fin 64) (s : State) : Res :=
  if s.running n.val && !s.on (F.RING_CTL.EN n.val) && (s.ring n.val).owed.isEmpty then
    .next (s.put (F.RING_STATUS.RUNNING n.val) 0)
  else .next s

/-- Indices 0, phase 1; the pair may start again (R384). -/
def State.resetRing (s : State) (n : Nat) : State :=
  ((((s.put (F.RING_HEADS.SQ_HEAD n) 0).put (F.RING_HEADS.CQ_WRITE n) 0).put (F.RING_HEADS.CQ_PHASE n) 1).put
    (F.RING_STATUS.ERR n) 0).setRing n { Ring.idle with lost := (s.ring n).lost }

/-- RING_RESET (R384): a write of RESET = 1 while RUNNING is 0. -/
def execRingReset (n : Fin 64) (s : State) : Res :=
  if s.regsOpen && !s.running n.val then .next (s.resetRing n.val) else .next s

/-- FUNCTION_LEVEL_RESET (R378): of PF0, a warm reset; of PF1 or PF2, the function's rings stop as by RESET, the frames that PF2
has queued are discarded and count in EXC_TX_DROP, and the function's MSI-X table takes its reset values. -/
def execFunctionLevelReset (fn : Fin 3) (s : State) : Res :=
  let f := fn.val
  if f = 0 then .next s.warmReset
  else if !s.corePowered || s.op = .rom then .next s
  else
    let ns := allBelow (fun n => s.fld (F.RING_CFG.FUNC n) == f) 64
    let s1 := s.each ns (fun n t => ((t.put (F.RING_CTL.EN n) 0).put (F.RING_STATUS.RUNNING n) 0).resetRing n)
    let s2 := if f = 2 then s1.each (List.range 96) (fun p t => t.purge p (fun c => c.host.isSome) (fun _ _ u => u)) else s1
    let keep (i : Nat) : Bool := i / 128 != f
    .next (s2.setHost { s2.host with msix := s2.host.msix.filter (fun e => keep e.1), pba := s2.host.pba.filter (fun e => keep e.1) })

/-! ### Doorbells (R382) and MSI-X (R400) -/

/-- Whether a doorbell of function `fn` reaches pair `n`: the function owns it, in a state whose writes take effect (R518). -/
def State.doorbell (s : State) (fn : Fin 3) (n : Nat) : Bool := s.regsOpen && s.fld (F.RING_CFG.FUNC n) == fn.val

/-- SQ_TAIL_DOORBELL (R382). -/
def execSqTailDoorbell (fn : Fin 3) (n : Fin 64) (v : Word) (s : State) : Res :=
  if s.doorbell fn n.val then
    .next ((s.setRing n.val { s.ring n.val with tail := natBits v.toNat 14 0 % s.sqSize n.val, tailWord := v }).count 0x6C0)
  else .next s

/-- CQ_HEAD_DOORBELL (R382, R400): slots before the head are freed; with ARM the vector is armed, and the message is sent at
once when records stand beyond the head. -/
def execCqHeadDoorbell (fn : Fin 3) (n : Fin 64) (v : Word) (s : State) : Res :=
  let n := n.val
  if !s.doorbell fn n then .next s
  else
    let size := s.cqSize n
    let h := natBits v.toNat 14 0 % size
    let used := (s.fld (F.RING_HEADS.CQ_WRITE n) + size - h) % size
    let arm := natBit v.toNat 31
    let s1 := (s.setRing n { s.ring n with cqHead := h, headWord := v, cqUsed := used, armed := arm || (s.ring n).armed }).count 0x6C0
    if arm && used ≠ 0 then
      .next ((s1.setRing n { s1.ring n with armed := false, unsignalled := 0 }).message (s1.fld (F.RING_CFG.FUNC n))
        (s1.fld (F.RING_CFG.VECTOR n)))
    else .next s1

/-- MSIX_COAL_TIMEOUT (R400). -/
def execMsixCoalTimeout (n : Fin 64) (s : State) : Res :=
  let n := n.val
  let r := s.ring n
  if r.armed && decide (0 < r.unsignalled) && s.fld (F.RING_COAL.COAL_TIME n) ≠ 0 then
    .next ((s.setRing n { r with armed := false, unsignalled := 0 }).message (s.fld (F.RING_CFG.FUNC n)) (s.fld (F.RING_CFG.VECTOR n)))
  else .next s

/-! ### Fetching (R385 to R389) -/

/-- The number of operations of each group (Table 16.7). -/
def groupOps (g : Nat) : Nat := [7, 16, 16, 6, 7, 2, 5, 4, 3, 7, 2, 4, 2].getD g 0

/-- The largest NCONT that a group and operation return (Table 16.7, R385). -/
def maxConts (g op : Nat) : Nat :=
  match g with
  | 0 => 2
  | 1 => if op = 0 then 8 else if op = 14 then 1 else 0
  | 2 => if op = 4 ∨ op = 5 then 2 else if op = 6 ∨ op = 8 then 1 else 0
  | 3 => if op = 3 then 1 else if op = 5 then 2 else 0
  | 4 => if op = 1 then 2 else if op = 3 then 1 else 0
  | 5 => if op = 1 then 4 else 0
  | 6 => if op = 0 then 2 else if op = 2 then 9 else 0
  | 7 => if op = 2 then 4 else 0
  | 8 => if op = 0 then 1 else 0
  | 10 => 15
  | _ => 0

/-- Slots of the SQ between its head and its tail. -/
def State.sqPosted (s : State) (n : Nat) : Nat :=
  ((s.ring n).tail + s.sqSize n - s.fld (F.RING_HEADS.SQ_HEAD n)) % s.sqSize n

/-- The SQ head moves past `k` slots. -/
def State.takeSlots (s : State) (n k : Nat) : State :=
  s.each (List.range k) (fun _ t =>
    (t.put (F.RING_HEADS.SQ_HEAD n) ((t.fld (F.RING_HEADS.SQ_HEAD n) + 1) % t.sqSize n)).count 0x6C1)

/-- A ring fetches: it is enabled and runs, in SETUP or RUN, with the link up (Table 16.3, R384, R401). -/
def State.fetchesNow (s : State) (n : Nat) : Bool :=
  s.running n && s.on (F.RING_CTL.EN n) && (s.op == .setup || s.op == .run) && s.fld F.HOST_STATUS.LINK == 2

/-- CMD_FETCH (R385, R395): the slots at the head of a CMD ring hold a whole command before the tail, enough CQ slots are free
and fewer than 64 commands are outstanding: its completion is owed from now on. A reserved group or operation completes with
BAD_REQUEST at once (R388). On an RX ring the slot is a buffer. -/
def execCmdFetch (n : Fin 64) (slots : List Byte) (s : State) : Res :=
  let n := n.val
  if !s.fetchesNow n then .next s
  else if s.kind n = 3 then
    if s.sqPosted n = 0 then .next s
    else
      let s1 := s.takeSlots n 1
      let r := s1.ring n
      .next (s1.setRing n { r with rxBufs := r.rxBufs ++ [⟨leAt slots 0 8, BitVec.ofNat 16 (leAt slots 8 2), leAt slots 10 2⟩] })
  else if s.kind n ≠ 0 then .next s
  else
    let w := leAt slots 0 4
    let k := natBits w 15 12
    let g := natBits w 31 28
    let op := natBits w 27 24
    let owed := (s.ring n).owed
    if s.sqPosted n < 1 + k || decide (64 ≤ owed.length) ||
       decide (s.cqFree n < (owed.map (·.maxSlots)).sum + 16) then .next s
    else
      let s1 := s.takeSlots n (1 + k)
      let bad := decide (groupOps g ≤ op)
      let o : Owed := ⟨s1.host.order, BitVec.ofNat 16 (leAt slots 4 2), g, op, 1 + maxConts g op, s1.fld (F.RING_HEADS.SQ_HEAD n),
        if bad then some (({ code := 6 } : Reply).completion g op s1.source) else none⟩
      let s2 := (s1.setHost { s1.host with order := s1.host.order + 1 }).setRing n { s1.ring n with owed := owed ++ [o] }
      .next (if bad then s2.flush n (owed.length + 1) else s2)

/-! ### PF2 transmit (R394, R300, R327) -/

/-- Queue a frame of PF2 on a port: dropped where the link is not UP or at QLIM, otherwise a set copy of its class. -/
def State.pf2Queue (s : State) (p k : Nat) (frame : List Byte) (unctrl : Bool) (host : Option (Nat × Nat)) : State :=
  let c : Copy := {
    no := s.path.serial, frame := none, host := host, inPort := 96, bytes := frame, handle := none, seq := none, contract := none,
    inAt := s.now, wet := false, cut := false, ready := true, deep := false, gen := none, waitCtx := false, waitExtra := false,
    unctrl := unctrl, start := none, group := 0, tag := 0 }
  let s1 := s.serial.1
  if !s.fwdUp p then (s1.hostDone c 2).stat p 47
  else if !s.dbfEn p k && decide (s.qlim p k < s.occupied p k + frame.length + 4) then (s1.hostDone c 2).blk (classCtr p 1 k)
  else if s.goesDeep p k c then
    if s.deepRoom c then ((s1.enqueue p k 0 { c with ready := false, deep := true }).blk (classCtr p 2 k)).count 0x69A
    else (s1.hostDone c 2).blk (classCtr p 1 k)
  else s1.enqueue p k 0 c

/-- UNCTRL = 1 is accepted for EAPOL, and for LLDP on a port with UNCTRL_LLDP (R394). -/
def State.unctrlOk (s : State) (p : Nat) (frame : List Byte) : Bool :=
  let t := beAt frame 12 2
  t == 0x888E || (t == 0x88CC && s.on (F.SECY_CFG.UNCTRL_LLDP p))

/-- A frame of PF2 for a member, as the hawk relays it (R327): port, class and UNCTRL, then the frame. -/
def txRecord (p k : Nat) (unctrl : Bool) (frame : List Byte) : List Byte :=
  [BitVec.ofNat 8 p, BitVec.ofNat 8 (k + 16 * b2n unctrl)] ++ frame

/-- PF2_TX_FETCH (R394): a TX descriptor and the frame that its address holds. A failed read of the frame stops the pair. -/
def execPf2TxFetch (n : Fin 64) (d : List Byte) (frame : Option (List Byte)) (s : State) : Res :=
  let n := n.val
  if !s.fetchesNow n || s.kind n ≠ 2 || s.sqPosted n = 0 then .next s
  else
    let s1 := s.takeSlots n 1
    let tag := leAt d 8 2
    let len := leAt d 10 2
    let p := natBits (leAt d 12 1) 6 0
    let unctrl := natBit (leAt d 12 1) 7
    let t := natBits (leAt d 13 1) 6 0
    let k := natBits (leAt d 14 1) 2 0
    let local_ := t = 0x7E || (s.config = 2 && t = s.index)
    let member := s.isHawk && decide (t < 64) && t ≠ s.index
    match frame with
    | none => .next (s1.ringErr n 1)
    | some fr =>
      let fr := padTo len fr
      if 95 < p || len < 60 || 9216 < len || !(local_ || member) then .next (s1.txDone n tag 1)
      else if member then
        if !natBit s.presentMap t then .next (s1.txDone n tag 4)
        else .next ((s1.lathSend Kind.exc.num t (txRecord p k unctrl fr)).txDone n tag 0)
      else if unctrl && !s.unctrlOk p fr then .next (s1.txDone n tag 1)
      else .next (s1.pf2Queue p k fr unctrl (some (n, tag)))

/-- EXC_STEER_WRITE (R395): the pair and the rate of a reason; its bucket is full. -/
def execExcSteerWrite (r : Fin 4) (v : Word) (s : State) : Res :=
  if !s.regsOpen then .next s
  else
    let s1 := (s.put (F.EXC_STEER.RATE r.val) (natBits v.toNat 31 16)).put (F.EXC_STEER.PAIR r.val) (natBits v.toNat 5 0)
    .next (s1.setHost { s1.host with tokens := Tbl.setN s1.host.tokens r.val 0, tokenAt := Tbl.setN s1.host.tokenAt r.val s1.cyc })

/-! ### The SYS group (Table 16.7) -/

/-- NOP. -/
def execNop (c : RingCmd) (s : State) : Res := ringExec 12 0 (fun _ t => (t, {})) c s

/-- FENCE: it completes only after every command fetched earlier from any ring of the device has completed. -/
def execFence (c : RingCmd) (s : State) : Res :=
  match c.via with
  | .ring n =>
    let n := n.val
    let t := c.target.toNat
    if (s.op = .setup || s.op = .run) && !c.stage && (t = 0x7E || (s.config = 2 && t = s.index)) &&
       !s.host.fences.any (fun f => f.1 == n) then
      let (s1, k) := s.owe n c.tag 12 1
      let s2 := s1.setHost { s1.host with fences := s1.host.fences ++ [(n, k)] }
      .next (s2.settle s2.host.fences.length)
    else ringExec 12 1 (fun _ t => (t, {})) c s
  | _ => ringExec 12 1 (fun _ t => (t, {})) c s

end Sys2Proof.Machine
end

