-- ==== Sys2Proof/Machine/Pair.lean ====
section
/-!
DEFINITION. Coat pairs (spec/13_coat_pairs.md, R296 to R316): heartbeats, roles and takeover, checkpoints, planned handover,
twin digests and refill.
-/
namespace Sys2Proof.Machine

/-! ### Paths (R296) -/

/-- The path of a lath link: path A joins DL-A of member 0 to DL-B of member 1; 0 path A, 1 path B. -/
def State.lathPath (s : State) (l : LathLink) : Nat := if (l == .a) == s.straps.pairMbr then 1 else 0

/-- The lath link of a path. -/
def State.linkOf (s : State) (path : Nat) : LathLink := if (path == 0) == s.straps.pairMbr then .b else .a

/-- PATH_A_OK or PATH_B_OK. -/
def pathFld (path : Nat) : Fld := if path = 0 then F.PAIR_STATUS.PATH_A_OK else F.PAIR_STATUS.PATH_B_OK

/-- A path is good (R303). -/
def State.pathOk (s : State) (path : Nat) : Bool := s.on (pathFld path)

/-- A coat pair that is running firmware: its members hear each other's messages from SETUP on. -/
def State.pairUp (s : State) : Bool := s.config == 1 && decide (4 ≤ s.op.code) && decide (s.op.code ≤ 6)

/-- Send a message on one path. -/
def State.pairSendOn (s : State) (path : Nat) (k : Kind) (payload : List Byte) : State :=
  (s.emit (.lath (s.linkOf path) k.num 0 0 payload)).count (0x6D0 + b2n (s.linkOf path == .b))

/-- Send a message that one path carries: path B only while A is lost. -/
def State.pairSend (s : State) (k : Kind) (payload : List Byte) : State :=
  s.pairSendOn (if !s.pathOk 0 && s.pathOk 1 then 1 else 0) k payload

/-- The role in the partner's latest heartbeat. -/
def State.partnerRole (s : State) : Nat := s.fld F.PAIR_STATUS.PARTNER_ROLE

/-- The partner is heard as ACTIVE or ALONE on a good path. -/
def State.partnerActive (s : State) : Bool := (s.partnerRole == 3 || s.partnerRole == 4) && (s.pathOk 0 || s.pathOk 1)

/-- A message that fails authentication is discarded and counted (R309); a BLOCKED member comes of it (R301). -/
def State.authFail (s : State) : State := (s.setPair { s.pair with failed := true }).blk 24

/-! ### Refill, the joining side (R313) -/

/-- Zero what refill has written. -/
def State.dropRefill (s : State) : State :=
  let s1 := s.each s.pair.gotCtx (fun n t =>
    ((t.ctxPut n 0).setCtx { (t.ctxPut n 0).ctx with hold := Tbl.setN t.ctx.hold n 0 }).ctxUncache n)
  let s2 := s1.each s.pair.gotSlots (fun k t => t.setSlot k ⟨0, 0, false⟩)
  let s3 := (s2.setKey { s2.key with lru := s2.key.lru.filter (fun k => !s.pair.gotSlots.contains k) }).keyGauges
  let s4 := (s3.setCtx { s3.ctx with scm := s3.ctx.scm.filter (fun e => !s.pair.gotScm.contains e.1) }).scmGauge
  let s5 := s4.each s.pair.gotSrc (fun h t => t.srcPut h 0)
  s5.setPair { s5.pair with gotCtx := [], gotSlots := [], gotScm := [], gotSrc := [] }

/-- Refill ends in failure: REFILL_FAIL, and the member is OFFLINE. -/
def State.refillFail (s : State) : State := ((s.dropRefill).setRole 0).pairEvent 11 0 0

/-- One refill record. Type 1: a slot (index, attributes, XWRAP blob under K_PT); 2: a context; 3: an SCI map entry; 4: a
recovery context; 5: the end. None when the record's unwrap fails. -/
def State.refillWrite (s : State) (d : List Byte) : Option State :=
  let idx := leAt d 1 4
  match leAt d 0 1 with
  | 1 =>
    let a : BitVec 128 := BitVec.ofNat 128 (leAt d 5 16)
    let blob := d.drop 21
    match xwUnwrap (s.keyBytes (devSlot 0)) blob with
    | some key =>
      if !hostSlot idx || leAt blob 2 1 ≠ s.lc then none
      else
        let t := s.fill idx a (keyNat key) false
        let t1 := (t.setSlot idx { t.slot idx with attr := putF (t.slot idx).attr M.attrPin (getF a M.attrPin) }).keyGauges
        some (t1.setPair { t1.pair with gotSlots := addOnce t1.pair.gotSlots idx })
    | none => none
  | 2 =>
    let img : BitVec 2048 := BitVec.ofNat 2048 (leAt d 5 256)
    let pinned := isF img (if ctxKind img = 1 then C.mPin else C.pPin)
    let t := (s.ctxPut idx img).unpoison (ctxLine idx) (ctxLine idx + 4)
    let t1 := t.when pinned (fun u => u.pinCtx idx ((ctxGroup img).getD 0) false)
    some (t1.setPair { t1.pair with gotCtx := addOnce t1.pair.gotCtx idx })
  | 3 =>
    let e : BitVec 128 := BitVec.ofNat 128 (leAt d 5 16)
    let sci := getF e M.scmSci
    let port := getF e M.scmPort
    let at_ := (s.scmFind sci port).orElse (fun _ =>
      (s.scmSlots sci port).find? (fun i => !isF (Tbl.at0 s.ctx.scm i) M.scmValid))
    match at_ with
    | some i =>
      let t := (s.setCtx { s.ctx with scm := Tbl.set0 s.ctx.scm i e }).scmGauge
      some (t.setPair { t.pair with gotScm := addOnce t.pair.gotScm i })
    | none => some s
  | 4 =>
    let t := s.srcPut idx (BitVec.ofNat 512 (leAt d 5 64))
    some (t.setPair { t.pair with gotSrc := addOnce t.pair.gotSrc idx })
  | 5 =>
    let t := (s.setRole 0).setPair { s.pair with gotCtx := [], gotSlots := [], gotScm := [], gotSrc := [] }
    some (t.pairEvent 10 0 0)
  | _ => some s

/-- REFILL_RECORD_RECEIVE (R313): a record that fails its authentication or its unwrap ends refill. -/
def execRefillRecordReceive (l : LathLink) (r : LathRec) (s : State) : Res :=
  if !s.pairUp then .next s
  else
    let s0 := s.count (0x6D2 + b2n (l == .b))
    if !r.authOk then .next (s0.authFail.when (s0.role == 1) State.refillFail)
    else if s0.role ≠ 1 then .next s0
    else match s0.refillWrite r.payload with
      | some t => .next t
      | none => .next s0.refillFail

/-! ### Refill, the sending side (R312) -/

/-- The refill records in their order: host slots wrapped under K_PT, valid contexts, SCI map entries, recovery contexts, the
end. Counters are zero, CONTRACT_REF clear. A quarantined slot has no key to send. -/
def State.refillRecords (s : State) : List (List Byte) :=
  let d0 := s.keyBytes (devSlot 0)
  let head (type idx : Nat) := leBytes 1 type ++ leBytes 4 idx
  let slots := s.key.slots.filter (fun e => hostSlot e.1 && isF e.2.attr M.attrValid && !isF e.2.attr M.attrQuar)
  (slots.map (fun e => head 1 e.1 ++ leBytes 16 e.2.attr.toNat ++ xwWrap d0 e.2.attr s.lc (s.keyBytes e.1))) ++
  ((s.ctx.ctx.filter (fun e => isF e.2 C.valid)).map (fun e =>
    let w := s.ctxImage e.1
    head 2 e.1 ++ leBytes 256 (putF (putF w (if ctxKind w = 1 then C.mCref else C.pCref) 0) (bytesAt 0x80 66) 0).toNat)) ++
  ((s.ctx.scm.filter (fun e => isF e.2 M.scmValid)).map (fun e => head 3 e.1 ++ leBytes 16 e.2.toNat)) ++
  (s.rcv.src.map (fun e => head 4 e.1 ++ leBytes 64 (putF e.2 (bytesAt 0x18 36) 0).toNat)) ++ [head 5 0]

/-- REFILL_REQUEST_RECEIVE (R312): an ACTIVE or ALONE member sends its refill records. -/
def execRefillRequestReceive (l : LathLink) (r : LathRec) (s : State) : Res :=
  if !s.pairUp then .next s
  else
    let s0 := s.count (0x6D2 + b2n (l == .b))
    if !r.authOk then .next s0.authFail
    else if s0.role ≠ 3 ∧ s0.role ≠ 4 then .next s0
    else .next (s0.each s0.refillRecords (fun d t => t.pairSend .refill d))

/-! ### Heartbeats and roles (R301 to R306) -/

/-- PAIR_HB_SEND (R303): a heartbeat on each path: role, ACTIVE_SINCE, working clock. An OFFLINE member outside RUN sends
nothing (Table 13.1); one that waits in RUN must be heard for R301. -/
def execPairHbSend (s : State) : Res :=
  if s.config = 1 && (s.op == .run || (s.op == .setup && s.role == 1)) then
    let d := leBytes 1 s.role ++ instantBytes s.pair.since ++ instantBytes s.now
    .next ((s.pairSendOn 0 .pairHb d).pairSendOn 1 .pairHb d)
  else .next s

/-- Both paths are lost (R304): STANDBY takes over, ACTIVE becomes ALONE, a refill fails. -/
def State.bothLost (s : State) : State :=
  if s.role = 2 then s.takeOver
  else if s.role = 3 then (s.setRole 4).pairEvent 4 0 0
  else if s.role = 1 then s.refillFail
  else s

/-- A heartbeat is missed on a path: the third in a row loses it (R303). -/
def State.missPath (s : State) (path : Nat) : State :=
  let x := s.pair
  let s1 := s.setPair (if path = 0 then { x with missA := x.missA + 1, goodA := 0 } else { x with missB := x.missB + 1, goodB := 0 })
  let miss := if path = 0 then s1.pair.missA else s1.pair.missB
  if miss = 3 then
    let s2 := s1.when (s1.pathOk path) (fun t => ((t.put (pathFld path) 0).blk (64 + path)).pairEvent 1 path 0)
    s2.when (decide (3 ≤ s2.pair.missA) && decide (3 ≤ s2.pair.missB)) State.bothLost
  else s1

/-- A good heartbeat on a path: the third in a row restores it (R303). -/
def State.goodPath (s : State) (path : Nat) : State :=
  let x := s.pair
  let s1 := s.setPair (if path = 0 then { x with missA := 0, goodA := x.goodA + 1, heard := true }
    else { x with missB := 0, goodB := x.goodB + 1, heard := true })
  let good := if path = 0 then s1.pair.goodA else s1.pair.goodB
  if decide (3 ≤ good) && !s1.pathOk path then (s1.put (pathFld path) 1).pairEvent 2 path 0 else s1

/-- A member becomes ACTIVE at its entry to service. -/
def State.becomeActive (s : State) (role : Nat) : State := (s.setRole role).setPair { s.pair with since := s.now, txFrom := s.now }

/-- The role after an authenticated heartbeat heard in RUN (R301, R302). -/
def State.hearRole (s : State) : State :=
  let r := s.partnerRole
  let mbr := s.straps.pairMbr
  if s.role = 0 then
    if r = 3 ∨ r = 4 then s.setRole 2
    else if r = 0 ∨ r = 2 then (if mbr then s.setRole 2 else s.becomeActive 3)
    else s
  else if s.role = 3 ∨ s.role = 4 then
    if r = 2 then s.setRole 3
    else if r = 3 ∨ r = 4 then
      let s1 := s.pairEvent 6 0 0
      let yields := decide (s.pair.partnerSince < s.pair.since) || (s.pair.since == s.pair.partnerSince && mbr)
      s1.when yields (fun t => (t.setRole 2).pairEvent 5 0 0)
    else s
  else s

/-- TIME_SKEW when the partner's clock, corrected by the path's delay, is off by more than TIME_TOL, at most once a second
(R306). -/
def State.skewCheck (s : State) (path clock : Nat) : State :=
  let there : Int := (clock : Int) + ((Config.pathDelay path).toNat : Int)
  let off := (there - (s.now : Int)).natAbs
  if s.fld F.PAIR_CFG.TIME_TOL * 100 < off && s.pair.skewAt ≠ s.sec + 1 then
    (s.setPair { s.pair with skewAt := s.sec + 1 }).pairEvent 9 path 0
  else s

/-- PAIR_HB_RECEIVE (R303): one that fails its authentication counts as missed (R309). -/
def execPairHbReceive (l : LathLink) (r : LathRec) (s : State) : Res :=
  if !s.pairUp then .next s
  else
    let path := s.lathPath l
    let s0 := s.count (0x6D2 + b2n (l == .b))
    if !r.authOk then .next (s0.authFail.missPath path)
    else
      let s1 := (s0.put F.PAIR_STATUS.PARTNER_ROLE (leAt r.payload 0 1 % 8)).goodPath path
      let s2 := s1.setPair { s1.pair with partnerSince := instantOf (slice r.payload 1 10) }
      .next ((s2.when (s2.op == .run) State.hearRole).skewCheck path (instantOf (slice r.payload 11 10)))

/-- PAIR_HB_MISS (R303). -/
def execPairHbMiss (l : LathLink) (s : State) : Res := if s.pairUp then .next (s.missPath (s.lathPath l)) else .next s

/-- A member enters RUN (R301): STANDBY when it hears an active partner, otherwise it waits. -/
def State.pairRun (s : State) : State :=
  if s.config ≠ 1 then s
  else
    let s1 := s.setPair { s.pair with heard := false, failed := false, waiting := true }
    if s1.partnerActive then s1.setRole 2 else s1

/-- PAIR_START_WAIT (R301): START_WAIT after entry to RUN. A member that has taken no role becomes ALONE, or BLOCKED when
every message it heard failed its authentication. -/
def execPairStartWait (s : State) : Res :=
  if s.config = 1 && s.op == .run && s.pair.waiting then
    let s1 := s.setPair { s.pair with waiting := false }
    if s1.role ≠ 0 then .next s1
    else if s1.pair.failed && !s1.pair.heard then .next ((s1.setRole 5).pairEvent 8 0 0)
    else .next (s1.becomeActive 4)
  else .next s

/-- YIELD_RECEIVE (R305): a STANDBY member takes over at once. -/
def execYieldReceive (l : LathLink) (r : LathRec) (s : State) : Res :=
  if !s.pairUp then .next s
  else
    let s0 := s.count (0x6D2 + b2n (l == .b))
    if !r.authOk then .next s0.authFail else .next (s0.when (s0.role == 2) State.takeOver)

/-! ### Checkpoints and planned handover (R307, R308) -/

/-- The values of a checkpoint: each transmit context with its NEXT_PN or NEXT_CNT. -/
def State.checkpoint (s : State) : List Byte :=
  s.txContexts.flatMap (fun n =>
    let w := s.ctxAt n
    leBytes 4 n ++ leBytes 8 (getF w (if ctxKind w = 1 then C.nextPn else C.nextCnt)))

/-- PAIR_CHECKPOINT_SEND (R307): the ACTIVE member's checkpoint. -/
def execPairCheckpointSend (s : State) : Res :=
  if s.config = 1 && s.role == 3 then .next (s.pairSend .checkpoint (leBytes 1 0 ++ instantBytes 0 ++ s.checkpoint)) else .next s

/-- Store one value of a checkpoint. -/
def State.storeCheckpoint (s : State) (d : List Byte) (i : Nat) : State :=
  let n := leAt d (12 * i) 4
  let w := s.ctxAt n
  if isF w C.valid then s.ctxPut n (putF w (if ctxKind w = 1 then C.mChkpt else C.pChkpt) (leAt d (12 * i + 4) 8)) else s

/-- PAIR_CHECKPOINT_RECEIVE (R307): the STANDBY stores each value in CHKPT; a full checkpoint names the instant of the
handover (R308). -/
def execPairCheckpointReceive (l : LathLink) (r : LathRec) (s : State) : Res :=
  if !s.pairUp then .next s
  else
    let s0 := s.count (0x6D2 + b2n (l == .b))
    if !r.authOk then .next s0.authFail
    else if s0.role ≠ 2 then .next s0
    else
      let d := r.payload.drop 11
      let s1 := s0.each (List.range (d.length / 12)) (fun i t => t.storeCheckpoint d i)
      .next (s1.when (leAt r.payload 0 1 == 1) (fun t =>
        t.setPair { t.pair with handover := some ⟨instantOf (slice r.payload 1 10), true, none⟩ }))

/-- DEMOTE_CHECKPOINT_START (R308): at T − 800 µs the active sends a full checkpoint. -/
def execDemoteCheckpointStart (s : State) : Res :=
  match s.pair.handover with
  | some h =>
    if s.role = 3 && !h.begun then
      .next ((s.setPair { s.pair with handover := some { h with begun := true } }).pairSend .checkpoint
        (leBytes 1 1 ++ instantBytes h.t ++ s.checkpoint))
    else .next s
  | none => .next s

/-- The command PAIR_DEMOTE that a handover owes completes. -/
def State.handoverDone (s : State) (code : Nat) : State :=
  let h := s.pair.handover
  let s1 := s.setPair { s.pair with handover := none }
  match h.bind Handover.owner with
  | some (n, k) => s1.completeOrder n k (({ code := code } : Reply).completion 8 1 s1.source)
  | none => s1

/-- DEMOTE_ABANDON (R308): the full checkpoint has not reached the partner by T − 50 µs. -/
def execDemoteAbandon (s : State) : Res := if s.pair.handover.isSome then .next (s.handoverDone 1) else .next s

/-- PAIR_HANDOVER (R308): at T the roles swap; the new active leaps before each context's first use and sends from T on. -/
def execPairHandover (s : State) : Res :=
  match s.pair.handover with
  | some h =>
    if s.role = 3 then .next (((s.handoverDone 0).setRole 2).pairEvent 5 0 0)
    else if s.role = 2 then
      let s1 := (s.setRole 3).setPair { s.pair with handover := none, since := h.t, txFrom := h.t }
      .next ((s1.setCtx { s1.ctx with leapDue := s1.txContexts }).pairEvent 3 0 0)
    else .next (s.handoverDone 1)
  | none => .next s

/-! ### Twin digests (R310, R311) -/

/-- Compare the digests of a port and cycle. -/
def State.digestCompare (s : State) (p cycle sum count sum' count' : Nat) : State :=
  if sum = sum' ∧ count = count' then s.blk (portCtr p 4)
  else
    let s1 := s.blk (portCtr p 5)
    let x := s1.twin p
    if x.posted = s1.sec + 1 then s1
    else (s1.setTwin p { x with posted := s1.sec + 1 }).event R.PAIR_EVENT R.PAIR_EVENT_EN 7 0x0B 7 p cycle count count'

/-- Compare the finished cycles of a port with the partner's digests that wait. -/
def State.digestMatch (s : State) (p : Nat) : State :=
  let x := s.twin p
  let both := x.own.filterMap (fun o => (x.peer.find? (fun e => e.1 == o.1)).map (fun e => (o, e)))
  let done (e : Nat × Nat × Nat) : Bool := both.any (fun b => b.1.1 == e.1)
  (s.setTwin p { x with own := x.own.filter (fun e => !done e), peer := x.peer.filter (fun e => !done e) }).each both
    (fun b t => t.digestCompare p b.1.1 b.1.2.1 b.1.2.2 b.2.2.1 b.2.2.2)

/-- A member compares digests while both are in step: STANDBY and ACTIVE (Table 13.1). -/
def State.inStep (s : State) : Bool := s.config == 1 && (s.role == 2 || s.role == 3)

/-- DIGEST_SEND (R311): the digest of the cycle before the present one, once the last of its copies has left; a cycle without
a reserved copy has none. -/
def execDigestSend (p : Fin 96) (s : State) : Res :=
  let p := p.val
  let cur := (s.operBank p).cycleAt s.now
  let sending := match (s.line p).now with
    | some y => y.copy.start.isSome && decide (y.begun < cur)
    | none => false
  if !s.twinHeld p || !s.listRuns p || sending then .next s
  else
    let s1 := s.setTwin p ((s.twin p).atCycle cur)
    if !s1.inStep then .next s1
    else
      let before := (s1.operBank p).cycleAt (cur - 1)
      let s2 := match (s1.twin p).own.find? (fun e => e.1 == before) with
        | some e => s1.pairSend .digest (leBytes 1 p ++ leBytes 8 e.1 ++ leBytes 8 e.2.1 ++ leBytes 4 e.2.2)
        | none => s1
      .next (s2.digestMatch p)

/-- DIGEST_RECEIVE (R311): compared with the member's own, or kept until its cycle has ended here. -/
def execDigestReceive (l : LathLink) (r : LathRec) (s : State) : Res :=
  if !s.pairUp then .next s
  else
    let s0 := s.count (0x6D2 + b2n (l == .b))
    let p := leAt r.payload 0 1
    if !r.authOk then .next s0.authFail
    else if !s0.inStep || !s0.twinHeld p || decide (96 ≤ p) then .next s0
    else
      let x := s0.twin p
      let e := (leAt r.payload 1 8, leAt r.payload 9 8, leAt r.payload 17 4)
      if x.own.any (fun o => o.1 == e.1) || decide (x.cycle ≤ e.1) then
        .next ((s0.setTwin p { x with peer := (e :: x.peer).take 8 }).digestMatch p)
      else .next s0

/-- DIGEST_MISS (R311): the oldest digest of this member that two cycles have left without the partner's. -/
def execDigestMiss (p : Fin 96) (s : State) : Res :=
  let x := s.twin p.val
  if s.inStep && !x.own.isEmpty then .next ((s.setTwin p.val { x with own := x.own.dropLast }).blk (portCtr p.val 6)) else .next s

/-! ### Commands (R314) -/

/-- PAIR_STATUS as it reads (Table 13.7): MEMBER and CONFIG from the straps. -/
def State.pairStatusWord (s : State) : Word :=
  let w := (s.reg R.PAIR_STATUS).toNat
  BitVec.ofNat 32 (natPut (natPut w 28 28 (b2n (s.straps.pairMbr && s.config == 1))) 27 26 s.config)

/-- PAIR_STATUS: the register and ACTIVE_SINCE. -/
def pairStatus : Body := fun _ s =>
  if s.config ≠ 1 then refuse s 6 else (s, { conts := leBytes 4 s.pairStatusWord.toNat ++ instantBytes s.pair.since })

/-- PAIR_STATUS (R314). -/
def execPairStatus (c : RingCmd) (s : State) : Res := ringExec 8 0 pairStatus c s

/-- PAIR_REFILL (R312). -/
def pairRefill : Body := fun _ s =>
  if s.config ≠ 1 || s.op != .setup then refuse s 6
  else if s.role = 1 then refuse s 12
  else if !s.partnerActive then refuse s 1
  else (((s.setRole 1).setPair { s.pair with gotCtx := [], gotSlots := [], gotScm := [], gotSrc := [] }).pairSend .refillReq [], {})

/-- PAIR_REFILL (R312). -/
def execPairRefill (c : RingCmd) (s : State) : Res := ringExec 8 2 pairRefill c s

/-- The refusal of PAIR_DEMOTE for an instant T (Table 13.4). -/
def State.demoteCheck (s : State) (t : Nat) : Option Nat :=
  if s.config ≠ 1 ∨ s.role ≠ 3 ∨ t < s.now + 1000000 then some 6
  else if s.pair.handover.isSome || s.partnerRole == 1 then some 12
  else if s.partnerRole ≠ 2 then some 1
  else none

/-- PAIR_DEMOTE (R308): its completion waits for T. -/
def execPairDemote (c : RingCmd) (s : State) : Res :=
  let t := instantOf c.cont
  match c.via with
  | .ring n =>
    if s.op = .run && (s.demoteCheck t).isNone && (c.target = 0x7E) && !s.host.fences.any (fun f => f.1 == n.val) then
      let (s1, k) := s.owe n.val c.tag 8 1
      .next (s1.setPair { s1.pair with handover := some ⟨t, false, some (n.val, k)⟩ })
    else ringExec 8 1 (fun c s => refuse s ((s.demoteCheck (instantOf c.cont)).getD 6)) c s
  | _ => .next s

end Sys2Proof.Machine
end

