-- ==== Sys2Proof/Machine/Screed.lean ====
section
/-!
DEFINITION. Screed values (spec/14_lath_domains.md, R331 to R334): the leaves of the binding configuration, their digest,
the stage journal and the two views; and the table of every ring command's treatment, which the journal and the relay use.
-/
namespace Sys2Proof.Machine

/-! ### Every ring command by group and operation (Table 16.7) -/

/-- The treatment of a command with one of the codes of its group for an operation that does not exist. -/
def badOp : Body := fun _ s => refuse s 6

/-- A treatment that its engine counts as event `e`. -/
def counted (e : Nat) (b : Body) : Body := fun c s => b c (s.count e)

/-- The treatment of a command (Table 16.7). The groups of pair and domain commands are BAD_REQUEST on a domain member
(R314, R342). -/
def ringBody (group op : Nat) : Body :=
  match group with
  | 0 => counted 0x6A8 ([tceReadPos, tceSearch, tceInsert, tceUpdate, tceDelete, tceFlush, tceWritePos].getD op badOp)
  | 1 => [ctxRead, ctxInstall, ctxEnable, ctxRetire, ctxSelect, ctxFree, ctxPin, ctxUnpin, ctxClearCnt, scmAdd, scmDelete, flipAdd,
      flipArm, flipCancel, flipStatus, secyTxRead].getD op badOp
  | 2 => counted 0x6A2 ([keyImportKw, keyImportXw, keyGenerate, keyDerive, keyExportKw, keyExportXw, keyCmacGen, keyCmacVerify,
      keyAttrRead, keyAttrReduce, keyPin, keyUnpin, keyFree, rootInject, rootErase, rootStatus].getD op badOp)
  | 3 => [gclWrite, gclRead, gclParams, gclChange, gclCancel, gclStatus].getD op badOp
  | 4 => [fltWrite, fltRead, mtrWrite, mtrRead, fltUnblock, mtrUnmark, fltClearCnt].getD op badOp
  | 5 => [tunWrite, tunRead].getD op badOp
  | 6 => [srcRead, srcWrite, stnRead, stnWrite, stnClearCnt].getD op badOp
  | 7 => [ctAdmit, ctWithdraw, ctRead, ctClearCnt].getD op badOp
  | 10 => [ptpGet, ptpSet].getD op badOp
  | 11 => [perfSnapshot, perfSnapAt, perfDump, perfRead].getD op badOp
  | 12 => if op ≤ 1 then fun _ s => (s, {}) else badOp
  | _ => badOp

/-! ### Leaves (R331, Table 14.2) -/

/-- One leaf: its class, its id and its image. -/
structure Leaf where
  cls : Nat
  id : Nat
  image : List Byte
deriving DecidableEq, Repr

/-- The offsets of the instances of a replicated register, from its first. -/
def instances : List (Nat × Nat) → List Nat
  | [] => [0]
  | (st, n) :: rest => (List.range n).flatMap (fun i => (instances rest).map (· + i * st))

/-- The mask of a row's RW-L fields. -/
def rwlMask (r : RegRow) : Nat :=
  (r.fields.filter (fun f => f.acc == .rwl)).foldl (fun a f => a + (2 ^ (f.hi + 1) - 2 ^ f.lo)) 0

/-- Class 0: every RW-L register. -/
def State.regLeaves (s : State) : List Leaf :=
  (allRows.filter (fun r => rwlMask r ≠ 0)).flatMap (fun r =>
    (instances r.reps).map (fun o => ⟨0, r.base + o, leBytes 4 ((s.reg (r.base + o)).toNat &&& rwlMask r)⟩))

/-- A static forwarding entry without HIT, STALE, LOG_SEQ and CREF. -/
def staticImage (e : BitVec 128) : BitVec 128 := putF (putF (putF (putF e E.fdbHit 0) E.fdbStale 0) E.fdbLogSeq 0) E.fdbCref 0

/-- Classes 1 to 5: the classification tables. -/
def State.tableLeaves (s : State) : List Leaf :=
  ((s.cls.vlan.filter (fun e => isF e.2 E.vlanValid)).map (fun e => ⟨1, e.1, leBytes 32 e.2.toNat⟩)) ++
  ((s.cls.mcast.filter (fun e => e.2 != 0)).map (fun e => ⟨2, e.1, leBytes 16 e.2.toNat⟩)) ++
  ((s.cls.stream.filter (fun e => isF e.2 E.strValid)).map (fun e =>
    ⟨3, e.1, leBytes 32 (putF (putF e.2 E.strContracted 0) E.strContract 0).toNat⟩)) ++
  ((s.cls.sid.filter (fun e => isF e.2 E.sidValid)).map (fun e => ⟨4, 0, leBytes 64 e.2.toNat⟩)) ++
  ((s.cls.fdb.filter (fun e => isF e.2 E.fdbValid && isF e.2 E.fdbStatic)).map (fun e => ⟨5, 0, leBytes 16 (staticImage e.2).toNat⟩))

/-- Class 6 of a port: the entries within LENGTH and the list parameters, whose 16-byte layout the spec does not state. -/
def listLeaves (p : Nat) (b : GateBank) : List Leaf :=
  ((List.range b.length).map (fun i => ⟨6, p * 1024 + i, leBytes 8 (Tbl.at0 b.entries i).toNat⟩)) ++
  [⟨6, 0x100000 + p, leBytes 16 (Config.listParams b.base b.cycle b.ext b.length).toNat⟩]

/-- Classes 7 to 12: filters, meters, tunnel headers, recovery contexts, Stencil entries, contracts. -/
def State.entryLeaves (s : State) : List Leaf :=
  ((s.flt.flt.filter (fun e => isF e.2 L.valid)).map (fun e => ⟨7, e.1, leBytes 8 (putF e.2 L.blocked 0).toNat⟩)) ++
  ((s.flt.mtr.filter (fun e => e.2 != 0)).map (fun e => ⟨8, e.1, leBytes 16 (putF e.2 L.markRed 0).toNat⟩)) ++
  ((s.flt.tun.filter (fun e => isF e.2 U.valid)).map (fun e => ⟨9, e.1, leBytes 128 e.2.toNat⟩)) ++
  ((s.rcv.src.filter (fun e => isF e.2 S.valid)).map (fun e =>
    ⟨10, e.1, leBytes 8 (putF (putF (putF e.2 S.takeAny 0) S.recov 0) S.txSeq 0).toNat⟩)) ++
  ((s.rcv.stn.filter (fun e => isF e.2 T.valid)).map (fun e => ⟨11, e.1, leBytes 32 e.2.toNat⟩)) ++
  (s.liveCts.map (fun c => ⟨12, c, leBytes 48 (s.ctAt c).toNat⟩))

/-- The leaves of the configuration in force: class 6 covers each port's operational list (R333). -/
def State.leaves (s : State) : List Leaf :=
  s.regLeaves ++ s.tableLeaves ++
  ((allBelow (fun p => s.on (F.SCHED_STATUS.OPER_VALID p)) 96).flatMap (fun p => listLeaves p (s.operBank p))) ++ s.entryLeaves

/-! ### The digest (R332) -/

/-- The digest of a leaf under K_SCR, as a big-endian number. -/
def Leaf.digest (l : Leaf) : Nat := beNat (cmac zeroBlock (beBytes 1 l.cls ++ beBytes 4 l.id ++ l.image))

/-- The screed value of a set of leaves. -/
def screedOf (ls : List Leaf) : BitVec 128 :=
  let d (c : Nat) : Nat := ((ls.filter (fun l => l.cls = c)).map Leaf.digest).foldl (fun a x => (a + x) % 2 ^ 128) 0
  BitVec.ofNat 128 (beNat (cmac zeroBlock (ascii "XCLN SCREED" ++ (List.range 16).flatMap (fun c => beBytes 16 (d c)))))

/-- SCREED_ACT (R333). -/
def State.screedAct (s : State) : BitVec 128 := screedOf s.leaves

/-! ### The staged view (R333) -/

/-- Apply one journalled command that is no contract command. -/
def State.replay (s : State) (j : Nat × Nat × RingCmd) : State :=
  if j.1 = 7 then s else (ringBody j.1 j.2.1 { j.2.2 with stage := false } s).1

/-- Ports whose administrative bank has been written since its last change. -/
def State.stagedPorts (s : State) : List Nat := allBelow (fun p => (s.sch p).written) 96

/-- The administrative banks of the staged ports as their operational ones. -/
def State.stageLists (s : State) : State :=
  s.each s.stagedPorts (fun p t =>
    let t1 := t.setSch p { t.sch p with change := none }
    ((t1.put (F.SCHED_STATUS.OPER_BANK p) (1 - t1.fld (F.SCHED_STATUS.OPER_BANK p))).put (F.SCHED_STATUS.OPER_VALID p) 1))

/-- The contracts that the journal withdraws, and those it admits. -/
def State.stagedCts (s : State) (op : Nat) : List RingCmd := (s.dom.journal.filter (fun j => j.1 = 7 && j.2.1 = op)).map (·.2.2)

/-- The staged configuration but for its staged admissions. -/
def State.stagedBase (s : State) : State :=
  let s1 := s.stageLists.each s.dom.journal (fun j t => t.replay j)
  s1.each (s.stagedCts 1) (fun c t => (ctWithdraw c t).1)

/-- The staged configuration: the images of staged admissions are added as they stand. -/
def State.staged (s : State) : State :=
  s.stagedBase.each (s.stagedCts 0) (fun c t =>
    t.ctPut (c.a0 13 0) (putF (ctFields (BitVec.ofNat 1024 (leAt c.cont 0 128))) V.state 1))

/-- SCREED_STG (R333). -/
def State.screedStg (s : State) : BitVec 128 := screedOf s.staged.leaves

end Sys2Proof.Machine
end

