-- ==== Sys2Proof/Machine/Boot.lean ====
section
/-!
DEFINITION. Firmware load and verification, entry to SETUP, RUN and HOLD, fuses, life cycle and attestation
(spec/17_boot_and_lifecycle.md, R409 to R423).
-/
namespace Sys2Proof.Machine

/-! ### Signature blocks (R409, Table 17.4) -/

/-- SHAKE256 of a message truncated to 256 bits, as a little-endian number. -/
def keyHash (bs : List Byte) : Nat := (Config.shake256 bs).toNat % 2 ^ 256

/-- The two keys of a signature block hash to these values. -/
def blockKeys (blk : List Byte) (ed ml : Nat) : Bool :=
  keyHash (slice blk 0 32) == ed && keyHash (slice blk 32 1952) == ml

/-- Both signatures of a block over a header verify. -/
def blockSigs (blk hdr : List Byte) (ctx : String) : Bool :=
  Config.ed25519Verify (slice blk 0 32) hdr (slice blk 1984 64) &&
  Config.mldsaVerify (slice blk 32 1952) (ascii ctx) hdr (slice blk 2048 3309)

/-- The fused key hashes: Ed25519 and ML-DSA-65, of the vendor and of the owner (Table 17.6). -/
def State.vendorHashes (s : State) : Nat × Nat := (s.fuse 511 256, s.fuse 767 512)
def State.ownerHashes (s : State) : Nat × Nat := (s.fuse 1023 768, s.fuse 1279 1024)

/-! ### Verification (R410) -/

/-- FW_STATUS after the verification of an image: the code of the first check that fails, or 15 (Table 17.5). -/
def State.verifyImage (s : State) (img : List Byte) : Nat :=
  let hdr := img.take 256
  let body := leAt hdr 0x0C 4
  let entry := leAt hdr 0x10 4
  let v := slice img (256 + body) 5376
  let o := slice img (256 + body + 5376) 5376
  let reserved := natBits (leAt hdr 6 2) 15 1 ≠ 0 || leAt hdr 9 3 ≠ 0 || leAt hdr 0x1C 36 ≠ 0 || leAt hdr 0x80 128 ≠ 0 ||
    natBits (leAt hdr 0x18 2) 15 2 ≠ 0 || natBits (leAt hdr 0x1A 2) 15 6 ≠ 0
  if slice hdr 0 4 ≠ ascii "XCFW" || leAt hdr 4 2 ≠ 1 || reserved then 3
  else if body < 64 || 8377600 < body || body % 64 ≠ 0 || img.length ≠ 256 + body + 10752 || body ≤ entry then 4
  else if !natBit (leAt hdr 0x18 2) (b2n s.grade2496) then 5
  else if !natBit (leAt hdr 0x1A 2) s.lc then 6
  else if leAt hdr 8 1 < s.fusedArb then 7
  else if (Config.shake256 (slice img 256 body)).toNat ≠ leAt hdr 0x40 64 then 8
  else if !blockKeys v s.vendorHashes.1 s.vendorHashes.2 then 9
  else if !blockSigs v hdr "XCLN FW" then 10
  else if s.ownerFused && leAt hdr 6 2 % 2 = 0 then 11
  else if s.ownerFused && !blockKeys o s.ownerHashes.1 s.ownerHashes.2 then 12
  else if s.ownerFused && !blockSigs o hdr "XCLN FW" then 13
  else 15

/-- FW_STATUS. -/
def State.fwStatus (s : State) : Nat := s.fld F.BOOT_STATUS.FW_STATUS

/-- FW_LOAD_GO (R411): in LOAD, while no load runs, the image is read; a failed read ends it. A domain member ignores its UCIe
link (R413), and a CONTAIN in LOAD has GO ignored (Table 18.3). -/
def execFwLoadGo (img : Option (List Byte)) (s : State) : Res :=
  if s.op ≠ .load || s.fwStatus = 1 || s.fwStatus = 15 || s.boot.loadBlocked || s.isMember then .next s
  else match img with
    | some bs => .next ((s.setBoot { s.boot with image := bs.take (s.fld F.FW_LOAD_LEN.LEN) }).put F.BOOT_STATUS.FW_STATUS 1)
    | none => .next ((s.setBoot { s.boot with image := [] }).put F.BOOT_STATUS.FW_STATUS 2)

/-- FW_VERIFY_DONE (R410, R412): verification ends; a member, which verifies the whole image that FW_START announced, reports it
(R413). -/
def execFwVerifyDone (s : State) : Res :=
  if s.op ≠ .load || s.fwStatus ≠ 1 || (s.isMember && decide (s.boot.image.length < s.dom.fwLen)) then .next s
  else
    let code := s.verifyImage s.boot.image
    let s1 := s.put F.BOOT_STATUS.FW_STATUS code
    let s2 := if code = 15 then
        (s1.setBoot { s1.boot with header := s1.boot.image.take 256 }).put F.FW_INFO.IMAGE_ARB (leAt s1.boot.image 8 1)
      else s1.setBoot { s1.boot with image := [] }
    .next (s2.when s2.isMember (fun t => t.lathSend Kind.loadStatus.num 0x7E (leBytes 1 t.index ++ leBytes 1 code)))

/-- The notice of alarms logged in BATTERY, at entry to SETUP (R440). -/
def State.postNotice (s : State) : State :=
  match s.bat.notice with
  | some q => ({ s with bat := { s.bat with notice := none } } : State).record 0x0E 0x3F q 0 0 0
  | none => s

/-- SETUP_ENTRY (R412): Gheor enters SETUP and BOOT_EVENT.SETUP is set, its record held until an EVENT ring runs; the enclosure
LFSR is reseeded from the TRNG (R427). A device that shares its index stays in LOAD (R319). -/
def execSetupEntry (s : State) : Res :=
  if s.op ≠ .load || s.fwStatus ≠ 15 || (s.config == 2 && s.dom.dup) then .next s
  else
    let (a, s1) := s.draw 32
    let (b, s2) := s1.draw 32
    let s3 : State := { s2 with op := .setup, bat := { s2.bat with lfsrA := a, lfsrB := b } }
    .next ((s3.bitOnly R.BOOT_EVENT 0).record 0x12 0 0 0 0 0).postNotice

/-! ### RUN and HOLD (R414) -/

/-- The hawk relays the image it runs to the members in LOAD: FW_START with its DOMAIN_ID and the length, then the image in
records of 224 bytes (R328, R413). -/
def State.relayFirmware (s : State) : State :=
  let img := s.boot.image
  let s1 := s.lathSend Kind.fwStart.num 0x7F (leBytes 2 (s.fld F.KEY_GROUP_ID.DOMAIN_ID) ++ leBytes 4 img.length)
  s1.each (List.range ((img.length + 223) / 224)) (fun i t =>
    t.lathSend Kind.fwData.num 0x7F (leBytes 4 (224 * i) ++ (img.drop (224 * i)).take 224))

/-- The hawk in RUN knows of a device in LOAD. -/
def State.loadHeard (s : State) : Bool := s.isHawk && s.dom.states.any (fun e => e.2 == 1 + OpState.load.code)

/-- RUN_REQ (R414): ignored outside SETUP and while the Strip pass runs. A member takes its epoch from the hawk's latest SCREED
record (R330); a coat-pair member takes its role (R301); a slice that RETIRE names is retired (R454); the hawk relays firmware. -/
def execRunReq (s : State) : Res :=
  if s.op ≠ .setup || s.on F.MEM_STATUS.STRIP_BUSY then .next s
  else
    let s1 := { s with op := .run }
    let s2 := match Tbl.getD (fun _ => none) s1.dom.screeds (s1.dom.hawk - 1) with
      | some r => if s1.isMember && s1.dom.hawk ≠ 0 then s1.put F.SCREED_EPOCH.EPOCH r.epoch else s1
      | none => s1
    let k := s2.fld F.RUB_CFG.RETIRE
    let s3 := s2.pairRun.when (decide (k < 12)) (fun t => t.startRetire k)
    .next (s3.when s3.loadHeard State.relayFirmware)

/-- HOLD_REQ (R414). -/
def execHoldReq (s : State) : Res := if s.op = .setup ∨ s.op = .run then .next s.enterHold else .next s

/-! ### Fuses (R415 to R419, R423) -/

/-- FUSE_CMD answers with a code at once. -/
def State.fuseAnswer (s : State) (code : Nat) : State := s.put F.FUSE_STATUS.CODE code

/-- FUSE_CMD starts a burn. -/
def State.fuseBurn (s : State) (op : Nat) (mask : BitVec 1600) : State :=
  (s.setBoot { s.boot with burn := some (op, mask) }).put F.FUSE_STATUS.BUSY 1

/-- A GO of FUSE_CMD: STATE outside SETUP and while a burn runs; without effect before LOAD, where the block cannot be written
(Table 16.3). -/
def State.fuseGo (s : State) (k : State → State) : Res :=
  if s.op.code < 3 then .next s
  else if !s.inSetup || s.boot.burn.isSome then .next (s.fuseAnswer 1)
  else .next (k s)

/-- ARB_COMMIT (R415): the thermometer is burned up to the running image's ARB_VERSION. -/
def execArbCommit (s : State) : Res :=
  s.fuseGo (fun s =>
    let v := leAt s.boot.header 8 1
    if v ≤ s.fusedArb then s.fuseAnswer 0
    else s.fuseBurn 1 (BitVec.ofNat 1600 ((2 ^ v - 1) <<< 64)))

/-- OWNER_HASH (R417). -/
def execOwnerHash (buf : Option (List Byte)) (s : State) : Res :=
  s.fuseGo (fun s =>
    if s.lc < 1 || 3 < s.lc then s.fuseAnswer 1
    else if s.ownerFused then s.fuseAnswer 2
    else match buf with
      | none => s.fuseAnswer 7
      | some bs =>
        let ed := leAt bs 0 32
        let ml := leAt bs 32 32
        if ed = 0 || ml = 0 then s.fuseAnswer 3 else s.fuseBurn 2 (BitVec.ofNat 1600 ((ml <<< 1024) + (ed <<< 768))))

/-- The signers of a transition (Table 17.7): the vendor, the owner; none when the pair is not in the table. -/
def transition (src dst : Nat) : Option (Bool × Bool) :=
  if dst = 5 ∧ src ≤ 4 then some (true, true)
  else if src = 0 ∧ dst = 1 then some (true, false)
  else if src = 1 ∧ (dst = 2 ∨ dst = 3) then some (true, false)
  else if (src = 2 ∧ dst = 3) ∨ (src = 3 ∧ dst = 4) then some (false, true)
  else none

/-- The object's block passes for one of the signers of the table; "owner" is the vendor while no owner hashes are fused. -/
def State.signedBy (s : State) (blk hdr : List Byte) (who : Bool × Bool) : Bool :=
  let vendor := who.1 || (who.2 && !s.ownerFused)
  let owner := who.2 && s.ownerFused
  ((vendor && blockKeys blk s.vendorHashes.1 s.vendorHashes.2) || (owner && blockKeys blk s.ownerHashes.1 s.ownerHashes.2)) &&
    blockSigs blk hdr "XCLN LC"

/-- LC_ADVANCE (R418): the authorisation object is checked, then the target group is burned. -/
def execLcAdvance (buf : Option (List Byte)) (s : State) : Res :=
  s.fuseGo (fun s =>
    match buf with
    | none => s.fuseAnswer 7
    | some obj =>
      let hdr := slice obj 0 256
      let dst := leAt hdr 7 1
      if slice hdr 0 4 ≠ ascii "XCLC" || leAt hdr 4 2 ≠ 1 || leAt hdr 0x10 240 ≠ 0 then s.fuseAnswer 3
      else match transition s.lc dst with
        | none => s.fuseAnswer 5
        | some who =>
          if leAt hdr 6 1 ≠ s.lc || leAt hdr 8 8 ≠ s.fuse 255 192 then s.fuseAnswer 5
          else if !s.signedBy (slice obj 256 5376) hdr who then s.fuseAnswer 4
          else s.fuseBurn 3 (BitVec.ofNat 1600 (255 <<< (8 * (dst - 1)))))

/-- DBUF_MIN_T (R417). -/
def execDbufMinT (s : State) : Res := s.fuseGo (fun s => s.fuseBurn 4 (BitVec.ofNat 1600 (2 ^ 136)))

/-- FUSE_BURN_DONE (R423): the bits are burned. A life-cycle burn is followed by a cold reset (R418); a response-floor burn ends
FLOOR_CMD (R430); a reset that waited for the burn is carried out (R487). -/
def execFuseBurnDone (s : State) : Res :=
  match s.boot.burn with
  | none => .next s
  | some (op, m) =>
    let s1 := s.setBoot { s.boot with fuses := s.boot.fuses ||| m, burn := none, deferred := none }
    let s2 := if op = 8 then (s1.put F.FLOOR_CMD.BUSY 0).put F.FLOOR_CMD.CODE 0 else (s1.put F.FUSE_STATUS.BUSY 0).fuseAnswer 0
    let s3 := if op = 3 then s2.raiseReset .cold else s2.bootEvent 2
    match s.boot.deferred with
    | some k => .next (s3.raiseReset k)
    | none => .next s3

/-! ### Attestation (R422) -/

/-- The first 256 bytes of the report (Table 17.9). -/
def State.attHead (s : State) : List Byte :=
  let h := s.boot.header
  padTo 256 (ascii "XCAT" ++ leBytes 2 1 ++ leBytes 1 s.lc ++
    leBytes 1 (b2n s.ownerFused + 2 * b2n s.grade2496 + 4 * s.fld F.MEM_CFG.DBUF_T) ++ leBytes 8 (s.fuse 255 192) ++
    instantBytes s.now ++ leBytes 1 s.fusedArb ++ leBytes 1 (leAt h 8 1) ++ leBytes 4 (leAt h 0x14 4) ++ slice h 0x40 64 ++
    leBytes 16 s.screedAct.toNat ++ leBytes 4 (s.fld F.SCREED_EPOCH.EPOCH) ++
    leBytes 1 (s.config * 64 + (if s.config = 2 then s.index else if s.config = 1 then b2n s.straps.pairMbr else 0)) ++
    leBytes 1 s.op.code ++ leBytes 6 s.bat.bootCount ++ leBytes 1 s.bat.log.length ++ leBytes 3 (s.fuse 63 40) ++
    (List.range 8).flatMap (fun k => leBytes 4 (s.reg (R.ATT_NONCE k)).toNat))

/-- The report of Table 17.9, signed with both identity keys (R217). -/
def State.attReport (s : State) : List Byte :=
  let head := s.attHead
  head ++ leBytes 64 (Config.ed25519Sign s.edSeed head).toNat ++
    leBytes 3309 (Config.mldsaSign s.mlSeed (ascii "XCLN ATT") head).toNat

/-- ATT_GO (R422): in SETUP, RUN and HOLD; NO_ROOT while no identity key exists. -/
def execAttGo (s : State) : Res :=
  if s.op.code < 3 || s.on F.ATT_STATUS.BUSY then .next s
  else if s.op ≠ .setup ∧ s.op ≠ .run ∧ s.op ≠ .hold then .next (s.put F.ATT_STATUS.CODE 1)
  else if !s.key.rootUp then .next (s.put F.ATT_STATUS.CODE 6)
  else .next (s.put F.ATT_STATUS.BUSY 1)

/-- ATT_DONE (R422): the report is written, unless the buffer cannot be. -/
def execAttDone (ok : Bool) (s : State) : Res :=
  if !s.on F.ATT_STATUS.BUSY then .next s
  else
    let buf := s.fld F.ATT_BUF_HI.ADDR * 2 ^ 32 + s.fld F.ATT_BUF_LO.ADDR * 64
    let s1 := s.when ok (fun t => t.dma buf t.attReport)
    .next (((s1.put F.ATT_STATUS.BUSY 0).put F.ATT_STATUS.CODE (if ok then 0 else 7)).bootEvent 1)

end Sys2Proof.Machine
end

