-- ==== Sys2Proof/Machine/View.lean ====
section
/-!
DEFINITION. What a read of a register returns (R7, R8, R513; spec/23_register_map.md): the stored word, with the fields that
show fuses, straps, battery memory, tables and pins put in their places.
-/
namespace Sys2Proof.Machine

/-- The index of a word in a run of `count` words that begins at `base`. -/
def wordIdx (a base count : Nat) : Option Nat :=
  if base ≤ a ∧ a < base + 4 * count ∧ (a - base) % 4 = 0 then some ((a - base) / 4) else none

/-- Word `k` of a number. -/
def wordOf (v k : Nat) : Word := BitVec.ofNat 32 (v >>> (32 * k))

/-! ### Boot block (Tables 17.11 to 17.13) -/

/-- BOOT_STATUS with the fused fields and the operational state. -/
def State.bootStatusWord (s : State) : Word :=
  let w := (s.reg R.BOOT_STATUS).toNat
  BitVec.ofNat 32 (natPut (natPut (natPut (natPut w 31 29 s.lc) 27 27 (b2n s.ownerFused)) 26 26 (b2n s.grade2496)) 2 0 s.op.code)

/-- The boot block's views: fuses and BOOT_COUNT. -/
def State.bootView (s : State) (a : Nat) : Word :=
  if a = R.BOOT_STATUS then s.bootStatusWord
  else if a = R.FW_INFO then BitVec.ofNat 32 (natPut (s.reg a).toNat 31 24 s.fusedArb)
  else if a = R.DEV_SERIAL_LO then wordOf (s.fuse 255 192) 0
  else if a = R.DEV_SERIAL_HI then wordOf (s.fuse 255 192) 1
  else if a = R.DEBUG_POLICY then wordOf (s.fuse 63 40) 0
  else if a = R.BOOT_COUNT_LO then wordOf s.bat.bootCount 0
  else if a = R.BOOT_COUNT_HI then wordOf s.bat.bootCount 1
  else match wordIdx a (R.FUSE 0) 42 with
    | some k => wordOf (s.fuse 1343 0) k
    | none => s.reg a

/-! ### Power block (Tables 21.12, 21.13) -/

/-- PWR_DOM_STATUS: bit d − 1 for domain d (Table 21.1). -/
def State.powerView (s : State) (a : Nat) : Word :=
  if a = R.PWR_DOM_STATUS then
    BitVec.ofNat 32 (b2n s.bat.vbat + (if s.corePowered then 2 + 60 + (if s.config = 0 then 0 else 64) else 0))
  else s.reg a

/-! ### Alarm block (Tables 18.4, 18.7, 18.9) -/

/-- The 24 bytes of a tamper-log record (Table 18.4). -/
def LogRec.bytes (r : LogRec) : List Byte :=
  leBytes 4 r.seq ++ leBytes 6 r.rtc ++
  leBytes 1 (r.opstate * 32 + b2n (coincident r.causes) * 16 + b2n r.battery * 8 + b2n (decide (2 ^ 16 ≤ r.causes)) * 4) ++
  leBytes 1 (r.pending * 16 + r.done) ++ leBytes 4 r.causes ++ leBytes 2 r.bootCount ++ leBytes 6 r.detail

/-- The level of HEALTH (Table 18.7); the phase of its toggling is counted from the core cycle 0. -/
def State.healthHigh (s : State) : Bool :=
  match s.op with
  | .fault => true
  | .setup => s.cyc / 150000000 % 2 == 1
  | .hold => s.cyc / 150000000 % 2 == 1
  | .run => s.alarm.kicked && s.cyc / 1500000 % 2 == 1
  | _ => false

/-- The alarm block's views. -/
def State.alarmView (s : State) (a : Nat) : Word :=
  if a = R.ALARM_STATUS then BitVec.ofNat 32 s.bat.status
  else if a = R.ALARM_EFF_LO then BitVec.ofNat 32 ((List.range 8).foldl (fun x k => x + s.effSet k * 16 ^ k) 0)
  else if a = R.ALARM_EFF_HI then BitVec.ofNat 32 ((List.range 8).foldl (fun x k => x + s.effSet (8 + k) * 16 ^ k) 0)
  else if a = R.ENC_CFG then s.bat.encCfg
  else if a = R.TLOG_CTL then BitVec.ofNat 32 (natPut (s.reg a).toNat 14 8 s.bat.log.length)
  else if a = R.BAT_RTC_LO then wordOf s.bat.rtc 0
  else if a = R.BAT_RTC_HI then wordOf s.bat.rtc 1
  else if a = R.BAT_SEQ then wordOf s.bat.seq 0
  else if a = R.ALARM_PENDING then BitVec.ofNat 32 (natPut (s.reg a).toNat 3 0 s.bat.latch)
  else if a = R.ALARM_PINS then BitVec.ofNat 32 (2 * b2n s.healthHigh + b2n (!s.alarmLow))
  else match wordIdx a (R.TLOG_DATA 0) 6 with
    | some k =>
      (match s.tlogAt (s.fld F.TLOG_CTL.INDEX) with
       | some r => BitVec.ofNat 32 (leAt r.bytes (4 * k) 4)
       | none => 0)
    | none => s.reg a

/-! ### The other central blocks -/

/-- The states of the sixteen flip sets from 16k on, two bits each (Table 6.12). -/
def State.flipWord (s : State) (k : Nat) : Word :=
  BitVec.ofNat 32 ((List.range 16).foldl (fun x j => x + (s.flip (16 * k + j)).state * 4 ^ j) 0)

/-- HOST_STATUS with the package strap and the operational state (Table 16.16). -/
def State.hostStatusWord (s : State) : Word :=
  BitVec.ofNat 32 (natPut (natPut (s.reg R.HOST_STATUS).toNat 25 25 (b2n s.straps.uciePkg)) 2 0 s.op.code)

/-- The pair block, which reads its reset values outside a coat pair (spec/13_coat_pairs.md). -/
def State.pairView (s : State) (a : Nat) : Word :=
  if a = R.PAIR_STATUS then
    (if s.config = 1 then s.pairStatusWord else BitVec.ofNat 32 (natPut 0 27 26 s.config))
  else if s.config = 1 then s.reg a else regReset a

/-- The domain block, which outside a domain reads its reset values but for the screed fields (R343). -/
def State.domView (s : State) (a : Nat) : Word :=
  match wordIdx a (R.SCREED_ACT 0) 4, wordIdx a (R.SCREED_STG 0) 4 with
  | some k, _ => wordOf s.screedAct.toNat k
  | none, some k => wordOf s.screedStg.toNat k
  | none, none =>
    if a = R.DOM_STATUS then BitVec.ofNat 32 (natPut (if s.config = 2 then (s.reg a).toNat else 0) 21 16 s.straps.domIdx.val)
    else if s.config = 2 then s.reg a else regReset a

/-- Views of the blocks from 0x6000 on. -/
def State.midView (s : State) (a : Nat) : Word :=
  if a = R.KEY_ROOT_STATUS then BitVec.ofNat 32 s.rootStatus
  else if a = R.CT_STATUS then BitVec.ofNat 32 s.liveCts.length
  else match wordIdx a (R.FLIP_STATE 0) 16, wordIdx a (R.CT_POOL 0) 13 with
    | some k, _ => s.flipWord k
    | none, some sl => BitVec.ofNat 32 (natPut (s.reg a).toNat 27 16 (min 0xFFF ((s.poolUsed sl + 1023) / 1024)))
    | none, none => s.reg a

/-- The word that a read of PF0 BAR0 below the relay window returns (R7, R8, R513). -/
def State.readReg (s : State) (a : Nat) : Word :=
  if a % 4 ≠ 0 then 0xFFFFFFFF
  else if a = R.ID_PART then BitVec.ofNat 32 (natPut (s.reg a).toNat 31 16 (if s.grade2496 then 0x2496 else 0x4896))
  else if a / 0x1000 = 1 then s.bootView a
  else if a / 0x1000 = 2 then s.powerView a
  else if a / 0x1000 = 3 then s.alarmView a
  else if a = R.HOST_STATUS then s.hostStatusWord
  else if a / 0x1000 = 0xF then s.pairView a
  else if a / 0x1000 = 0x10 then s.domView a
  else s.midView a

end Sys2Proof.Machine
end

