-- ==== Sys2Proof/Machine/Regfile.lean ====
section
/-!
DEFINITION. What a write of a register does (R7, R8, R86, R513, R514, R518; spec/23_register_map.md): the fields by their
access codes, the checks that refuse a write as a whole, and the registers with a behaviour of their own.
-/
namespace Sys2Proof.Machine

/-- The state that an outcome goes on in. -/
def goOn (s : State) (r : Res) : State :=
  match r with
  | .next t => t
  | _ => s

/-! ### Fields (Table 0.3) -/

/-- Whether a check accepts a value. -/
def checkOk (c : Check) (v : Nat) : Bool :=
  match c with
  | .any => true
  | .within rs step => v % step == 0 && rs.any (fun r => decide (r.1 ≤ v) && decide (v ≤ r.2))

/-- A word with one field written (Table 0.3). RO keeps its value; a WO field triggers, and stores nothing. -/
def fieldWrite (f : FieldRow) (old v : Nat) : Nat :=
  let o := natBits old f.hi f.lo
  let x := natBits v f.hi f.lo
  match f.acc with
  | .rw => natPut old f.hi f.lo x
  | .rwl => natPut old f.hi f.lo x
  | .w1c => natPut old f.hi f.lo (o - (o &&& x))
  | .w1s => natPut old f.hi f.lo (o ||| x)
  | .ro => old
  | .wo => old

/-- The event registers, whose W1C bits a write reaches in LOAD (R518). -/
def isEventReg (a : Nat) : Bool :=
  [R.HOST_EVENT, R.PERF_EVENT, R.PWR_EVENT, R.CLS_EVENT, R.WET_EVENT, R.KEY_EVENT, R.TIME_EVENT, R.CT_EVENT, R.STN_EVENT,
    R.PAIR_EVENT, R.DOM_EVENT, R.MEM_EVENT, R.RUB_EVENT].contains a ||
  (decide (0x200000 ≤ a) && decide (a < 0x260000) && [0x01C, 0x114, 0x414].contains (a % 0x1000))

/-- Whether a write of a field takes effect in the present operational state (R514, R518). -/
def State.takes (s : State) (a : Nat) (f : FieldRow) : Bool :=
  match s.op with
  | .setup => true
  | .run => f.acc != .rwl
  | .hold => f.acc != .rwl
  | .fault => f.acc != .rwl
  | .load => a / 0x1000 == 1 || a == R.ID_SCRATCH || (f.acc == .w1c && isEventReg a)
  | _ => false

/-- The word after a write: the fields that take effect, by their access codes. -/
def State.written (s : State) (a : Nat) (fs : List FieldRow) (old v : Nat) : Nat :=
  fs.foldl (fun w f => if s.takes a f then fieldWrite f w v else w) old

/-- A written field that takes effect holds a value that its check does not accept. -/
def State.outOfRange (s : State) (a : Nat) (fs : List FieldRow) (v : Nat) : Bool :=
  fs.any (fun f => s.takes a f && f.acc != .ro && !checkOk f.ok (natBits v f.hi f.lo))

/-- A written RW-L field differs from its stored value (R514). -/
def lockDiffers (fs : List FieldRow) (old v : Nat) : Bool :=
  fs.any (fun f => f.acc == .rwl && natBits v f.hi f.lo != natBits old f.hi f.lo)

/-! ### Checks across fields and registers -/

/-- Whether one of the `n` two-bit codes of a word is the reserved 3. -/
def hasCode3 (v n : Nat) : Bool := (List.range n).any (fun k => natBits v (2 * k + 1) (2 * k) == 3)

/-- RING_CFG (Table 16.4, R404): the kind permits the function, and a PF1 pair selects block 15 only. -/
def State.ringCfgBad (s : State) (n v : Nat) : Bool :=
  let k := natBits v 31 30
  let f := natBits v 29 28
  !((k == 0 && f == 0) || (k == 1 && decide (f ≤ 1)) || (decide (2 ≤ k) && f == 2)) ||
  (f == 1 && natClr (s.reg (R.RING_EVT_MASK n)).toNat 15 != 0)

/-- RING_EVT_MASK of a PF1 pair (R404). -/
def State.evtMaskBad (s : State) (n v : Nat) : Bool := s.fld (F.RING_CFG.FUNC n) == 1 && natClr v 15 != 0

/-- SECY_CFG (Table 4.14, R91, R105). -/
def State.secyCfgBad (s : State) (p v : Nat) : Bool :=
  (natBit v 22 && (natBit v 21 || natBit v 20)) ||
  (natBit v 17 && decide (64 < s.fld (F.SECY_REPLAY_WINDOW.WINDOW p))) ||
  (natBits v 30 28 != s.fld (F.SECY_CFG.CS p) &&
    s.ctx.ctx.any (fun e => isF e.2 C.valid && getF e.2 C.kind == 1 && getF e.2 C.port == p))

/-- The idle slopes of the shaped classes exceed the port rate, on a port that has one (R254). -/
def State.slopesBad (s : State) (p : Nat) (slope tsa : Nat → Nat) : Bool :=
  s.mode p != 0 && decide (rate100k (s.mode p) < (((List.range 8).filter (fun c => tsa c == 1)).map slope).sum)

/-- SCHED_CLASS_CFG (R246, R254, Table 10.17). -/
def State.classCfgBad (s : State) (p v : Nat) : Bool :=
  let tsa (c : Nat) : Nat := natBits v (2 * c + 1) (2 * c)
  hasCode3 v 8 || (List.range 8).any (fun c => natBit v (16 + c) && tsa c == 1) ||
  s.slopesBad p (fun c => s.fld (F.SCHED_CBS.IDLE_SLOPE p c)) tsa

/-- SCHED_CBS of a class (R254). -/
def State.cbsBad (s : State) (p k v : Nat) : Bool :=
  s.slopesBad p (fun c => if c = k then natBits v 19 0 else s.fld (F.SCHED_CBS.IDLE_SLOPE p c)) (s.tsa p)

/-- PTP_INST_CFG (R234): MODE 0 BC, 1 E2E TC, 2 P2P TC; TRANSPORT 0 L2. -/
def ptpCfgBad (v : Nat) : Bool :=
  let prof := natBits v 30 28
  let mode := natBits v 27 26
  (decide (2 ≤ prof) && natBits v 25 24 != 0) || (prof == 0 && mode == 2) || (prof != 0 && mode == 1)

/-- SRC_PAIR_CFG (R295): a pair in use names two ports, neither of them in another pair in use. -/
def State.srcPairBad (s : State) (j v : Nat) : Bool :=
  let a := natBits v 14 8
  let b := natBits v 6 0
  natBit v 31 && (a == b || (List.range 48).any (fun i => i != j && s.on (F.SRC_PAIR_CFG.EN i) &&
    [s.fld (F.SRC_PAIR_CFG.PORT_A i), s.fld (F.SRC_PAIR_CFG.PORT_B i)].any (fun x => x == a || x == b)))

/-- PERF_TH_CFG (Table 20.3): the instance of the kind. -/
def thCfgBad (v : Nat) : Bool :=
  let i := natBits v 26 16
  match natBits v 30 27 with
  | 0 => decide (767 < i)
  | 1 => decide (12 < i)
  | 2 => decide (12 < i)
  | 3 => decide (12 < i)
  | 4 => decide (12 < i)
  | 8 => decide (12 < i)
  | _ => i != 0

/-- A reserved encoding or a combination that the spec forbids, in the word that a write would store. -/
def State.crossBad (s : State) (a v : Nat) : Bool :=
  if 0x200000 ≤ a ∧ a < 0x260000 then
    let p := (a - 0x200000) / 0x1000
    let o := a % 0x1000
    if o = 0x100 then s.secyCfgBad p v
    else if o = 0x104 then s.on (F.SECY_CFG.DUP_CHECK p) && decide (64 < v)
    else if o = 0x408 then s.classCfgBad p v
    else if 0x420 ≤ o ∧ o < 0x440 then s.cbsBad p ((o - 0x420) / 4) v
    else false
  else if 0x4400 ≤ a ∧ a < 0x5400 then
    (if a % 0x40 = 0x10 then s.ringCfgBad ((a - 0x4400) / 0x40) v
     else if a % 0x40 = 0x1C then s.evtMaskBad ((a - 0x4400) / 0x40) v else false)
  else if a = R.RSV_ACTION then hasCode3 v 16
  else match wordIdx a (R.PTP_INST_CFG 0) 4, wordIdx a (R.SRC_PAIR_CFG 0) 48, wordIdx a (R.PERF_TH_CFG 0) 16,
      wordIdx a (R.PERF_SAMPLE_CFG 0) 2 with
    | some _, _, _, _ => ptpCfgBad v
    | none, some j, _, _ => s.srcPairBad j v
    | none, none, some _, _ => thCfgBad v
    | none, none, none, some j => natBit v 31 && !sampleEventOk j (natBits v 26 16)
    | none, none, none, none => false

/-- A refused write marks its block's CFG_REFUSED, or the port's MODE_ERR (R24, R86, R116, R263, R277, R295, R315, R343, R372,
R404, R457, R476, R492). The alarm block marks nothing (R441). -/
def State.cfgRefused (s : State) (a : Nat) : State :=
  if 0x200000 ≤ a then
    let p := (a - 0x200000) / 0x1000
    let o := a % 0x1000
    if o < 0x100 then s.modeRefused p (if o = 4 then 5 else 6)
    else if o < 0x200 then s.secyEvent p 0
    else if 0x400 ≤ o then s.schedEvent p 3 0
    else s
  else match a / 0x1000 with
    | 2 => s.pwrEvent 2 0
    | 4 => s.hostEvent 4 0
    | 5 => s.hostEvent 4 0
    | 6 => s.clsEvent 0 0
    | 8 => s.ctxEvent 7 0 0
    | 0xC => s.timeEvent 4 0
    | 0xD => s.ctEvent 3 0 0
    | 0xE => s.stnEvent 1
    | 0xF => s.pairEvent 12 0 0
    | 0x10 => s.domEvent 11 s.index 0
    | 0x11 => s.memEvent 10 0
    | 0x12 => s.rubEvent 6 0
    | 0x13 => s.perfEvent 4
    | _ => s

/-! ### What follows a write -/

/-- A change of MM_EN or VERIFY_DIS while the port is UP (R37): preemption follows at once, and a new verification waits for
the next entry to UP. -/
def State.mmFollows (s : State) (p old : Nat) : State :=
  if s.link p ≠ 3 || natBits (s.reg (R.PORT_MM_CFG p)).toNat 11 10 = natBits old 11 10 then s
  else s.put (F.PORT_STATUS.MM_STATE p) (if s.on (F.PORT_MM_CFG.MM_EN p) && s.on (F.PORT_MM_CFG.VERIFY_DIS p) then 2 else 0)

/-- A change of SCHED_CFG: an operational list that GATE_EN lets run is joined at the clock's value; without one no list sets
the gates (R247). -/
def State.schedFollows (s : State) (p : Nat) : State :=
  if s.listRuns p then s.resync p else s.setSch p { s.sch p with gates := none, hold := false }

/-- What follows a stored write. -/
def State.afterWrite (s : State) (a old : Nat) : State :=
  if 0x200000 ≤ a ∧ a < 0x260000 then
    let p := (a - 0x200000) / 0x1000
    if a % 0x1000 = 0x00C then s.mmFollows p old
    else if a % 0x1000 = 0x400 then s.schedFollows p
    else s
  else if a = R.TIME_CTL then
    if natBits old 2 0 = s.clockSrc then s else ({ s with time := { s.time with good := 0 } } : State).setLocked false
  else s

/-- The write of a register without a behaviour of its own (REGISTER_WRITE; R7, R86, R514). -/
def State.plainWrite (s : State) (a v : Nat) : State :=
  match rowOf allRows a with
  | none => s
  | some r =>
    let old := (s.reg a).toNat
    let new := s.written a r.fields old v
    let s1 := s.lockWrite (lockDiffers r.fields old v)
    if s.outOfRange a r.fields v || (new != old && s.crossBad a new) then s1.cfgRefused a
    else (s1.setReg a (BitVec.ofNat 32 new)).afterWrite a old

/-! ### Registers with a behaviour of their own -/

/-- RST_CTL (Table 21.13): a slice out of range is refused; WARM goes before SLICE_GO. -/
def State.rstWrite (s : State) (v : Word) : State :=
  if !s.regsOpen then s
  else if 12 < natBits v.toNat 3 0 then s.pwrEvent 2 0
  else if natBit v.toNat 31 then s.warmReset
  else goOn s (execSliceReset v s)

/-- RING_CTL of a pair (R384): RESET, then EN. -/
def State.ringCtlWrite (s : State) (n : Nat) (v : Word) : State :=
  let i : Fin 64 := Fin.ofNat 64 n
  let s1 := if natBit v.toNat 30 then goOn s (execRingReset i s) else s
  if natBit v.toNat 31 then goOn s1 (execRingEnable i s1) else goOn s1 (execRingDisable i s1)

/-- BOOT_CTL (R414): RUN_REQ, then HOLD_REQ. -/
def State.bootCtlWrite (s : State) (v : Word) : State :=
  let s1 := if natBit v.toNat 31 then goOn s (execRunReq s) else s
  if natBit v.toNat 30 then goOn s1 (execHoldReq s1) else s1

/-- FUSE_CMD (Table 17.13): ARB_COMMIT and DBUF_MIN_T, and BAD_REQUEST for a reserved OP. OWNER_HASH and LC_ADVANCE read a
host buffer: their own commands carry them out. -/
def State.fuseCmdWrite (s : State) (v : Word) : State :=
  if !natBit v.toNat 31 then s
  else match natBits v.toNat 30 28 with
    | 1 => goOn s (execArbCommit s)
    | 2 => s
    | 3 => s
    | 4 => goOn s (execDbufMinT s)
    | _ => goOn s (s.fuseGo (fun t => t.fuseAnswer 3))

/-- TCE_CMD (R78, R79): in SETUP, GO starts the command through the register face; while one runs it sets COLLIDE. Once the
registers are locked, GO answers LOCKED and raises LOCK_WRITE. -/
def State.tceWrite (s : State) (v : Word) : State :=
  if !natBit v.toNat 31 then s
  else if s.inSetup then
    if s.on F.TCE_STATUS.BUSY then s.put F.TCE_STATUS.COLLIDE 1
    else
      let t := natBits v.toNat 30 28
      let o := natBits v.toNat 27 24
      let s1 := s.put F.TCE_STATUS.BUSY 1
      if 4 < t || 6 < o then s1.faceAnswer { code := 6 }
      else s1.setCls { s1.cls with face := some (t, o, natBits v.toNat 16 0) }
  else if s.locked then ((s.put F.TCE_STATUS.CODE 4).put F.TCE_STATUS.POS 0).hostEvent 0 0
  else s

/-- ENC_CFG (R427, Table 18.10): battery memory, which takes the value 1 ms after the write. -/
def State.encWrite (s : State) (v : Word) : State :=
  let w : Word := v &&& 0xEE
  if s.inSetup then
    if natBits w.toNat 7 6 = 3 || natBits w.toNat 3 2 = 3 then s else s.setAlarm { s.alarm with encPending := some w }
  else s.lockWrite (w != s.bat.encCfg)

/-- ALARM_STATUS (R441): bits of battery memory, cleared by writing 1. -/
def State.alarmStatusWrite (s : State) (v : Word) : State :=
  if s.regsOpen then { s with bat := { s.bat with status := s.bat.status - (s.bat.status &&& v.toNat) } } else s

/-- TIME_CTL (Table 10.12): SRC, then SNAP, SET and STEP. -/
def State.timeCtlWrite (s : State) (v : Word) : State :=
  let s1 := s.plainWrite R.TIME_CTL v.toNat
  if s.outOfRange R.TIME_CTL [⟨2, 0, .rwl, 5, .within [(0, 6)] 1⟩] v.toNat then s1
  else
    let s2 := if natBit v.toNat 8 then goOn s1 (execTimeSnap s1) else s1
    let s3 := if natBit v.toNat 9 then goOn s2 (execTimeSet s2) else s2
    if natBit v.toNat 10 then goOn s3 (execTimeStep s3) else s3

/-- The write of a central register with a behaviour of its own; none for the others. -/
def State.ownWrite (s : State) (a : Nat) (v : Word) : Option State :=
  let go := natBit v.toNat 31
  if a = R.RST_CTL then some (s.rstWrite v)
  else if a = R.BOOT_CTL then some (s.bootCtlWrite v)
  else if a = R.FUSE_CMD then some (s.fuseCmdWrite v)
  else if a = R.ATT_CTL then some (if go then goOn s (execAttGo s) else s)
  else if a = R.FLOOR_CMD then some (if go then goOn s (execFloorCmd s) else s)
  else if a = R.HEALTH_KICK then some (if natBit v.toNat 0 then goOn s (execHealthKick s) else s)
  else if a = R.ALARM_STATUS then some (s.alarmStatusWrite v)
  else if a = R.ENC_CFG then some (s.encWrite v)
  else if a = R.TCE_CMD then some (s.tceWrite v)
  else if a = R.CTX_LEAP_LO then some (goOn s (execCtxLeapLoWrite v s))
  else if a = R.CTX_LEAP_HI then some (goOn s (execCtxLeapHiWrite v s))
  else if a = R.KEY_GROUP_ID then some (goOn s (execKeyGroupIdWrite v s))
  else if a = R.TIME_CTL then some (s.timeCtlWrite v)
  else if a = R.TIME_RATE then some (goOn s (execTimeRateWrite v s))
  else if a = R.TIME_STEP then some (if s.regsOpen && s.clockSrc == 6 then s.setReg a v else s)
  else if a = R.MEM_CFG then some (goOn s (execDbufTWrite v s))
  else if a = R.MEM_SKIM_CTL then some (goOn s (execSkimStart v s))
  else match wordIdx a (R.EXC_STEER 0) 4 with
    | some r => some (goOn s (execExcSteerWrite (Fin.ofNat 4 r) v s))
    | none => if 0x4400 ≤ a ∧ a < 0x5400 ∧ a % 0x40 = 0x14 then some (s.ringCtlWrite ((a - 0x4400) / 0x40) v) else none

/-- A 32-bit write of PF0 BAR0 below the relay window, by the host or, in a domain, by a relayed record (R325). -/
def State.pf0Write (s : State) (a : Nat) (v : Word) : State :=
  if a % 4 ≠ 0 || s.op.code < 3 then s
  else if a / 0x1000 = 0xF && s.config ≠ 1 then s
  else if a / 0x1000 = 0x10 && s.config ≠ 2 then s
  else if 0x200000 ≤ a ∧ a < 0x260000 ∧ a % 0x1000 = 0 then
    goOn s (execPortModeWrite (Fin.ofNat 96 ((a - 0x200000) / 0x1000)) v s)
  else if 0x200000 ≤ a ∧ a < 0x260000 ∧ a % 0x1000 = 0x10 then
    goOn s (execTwReqWrite (Fin.ofNat 96 ((a - 0x200000) / 0x1000)) v s)
  else match s.ownWrite a v with
    | some t => t
    | none => s.plainWrite a v.toNat

end Sys2Proof.Machine
end

