-- ==== Sys2Proof/Machine/Domain.lean ====
section
/-!
DEFINITION. Domains (spec/14_lath_domains.md, R317 to R343): the rings, the choice of the hawk, the relay of registers,
commands, host memory and firmware, heartbeats, screed records and two-phase activation.
-/
namespace Sys2Proof.Machine

/-- Replace the domain state. -/
def State.setDom (s : State) (d : DomSt) : State := { s with dom := d }

/-! ### Receiving a record (R322 to R324) -/

/-- The status bit of a link. -/
def linkFld (l : LathLink) : Fld := match l with | .a => F.DOM_STATUS.LINK_A_OK | .b => F.DOM_STATUS.LINK_B_OK

/-- A device of a domain from LOAD on. -/
def State.inDomain (s : State) : Bool := s.config == 2 && decide (3 ≤ s.op.code)

/-- A device of a domain that runs firmware, and so holds K_DOM in use. -/
def State.domainUp (s : State) : Bool := s.config == 2 && decide (4 ≤ s.op.code)

/-- The record counts as received on its link. -/
def State.countIn (s : State) (l : LathLink) : State := s.count (0x6D2 + b2n (l == .b))

/-- A record of a kind reaches this device from another one on a link that is up. -/
def State.arrives (s : State) (k : Kind) (l : LathLink) (r : LathRec) : Bool :=
  s.inDomain && s.on (linkFld l) && r.kind == k.num && r.src.val != s.index &&
  (r.dst == s.index || r.dst == 0x7F || (r.dst == 0x7E && s.isHawk))

/-- A record that fails authentication is discarded and counted (R323). -/
def State.domAuthFail (s : State) (src : Nat) : State := (s.blk 26).domEvent 4 src 0

/-- The record has been acted on. -/
def State.heardIt (s : State) (r : LathRec) : Bool := s.dom.heard.contains (r.src.val, r.seq.toNat)

/-- Remember that the record has been acted on: the latest 4,096 records. -/
def State.hearIt (s : State) (r : LathRec) : State :=
  s.setDom { s.dom with heard := ((r.src.val, r.seq.toNat) :: s.dom.heard).take 4096 }

/-- Acknowledge a record to its sender (R324). -/
def State.ackIt (s : State) (r : LathRec) : State := s.lathSend Kind.ack.num r.src.val (leBytes 4 r.seq.toNat)

/-- An authenticated record (R323, R324): a device in LOAD acts on none; a unicast is acknowledged each time it arrives; the
first copy is acted on. -/
def onAuth (k : Kind) (l : LathLink) (r : LathRec) (s : State) (act : State → State) : Res :=
  if !s.arrives k l r then .next s
  else
    let s1 := s.countIn l
    if !s1.domainUp then .next s1
    else if !r.authOk then .next (s1.domAuthFail r.src.val)
    else
      let s2 := if r.dst = 0x7F || k == .ack || k == .exc then s1 else s1.ackIt r
      if s2.heardIt r then .next s2 else .next (act (s2.hearIt r))

/-- An unauthenticated record, acted on where `may` allows. -/
def onPlain (k : Kind) (l : LathLink) (r : LathRec) (s : State) (may : State → Bool) (act : State → State) : Res :=
  if !s.arrives k l r then .next s
  else
    let s1 := s.countIn l
    if !may s1 || s1.heardIt r then .next s1 else .next (act (s1.hearIt r))

/-! ### Presence and the hawk (R319, R320, R329) -/

/-- Set DOM_PRESENT. -/
def State.setPresent (s : State) (map : Nat) : State :=
  ((s.put F.DOM_PRESENT_LO.MAP (map % 2 ^ 32)).put F.DOM_PRESENT_HI.MAP (map / 2 ^ 32)).put F.DOM_STATUS.PRESENT (popCount map 64)

/-- The payload of a DISCOVER record: index, hop count, operational state, flags [0] HAWK_CLAIM, [1] HAWK. -/
def State.discover (s : State) (hops : Nat) : List Byte :=
  [BitVec.ofNat 8 s.index, BitVec.ofNat 8 hops, BitVec.ofNat 8 s.op.code, BitVec.ofNat 8 (b2n s.dom.claiming + 2 * b2n s.isHawk)]

/-- Send DISCOVER on both rings. -/
def State.sendDiscover (s : State) : State := s.lathSend Kind.discover.num 0x7F (s.discover 1)

/-- DISCOVER_SEND (R319). -/
def execDiscoverSend (s : State) : Res := if s.inDomain then .next s.sendDiscover else .next s

/-- A claimant that hears the hawk, or a claim from a lower index, stops claiming (R320, R4). -/
def State.claimCheck (s : State) (j flags : Nat) : State :=
  if s.dom.claiming && (natBit flags 1 || (natBit flags 0 && decide (j < s.index))) then
    (s.setDom { s.dom with claiming := false }).domEvent 12 j 0
  else s

/-- DISCOVER_RECEIVE (R319, R320): the hop distance by the direction that the record came from, the sender's state, presence on the
hawk, a duplicate of this device's index, conflicting claims. A sender that returns to LOAD begins its sequence numbers
again, and gets firmware from a hawk in RUN (R413). -/
def execDiscoverReceive (l : LathLink) (r : LathRec) (s : State) : Res :=
  if !(s.inDomain && s.on (linkFld l) && r.kind == Kind.discover.num) then .next s
  else
    let j := r.src.val
    let s1 := s.countIn l
    if j = s1.index then .next ((s1.setDom { s1.dom with dup := true }).domEvent 3 j 0)
    else
      let st := leAt r.payload 2 1
      let flags := leAt r.payload 3 1
      let fresh := st == OpState.load.code && Tbl.atN s1.dom.states j != st + 1
      let s2 := s1.setDom { s1.dom with
        hops := Tbl.setN s1.dom.hops (2 * j + b2n (l == .b)) (leAt r.payload 1 1)
        states := Tbl.setN s1.dom.states j (st + 1)
        heard := if fresh then s1.dom.heard.filter (fun e => e.1 != j) else s1.dom.heard
        hawk := if natBit flags 1 && !s1.isHawk then j + 1 else s1.dom.hawk }
      let s3 := s2.when s2.isHawk (fun t => t.setPresent (natSet t.presentMap j))
      let s4 := s3.claimCheck j flags
      .next (s4.when (fresh && s4.isHawk && s4.op == .run) State.relayFirmware)

/-- HAWK_CLAIM_EXPIRY (R320): a claim unopposed for 30 ms makes the device the hawk. One that shares its index does not go on. -/
def execHawkClaimExpiry (s : State) : Res :=
  if s.config ≠ 2 || s.op ≠ .load || !s.dom.claiming || s.dom.dup then .next s
  else
    let s1 := (s.setDom { s.dom with claiming := false, hawk := s.index + 1 }).put F.DOM_STATUS.HAWK 1
    let seen := allBelow (fun j => Tbl.atN s1.dom.states j != 0) 64
    .next (s1.setPresent (seen.foldl natSet (2 ^ s1.index)))

/-- DOM_HB_SEND (R329). -/
def execDomHbSend (s : State) : Res :=
  if s.domainUp then
    .next (s.lathSend Kind.hb.num 0x7F (leBytes 1 s.index ++ leBytes 1 s.op.code ++ leBytes 6 s.sec ++ leBytes 4 s.ns))
  else .next s

/-- DOM_HB_RECEIVE (R329): the sender is present, or the hawk is heard. -/
def execDomHbReceive (l : LathLink) (r : LathRec) (s : State) : Res :=
  onAuth .hb l r s (fun s =>
    let j := r.src.val
    let s1 := s.setDom { s.dom with states := Tbl.setN s.dom.states j (leAt r.payload 1 1 + 1) }
    if s1.isHawk then s1.setPresent (natSet s1.presentMap j)
    else if s1.dom.hawk = j + 1 then s1.put F.DOM_STATUS.HAWK_HEARD 1 else s1)

/-- DOM_HB_MISS (R329): three heartbeats of a device are missed on both rings. -/
def execDomHbMiss (j : Fin 64) (s : State) : Res :=
  let j := j.val
  if !s.domainUp then .next s
  else if s.isHawk then
    if natBit s.presentMap j && j != s.index then
      .next (((s.setDom { s.dom with states := Tbl.setN s.dom.states j 0 }).setPresent (natClr s.presentMap j)).domEvent 2 j 0)
    else .next s
  else if s.dom.hawk = j + 1 && s.on F.DOM_STATUS.HAWK_HEARD then
    .next ((s.put F.DOM_STATUS.HAWK_HEARD 0).domEvent 1 j 0)
  else .next s

/-! ### The rings (R319, R321) -/

/-- RING_LINK_LOSS (R321): the device wraps. -/
def execRingLinkLoss (l : LathLink) (s : State) : Res :=
  if s.config = 2 && s.on (linkFld l) then .next (((s.put (linkFld l) 0).put F.DOM_STATUS.WRAPPED 1).domEvent 0 s.index 0) else .next s

/-- RING_LINK_RESTORE (R321): the device unwraps when both links are up; DISCOVER goes out at link-up. -/
def execRingLinkRestore (l : LathLink) (s : State) : Res :=
  if !s.inDomain || s.op == .fault || s.on (linkFld l) then .next s
  else
    let s1 := s.put (linkFld l) 1
    let s2 := s1.when (s1.on F.DOM_STATUS.LINK_A_OK && s1.on F.DOM_STATUS.LINK_B_OK) (fun t => t.put F.DOM_STATUS.WRAPPED 0)
    .next s2.sendDiscover

/-- Pass a record on: from DL-B to DL-A on ring 0, from DL-A to DL-B on ring 1, turned back where the next link is lost; stripped by
its sender and by the target of a unicast. DISCOVER counts a hop. -/
def State.passOn (s : State) (l : LathLink) (r : LathRec) : State :=
  let next : LathLink := if l == .a then .b else .a
  let out := if s.on (linkFld next) then next else l
  let mine := r.src.val == s.index || r.dst == s.index || (r.dst == 0x7E && s.isHawk)
  if mine || !s.on (linkFld out) then s
  else
    let r1 := if r.kind = Kind.discover.num then { r with payload := overwrite r.payload 1 (leBytes 1 (leAt r.payload 1 1 + 1)) } else r
    (s.emit (.forward out r1)).count (0x6D0 + b2n (out == .b))

/-- A member in LOAD keeps firmware (R328). -/
def State.takesFirmware (s : State) : Bool := s.isMember && s.op == .load

/-- RING_RECORD_FORWARD (R319). What a member in LOAD keeps of the firmware, FW_DATA_RECEIVE passes on. -/
def execRingRecordForward (l : LathLink) (r : LathRec) (s : State) : Res :=
  if !s.inDomain || !s.on (linkFld l) || (r.kind == Kind.fwData.num && s.takesFirmware) then .next s
  else .next (s.passOn l r)

/-! ### Acknowledgement and failure (R324) -/

/-- Whether a kind's exchange goes on after its ACK: a command until its completion, a register read until its response. -/
def awaits (x : Relay) : Bool := x.kind == Kind.cmd.num || (x.kind == Kind.reg.num && leAt x.payload 0 1 == 0)

/-- The map of the devices of a preparation that have not acknowledged ACTIVATE. -/
def Prep.missing (x : Prep) : Nat := x.devices - (x.devices &&& x.acked)

/-- Complete DOM_PREPARE. -/
def State.prepareDone (s : State) (x : Prep) (d : Reply) : State :=
  let s1 := s.setDom { s.dom with prep := (s.dom.prep.map (fun y => { y with owner := none })) }
  match x.owner with
  | some (n, k) => s1.completeOrder n k (d.completion 9 2 s1.source)
  | none => s1

/-- A device has acknowledged ACTIVATE: with the last, DOM_PREPARE completes with DONE and T (R338). -/
def State.activateAck (s : State) (j : Nat) : State :=
  match s.dom.prep with
  | none => s
  | some x =>
    let y := { x with acked := natSet x.acked j }
    let s1 := s.setDom { s.dom with prep := some y }
    if y.missing ≠ 0 then s1
    else
      let s2 := s1.setDom { s1.dom with relays := s1.dom.relays.filter (fun z => z.kind != Kind.activate.num) }
      s2.prepareDone y { r0 := y.t / 1000000000, r2 := y.t % 1000000000 }

/-- ACK_RECEIVE (R324). -/
def execAckReceive (l : LathLink) (r : LathRec) (s : State) : Res :=
  onAuth .ack l r s (fun s =>
    let q := leAt r.payload 0 4
    match s.dom.relays.find? (fun x => x.seq == q && (x.dst == r.src.val || x.dst == 0x7F)) with
    | none => s
    | some x =>
      if x.dst = 0x7F then s.activateAck r.src.val
      else if awaits x then
        s.setDom { s.dom with relays := s.dom.relays.map (fun y => if y == x then { y with acked := true } else y) }
      else
        let s1 := s.setDom { s.dom with relays := s.dom.relays.filter (fun y => y != x) }
        match x.owner with
        | some (n, k) => s1.completeOrder n k (({} : Reply).completion 9 6 s1.source)
        | none => s1)

/-- The answer of device `j` to a relayed or broadcast command (R326). -/
def State.relayAnswer (s : State) (owner : Option (Nat × Nat)) (j : Nat) (d : Completion) : State :=
  match owner with
  | none => s
  | some (n, k) =>
    if s.dom.broadcasts.any (fun b => b.ring = n && b.order = k) then s.broadcastAnswer n k j d else s.completeOrder n k d

/-- A relayed read is over: its request is forgotten and the host gets a value (R325). -/
def State.readOver (s : State) (q : Nat) (v : Word) : State :=
  (s.setDom { s.dom with reads := s.dom.reads.filter (fun e => e.1 != q), relays := s.dom.relays.filter (fun x => x.seq != q) }).emit
    (.readData v)

/-- The hawk posts RELAY_FAIL with the target's index. -/
def State.relayFail (s : State) (j : Nat) : State := s.when s.isHawk (fun t => t.domEvent 10 j 0)

/-- The relay of a record fails (R324). -/
def State.relayLost (s : State) (x : Relay) : State :=
  let s1 := s.setDom { s.dom with relays := s.dom.relays.filter (fun y => y != x) }
  let op := if x.kind = Kind.domReset.num then 6 else leAt x.payload 3 1 % 16
  let group := if x.kind = Kind.domReset.num then 9 else leAt x.payload 3 1 / 16
  if x.dst = 0x7F then
    match s1.dom.prep with
    | some y => s1.prepareDone y { code := 13, r1 := y.missing }
    | none => s1
  else
    let s2 := s1.relayAnswer x.owner x.dst (({ code := 13 } : Reply).completion group op x.dst)
    let s3 := if s2.dom.reads.any (fun e => e.1 == x.seq) then s2.readOver x.seq 0xFFFFFFFF else s2
    s3.relayFail x.dst

/-- RECORD_ACK_TIMEOUT (R324): 200 µs without an ACK; at most three retransmissions, then the relay fails. -/
def execRecordAckTimeout (seq : BitVec 32) (s : State) : Res :=
  match s.dom.relays.find? (fun x => x.seq == seq.toNat && !x.acked) with
  | none => .next s
  | some x =>
    if x.tries < 3 then
      let s1 := s.setDom { s.dom with relays := s.dom.relays.map (fun y => if y == x then { y with tries := y.tries + 1 } else y) }
      .next (((s1.lathAgain State.overflow x.kind x.dst x.seq x.payload).blk 27).count 0x6D4)
    else .next (s.relayLost x)

/-! ### The relay window (R325, R512) -/

/-- What a local register read returns, with its side effect: a read of PORT_STATUS clears MODE_ERR (R24). -/
def State.hostRead (s : State) (a : Nat) : Word × State :=
  if 0x800000 ≤ a then (0, s)
  else if 0x200000 ≤ a ∧ a < 0x260000 ∧ a % 0x1000 = 0x18 then
    (s.readReg a, s.put (F.PORT_STATUS.MODE_ERR ((a - 0x200000) / 0x1000)) 0)
  else (s.readReg a, s)

/-- The device that the relay window reaches. -/
def State.relayTarget (s : State) : Nat := s.fld F.DOM_RELAY_TARGET.TARGET

/-- A write through the relay window at `x`. -/
def State.relayWrite (s : State) (x : Nat) (v : Word) : State :=
  let t := s.relayTarget
  if !s.isHawk || !s.regsOpen || x % 4 ≠ 0 then s
  else if t = s.index then s.pf0Write x v
  else if !natBit s.presentMap t then s.domEvent 10 t 0
  else s.unicast Kind.reg.num t ([1] ++ leBytes 4 x ++ leBytes 4 v.toNat) none

/-- RELAY_WINDOW_WRITE (R325). -/
def execRelayWindowWrite (x : BitVec 23) (v : Word) (s : State) : Res := .next (s.relayWrite x.toNat v)

/-- RELAY_WINDOW_READ (R325, R512). -/
def execRelayWindowRead (x : BitVec 23) (s : State) : Res :=
  let a := x.toNat
  let t := s.relayTarget
  if a % 4 ≠ 0 then .next (s.emit (.readData 0xFFFFFFFF))
  else if !s.isHawk then .next (s.emit (.readData 0))
  else if t = s.index then
    let (v, s1) := s.hostRead a
    .next (s1.emit (.readData v))
  else if !natBit s.presentMap t then .next ((s.emit (.readData 0xFFFFFFFF)).domEvent 10 t 0)
  else
    let q := s.dom.seq
    let s1 := s.unicast Kind.reg.num t ([0] ++ leBytes 4 a) none
    .next (s1.setDom { s1.dom with reads := s1.dom.reads ++ [(q, t)] })

/-- REG_RECORD_RECEIVE (R325): a member carries out the hawk's access; one that falls in its own relay window reads 0 and is
ignored. -/
def execRegRecordReceive (l : LathLink) (r : LathRec) (s : State) : Res :=
  onAuth .reg l r s (fun s =>
    let a := leAt r.payload 1 4
    if s.dom.hawk ≠ r.src.val + 1 then s
    else match leAt r.payload 0 1 with
      | 0 =>
        let (v, s1) := s.hostRead a
        s1.unicast Kind.reg.num r.src.val ([2] ++ leBytes 4 r.seq.toNat ++ leBytes 4 v.toNat) none
      | 1 => if a < 0x800000 then s.pf0Write a (BitVec.ofNat 32 (leAt r.payload 5 4)) else s
      | _ => s)

/-- RELAY_READ_RESPONSE (R325): in time, its data go to the host; a later one is discarded. -/
def execRelayReadResponse (l : LathLink) (r : LathRec) (s : State) : Res :=
  onAuth .reg l r s (fun s =>
    let q := leAt r.payload 1 4
    if leAt r.payload 0 1 = 2 && s.dom.reads.contains (q, r.src.val) then s.readOver q (BitVec.ofNat 32 (leAt r.payload 5 4)) else s)

/-- RELAY_READ_TIMEOUT (R325): 900 µs without the response. -/
def execRelayReadTimeout (seq : BitVec 32) (s : State) : Res :=
  match s.dom.reads.find? (fun e => e.1 == seq.toNat) with
  | some e => .next ((s.readOver e.1 0xFFFFFFFF).relayFail e.2)
  | none => .next s

/-! ### Relayed commands and host memory (R326, R327) -/

/-- The group, the operation and the command that a CMD record carries. -/
def cmdOf (p : List Byte) : Nat × Nat × RingCmd :=
  let w := leAt p 0 4
  let k := natBits w 15 12
  let rest := p.drop (32 + 32 * k)
  (natBits w 31 28, natBits w 27 24, {
    via := .relay, tag := BitVec.ofNat 16 (leAt p 4 2), stage := natBit w 23, target := BitVec.ofNat 7 (natBits w 22 16), arg0 := BitVec.ofNat 64 (leAt p 8 8),
    arg1 := BitVec.ofNat 32 (leAt p 28 4), cont := slice p 32 (32 * k), buf := BitVec.ofNat 64 (leAt p 16 8),
    bufLen := BitVec.ofNat 32 (leAt p 24 4), bufIn := if leAt rest 0 1 = 1 then some (rest.drop 1) else none, now := false })

/-- Empty the journal, and count every administrative bank as unwritten (R339, DOM_DISCARD). -/
def State.discard (s : State) : State :=
  let s1 := (s.setDom { s.dom with journal := [] }).put F.STAGE_COUNT.COUNT 0
  s1.each s1.stagedPorts (fun p t => t.setSch p { t.sch p with written := false })

/-- What a member makes of a relayed command: as if posted there (R326, Table 16.3). The hawk's own DOM_DISCARD (R339) names the
broadcast target; one that host software aims at a member is a domain command on a device that is not the hawk (R342). -/
def State.runRelayed (s : State) (g op : Nat) (c : RingCmd) : State × Reply :=
  if s.op ≠ .setup && s.op ≠ .run then (s, { status := 4 })
  else if g = 9 && op = 4 && c.target == 0x7F then (s.discard, {})
  else runLocal g op (ringBody g op) c s

/-- RELAYED_CMD_RECEIVE (R326): the command is carried out, and its completion returns to the hawk. -/
def execRelayedCmdReceive (l : LathLink) (r : LathRec) (s : State) : Res :=
  onAuth .cmd l r s (fun s =>
    if s.isHawk then s
    else
      let (g, op, c) := cmdOf r.payload
      let (s1, d) := s.runRelayed g op c
      let s2 := if d.bufOut = [] then s1 else s1.dma c.buf.toNat d.bufOut
      let e := d.completion g op s2.source
      s2.unicast Kind.cpl.num r.src.val (leBytes 4 r.seq.toNat ++ e.head c.tag 0 ++ e.conts) none)

/-- The completion that a CPL record carries. -/
def completionOf (p : List Byte) : Completion :=
  let w := leAt p 0 4
  let x := leAt p 4 4
  ⟨natBits w 30 28, natBits w 23 20, natBits w 19 16, natBits x 31 28, natBits x 22 16, leAt p 8 8, leAt p 16 8, leAt p 24 4, p.drop 32⟩

/-- The event record that an EVT record carries, with the sender's index (Table 16.13). -/
def evRecOf (p : List Byte) (src : Nat) : EvRec :=
  let w := leAt p 0 4
  let x := leAt p 4 4
  ⟨natBits w 23 16, natBits w 15 8, natBit w 7, src, natBits x 31 30, natBits x 29 0, leAt p 8 4, leAt p 12 8, leAt p 20 8, leAt p 28 4,
    p.drop 32⟩

/-- DMA_RECORD_RECEIVE (R326): the hawk completes the command, posts the event record with its source index, or writes host
memory. A member's DUP_INDEX tells the hawk of a shared index (R319). -/
def execDmaRecordReceive (l : LathLink) (r : LathRec) (s : State) : Res :=
  let k := if r.kind = Kind.cpl.num then Kind.cpl else if r.kind = Kind.evt.num then Kind.evt else Kind.dma
  onAuth k l r s (fun s =>
    if !s.isHawk then s
    else match k with
      | .cpl =>
        let q := leAt r.payload 0 4
        (match s.dom.relays.find? (fun x => x.seq == q && x.dst == r.src.val && x.kind == Kind.cmd.num) with
         | some x => (s.setDom { s.dom with relays := s.dom.relays.filter (fun y => y != x) }).relayAnswer x.owner r.src.val
             (completionOf (r.payload.drop 4))
         | none => s)
      | .evt =>
        let e := evRecOf r.payload r.src.val
        let s1 := if e.block = 0x0C && e.code = 3 then s.setDom { s.dom with dup := true } else s
        s1.post e
      | _ => s.emit (.hostWrite (leAt r.payload 0 8) (r.payload.drop 8)))

/-- EXC_RECORD_RECEIVE (R327): on the hawk, a member's exception frame goes to PF2; on a member, a frame of PF2 is queued. -/
def execExcRecordReceive (l : LathLink) (r : LathRec) (s : State) : Res :=
  onAuth .exc l r s (fun s =>
    let p := r.payload
    if s.isHawk then
      let h := leAt p 12 2
      s.pf2Write (p.drop 22) ⟨leAt p 0 1, leAt p 1 1 % 4, r.src.val, natBit (leAt p 1 1) 4, leAt p 2 6, leAt p 8 4,
        if natBit h 15 then some (h % 2 ^ 15) else none, leAt p 14 8⟩
    else
      let q := leAt p 0 1
      let unctrl := natBit (leAt p 1 1) 4
      if 95 < q || (unctrl && !s.unctrlOk q (p.drop 2)) then s else s.pf2Queue q (leAt p 1 1 % 8) (p.drop 2) unctrl none)

/-! ### Firmware (R328, R413) -/

/-- FW_START_RECEIVE (R323, R328): a member in LOAD takes DOMAIN_ID, forms D1 and awaits the image. One whose own UCIe link is
trained stays in LOAD (R4), as does one that shares its index (R319). -/
def execFwStartReceive (l : LathLink) (r : LathRec) (s : State) : Res :=
  onPlain .fwStart l r s (fun t => t.takesFirmware && t.fld F.HOST_STATUS.LINK ≠ 2 && !t.dom.dup && !t.boot.loadBlocked && t.fwStatus ≠ 15)
    (fun s =>
      let id := leAt r.payload 0 2
      let s1 := if id = s.fld F.KEY_GROUP_ID.DOMAIN_ID then s else (s.put F.KEY_GROUP_ID.DOMAIN_ID id).formDomain
      let s2 := s1.setDom { s1.dom with fwLen := leAt r.payload 2 4, hawk := r.src.val + 1 }
      (s2.setBoot { s2.boot with image := [] }).put F.BOOT_STATUS.FW_STATUS 1)

/-- FW_DATA_RECEIVE (R328): a member in LOAD keeps the bytes that continue its image, and passes every copy of the record on. -/
def execFwDataReceive (l : LathLink) (r : LathRec) (s : State) : Res :=
  if !s.arrives .fwData l r || !s.takesFirmware then .next s
  else
    let s1 := (s.countIn l).passOn l r
    if s1.heardIt r then .next s1
    else
      let s2 := s1.hearIt r
      let off := leAt r.payload 0 4
      if s2.fwStatus = 1 && off = s2.boot.image.length then
        .next (s2.setBoot { s2.boot with image := (s2.boot.image ++ r.payload.drop 4).take s2.dom.fwLen })
      else .next s2

/-- LOAD_STATUS_RECEIVE (R328): the hawk keeps the member's result for host software. -/
def execLoadStatusReceive (l : LathLink) (r : LathRec) (s : State) : Res :=
  onPlain .loadStatus l r s State.isHawk (fun s =>
    s.setDom { s.dom with loads := Tbl.setN s.dom.loads r.src.val (leAt r.payload 1 1 + 1) })

/-- DOM_RESET_RECEIVE (R330): a domain reset of a member. -/
def execDomResetReceive (l : LathLink) (r : LathRec) (s : State) : Res :=
  onAuth .domReset l r s (fun s => if s.isHawk then s else s.raiseReset .domain)

/-! ### Screed records (R335) -/

/-- An outcome of a device's screed at the hawk: the second consecutive bad one raises the alarm, posts SCREED_MISMATCH and sets
HELD. -/
def State.screedOutcome (s : State) (j : Nat) (good : Bool) : State :=
  if good then s.setDom { s.dom with mismatch := Tbl.setN s.dom.mismatch j 0 }
  else
    let n := Tbl.atN s.dom.mismatch j + 1
    let s1 := s.setDom { s.dom with mismatch := Tbl.setN s.dom.mismatch j n, soiled := true }
    if n = 2 then ((s1.raise 12 j).domEvent 6 j 0).put F.DOM_STATUS.HELD 1 else s1

/-- A record carries the expected value for its epoch, the present one or the one before it. -/
def State.screedGood (s : State) (j : Nat) (x : Screed) : Bool :=
  let e := s.fld F.SCREED_EPOCH.EPOCH
  (x.epoch == e && x.act == Tbl.at0 s.dom.expect j) || (x.epoch + 1 == e && x.act == Tbl.at0 s.dom.expectOld j)

/-- The hawk judges the record of a device that it expects. -/
def State.screedJudge (s : State) (j : Nat) (x : Screed) : State :=
  let s1 := s.setDom { s.dom with fresh := natSet s.dom.fresh j }
  if s1.isHawk && s1.on F.DOM_STATUS.EXPECT_VALID && natBit s1.dom.expectMap j then s1.screedOutcome j (s1.screedGood j x) else s1

/-- This device's screed record. -/
def State.screedNow (s : State) : Screed := ⟨s.fld F.SCREED_EPOCH.EPOCH, s.screedAct, s.screedStg, s.fld F.STAGE_COUNT.COUNT⟩

/-- The payload of a SCREED record. -/
def Screed.bytes (x : Screed) (index : Nat) : List Byte :=
  leBytes 1 index ++ leBytes 4 x.epoch ++ leBytes 16 x.act.toNat ++ leBytes 16 x.stg.toNat ++ leBytes 2 x.count

/-- Keep the latest record of a device. -/
def State.keepScreed (s : State) (j : Nat) (x : Screed) : State :=
  s.setDom { s.dom with screeds := Tbl.setD (fun _ => none) s.dom.screeds j (some x) }

/-- The hawk closes a screed interval: expected devices that were not heard in it count as absent (R335). -/
def State.closeInterval (s : State) : State :=
  if !s.isHawk || !s.on F.DOM_STATUS.EXPECT_VALID then s
  else
    let gone := allBelow (fun j => natBit s.dom.expectMap j && !natBit s.dom.fresh j) 64
    let s1 := s.each gone (fun j t => t.screedOutcome j false)
    s1.setDom { s1.dom with clean := if s1.dom.soiled then 0 else s1.dom.clean + 1, soiled := false, fresh := 0 }

/-- SCREED_SEND (R335): the record goes out on both rings; the hawk judges its own and closes the interval. -/
def execScreedSend (s : State) : Res :=
  if !s.domainUp then .next s
  else
    let x := s.screedNow
    let s1 := (s.lathSend Kind.screed.num 0x7F (x.bytes s.index)).keepScreed s.index x
    .next (s1.screedJudge s1.index x).closeInterval

/-- SCREED_RECEIVE (R335). -/
def execScreedReceive (l : LathLink) (r : LathRec) (s : State) : Res :=
  onAuth .screed l r s (fun s =>
    let p := r.payload
    let x : Screed := ⟨leAt p 1 4, BitVec.ofNat 128 (leAt p 5 16), BitVec.ofNat 128 (leAt p 21 16), leAt p 37 2⟩
    (s.keepScreed r.src.val x).screedJudge r.src.val x)

/-! ### Two-phase activation (R336 to R339) -/

/-- A member refuses activation messages until it hears the hawk (R329). -/
def State.hawkHeard (s : State) : Bool := s.isMember && s.on F.DOM_STATUS.HAWK_HEARD

/-- The first contract that the staged view would break: code BREAK, the contract, and a refusal's code or a port (R337). -/
def State.stagedBreak (s : State) : Option (Nat × Nat) :=
  let r := (s.stagedCts 0).foldl (fun (x : State × Option (Nat × Nat)) c =>
    match x.2 with
    | some _ => x
    | none =>
      let (t, d) := ctAdmit c x.1
      if d.code = 0 then (t, none) else (x.1, some (c.a0 13 0, d.code))) (s.stagedBase, none)
  match r.2 with
  | some b => some b
  | none =>
    let t := r.1
    t.liveCts.findSome? (fun ct =>
      let w := t.ctAt ct
      let u := t.ctUse ct
      (t.judge (t.planOf ct w u.lens u.cut) ((ctEgs w).flatMap t.ctLists)).map (fun d => (ct, natBits d.2 6 0)))

/-- The report of R337: a code, 0 READY, and for BREAK the contract and what it meets. -/
def State.prepareReport (s : State) (t : Nat) : Nat × Nat × Nat :=
  let off (p : Nat) : Bool :=
    let b := s.adminBank p
    b.cycle == 0 || decide (t < b.base) || (t - b.base) % b.cycle != 0
  if s.stagedPorts.any off then (9, 0, 0)
  else match s.stagedBreak with
    | some (ct, x) => (10, ct, x)
    | none => (0, 0, 0)

/-- PREPARE freezes the journal (R337). -/
def State.freeze (s : State) (t : Nat) : State := s.setDom { s.dom with frozen := true, prepared := some t }

/-- PREPARE_RECEIVE (R337): the staged view is checked and reported. -/
def execPrepareReceive (l : LathLink) (r : LathRec) (s : State) : Res :=
  onAuth .prepare l r s (fun s =>
    if !s.hawkHeard then s
    else
      let t := instantOf r.payload
      let s1 := s.freeze t
      let (code, ct, x) := s1.prepareReport t
      s1.unicast Kind.report.num r.src.val (leBytes 1 code ++ leBytes 16 s1.screedStg.toNat ++ leBytes 2 ct ++ leBytes 1 x) none)

/-- ABORT: the journal is unfrozen and kept (R338). -/
def State.unfreeze (s : State) : State :=
  (s.setDom { s.dom with frozen := false, prepared := none }).domEvent 7 s.index 0

/-- The hawk broadcasts ABORT, and DOM_PREPARE completes (R338). -/
def State.abortPrep (s : State) (x : Prep) (code map : Nat) : State :=
  let s1 := (s.lathSend Kind.abort.num 0x7F []).put F.DOM_STATUS.PREPARING 0
  let s2 := s1.unfreeze.prepareDone x { code := code, r1 := map }
  s2.setDom { s2.dom with prep := none }

/-- The one-way bound of R322 for the present ring shape, in nanoseconds. -/
def State.ringBound (s : State) : Nat := if s.on F.DOM_STATUS.WRAPPED then 63000 else 32000

/-- Step 2 to 5 of R339: the journal, withdrawals, admissions, the epoch; on the hawk the expected values move on with it. -/
def State.applyStaged (s : State) : State :=
  let s1 := s.each s.dom.journal (fun j t => t.replay j)
  let s2 := s1.each (s.stagedCts 1) (fun c t => (ctWithdraw c t).1)
  let s3 := s2.each (s.stagedCts 0) (fun c t => (ctAdmit c t).1)
  let s4 := (s3.put F.SCREED_EPOCH.EPOCH (min (s3.fld F.SCREED_EPOCH.EPOCH + 1) (2 ^ 32 - 1))).put F.STAGE_COUNT.COUNT 0
  let s5 := s4.setDom { s4.dom with journal := [], frozen := false, prepared := none, armed := none }
  let s6 := match s5.isHawk, s5.dom.prep with
    | true, some x =>
      (s5.setDom { s5.dom with
        prep := none
        expectOld := s5.dom.expect
        expectMap := s5.dom.expectMap ||| x.devices
        expect := (allBelow (fun j => natBit x.devices j) 64).foldl (fun t j => Tbl.set0 t j (Tbl.at0 x.stg j)) s5.dom.expect }).put
        F.DOM_STATUS.PREPARING 0
    | _, _ => s5
  s6.domEvent 8 s6.index 0

/-- A device that has prepared T receives ACTIVATE (R339): it will act at T, or, less than 10 µs before it, acts at once, its staged
lists at the time that R250 computes. -/
def State.activate (s : State) (t : Nat) : State :=
  if s.dom.prepared ≠ some t then s
  else if s.now + 10000 ≤ t then s.setDom { s.dom with armed := some t }
  else
    let s1 := s.domEvent 9 s.index 0
    let s2 := s1.each s1.stagedPorts (fun p u =>
      match u.changeTime p (u.adminBank p) false with
      | some c => u.schedule p c
      | none => u)
    s2.applyStaged

/-- ACTIVATION (R339): at T every staged list becomes operational, then the rest follows. -/
def execActivation (s : State) : Res :=
  match s.dom.armed with
  | none => .next s
  | some t =>
    if s.now < t then .next s
    else .next (s.each s.stagedPorts (fun p u => u.swapBanks p t)).applyStaged

/-- The hawk sends ACTIVATE and acts on it itself (R338). -/
def State.sendActivate (s : State) (x : Prep) : State :=
  let q := s.dom.seq
  let s1 := s.lathSend Kind.activate.num 0x7F (instantBytes x.t)
  let s2 := s1.setDom { s1.dom with
    relays := s1.dom.relays ++ [⟨q, 0x7F, Kind.activate.num, instantBytes x.t, 0, false, none⟩]
    prep := some { x with sent := some q } }
  (s2.activateAck s2.index).activate x.t

/-- The report of device `j` (R338): with the last one, ACTIVATE or ABORT goes out. -/
def State.takeReport (s : State) (j code : Nat) (stg : BitVec 128) : State :=
  match s.dom.prep with
  | none => s
  | some x =>
    if x.sent.isSome || !natBit x.devices j || natBit x.reported j then s
    else
      let c := if code ≠ 0 then code else if stg = Tbl.at0 x.stg j then 0 else 2
      let y := { x with
        reported := natSet x.reported j
        code := if x.code = 0 then c else x.code
        bad := if c = 0 then x.bad else natSet x.bad j }
      let s1 := s.setDom { s.dom with prep := some y }
      if y.reported ≠ y.devices then s1
      else if y.bad ≠ 0 then s1.abortPrep y y.code y.bad
      else if s1.now + s1.ringBound + 10000 ≤ y.t then s1.sendActivate y
      else s1.abortPrep y 11 0

/-- REPORT_RECEIVE (R338). -/
def execReportReceive (l : LathLink) (r : LathRec) (s : State) : Res :=
  onAuth .report l r s (fun s =>
    if s.isHawk then s.takeReport r.src.val (leAt r.payload 0 1) (BitVec.ofNat 128 (leAt r.payload 1 16)) else s)

/-- PREP_TIMEOUT (R338). -/
def execPrepTimeout (s : State) : Res :=
  match s.dom.prep with
  | some x => if s.isHawk && x.sent.isNone then .next (s.abortPrep x 3 (x.devices - (x.devices &&& x.reported))) else .next s
  | none => .next s

/-- ABORT_RECEIVE (R338). -/
def execAbortReceive (l : LathLink) (r : LathRec) (s : State) : Res :=
  onAuth .abort l r s (fun s => if s.hawkHeard && s.dom.frozen && s.dom.armed.isNone then s.unfreeze else s)

/-- ACTIVATE_RECEIVE (R339). -/
def execActivateReceive (l : LathLink) (r : LathRec) (s : State) : Res :=
  onAuth .activate l r s (fun s =>
    if !s.hawkHeard || s.dom.prepared ≠ some (instantOf r.payload) then s else (s.ackIt r).activate (instantOf r.payload))

/-! ### Domain commands (R342) -/

/-- A domain command that this hawk takes from a ring and completes later: the ring. -/
def State.domRing (s : State) (c : RingCmd) : Option Nat :=
  match c.via with
  | .ring n =>
    if s.isHawk && (s.op == .setup || s.op == .run) && !c.stage && (c.target == 0x7E || c.target.toNat == s.index) &&
      !s.host.fences.any (fun f => f.1 == n.val) then some n.val else none
  | _ => none

/-- A domain command that completes at once; BAD_REQUEST on a device that is not the hawk (R342). -/
def domExec (op : Nat) (body : Body) (c : RingCmd) (s : State) : Res :=
  ringExec 9 op (fun c s => if s.isHawk then body c s else refuse s 6) c s

/-- The status of the domain as DOM_STATUS returns it: DOM_STATUS, DOM_PRESENT, the epoch, then for each device its latest SCREED
record, operational state and load result. -/
def State.domStatusBytes (s : State) : List Byte :=
  leBytes 4 (s.readReg R.DOM_STATUS).toNat ++ leBytes 8 s.presentMap ++ leBytes 4 (s.fld F.SCREED_EPOCH.EPOCH) ++
  (List.range 64).flatMap (fun j =>
    (match Tbl.getD (fun _ => none) s.dom.screeds j with
     | some x => (x.bytes j).drop 1
     | none => List.replicate 38 0) ++ leBytes 1 (Tbl.atN s.dom.states j) ++ leBytes 1 (Tbl.atN s.dom.loads j))

/-- DOM_STATUS. -/
def domStatus : Body := fun c s =>
  if c.bufLen.toNat < 2576 then refuse s 6 else (s, { bufOut := s.domStatusBytes })

/-- The devices of a map, lowest first. -/
def devicesOf (map : Nat) : List Nat := allBelow (fun j => natBit map j) 64

/-- The 16-byte values of the devices of a map, in index order. -/
def valuesOf (map : Nat) (bs : List Byte) : Tbl (BitVec 128) :=
  ((devicesOf map).zipIdx).foldl (fun t (j, i) => Tbl.set0 t j (BitVec.ofNat 128 (leAt bs (16 * i) 16))) []

/-- DOM_EXPECT: the map in ARG0, the values in BUF; EXPECT_VALID. -/
def domExpect : Body := fun c s =>
  let map := c.arg0.toNat
  match c.bufIn with
  | none => dmaError s
  | some bs =>
    if c.bufLen.toNat < 16 * (devicesOf map).length then refuse s 6
    else
      ((s.setDom { s.dom with expectMap := map, expect := valuesOf map bs, mismatch := [] }).put F.DOM_STATUS.EXPECT_VALID 1, {})

/-- An expected device is present in RUN (R336). -/
def State.presentInRun (s : State) (j : Nat) : Bool :=
  j == s.index || (natBit s.presentMap j && Tbl.atN s.dom.states j == 1 + OpState.run.code)

/-- The refusal of DOM_PREPARE (R334, R336). -/
def State.prepareRefusal (s : State) (c : RingCmd) : Option Reply :=
  let map := leAt c.cont 10 8
  if !s.isHawk || s.op != .run || !s.on F.DOM_STATUS.EXPECT_VALID then some { code := 6 }
  else if s.on F.DOM_STATUS.HELD then some { code := 7 }
  else if s.on F.DOM_STATUS.PREPARING then some { code := 12 }
  else if s.fld F.SCREED_EPOCH.EPOCH = 2 ^ 32 - 1 then some { code := 8 }
  else if s.dom.dup || (devicesOf map).any (fun j => !s.presentInRun j) then some { code := 1 }
  else match c.bufIn with
    | none => some { status := 3 }
    | some _ => if map = 0 || c.bufLen.toNat < 16 * (devicesOf map).length then some { code := 6 } else none

/-- DOM_PREPARE (R336 to R338): PREPARE goes to every device, and the hawk prepares like any other. -/
def State.startPrepare (s : State) (c : RingCmd) (owner : Nat × Nat) : State :=
  let t := instantOf c.cont
  let map := leAt c.cont 10 8
  let x : Prep := ⟨t, map, valuesOf map (c.bufIn.getD []), 0, 0, 0, none, 0, some owner⟩
  let s1 := ((s.setDom { s.dom with prep := some x }).put F.DOM_STATUS.PREPARING 1).lathSend Kind.prepare.num 0x7F (instantBytes t)
  let s2 := s1.freeze t
  s2.takeReport s2.index (s2.prepareReport t).1 s2.screedStg

/-- DOM_STATUS (R342). -/
def execDomStatus (c : RingCmd) (s : State) : Res := domExec 0 domStatus c s

/-- DOM_EXPECT (R342). -/
def execDomExpect (c : RingCmd) (s : State) : Res := domExec 1 domExpect c s

/-- DOM_PREPARE (R336): refused at once, or completed by R338. -/
def execDomPrepare (c : RingCmd) (s : State) : Res :=
  match s.domRing c, s.prepareRefusal c with
  | some n, none =>
    let (s1, k) := s.owe n c.tag 9 2
    .next (s1.startPrepare c (n, k))
  | _, some d => ringExec 9 2 (fun _ t => (t, d)) c s
  | none, none => ringExec 9 2 (fun _ t => refuse t 6) c s

/-- DOM_ABORT (R338): the same effect as ABORT, which leaves DOM_PREPARE's code open; BUSY once ACTIVATE has been sent. -/
def domAbort : Body := fun _ s =>
  match s.dom.prep with
  | none => (s, {})
  | some x =>
    if x.sent.isSome then refuse s 12
    else
      let (v, s1) := s.draw 4
      (s1.abortPrep x v.toNat 0, {})

/-- DOM_ABORT. -/
def execDomAbort (c : RingCmd) (s : State) : Res := domExec 3 domAbort c s

/-- DOM_DISCARD (R339): the devices of ARG0's map; each member gets the command relayed, and it completes as a broadcast does. -/
def execDomDiscard (c : RingCmd) (s : State) : Res :=
  let map := c.arg0.toNat
  match s.domRing c with
  | none => ringExec 9 4 (fun _ t => refuse t 6) c s
  | some n =>
    if s.on F.DOM_STATUS.PREPARING then ringExec 9 4 (fun _ t => refuse t 12) c s
    else
      let own := natBit map s.index
      let others := (devicesOf map).filter (fun j => j != s.index)
      let s1 := s.when own State.discard
      if others = [] then ringExec 9 4 (fun _ t => (t, {})) c s1
      else
        let (s2, k) := s1.owe n c.tag 9 4
        let b : Broadcast := ⟨n, k, others.foldl natSet 0, 0, 0, 64, ({} : Reply).completion 9 4 s2.source⟩
        let s3 := s2.setDom { s2.dom with broadcasts := b :: s2.dom.broadcasts }
        .next (s3.each others (fun j t => t.unicast Kind.cmd.num j (c.bytes 9 4 0x7F ++ [0]) (some (n, k))))

/-- DOM_RELEASE (R335): HELD is cleared after two clean intervals. -/
def domRelease : Body := fun _ s => if s.dom.clean < 2 then refuse s 2 else (s.put F.DOM_STATUS.HELD 0, {})

/-- DOM_RELEASE. -/
def execDomRelease (c : RingCmd) (s : State) : Res := domExec 5 domRelease c s

/-- DOM_RESET (R330, R342): every member at once, or one member, whose ACK completes the command. -/
def execDomReset (c : RingCmd) (s : State) : Res :=
  let t := c.a0 6 0
  match s.domRing c with
  | none => ringExec 9 6 (fun _ u => refuse u 6) c s
  | some n =>
    if t = 0x7F then ringExec 9 6 (fun _ u => (u.lathSend Kind.domReset.num 0x7F (leBytes 1 t), {})) c s
    else if 64 ≤ t || t = s.index then ringExec 9 6 (fun _ u => refuse u 6) c s
    else
      let (s1, k) := s.owe n c.tag 9 6
      .next (s1.unicast Kind.domReset.num t (leBytes 1 t) (some (n, k)))

end Sys2Proof.Machine
end

