-- ==== Sys2Proof/Machine/Access.lean ====
section
/-!
DEFINITION. A write that the host makes through a BAR of one of the three functions (REGISTER_WRITE; R376, R377, R382, R400,
R513): registers, the relay window, doorbells and the MSI-X table.
-/
namespace Sys2Proof.Machine

/-- The number of vectors of a function (Table 16.2). -/
def vectorsOf (fn : Nat) : Nat := if fn = 0 then 128 else if fn = 1 then 32 else 96

/-- An MSI-X table entry after reset: masked, all else 0 (notes/assumptions/7.md, PRESUMED). -/
def msixReset (_i : Nat) : BitVec 128 := 2 ^ 96

/-- Send the message that a vector's pending bit records, once the vector is no longer masked (R400). -/
def State.unmask (s : State) (fn v : Nat) : State :=
  let i := vecIndex fn v
  if Tbl.atN s.host.pba i = 1 && !natBit (Tbl.getD msixReset s.host.msix i).toNat 96 then
    ({ s with host := { s.host with pba := Tbl.setN s.host.pba i 0 } } : State).emit (.msix (Fin.ofNat 3 fn) v)
  else s

/-- A write of `size` bytes at offset `x` of a function's MSI-X table: an aligned 32-bit or 64-bit access. The low two address
bits and the reserved bits of the vector control word stay 0. -/
def State.msixWrite (s : State) (fn x size v : Nat) : State :=
  let n := x / 16
  let i := vecIndex fn n
  if vectorsOf fn ≤ n || (size ≠ 4 && size ≠ 8) || x % size ≠ 0 then s
  else
    let lo := 8 * (x % 16)
    let e := natPut (Tbl.getD msixReset s.host.msix i).toNat (lo + 8 * size - 1) lo (v % 2 ^ (8 * size))
    let e1 := natPut (natPut e 127 97 0) 1 0 0
    ({ s with host := { s.host with msix := Tbl.setD msixReset s.host.msix i (BitVec.ofNat 128 e1) } } : State).unmask fn n

/-- A write in a function's BAR2: a doorbell of a pair (R382), or the MSI-X table; dropped elsewhere (R377). -/
def State.bar2Write (s : State) (fn : Fin 3) (x size v : Nat) : State :=
  if x < 0x200 then
    let n : Fin 64 := Fin.ofNat 64 (x / 8)
    if size ≠ 4 || x % 4 ≠ 0 then s
    else if x % 8 = 0 then goOn s (execSqTailDoorbell fn n (BitVec.ofNat 32 v) s)
    else goOn s (execCqHeadDoorbell fn n (BitVec.ofNat 32 v) s)
  else if 0x8000 ≤ x ∧ x < 0xC000 then s.msixWrite fn.val (x - 0x8000) size v
  else s

/-- A write in PF0 BAR0: an aligned 32-bit access to a register or to the relay window (R377, R513). -/
def State.bar0Write (s : State) (x size v : Nat) : State :=
  if size ≠ 4 || x % 4 ≠ 0 then s
  else if x < 0x800000 then s.pf0Write x (BitVec.ofNat 32 v)
  else if x < 0x1000000 then s.relayWrite (x - 0x800000) (BitVec.ofNat 32 v)
  else s

/-- REGISTER_WRITE (R86, R376, R377, R513): a write reaches nothing before LOAD (R518); PF1 BAR0 is read-only. -/
def execRegisterWrite (w : HostWrite) (s : State) : Res :=
  if s.op.code < 3 then .next s
  else if w.bar = 1 then .next (s.bar2Write w.fn w.off w.size w.value.toNat)
  else if w.fn = 0 then .next (s.bar0Write w.off w.size w.value.toNat)
  else .next s

end Sys2Proof.Machine
end

