-- ==== Sys2Proof/Machine/Dispatch.lean ====
section
/-!
DEFINITION. One arm per command of the table: its meaning in the family's file.
-/
namespace Sys2Proof.Machine

/-- The effect of a command on everything but the queue. -/
def exec (i : Instr) (s : State) : Host.Outcome State Fault Refusal :=
  match i with
  | .registerWrite w => Sys2Proof.Machine.execRegisterWrite w s
  | .portModeWrite p v => Sys2Proof.Machine.execPortModeWrite p v s
  | .portStatusRead p => Sys2Proof.Machine.execPortStatusRead p s
  | .negotiationResolved p => Sys2Proof.Machine.execNegotiationResolved p s
  | .anFail p => Sys2Proof.Machine.execAnFail p s
  | .signalLock p => Sys2Proof.Machine.execSignalLock p s
  | .trainingDone p => Sys2Proof.Machine.execTrainingDone p s
  | .trainingFail p => Sys2Proof.Machine.execTrainingFail p s
  | .linkUp p => Sys2Proof.Machine.execLinkUp p s
  | .lockLoss p => Sys2Proof.Machine.execLockLoss p s
  | .linkDown p => Sys2Proof.Machine.execLinkDown p s
  | .faultLocalEnter p => Sys2Proof.Machine.execFaultLocalEnter p s
  | .faultLocalClear p => Sys2Proof.Machine.execFaultLocalClear p s
  | .faultRemoteEnter p => Sys2Proof.Machine.execFaultRemoteEnter p s
  | .faultRemoteClear p => Sys2Proof.Machine.execFaultRemoteClear p s
  | .verifyMpacketSend p => Sys2Proof.Machine.execVerifyMpacketSend p s
  | .respondMpacketReceive p => Sys2Proof.Machine.execRespondMpacketReceive p s
  | .mmVerifyFail p => Sys2Proof.Machine.execMmVerifyFail p s
  | .mmFragmentReceive p f => Sys2Proof.Machine.execMmFragmentReceive p f s
  | .lpiEnter p => Sys2Proof.Machine.execLpiEnter p s
  | .lpiWake p => Sys2Proof.Machine.execLpiWake p s
  | .lpiIdleExpiry p => Sys2Proof.Machine.execLpiIdleExpiry p s
  | .rxLpiEntry p => Sys2Proof.Machine.execRxLpiEntry p s
  | .twReqWrite p v => Sys2Proof.Machine.execTwReqWrite p v s
  | .twApply p => Sys2Proof.Machine.execTwApply p s
  | .frameHeadReceive h => Sys2Proof.Machine.execFrameHeadReceive h s
  | .contextFetchDone g n ok => Sys2Proof.Machine.execContextFetchDone g n ok s
  | .keyUnwrapDone k ok => Sys2Proof.Machine.execKeyUnwrapDone k ok s
  | .frameWet id => Sys2Proof.Machine.execFrameWet id s
  | .forwardingLookupDone id => Sys2Proof.Machine.execForwardingLookupDone id s
  | .frameEndReceive id e => Sys2Proof.Machine.execFrameEndReceive id e s
  | .frameVerdict id => Sys2Proof.Machine.execFrameVerdict id s
  | .stnAsduExamine => Sys2Proof.Machine.execStnAsduExamine s
  | .stnPairWaitExpire k smp => Sys2Proof.Machine.execStnPairWaitExpire k smp s
  | .takeAnyReset h => Sys2Proof.Machine.execTakeAnyReset h s
  | .txCommit p start => Sys2Proof.Machine.execTxCommit p start s
  | .transmitStart p => Sys2Proof.Machine.execTransmitStart p s
  | .reservedStart p ct => Sys2Proof.Machine.execReservedStart p ct s
  | .tailRelease id p => Sys2Proof.Machine.execTailRelease id p s
  | .txEnd p => Sys2Proof.Machine.execTxEnd p s
  | .extraWorkDone sl => Sys2Proof.Machine.execExtraWorkDone sl s
  | .dbfReadDone p k ok => Sys2Proof.Machine.execDbfReadDone p k ok s
  | .gateCycleStart p => Sys2Proof.Machine.execGateCycleStart p s
  | .gateSetGates p => Sys2Proof.Machine.execGateSetGates p s
  | .gateSetHold p => Sys2Proof.Machine.execGateSetHold p s
  | .gateSetRelease p => Sys2Proof.Machine.execGateSetRelease p s
  | .gateKeyflip p => Sys2Proof.Machine.execGateKeyflip p s
  | .gateReserve p => Sys2Proof.Machine.execGateReserve p s
  | .gclConfigChange p => Sys2Proof.Machine.execGclConfigChange p s
  | .gclWrite c => Sys2Proof.Machine.execGclWrite c s
  | .gclRead c => Sys2Proof.Machine.execGclRead c s
  | .gclParams c => Sys2Proof.Machine.execGclParams c s
  | .gclChange c => Sys2Proof.Machine.execGclChange c s
  | .gclCancel c => Sys2Proof.Machine.execGclCancel c s
  | .gclStatus c => Sys2Proof.Machine.execGclStatus c s
  | .flipDone f => Sys2Proof.Machine.execFlipDone f s
  | .cipherCoreFault sl k => Sys2Proof.Machine.execCipherCoreFault sl k s
  | .mcuCoreFault k line => Sys2Proof.Machine.execMcuCoreFault k line s
  | .readPos c => Sys2Proof.Machine.execReadPos c s
  | .search c => Sys2Proof.Machine.execSearch c s
  | .insert c => Sys2Proof.Machine.execInsert c s
  | .moveRegisterClear => Sys2Proof.Machine.execMoveRegisterClear s
  | .update c => Sys2Proof.Machine.execUpdate c s
  | .delete c => Sys2Proof.Machine.execDelete c s
  | .flush c => Sys2Proof.Machine.execFlush c s
  | .writePos c => Sys2Proof.Machine.execWritePos c s
  | .learnQueueServe => Sys2Proof.Machine.execLearnQueueServe s
  | .ageSweepVisit pos => Sys2Proof.Machine.execAgeSweepVisit pos s
  | .bgcPass b => Sys2Proof.Machine.execBgcPass b s
  | .bgcConfirm b => Sys2Proof.Machine.execBgcConfirm b s
  | .ctxRead c => Sys2Proof.Machine.execCtxRead c s
  | .ctxInstall c => Sys2Proof.Machine.execCtxInstall c s
  | .ctxEnable c => Sys2Proof.Machine.execCtxEnable c s
  | .ctxRetire c => Sys2Proof.Machine.execCtxRetire c s
  | .ctxSelect c => Sys2Proof.Machine.execCtxSelect c s
  | .ctxFree c => Sys2Proof.Machine.execCtxFree c s
  | .ctxPin c => Sys2Proof.Machine.execCtxPin c s
  | .ctxUnpin c => Sys2Proof.Machine.execCtxUnpin c s
  | .ctxClearCnt c => Sys2Proof.Machine.execCtxClearCnt c s
  | .scmAdd c => Sys2Proof.Machine.execScmAdd c s
  | .scmDelete c => Sys2Proof.Machine.execScmDelete c s
  | .flipAdd c => Sys2Proof.Machine.execFlipAdd c s
  | .flipArm c => Sys2Proof.Machine.execFlipArm c s
  | .flipCancel c => Sys2Proof.Machine.execFlipCancel c s
  | .flipStatus c => Sys2Proof.Machine.execFlipStatus c s
  | .secyTxRead c => Sys2Proof.Machine.execSecyTxRead c s
  | .ctxLeapLoWrite v => Sys2Proof.Machine.execCtxLeapLoWrite v s
  | .ctxLeapHiWrite v => Sys2Proof.Machine.execCtxLeapHiWrite v s
  | .keyImportKw c => Sys2Proof.Machine.execKeyImportKw c s
  | .keyImportXw c => Sys2Proof.Machine.execKeyImportXw c s
  | .keyGenerate c healthy => Sys2Proof.Machine.execKeyGenerate c healthy s
  | .keyDerive c => Sys2Proof.Machine.execKeyDerive c s
  | .keyExportKw c => Sys2Proof.Machine.execKeyExportKw c s
  | .keyExportXw c => Sys2Proof.Machine.execKeyExportXw c s
  | .keyCmacGen c => Sys2Proof.Machine.execKeyCmacGen c s
  | .keyCmacVerify c => Sys2Proof.Machine.execKeyCmacVerify c s
  | .keyAttrRead c => Sys2Proof.Machine.execKeyAttrRead c s
  | .keyAttrReduce c => Sys2Proof.Machine.execKeyAttrReduce c s
  | .keyPin c => Sys2Proof.Machine.execKeyPin c s
  | .keyUnpin c => Sys2Proof.Machine.execKeyUnpin c s
  | .keyFree c => Sys2Proof.Machine.execKeyFree c s
  | .rootInject c => Sys2Proof.Machine.execRootInject c s
  | .rootErase c => Sys2Proof.Machine.execRootErase c s
  | .rootStatus c => Sys2Proof.Machine.execRootStatus c s
  | .keyGroupIdWrite v => Sys2Proof.Machine.execKeyGroupIdWrite v s
  | .trngHealthTimeout => Sys2Proof.Machine.execTrngHealthTimeout s
  | .keySlotUncorr k => Sys2Proof.Machine.execKeySlotUncorr k s
  | .timeSet => Sys2Proof.Machine.execTimeSet s
  | .timeStep => Sys2Proof.Machine.execTimeStep s
  | .timeSnap => Sys2Proof.Machine.execTimeSnap s
  | .timeRateWrite v => Sys2Proof.Machine.execTimeRateWrite v s
  | .clockSourceAdjust a => Sys2Proof.Machine.execClockSourceAdjust a s
  | .ppsInEdge => Sys2Proof.Machine.execPpsInEdge s
  | .ppsInLoss => Sys2Proof.Machine.execPpsInLoss s
  | .ppsOutRise => Sys2Proof.Machine.execPpsOutRise s
  | .ppsOutFall => Sys2Proof.Machine.execPpsOutFall s
  | .todOutSend => Sys2Proof.Machine.execTodOutSend s
  | .todInReceive msg => Sys2Proof.Machine.execTodInReceive msg s
  | .tsCalDone p => Sys2Proof.Machine.execTsCalDone p s
  | .ptpTcEntryExpire p k => Sys2Proof.Machine.execPtpTcEntryExpire p k s
  | .ptpGet c => Sys2Proof.Machine.execPtpGet c s
  | .ptpSet c => Sys2Proof.Machine.execPtpSet c s
  | .fltWrite c => Sys2Proof.Machine.execFltWrite c s
  | .fltRead c => Sys2Proof.Machine.execFltRead c s
  | .mtrWrite c => Sys2Proof.Machine.execMtrWrite c s
  | .mtrRead c => Sys2Proof.Machine.execMtrRead c s
  | .fltUnblock c => Sys2Proof.Machine.execFltUnblock c s
  | .mtrUnmark c => Sys2Proof.Machine.execMtrUnmark c s
  | .fltClearCnt c => Sys2Proof.Machine.execFltClearCnt c s
  | .tunWrite c => Sys2Proof.Machine.execTunWrite c s
  | .tunRead c => Sys2Proof.Machine.execTunRead c s
  | .ctAdmit c => Sys2Proof.Machine.execCtAdmit c s
  | .ctWithdraw c => Sys2Proof.Machine.execCtWithdraw c s
  | .ctRead c => Sys2Proof.Machine.execCtRead c s
  | .ctClearCnt c => Sys2Proof.Machine.execCtClearCnt c s
  | .srcRead c => Sys2Proof.Machine.execSrcRead c s
  | .srcWrite c => Sys2Proof.Machine.execSrcWrite c s
  | .stnRead c => Sys2Proof.Machine.execStnRead c s
  | .stnWrite c => Sys2Proof.Machine.execStnWrite c s
  | .stnClearCnt c => Sys2Proof.Machine.execStnClearCnt c s
  | .pairStatus c => Sys2Proof.Machine.execPairStatus c s
  | .pairDemote c => Sys2Proof.Machine.execPairDemote c s
  | .pairRefill c => Sys2Proof.Machine.execPairRefill c s
  | .pairHbSend => Sys2Proof.Machine.execPairHbSend s
  | .pairHbReceive l r => Sys2Proof.Machine.execPairHbReceive l r s
  | .pairHbMiss l => Sys2Proof.Machine.execPairHbMiss l s
  | .pairStartWait => Sys2Proof.Machine.execPairStartWait s
  | .yieldReceive l r => Sys2Proof.Machine.execYieldReceive l r s
  | .pairCheckpointSend => Sys2Proof.Machine.execPairCheckpointSend s
  | .pairCheckpointReceive l r => Sys2Proof.Machine.execPairCheckpointReceive l r s
  | .demoteCheckpointStart => Sys2Proof.Machine.execDemoteCheckpointStart s
  | .demoteAbandon => Sys2Proof.Machine.execDemoteAbandon s
  | .pairHandover => Sys2Proof.Machine.execPairHandover s
  | .digestSend p => Sys2Proof.Machine.execDigestSend p s
  | .digestReceive l r => Sys2Proof.Machine.execDigestReceive l r s
  | .digestMiss p => Sys2Proof.Machine.execDigestMiss p s
  | .refillRecordReceive l r => Sys2Proof.Machine.execRefillRecordReceive l r s
  | .discoverSend => Sys2Proof.Machine.execDiscoverSend s
  | .discoverReceive l r => Sys2Proof.Machine.execDiscoverReceive l r s
  | .hawkClaimExpiry => Sys2Proof.Machine.execHawkClaimExpiry s
  | .ringLinkLoss l => Sys2Proof.Machine.execRingLinkLoss l s
  | .ringLinkRestore l => Sys2Proof.Machine.execRingLinkRestore l s
  | .ringRecordForward l r => Sys2Proof.Machine.execRingRecordForward l r s
  | .ackReceive l r => Sys2Proof.Machine.execAckReceive l r s
  | .recordAckTimeout seq => Sys2Proof.Machine.execRecordAckTimeout seq s
  | .relayWindowWrite x v => Sys2Proof.Machine.execRelayWindowWrite x v s
  | .relayWindowRead x => Sys2Proof.Machine.execRelayWindowRead x s
  | .relayReadResponse l r => Sys2Proof.Machine.execRelayReadResponse l r s
  | .relayReadTimeout seq => Sys2Proof.Machine.execRelayReadTimeout seq s
  | .relayedCmdReceive l r => Sys2Proof.Machine.execRelayedCmdReceive l r s
  | .excRecordReceive l r => Sys2Proof.Machine.execExcRecordReceive l r s
  | .fwStartReceive l r => Sys2Proof.Machine.execFwStartReceive l r s
  | .fwDataReceive l r => Sys2Proof.Machine.execFwDataReceive l r s
  | .loadStatusReceive l r => Sys2Proof.Machine.execLoadStatusReceive l r s
  | .domHbSend => Sys2Proof.Machine.execDomHbSend s
  | .domHbMiss j => Sys2Proof.Machine.execDomHbMiss j s
  | .domResetReceive l r => Sys2Proof.Machine.execDomResetReceive l r s
  | .screedSend => Sys2Proof.Machine.execScreedSend s
  | .screedReceive l r => Sys2Proof.Machine.execScreedReceive l r s
  | .prepareReceive l r => Sys2Proof.Machine.execPrepareReceive l r s
  | .reportReceive l r => Sys2Proof.Machine.execReportReceive l r s
  | .prepTimeout => Sys2Proof.Machine.execPrepTimeout s
  | .abortReceive l r => Sys2Proof.Machine.execAbortReceive l r s
  | .activateReceive l r => Sys2Proof.Machine.execActivateReceive l r s
  | .activation => Sys2Proof.Machine.execActivation s
  | .domStatus c => Sys2Proof.Machine.execDomStatus c s
  | .domExpect c => Sys2Proof.Machine.execDomExpect c s
  | .domPrepare c => Sys2Proof.Machine.execDomPrepare c s
  | .domAbort c => Sys2Proof.Machine.execDomAbort c s
  | .domDiscard c => Sys2Proof.Machine.execDomDiscard c s
  | .domRelease c => Sys2Proof.Machine.execDomRelease c s
  | .domReset c => Sys2Proof.Machine.execDomReset c s
  | .monDisagree d => Sys2Proof.Machine.execMonDisagree d s
  | .memReadDone m => Sys2Proof.Machine.execMemReadDone m s
  | .nodeRebuildDone node => Sys2Proof.Machine.execNodeRebuildDone node s
  | .memLineWrite m => Sys2Proof.Machine.execMemLineWrite m s
  | .memRootError k => Sys2Proof.Machine.execMemRootError k s
  | .scrubRead m => Sys2Proof.Machine.execScrubRead m s
  | .stackTempChange hot => Sys2Proof.Machine.execStackTempChange hot s
  | .skimStart v => Sys2Proof.Machine.execSkimStart v s
  | .skimGroupMove => Sys2Proof.Machine.execSkimGroupMove s
  | .stripDone => Sys2Proof.Machine.execStripDone s
  | .dbufTWrite v => Sys2Proof.Machine.execDbufTWrite v s
  | .rawDebugAccess a => Sys2Proof.Machine.execRawDebugAccess a s
  | .ucieTrainDone t => Sys2Proof.Machine.execUcieTrainDone t s
  | .ucieTrainRetry => Sys2Proof.Machine.execUcieTrainRetry s
  | .ucieLinkDown => Sys2Proof.Machine.execUcieLinkDown s
  | .hostReadTimeout r => Sys2Proof.Machine.execHostReadTimeout r s
  | .functionLevelReset fn => Sys2Proof.Machine.execFunctionLevelReset fn s
  | .sqTailDoorbell fn n v => Sys2Proof.Machine.execSqTailDoorbell fn n v s
  | .cqHeadDoorbell fn n v => Sys2Proof.Machine.execCqHeadDoorbell fn n v s
  | .cmdFetch n slots => Sys2Proof.Machine.execCmdFetch n slots s
  | .ringEnable n => Sys2Proof.Machine.execRingEnable n s
  | .ringDisable n => Sys2Proof.Machine.execRingDisable n s
  | .ringStopDone n => Sys2Proof.Machine.execRingStopDone n s
  | .ringReset n => Sys2Proof.Machine.execRingReset n s
  | .pf2TxFetch n d frame => Sys2Proof.Machine.execPf2TxFetch n d frame s
  | .msixCoalTimeout n => Sys2Proof.Machine.execMsixCoalTimeout n s
  | .excSteerWrite r v => Sys2Proof.Machine.execExcSteerWrite r v s
  | .nop c => Sys2Proof.Machine.execNop c s
  | .fence c => Sys2Proof.Machine.execFence c s
  | .powerGood => Sys2Proof.Machine.execPowerGood s
  | .vbatPresent => Sys2Proof.Machine.execVbatPresent s
  | .vbatLoss => Sys2Proof.Machine.execVbatLoss s
  | .powerLoss => Sys2Proof.Machine.execPowerLoss s
  | .coldReset => Sys2Proof.Machine.execColdReset s
  | .warmReset => Sys2Proof.Machine.execWarmReset s
  | .resetRelease pins => Sys2Proof.Machine.execResetRelease pins s
  | .romDone => Sys2Proof.Machine.execRomDone s
  | .fwLoadGo img => Sys2Proof.Machine.execFwLoadGo img s
  | .fwVerifyDone => Sys2Proof.Machine.execFwVerifyDone s
  | .setupEntry => Sys2Proof.Machine.execSetupEntry s
  | .runReq => Sys2Proof.Machine.execRunReq s
  | .holdReq => Sys2Proof.Machine.execHoldReq s
  | .arbCommit => Sys2Proof.Machine.execArbCommit s
  | .ownerHash buf => Sys2Proof.Machine.execOwnerHash buf s
  | .lcAdvance buf => Sys2Proof.Machine.execLcAdvance buf s
  | .dbufMinT => Sys2Proof.Machine.execDbufMinT s
  | .fuseBurnDone => Sys2Proof.Machine.execFuseBurnDone s
  | .attGo => Sys2Proof.Machine.execAttGo s
  | .attDone ok => Sys2Proof.Machine.execAttDone ok s
  | .monitorTrip t => Sys2Proof.Machine.execMonitorTrip t s
  | .alarmRearm k => Sys2Proof.Machine.execAlarmRearm k s
  | .encCfgApply v => Sys2Proof.Machine.execEncCfgApply v s
  | .monitorTestRound => Sys2Proof.Machine.execMonitorTestRound s
  | .testWindowEnd d tripped genuine => Sys2Proof.Machine.execTestWindowEnd d tripped genuine s
  | .floorCmd => Sys2Proof.Machine.execFloorCmd s
  | .healthKick => Sys2Proof.Machine.execHealthKick s
  | .healthKickExpiry => Sys2Proof.Machine.execHealthKickExpiry s
  | .rubPassStart temp => Sys2Proof.Machine.execRubPassStart temp s
  | .rubNow temp => Sys2Proof.Machine.execRubNow temp s
  | .rubTempRetry temp => Sys2Proof.Machine.execRubTempRetry temp s
  | .rubPrepareDone => Sys2Proof.Machine.execRubPrepareDone s
  | .rubMirrorDone => Sys2Proof.Machine.execRubMirrorDone s
  | .rubHandover => Sys2Proof.Machine.execRubHandover s
  | .rubGapTimeout => Sys2Proof.Machine.execRubGapTimeout s
  | .rubDrainDone => Sys2Proof.Machine.execRubDrainDone s
  | .rubTestDone r => Sys2Proof.Machine.execRubTestDone r s
  | .rubRefillDone => Sys2Proof.Machine.execRubRefillDone s
  | .rubHandback => Sys2Proof.Machine.execRubHandback s
  | .rubReturnRetry => Sys2Proof.Machine.execRubReturnRetry s
  | .perfSnapshot c => Sys2Proof.Machine.execPerfSnapshot c s
  | .perfSnapAt c => Sys2Proof.Machine.execPerfSnapAt c s
  | .perfDump c => Sys2Proof.Machine.execPerfDump c s
  | .perfRead c => Sys2Proof.Machine.execPerfRead c s
  | .periodicSnapshot => Sys2Proof.Machine.execPeriodicSnapshot s
  | .snapAtFire => Sys2Proof.Machine.execSnapAtFire s
  | .snapshotDone => Sys2Proof.Machine.execSnapshotDone s
  | .dumpRecordWrite => Sys2Proof.Machine.execDumpRecordWrite s
  | .perfSample j x => Sys2Proof.Machine.execPerfSample j x s
  | .sliceWake sl => Sys2Proof.Machine.execSliceWake sl s
  | .sliceWakeDone sl => Sys2Proof.Machine.execSliceWakeDone sl s
  | .sliceSleep sl => Sys2Proof.Machine.execSliceSleep sl s
  | .slicePllUnlock sl => Sys2Proof.Machine.execSlicePllUnlock sl s
  | .centralPllUnlock k => Sys2Proof.Machine.execCentralPllUnlock k s
  | .sliceReset v => Sys2Proof.Machine.execSliceReset v s
  | .sliceResetDone => Sys2Proof.Machine.execSliceResetDone s
  | .refillRequestReceive l r => Sys2Proof.Machine.execRefillRequestReceive l r s
  | .domHbReceive l r => Sys2Proof.Machine.execDomHbReceive l r s
  | .regRecordReceive l r => Sys2Proof.Machine.execRegRecordReceive l r s
  | .dmaRecordReceive l r => Sys2Proof.Machine.execDmaRecordReceive l r s
  | .spoilMarkerReceive p => Sys2Proof.Machine.execSpoilMarkerReceive p s
  | .trngHealthRestored => Sys2Proof.Machine.execTrngHealthRestored s
  | .rxLpiExit p => Sys2Proof.Machine.execRxLpiExit p s
  | .erroredBlockReceive p k => Sys2Proof.Machine.execErroredBlockReceive p k s

end Sys2Proof.Machine
end

