-- ==== Sys2Proof/Machine/Tick.lean ====
section
/-!
DEFINITION. What one core cycle does by itself (R230, R437, R461, R463, R480): the clocks advance, a wake ends, and the
conditions that the counters sample are counted. Everything else that time brings about has a command of its own.
-/
namespace Sys2Proof.Machine

/-! ### Clocks -/

/-- One cycle of the real-time counter's accumulator: 32,768 of 1,500,000,000 (R437, R480). -/
def Battery.tick (b : Battery) : Battery :=
  if !b.vbat then b
  else
    let a := b.rtcAcc + 32768
    if a < 1500000000 then { b with rtcAcc := a } else { b with rtcAcc := a - 1500000000, rtc := (b.rtc + 1) % 2 ^ 48 }

/-- The rate adjustment in force, in units of 2^-8 parts per 10^9 (Table 10.12). -/
def State.rateInForce (s : State) : Int := (s.reg R.TIME_RATE).toInt

/-- One increment of the working clock (R230): 4/3 ns, scaled by the rate adjustment. The residue is in units of
1/768,000,000,000 of a fraction bit. -/
def State.advance (s : State) : State :=
  let acc : Nat := s.res + (262144 * ((256000000000 : Int) + s.rateInForce)).toNat
  let t := s.now * 2 ^ 16 + s.frac + acc / 768000000000
  { s with res := acc % 768000000000, frac := t % 2 ^ 16, ns := t / 2 ^ 16 % 1000000000,
           sec := t / 2 ^ 16 / 1000000000 % 2 ^ 48 }

/-! ### Counters that sample a condition (R461, R463) -/

/-- The gauge of a threshold kind exceeds `n` (Table 20.3). -/
def State.exceeds (s : State) (kind i n : Nat) : Bool :=
  match kind with
  | 0 => decide (1024 * n < s.occupied (i / 8) (i % 8))
  | 1 => decide (n < (s.extra i).length)
  | 2 => decide (n < s.fld (F.WET_GAUGE.RX_INFLIGHT i))
  | 3 => decide (n < s.fld (F.WET_GAUGE.TX_INFLIGHT i))
  | 4 => decide (n < ((allBelow (fun g => s.sliceOf g == i) 12).map (fun g => (Tbl.getD (fun _ => []) s.ctx.fetches g).length)).sum)
  | 5 => decide (n < s.cls.learnQ.length)
  | 6 => decide (n < s.stashUsed)
  | 7 => decide (n < s.fld F.STN_STATUS.QUEUED)
  | 8 => decide (1024 * n < s.poolUsed i)
  | 9 => decide (n < s.key.unwraps.length)
  | _ => false

/-- Threshold counter `k` adds one when its gauge exceeds N (R463); a wrap sets its overflow bit (R464). -/
def State.countTh (s : State) (k : Nat) : State :=
  if s.on (F.PERF_TH_CFG.EN k) && s.exceeds (s.fld (F.PERF_TH_CFG.KIND k)) (s.fld (F.PERF_TH_CFG.INSTANCE k)) (s.fld (F.PERF_TH_CFG.N k)) then
    let v := Tbl.atN s.perf.th k + 1
    let s1 : State := { s with perf := { s.perf with th := Tbl.setN s.perf.th k (v % 2 ^ 48) } }
    if v = 2 ^ 48 then s1.overflow R.PERF_TH_OVF k else s1
  else s

/-- The condition events that this model holds, where the condition is present: extra work waiting (22 of each slice), HOT
(0x69C), the Stencil queue full (0x6B3; 4,096 ASDUs, R286). -/
def State.conditions (s : State) : List Nat :=
  (allBelow (fun sl => !(s.extra sl).isEmpty) 13).map (fun sl => 128 * sl + 22) ++
  (if s.on F.MEM_STATUS.HOT then [0x69C] else []) ++ (if 4096 ≤ s.rcv.queue.length then [0x6B3] else [])

/-- A transmitter whose wake is complete is active again (R42, R43). -/
def State.endWakes (s : State) : State :=
  let due := (s.ports.filter (fun e => match e.2.wakeEnd with | some c => decide (c ≤ s.cyc) | none => false)).map (·.1)
  s.each due (fun p t => (t.setPort p { t.port p with wakeEnd := none }).put (F.PORT_STATUS.LPI_TX p) 0)

/-- The core's part of a cycle: sampled conditions, then the clock, which advances every second cycle (R230). -/
def State.coreTick (s : State) : State :=
  let s1 := (s.each s.conditions (fun e t => t.count e)).each (List.range 16) (fun k t => t.countTh k)
  let s2 : State := { s1 with cyc := s1.cyc + 1 }
  let s3 := if s2.cyc % 2 = 0 then s2.advance else s2
  s3.endWakes

/-- One core cycle (R230, R437, R461, R463): the battery domain's counter, and, with the core powered and out of reset, the
rest (notes/assumptions/1.md, DESIGN CHOICE: an empty queue lets one cycle pass). -/
def tick (s : State) : State :=
  let s1 : State := { s with bat := s.bat.tick }
  if s1.corePowered && s1.boot.inReset.isNone then s1.coreTick else s1

end Sys2Proof.Machine
end

