-- ==== Sys2Proof/Safety.lean ====
section
/-!
DEFINITION. The terms in which claims about the block are stated: a step that goes on, the canonical form of the register file,
and what reporting (counting, event records, completions) may change.
-/
namespace Sys2Proof.Machine

/-- A step that neither faults nor is refused. -/
def State.goesOn (s : State) : Prop := ∃ t, step s = .next t

/-- The register file is in its canonical form: offsets strictly rising, no word equal to what an unlisted offset reads. -/
def State.regsWf (s : State) : Prop := Tbl.wf regReset s.regs = true

/-- The registers that reporting writes: PERF_EVENT and the overflow bits (R464), and RING_HEADS of a pair (R383). -/
def reportReg (b : Nat) : Bool :=
  b == R.PERF_EVENT || b == R.PERF_TH_OVF || (decide (R.PERF_OVF 0 ≤ b) && decide (b < R.PERF_OVF 64)) ||
  (decide (R.PERF_BOVF 0 ≤ b) && decide (b < R.PERF_BOVF 256)) ||
  (decide (0x4400 ≤ b) && decide (b < 0x5400) && b % 0x40 == R.RING_HEADS 0 % 0x40)

/-- `t` differs from `s` at most by reporting: counters, ring state and held records, overflow bits, ring heads, what was sent,
and lath records under way (R326, R383, R397, R398, R459, R464). -/
structure State.Reported (s t : State) : Prop where
  op : t.op = s.op
  straps : t.straps = s.straps
  boot : t.boot = s.boot
  bat : t.bat = s.bat
  alarm : t.alarm = s.alarm
  power : t.power = s.power
  ports : t.ports = s.ports
  cls : t.cls = s.cls
  ctx : t.ctx = s.ctx
  key : t.key = s.key
  pair : t.pair = s.pair
  mem : t.mem = s.mem
  rub : t.rub = s.rub
  time : t.time = s.time
  sched : t.sched = s.sched
  flt : t.flt = s.flt
  ct : t.ct = s.ct
  rcv : t.rcv = s.rcv
  path : t.path = s.path
  cyc : t.cyc = s.cyc
  sec : t.sec = s.sec
  ns : t.ns = s.ns
  frac : t.frac = s.frac
  res : t.res = s.res
  free : t.free = s.free
  pending : t.pending = s.pending
  dom : t.dom = { s.dom with seq := t.dom.seq, relays := t.dom.relays }
  out : s.out <+: t.out
  regsWf : s.regsWf → t.regsWf
  regs : ∀ b, reportReg b = false → t.reg b = s.reg b

/-- A lath record of kind `k` is acted on (R322 to R324): it arrives for this device from another one on an up ring of a domain device
in SETUP or later, authenticates, and is the first copy. -/
def State.acting (s : State) (k : Kind) (l : LathLink) (r : LathRec) : Prop :=
  s.arrives k l r = true ∧ s.domainUp = true ∧ r.authOk = true ∧ s.heardIt r = false

/-- The state in which such a record is acted on: counted, acknowledged where its kind asks for it, and remembered. -/
def State.heardAs (s : State) (k : Kind) (l : LathLink) (r : LathRec) : State :=
  (if r.dst = 0x7F || k == .ack || k == .exc then s.countIn l else (s.countIn l).ackIt r).hearIt r

end Sys2Proof.Machine

namespace Sys2Proof

/-- A command of ring `n` reaches its block engine on this device at once (R313, R326, R333, R379, R388): rings work (SETUP or RUN),
no FENCE of the ring waits, the device is the target, no STAGE, no domain, and no joining member's rule in the way. -/
def RingCmd.served (c : RingCmd) (n : Fin 64) (s : Machine.State) : Prop :=
  c.via = .ring n ∧ (s.op = .setup ∨ s.op = .run) ∧ (s.host.fences.any (fun f => f.1 == n.val)) = false ∧
  c.target = 0x7E ∧ c.stage = false ∧ s.config ≠ 2 ∧ s.joining = false

end Sys2Proof
end

