-- ==== Sys2Proof/Certificates/Slice0/Obligations.lean ====
section
/-!
DEFINITION. The statements for the provers: what each command of the block does, when it completes, and what every step keeps. The
rules named in a docstring are those of spec/ that the statement rests on.
-/
open Sys2Proof Sys2Proof.Machine

/-! ### Ports (spec/02_ports_and_mac.md) -/

/-- R29, R30: bring-up. A port whose lane works learns of negotiation, lock, training and loss of lock; a port in SEEK whose
training takes place goes on to TRAIN; a failed training leads back to SEEK; a loss shorter than DOWN_HOLD does not leave UP. -/
def Obligations.PortBringUpCompletes : Prop := ∀ (s : State) (p : Fin 96), s.lane p = true →
  (s.link p = 1 → s.negotiates p = true →
    ∃ t, exec (.negotiationResolved p) s = .next t ∧ (t.port p).resolved = true ∧ (∀ q, q ≠ p.val → t.port q = s.port q)) ∧
  (s.link p = 1 → s.negotiates p = true → (s.port p).resolved = false →
    ∃ t, exec (.anFail p) s = .next t ∧ natBit (t.reg (R.PORT_EVENT p)).toNat 3 = true ∧ t.link p = 1) ∧
  (∃ t, exec (.signalLock p) s = .next t ∧ (t.port p).lock = true ∧ (t.port p).lockLost = false ∧
    (s.link p = 1 → s.trains p = true → s.negotiates p = false → t.link p = 2) ∧ (s.link p = 3 → t.link p = 3)) ∧
  (s.link p = 2 → ∃ t, exec (.trainingDone p) s = .next t ∧ (t.port p).trained = true ∧ t.link p = 2) ∧
  (s.link p = 2 → (s.port p).trained = false → ∃ t, exec (.trainingFail p) s = .next t ∧ t.link p = 1) ∧
  (∃ t, exec (.lockLoss p) s = .next t ∧ (t.port p).lockLost = true ∧ t.link p = s.link p ∧
    (s.link p = 3 → (t.port p).lock = (s.port p).lock))

/-- R30, R32: entering and leaving UP. A port that is ready enters UP and raises LINK_UP; DOWN and a local or remote fault leave
it, with MAC merge and LPI ended and their events raised; a cleared local fault leads to SEEK, a cleared remote fault to UP. -/
def Obligations.PortUpDownCompletes : Prop := ∀ (s : State) (p : Fin 96),
  (s.readyUp p = true →
    ∃ t, exec (.linkUp p) s = .next t ∧ t.link p = 3 ∧ natBit (t.reg (R.PORT_EVENT p)).toNat 0 = true) ∧
  (s.link p = 3 →
    ∃ t, exec (.linkDown p) s = .next t ∧ (t.port p).lock = false ∧ t.fld (F.PORT_STATUS.MM_STATE p) = 0 ∧
      t.fld (F.PORT_STATUS.LPI_TX p) = 0 ∧ t.fld (F.PORT_STATUS.LPI_RX p) = 0 ∧
      natBit (t.reg (R.PORT_EVENT p)).toNat 1 = true) ∧
  (s.link p = 3 → ∃ t, exec (.faultLocalEnter p) s = .next t ∧ t.fld (F.PORT_STATUS.MM_STATE p) = 0 ∧
    natBit (t.reg (R.PORT_EVENT p)).toNat 6 = true) ∧
  (s.link p = 4 → ∃ t, exec (.faultLocalClear p) s = .next t ∧ t.link p = 1 ∧ t.reg (R.PORT_EVENT p) = s.reg (R.PORT_EVENT p)) ∧
  (s.link p = 3 → ∃ t, exec (.faultRemoteEnter p) s = .next t ∧ t.fld (F.PORT_STATUS.MM_STATE p) = 0 ∧
    natBit (t.reg (R.PORT_EVENT p)).toNat 6 = true) ∧
  (s.link p = 5 → ∃ t, exec (.faultRemoteClear p) s = .next t ∧ t.link p = 3 ∧ natBit (t.reg (R.PORT_EVENT p)).toNat 0 = true)

/-- R23 to R25, R514: a write of PORT_MODE in SETUP that Table 2.2 does not refuse takes force and takes the port to SEEK, or to
DISABLED with mode 0; a refused one keeps the register, records its code in MODE_ERR and raises MODE_REFUSED. R24: a read of
PORT_STATUS returns the word with MODE_ERR and then clears MODE_ERR to 0; nothing else changes. R25: only an even port whose
neighbour is disabled can be bonded, and the neighbour of a bonded port stays disabled. -/
def Obligations.PortModeAndStatusComplete : Prop :=
  (∀ (s : State) (p : Fin 96) (v : Word), s.op = .setup →
    (s.modeErr p (v.toNat &&& 0xFF0F) = 0 →
      ∃ t, exec (.portModeWrite p v) s = .next t ∧ (s.link p ≠ 3 →
        t.reg (R.PORT_MODE p) = v &&& 0xFF0F ∧ t.link p = (if natBits v.toNat 3 0 = 0 then 0 else 1) ∧
        t.fld (F.PORT_STATUS.BONDED p) = (if natBits v.toNat 3 0 = 6 then 1 else 0))) ∧
    (s.modeErr p (v.toNat &&& 0xFF0F) ≠ 0 →
      ∃ t, exec (.portModeWrite p v) s = .next t ∧ t.reg (R.PORT_MODE p) = s.reg (R.PORT_MODE p) ∧
        t.fld (F.PORT_STATUS.MODE_ERR p) = s.modeErr p (v.toNat &&& 0xFF0F) ∧
        natBit (t.reg (R.PORT_EVENT p)).toNat 2 = true)) ∧
  (∀ (s : State) (p : Fin 96),
    ∃ t, exec (.portStatusRead p) s = .next t ∧ t.out = s.out ++ [.readData (s.reg (R.PORT_STATUS p))] ∧
      t.fld (F.PORT_STATUS.MODE_ERR p) = 0 ∧ t.link p = s.link p ∧ (∀ a, a ≠ R.PORT_STATUS p → t.reg a = s.reg a) ∧
      t = { s with regs := t.regs, out := t.out }) ∧
  (∀ (s : State) (p : Fin 96) (v : Nat), natBits v 3 0 ≤ 6 → s.modeErr p v = 0 →
    (natBits v 3 0 = 6 → p.val % 2 = 0 ∧ s.mode (p.val + 1) = 0) ∧
    (p.val % 2 = 1 → s.mode (p.val - 1) = 6 → natBits v 3 0 = 0))

/-- R37: verification. While a port verifies, at most three verify mPackets are sent, a respond mPacket makes preemption active
and raises MM_VERIFY_OK, and three unanswered ones end in failure with MM_VERIFY_FAIL. R40: reassembly. On an UP port a good
first fragment begins a frame, good fragments in sequence extend it and the last one ends it; a wrong count or a bad mCRC
discards the whole frame. R30, R192: errored blocks and FEC outcomes count in their own statistics while the port has a link;
the spoil marker moves the bad frame before it from RX_FCS_ERR to RX_STOMPED. -/
def Obligations.MacMergeAndLineErrorsComplete : Prop :=
  (∀ (s : State) (p : Fin 96), s.link p = 3 →
    s.fld (F.PORT_STATUS.MM_STATE p) = 1 →
    ((s.port p).verifySent < 3 →
      ∃ t, exec (.verifyMpacketSend p) s = .next t ∧ t.out = s.out ++ [.mpacket p false] ∧
        (t.port p).verifySent = (s.port p).verifySent + 1 ∧ t.regs = s.regs) ∧
    ((s.port p).verifySent = 3 → exec (.verifyMpacketSend p) s = .next s) ∧
    (∃ t, exec (.respondMpacketReceive p) s = .next t ∧ t.preemption p = true ∧
      natBit (t.reg (R.PORT_EVENT p)).toNat 4 = true) ∧
    ((s.port p).verifySent = 3 →
      ∃ t, exec (.mmVerifyFail p) s = .next t ∧ t.fld (F.PORT_STATUS.MM_STATE p) = 3 ∧ t.preemption p = false ∧
        natBit (t.reg (R.PORT_EVENT p)).toNat 5 = true)) ∧
  (∀ (s : State) (p : Fin 96) (f : Fragment), s.txUp p = true →
    (f.kind = .first → f.mcrcOk = true → (s.port p).assembly = none →
      ∃ t, exec (.mmFragmentReceive p f) s = .next t ∧ (t.port p).assembly = some ⟨f.data, 0⟩) ∧
    (∀ a, f.kind = .middle false → f.mcrcOk = true → (s.port p).assembly = some a → f.count.val = a.next →
      ∃ t, exec (.mmFragmentReceive p f) s = .next t ∧
        (t.port p).assembly = some ⟨a.bytes ++ f.data, (a.next + 1) % 4⟩) ∧
    (∀ a, f.kind = .middle true → (s.port p).assembly = some a → f.count.val = a.next →
      ∃ t, exec (.mmFragmentReceive p f) s = .next t ∧ (t.port p).assembly = none)) ∧
  (∀ (s : State) (p : Fin 96),
    (s.link p ≠ 0 → ∃ t, exec (.erroredBlockReceive p .block) s = .next t ∧ t = s.stat p 23 ∧
      Tbl.atN t.perf.stat (64 * p + 23) = (Tbl.atN s.perf.stat (64 * p + 23) + 1) % 2 ^ 40) ∧
    (∀ id, (s.port p).badFcs = some id → s.frame? id = none → 0 < Tbl.atN s.perf.stat (64 * p + 16) →
      ∃ t, exec (.spoilMarkerReceive p) s = .next t ∧ (t.port p).badFcs = none ∧
        Tbl.atN t.perf.stat (64 * p + 16) = Tbl.atN s.perf.stat (64 * p + 16) - 1 ∧
        Tbl.atN t.perf.stat (64 * p + 22) = (Tbl.atN s.perf.stat (64 * p + 22) + 1) % 2 ^ 40))

/-- R41 to R45: low-power idle. A transmitter with nothing to send sleeps when its list keeps every gate closed long enough, or,
without a list, when its idle time has run; a wake begun from sleep ends Tw later; received LPI changes the receive bit alone.
R44: a new TW_REQ written in RUN is stored at once; it is applied, reported in TW_APPLIED and raised as an event at the write on
a port without a gate list, and at the gate-cycle boundary (TW_APPLY) on a port with one. -/
def Obligations.LowPowerIdleCompletes : Prop :=
  (∀ (s : State) (p : Fin 96),
    (s.mayLpi p = true → s.listRuns p = true → s.closedLong p = true →
      ∃ t, exec (.lpiEnter p) s = .next t ∧ t.fld (F.PORT_STATUS.LPI_TX p) = 1 ∧ (t.port p).twSleep = s.wakeNs p) ∧
    (s.mayLpi p = true → s.listRuns p = false →
      ∃ t, exec (.lpiIdleExpiry p) s = .next t ∧ t.fld (F.PORT_STATUS.LPI_TX p) = 1 ∧ (t.port p).twSleep = s.wakeNs p) ∧
    (s.fld (F.PORT_STATUS.LPI_TX p) = 1 → (s.port p).wakeEnd = none →
      ∃ t, exec (.lpiWake p) s = .next t ∧ (t.port p).wakeEnd = some (s.cyc + ((s.port p).twSleep * 3 + 1) / 2) ∧
        t.fld (F.PORT_STATUS.LPI_TX p) = 1) ∧
    (s.on (F.PORT_EEE_CFG.EEE_EN p) = true → s.link p = 3 → s.fld (F.PORT_STATUS.LPI_RX p) = 0 →
      ∃ t, exec (.rxLpiEntry p) s = .next t ∧ t.fld (F.PORT_STATUS.LPI_RX p) = 1 ∧ t.fld (F.PORT_STATUS.LPI_TX p) = s.fld (F.PORT_STATUS.LPI_TX p)) ∧
    (∃ t, exec (.rxLpiExit p) s = .next t ∧ t.fld (F.PORT_STATUS.LPI_RX p) = 0 ∧ t.fld (F.PORT_STATUS.LPI_TX p) = s.fld (F.PORT_STATUS.LPI_TX p))) ∧
  (∀ (s : State) (p : Fin 96) (v : Word), s.op = .run →
    (∃ t, exec (.twReqWrite p v) s = .next t ∧ (s.listRuns p = false →
      (t.port p).tw = natBits v.toNat 15 0 ∧
      ((s.port p).tw ≠ natBits v.toNat 15 0 → natBit (t.reg (R.PORT_EVENT p)).toNat 9 = true))) ∧
    (∃ t, exec (.twApply p) s = .next t ∧ (t.port p).tw = s.fld (F.PORT_EEE_CFG.TW_REQ p)))

/-- R45: received LPI. With EEE_EN set an UP port in any lane mode accepts it, and without it ignores it; its start and end
change the receive bit and what counts it, and leave the transmit side and scheduling as they are. -/
def Obligations.ReceivedLpiLeavesTransmitAlone : Prop := ∀ (s : State) (p : Fin 96),
  (s.on (F.PORT_EEE_CFG.EEE_EN p) = true → s.link p = 3 →
    ∃ t : State, exec (.rxLpiEntry p) s = .next t ∧ t.fld (F.PORT_STATUS.LPI_RX p) = 1 ∧
      t.fld (F.PORT_STATUS.LPI_TX p) = s.fld (F.PORT_STATUS.LPI_TX p) ∧ t.link p = s.link p ∧ t.sched = s.sched ∧ t.path = s.path ∧
      t.ports = s.ports ∧ t.ctx = s.ctx ∧ t.time = s.time ∧ t.now = s.now) ∧
  (s.on (F.PORT_EEE_CFG.EEE_EN p) = false → exec (.rxLpiEntry p) s = .next s) ∧
  (∃ t : State, exec (.rxLpiExit p) s = .next t ∧ t.fld (F.PORT_STATUS.LPI_RX p) = 0 ∧ t = { s with regs := t.regs } ∧
    t.fld (F.PORT_STATUS.LPI_TX p) = s.fld (F.PORT_STATUS.LPI_TX p) ∧ ∀ a, a ≠ R.PORT_STATUS p → t.reg a = s.reg a)

/-- R10, R11: the steering crossbar. A port is served by the slice of its group unless that group is carried, and then by the
float slice S12, which serves no port of its own; the eight ports of a group, and so both lanes of a bonded port, go together;
no slice serves more than eight ports; at power-on every group is served by its own slice. -/
def Obligations.SteeringMovesWholeGroups : Prop :=
  (∀ (s : State) (p : Nat), p < 96 → s.portSlice p = (if s.carried = p / 8 then 12 else p / 8) ∧ (s.portSlice p = 12 ↔ s.carried = p / 8)) ∧
  (∀ (s : State) (p q : Nat), p / 8 = q / 8 → s.portSlice p = s.portSlice q) ∧
  (∀ (s : State) (k : Nat), k < 48 → s.portSlice (2 * k) = s.portSlice (2 * k + 1)) ∧
  (∀ (s : State) (sl : Nat), ((List.range 96).filter (fun p => s.portSlice p == sl)).length ≤ 8) ∧
  (∀ p, p < 96 → State.reset.portSlice p = p / 8)

/-! ### The path of a frame (spec/01_architecture.md, spec/03_forwarding.md, spec/04_macsec.md, spec/08_wet_edge.md, spec/10_time_and_gates.md) -/

/-- R102: on an UP port whose slice is not in reset, the head of a frame whose number is new counts in the port's event 0 to 7
of its slice, joins the frames of the device with its ingress timestamp, and is parsed, classified and checked; in a slice reset
it counts in SLICE_RST_DROP alone. Table 4.6, R102: the checks of a frame on a CIPHER port before its context is known, in their
order: an invalid SECY or a frame without a SecTAG counts in statistic 54, a bad SecTAG in 55, an unknown SCI in 56 or 57; none
changes the state. -/
def Obligations.FrameHeadCompletes : Prop :=
  (∀ (s : State) (h : RxHead), s.txUp h.port = true →
    (s.frame? h.id = none → s.sliceResets h.port = false →
      ∃ f t, f = FrameRec.new h.id h.port h.bytes h.express (s.now - s.inDelay h.port) ∧
        t = ((s.count (128 * s.portSlice h.port + h.port % 8)).addFrame f).head f ∧
        exec (.frameHeadReceive h) s = .next (t.1.setFrame t.2)) ∧
    (s.frame? h.id = none → s.sliceResets h.port = true → exec (.frameHeadReceive h) s = .next (s.blk (192 + h.port.val / 8)))) ∧
  (∀ (s : State) (f : FrameRec),
    (s.on (F.SECY_CFG.SECY_EN f.port) = false → s.macHead f = (s, { f with drop := some (.stat f.port 54) })) ∧
    (s.on (F.SECY_CFG.SECY_EN f.port) = true → secTagAfter (s.fld (F.SECY_CFG.TAGS_IN_CLEAR f.port)) f.bytes = none →
      s.macHead f = (s, { f with drop := some (.stat f.port 54) })) ∧
    (∀ o, s.on (F.SECY_CFG.SECY_EN f.port) = true → secTagAfter (s.fld (F.SECY_CFG.TAGS_IN_CLEAR f.port)) f.bytes = some o →
      (secTagAt f.bytes o).ok f.bytes.length (s.fld (F.SECY_CFG.CS f.port)) = false →
      s.macHead f = (s, { f with drop := some (.stat f.port 55) })) ∧
    (∀ o, s.on (F.SECY_CFG.SECY_EN f.port) = true → secTagAfter (s.fld (F.SECY_CFG.TAGS_IN_CLEAR f.port)) f.bytes = some o →
      (secTagAt f.bytes o).ok f.bytes.length (s.fld (F.SECY_CFG.CS f.port)) = true →
      (s.resolveSci f.port f.bytes (secTagAt f.bytes o)).bind (fun x => s.scmFind x f.port) = none →
      s.macHead f = (s, { f with drop := some (.stat f.port (if (secTagAt f.bytes o).sci.isSome then 56 else 57)) })))

/-- R65, R184, R185, R145, R206: what follows the head. A keyed frame becomes wet once and stays among the frames with its bytes
and guard; a lookup ends once; the end of reception joins a wet frame, and spoils or sets a clear one; a verdict is formed once,
from the check and the end; a fetched context and an unwrapped key let their frames go on. -/
def Obligations.ReceivePathCompletes : Prop := ∀ (s : State) (id : Nat) (f : FrameRec), s.frame? id = some f →
  (f.guard ≠ .clear → f.drop = none → f.wet = false → f.waitCtx = none → f.waitKey = none → f.verdict = none →
    ∃ t g, exec (.frameWet id) s = .next t ∧ t.frame? id = some g ∧ g.wet = true ∧ g.guard = f.guard ∧ g.bytes = f.bytes ∧
      g.ended = f.ended) ∧
  (f.looked = false → f.verdict ≠ some 0 →
    ∃ t g, (t, g) = (s.count (128 * s.inSlice f.port + 40)).decide_ { f with looked := true } ∧
      exec (.forwardingLookupDone id) s = .next (t.setFrame g) ∧ g.looked = true) ∧
  (∀ e, f.ended = none → f.drop = none → f.uncontrolled = false → f.guard ≠ .clear → f.wet = true → f.plain.length + 4 ≤ 9216 →
    exec (.frameEndReceive id e) s =
      .next ((s.noteBad f (s.endStatus f e)).setFrame { f with ended := some (s.endStatus f e) })) ∧
  (∀ e, f.ended = none → f.drop = none → f.uncontrolled = false → f.guard = .clear → f.waitCtx = none → f.waitKey = none →
    s.endStatus f e ≠ 0 →
    exec (.frameEndReceive id e) s = .next (((s.noteBad f (s.endStatus f e)).setFrame { f with ended := some (s.endStatus f e) }).spoilFrame
      { f with ended := some (s.endStatus f e) } 2 .quiet)) ∧
  (f.wet = true → f.verdict = none → f.ended.isSome = true → f.plain.length + 4 ≤ 9216 →
    (s.extra (s.inSlice f.port)).contains (.frame id) = false →
    (∀ r t, s.verdictOf f = some (r, t) → exec (.frameVerdict id) s = .next (s.spoilFrame f r t)) ∧
    (s.verdictOf f = none → f.looked = true → exec (.frameVerdict id) s = .next (s.setFrameDone f))) ∧
  (∀ (g : Fin 12) (n : Fin 262144) x, (s.fetches g).find? (fun x => x.ctx == n.val) = some x →
    ctxGroup ((s.setFetches g ((s.fetches g).filter (fun y => y.ctx != n.val))).ctxAt n) = some g.val →
    exec (.contextFetchDone g n true) s =
      .next ((((s.setFetches g ((s.fetches g).filter (fun y => y.ctx != n.val))).ctxPlace g n).each x.frames
        (fun id t => t.resume id (fun u f m => u.useCtx f m))).wakeCopies g)) ∧
  (∀ (k : Fin 262144) u v, s.key.unwraps.find? (fun u => u.slot == k.val) = some u →
    (s.setKey { s.key with unwraps := s.key.unwraps.filter (fun v => v.slot != k.val) }).slotPlace k = some v →
    exec (.keyUnwrapDone k true) s =
      .next ((v.each u.frames (fun id t => t.resume id (fun v f n => v.useCtx f n))).each (List.range 12) (fun g t => t.wakeCopies g)))

/-- R185, Table 8.4: the verdict of a keyed frame: a failure of the line first, then reassembly, then a failed core, then a
quarantined context, then the tag, then what the use of the association and the replay window say. -/
def Obligations.VerdictOrder : Prop := ∀ (s : State) (f : FrameRec) (n pn : Nat) (enc : Bool), f.guard = .macsec n pn enc →
  (f.ended ≠ some 0 → s.verdictOf f = some (2, .quiet)) ∧
  (f.ended = some 0 → f.asm ≠ 0 → s.verdictOf f = some (3, .stat f.port f.asm)) ∧
  (f.ended = some 0 → f.asm = 0 → f.fault = true → s.verdictOf f = some (5, .quiet)) ∧
  (f.ended = some 0 → f.asm = 0 → f.fault = false → f.lost = true → s.verdictOf f = some (6, .blk (sliceCtr (s.inSlice f.port) 2))) ∧
  (f.ended = some 0 → f.asm = 0 → f.fault = false → f.lost = false → (isF (s.ctxAt n) C.valid && ctxQuar (s.ctxAt n)) = false →
    (f.tagOk = false → s.verdictOf f = some (1, .ctx n 4)) ∧
    (f.tagOk = true → saInUse (s.ctxAt n) f.port = false → s.verdictOf f = some (4, .ctx n 5)) ∧
    (f.tagOk = true → saInUse (s.ctxAt n) f.port = true →
      ((s.replayView n).row pn = .late → s.verdictOf f = some (4, .ctx n 2)) ∧
      ((s.replayView n).row pn = .duplicate → s.verdictOf f = some (4, .ctx n 3)) ∧
      ((s.replayView n).row pn = .ok ∨ (s.replayView n).row pn = .delayed → s.verdictOf f = none)))

/-- R39, R173, R190, R244, R251 to R253, R259, R364: the transmit side. A start at least the encapsulation time ahead is
committed; an idle line takes the copy that selection picks; at its reserved start a present copy leaves; a tail is decided
once; the end of a fragment leaves the rest waiting, the end of a frame an idle line; extra work and deep-buffer reads end for
the first that waits. -/
def Obligations.TransmitCompletes : Prop := ∀ (s : State) (p : Fin 96),
  (∀ start g, s.now + s.encap p ≤ start → (s.sch p).startAt start = some g →
    ∃ t, exec (.txCommit p start) s = .next t ∧ (t.sch p).startAt start = some { g with committed := true }) ∧
  (∀ s0 k c f e, s.fwdUp p = true →
    s0 = (s.credits p).each [7, 6, 5, 4, 3, 2, 1, 0] (fun k t => t.dropNeverFit p k ((t.queue p k).length)) →
    (s0.line p).now = none → (s0.sch p).starts = [] → s0.on (F.SCHED_CFG.LOOKAHEAD_EN p) = false →
    s0.pick p (s0.now + s0.encap p) none false = some (k, some c, f, e) → (s0.unqueue p k c).tsa p k ≠ 2 →
    exec (.transmitStart p) s = .next ((s0.unqueue p k c).startCopy p k c (s0.now + s0.encap p) f.part e false)) ∧
  (∀ (ct : Fin 16384) m k c, s.dueStart p ct = some m → k < 8 →
    (∀ j, j < k → (s.queue p j).find? (fun d => d.start == some m && d.contract == some ct.val) = none) →
    (s.queue p k).find? (fun d => d.start == some m && d.contract == some ct.val) = some c →
    s.fwdUp p = true → c.ready = true → c.waitCtx = false → c.waitExtra = false → c.deep = false → (s.line p).now = none →
    exec (.reservedStart p ct) s =
      .next (((s.unqueue p k c).dropStart p m).startCopy p k c (s.now + s.encap p) none (s.fitEnd p k m (some m)) true)) ∧
  (∀ id x, (s.line p).now = some x → x.copy.frame = some id → x.copy.cut = true → x.tail = none → x.final = true →
    (x.copy.wet = true ∨ ((s.frame? id).bind (·.verdict)).isSome = true) →
    ∃ t, exec (.tailRelease id p) s = .next t ∧ (t.line p).now = some { x with tail := (s.tailOf p x).2 }) ∧
  (∀ x, (s.line p).now = some x → x.final = false →
    ∃ t, exec (.txEnd p) s = .next t ∧ (t.line p).now = none ∧ (t.line p).rest = some { x with sent := x.sent + x.part }) ∧
  (∀ (sl : Fin 13) x rest, s.extra sl = x :: rest → ∃ t, exec (.extraWorkDone sl) s = .next t ∧ t.extra sl = rest) ∧
  (∀ (k : Fin 8) c, (s.queue p k).find? (·.deep) = some c →
    ∃ t, exec (.dbfReadDone p k true) s = .next t ∧
      t.queue p k = (s.queue p k).map (fun d => if d.no = c.no then { d with deep := false, ready := true } else d))

/-! ### Gates and time (spec/10_time_and_gates.md) -/

/-- R155, R156, R248, R249, R251: the entries of a list as they execute. The cycle that holds this instant begins at entry 0; a
gate entry sets the gates for its interval, and a hold or release entry the hold; a KeyFlip entry fires an armed set that is
due; a reserve entry reserves a start at its instant for an accepted contract. -/
def Obligations.GateEntriesComplete : Prop := ∀ (s : State) (p : Fin 96) (e : BitVec 64),
  (s.listRuns p = true → (s.operBank p).base ≤ s.now → (s.operBank p).cycle ≠ 0 →
    s.cycleBegun p ((s.operBank p).cycleAt s.now) = true →
    ∃ t, exec (.gateCycleStart p) s = .next t ∧ (t.sch p).cycleStart = (s.operBank p).cycleAt s.now ∧ (t.sch p).idx = 0 ∧
      (t.sch p).nextAt = (s.operBank p).cycleAt s.now) ∧
  (s.dueEntry p 0 = some e →
    ∃ t, exec (.gateSetGates p) s = .next t ∧ (t.sch p).gates = some (getF e G.gates) ∧ (t.sch p).hold = (s.sch p).hold ∧
      (t.sch p).idx = (s.sch p).idx + 1 ∧ (getF e G.op ≤ 2 → (t.sch p).nextAt = (s.sch p).nextAt + getF e G.interval)) ∧
  (s.dueEntry p 1 = some e → s.preemption p = false →
    ∃ t, exec (.gateSetHold p) s = .next t ∧ (t.sch p).gates = some (getF e G.gates) ∧ (t.sch p).hold = true) ∧
  (s.dueEntry p 2 = some e →
    ∃ t, exec (.gateSetRelease p) s = .next t ∧ (t.sch p).gates = some (getF e G.gates) ∧ (t.sch p).hold = false) ∧
  (s.dueEntry p 3 = some e → (s.flip (getF e G.flip)).state = 1 → (s.flip (getF e G.flip)).armedLate = false →
    (s.flip (getF e G.flip)).notBefore.1 * 1000000000 + (s.flip (getF e G.flip)).notBefore.2 ≤ (s.sch p).nextAt →
    ∃ t, exec (.gateKeyflip p) s = .next t ∧ (t.flip (getF e G.flip)).state = 2) ∧
  (s.dueEntry p 4 = some e → s.accepted (getF e G.arg) = true → s.now ≤ (s.sch p).nextAt - s.encap p →
    (s.sch p).startAt (s.sch p).nextAt = none →
    ∃ t, exec (.gateReserve p) s = .next t ∧
      (t.sch p).startAt (s.sch p).nextAt = some ⟨(s.sch p).nextAt, some (getF e G.arg), none, false, 0⟩)

/-- R247, R250 and Tables 10.4, 16.7: the gate-list commands. Entries and parameters go to the administrative bank only, reads
return the bank asked for, and a change that no check refuses is scheduled with its time returned. R250: at the change time the
administrative bank becomes operational: OPER_BANK changes over, OPER_VALID is 1, and the change is no longer pending. -/
def Obligations.GateCommandsComplete : Prop :=
  (∀ (s : State) (n : Fin 64) (c : RingCmd) (p : Nat), c.served n s → gclPort c = some p →
    (∀ i k bs, gclRange c = some (i, k) → (s.sch p).change = none → c.bufIn = some bs →
      ((List.range k).map (fun j => BitVec.ofNat 64 (leAt bs (8 * j) 8))).all gclEntryOk = true →
      ∃ t, exec (.gclWrite c) s = .next t ∧ t.operBank p = s.operBank p ∧
        ∀ j, j < k → Tbl.at0 (t.adminBank p).entries (i + j) = BitVec.ofNat 64 (leAt bs (8 * j) 8)) ∧
    (∀ i k, gclRange c = some (i, k) →
      ∃ t, exec (.gclRead c) s = .next t ∧ s.Reported t ∧
        Out.hostWrite c.buf.toNat ((List.range k).flatMap (fun j =>
          leBytes 8 (Tbl.at0 (if c.a0 8 8 = 0 then s.operBank p else s.adminBank p).entries (i + j)).toNat)) ∈ t.out) ∧
    (leAt c.cont 6 4 < 1000000000 → 1000 ≤ leAt c.cont 10 4 → leAt c.cont 10 4 ≤ 1000000000 → leAt c.cont 14 4 ≤ leAt c.cont 10 4 →
      1 ≤ leAt c.cont 18 2 → leAt c.cont 18 2 ≤ 1024 → (s.sch p).change = none →
      ∃ t, exec (.gclParams c) s = .next t ∧ t.operBank p = s.operBank p ∧ (t.adminBank p).base = instantOf c.cont ∧
        (t.adminBank p).cycle = leAt c.cont 10 4 ∧ (t.adminBank p).ext = leAt c.cont 14 4 ∧ (t.adminBank p).length = leAt c.cont 18 2) ∧
    (∀ at_, (s.sch p).change = none → s.gateEn p = true → (s.adminBank p).length ≠ 0 →
      (s.adminBank p).list.all gclIntervalOk = true → s.changeTime p (s.adminBank p) true = some at_ →
      s.breaks p (s.adminBank p) = none →
      exec (.gclChange c) s = .next ((s.schedule p at_).finish n 3 3 c { conts := padTo 32 (instantBytes at_) })) ∧
    ((s.sch p).change.isSome = true →
      exec (.gclCancel c) s = .next ((((s.setSch p { s.sch p with change := none }).put (F.SCHED_STATUS.PENDING p) 0).reassign p).finish
        n 3 4 c {})) ∧
    (∃ t, exec (.gclStatus c) s = .next t ∧ s.Reported t)) ∧
  (∀ (s : State) (p : Fin 96) (c : Nat), (s.sch p).change = some c → c ≤ s.now →
    exec (.gclConfigChange p) s = .next (s.swapBanks p c))

/-- R231, R232: the working clock under host control, where registers are open. TIME_SET loads the instant of the registers and
clears the fraction, TIME_STEP moves the clock by the signed step and keeps the fraction, and TIME_SNAP records the instant.
R230, R233: the rate and the sources. A rate within range is stored while the source is HOST and any other is refused with
TIME_EVENT bit 4; an adjustment from the PPS source judges the offset for LOCKED and then sets the rate; a calibrated UP port
says so. -/
def Obligations.ClockCommandsComplete : Prop :=
  (∀ (s : State), s.regsOpen = true → s.sec < 2 ^ 48 → s.ns < 1000000000 →
    (s.clockSrc = 6 → s.fld F.TIME_SET_NS.NS < 1000000000 →
      ∃ t, exec .timeSet s = .next t ∧ t.sec = s.fld F.TIME_SET_SEC_HI.SEC * 2 ^ 32 + s.fld F.TIME_SET_SEC_LO.SEC ∧
        t.ns = s.fld F.TIME_SET_NS.NS ∧ t.frac = 0) ∧
    (∀ m : Nat, s.clockSrc = 6 → (m : Int) = (s.now : Int) + signed 32 (s.fld F.TIME_STEP.STEP) → m < 2 ^ 48 * 1000000000 →
      ∃ t, exec .timeStep s = .next t ∧ t.now = m ∧ t.ns < 1000000000 ∧ t.frac = s.frac) ∧
    (∃ t, exec .timeSnap s = .next t ∧ t.fld F.TIME_SNAP_SEC_HI.SEC * 2 ^ 32 + t.fld F.TIME_SNAP_SEC_LO.SEC = s.sec ∧
      t.fld F.TIME_SNAP_NS.NS = s.ns ∧ t.now = s.now)) ∧
  (∀ (s : State) (v : Word),
    (s.regsOpen = true → s.clockSrc = 6 → (signed 32 v.toNat).natAbs ≤ 128000000 →
      ∃ t, exec (.timeRateWrite v) s = .next t ∧ t.reg R.TIME_RATE = v ∧ ∀ a, a ≠ R.TIME_RATE → t.reg a = s.reg a) ∧
    (s.regsOpen = true → s.clockSrc = 6 → 128000000 < (signed 32 v.toNat).natAbs →
      ∃ t, exec (.timeRateWrite v) s = .next t ∧ t.reg R.TIME_RATE = s.reg R.TIME_RATE ∧ natBit (t.reg R.TIME_EVENT).toNat 4 = true) ∧
    (∀ a, s.clockSrc = 4 → a.rate = some v → (signed 32 v.toNat).natAbs ≤ 128000000 →
      ∃ t, exec (.clockSourceAdjust a) s = .next t ∧ t = (s.lockUpdate a.offset).setReg R.TIME_RATE v ∧
        (1000 < a.offset.natAbs → t.on F.TIME_STATUS.LOCKED = false)) ∧
    (∀ p : Fin 96, s.link p = 3 →
      ∃ t, exec (.tsCalDone p) s = .next t ∧ natBit (t.reg (R.TS_CAL_OK (p.val / 32))).toNat (p.val % 32) = true))

/-- R240 to R242: the PPS and time-of-day lines. An input edge is stamped, its loss ends a lock that rests on it; the output
rises only when it may and falls after it rose; a message is sent for the second last marked; a good received message within 500
ms of an edge labels it, and any other is counted. -/
def Obligations.PulseAndTimeOfDayComplete : Prop := ∀ (s : State), s.ns < 1000000000 →
  (∃ t, exec .ppsInEdge s = .next t ∧ t.time.edge = some s.now ∧ t.time.label = none ∧ t.fld F.PPS_IN_NS.NS = s.ns ∧
    t.fld F.PPS_IN_SEC_LO.SEC = s.sec % 2 ^ 32) ∧
  (∃ t, exec .ppsInLoss s = .next t ∧ t.time.edge = none ∧ (s.clockSrc = 4 → t.on F.TIME_STATUS.LOCKED = false)) ∧
  (s.on F.PPS_CFG.PPS_OUT_EN = true → s.on F.TIME_STATUS.LOCKED = true ∨ s.on F.PPS_CFG.PPS_FREE = true → s.time.pps = false →
    ∃ t, exec .ppsOutRise s = .next t ∧ t.time.pps = true ∧ t.time.rise = some s.now ∧ t.out = s.out ++ [.pps true]) ∧
  (s.time.pps = true → ∃ t, exec .ppsOutFall s = .next t ∧ t.time.pps = false ∧ t.out = s.out ++ [.pps false]) ∧
  (∀ r, s.time.rise = some r → s.on F.TOD_CFG.TOD_OUT_EN = true →
    ∃ t m, exec .todOutSend s = .next t ∧ t.out = s.out ++ [.tod m] ∧ m.length = 18 ∧ beAt m 0 2 = 0x5854 ∧
      (s.markedSecond r < 2 ^ 48 → beAt m 4 6 = s.markedSecond r) ∧ beAt m 16 2 = crc16 (m.take 16)) ∧
  (∀ m e, s.on F.TOD_CFG.TOD_IN_EN = true → s.time.edge = some e → m.length = 18 → beAt m 0 2 = 0x5854 →
    beAt m 16 2 = crc16 (m.take 16) → s.now ≤ e + 500000000 →
    ∃ t, exec (.todInReceive m) s = .next t ∧ t.time.label = some (beAt m 4 6) ∧ t.regs = s.regs) ∧
  (∀ m, s.on F.TOD_CFG.TOD_IN_EN = true → s.time.edge = none →
    ∃ t, exec (.todInReceive m) s = .next t ∧ t.time = s.time ∧ natBit (t.reg R.TIME_EVENT).toNat 3 = true)

/-- R234, R239, Table 16.7: PTP data sets and the table of residences. A GET of a supported member returns it and a SET stores
it so that a later read finds it, any other member is NOT_FOUND; an expired entry leaves its port's table. -/
def Obligations.PtpTablesComplete : Prop := ∀ (s : State) (n : Fin 64) (c : RingCmd), c.served n s →
  (∀ i p m, ptpArg c = some (i, p, m) →
    exec (.ptpGet c) s = .next (s.finish n 10 0 c (if Config.ptpSupported m then
      { conts := Tbl.getD (fun _ => Config.ptpMember i p m) s.time.members (ptpKey i p m) } else { code := 1 }))) ∧
  (∀ i p m, ptpArg c = some (i, p, m) →
    ∃ t, exec (.ptpSet c) s = .next t ∧
      (Config.ptpSupported m = true → t.time.members = Tbl.insert s.time.members (ptpKey i p m) c.cont) ∧
      (Config.ptpSupported m = false → t.time = s.time)) ∧
  (∀ (p : Fin 96) (k : Fin 64), ∃ t, exec (.ptpTcEntryExpire p k) s = .next t ∧
    Tbl.getD (fun _ => ([] : List Residence)) t.time.pendingRes p =
      (Tbl.getD (fun _ => ([] : List Residence)) s.time.pendingRes p).eraseIdx k)

/-! ### Tables (spec/03_forwarding.md, spec/05_substation_profiles.md, spec/10_time_and_gates.md) -/

/-- R79, R66, R118, Tables 3.10 and 3.11: the table commands of group 0 that pass their checks. READ_POS and SEARCH return entry
and position; INSERT, UPDATE and WRITE_POS write the entry with the fields the host owns, DELETE removes it, FLUSH every entry
that matches and is not referenced; each completes with the position in RESULT0. -/
def Obligations.TableCommandsComplete : Prop := ∀ (s u : State) (n : Fin 64) (c : RingCmd), c.served n s → u = s.count 0x6A8 →
  (c.a0 16 0 < tableSize (c.a0 22 20) →
    exec (.readPos c) s = .next (u.finish n 0 0 c { r0 := c.a0 16 0, conts := u.entryBytes (c.a0 22 20) (c.a0 16 0) })) ∧
  (∀ p, c.a0 22 20 < 2 → u.keyPos (c.a0 22 20) c.cont = some p →
    exec (.search c) s = .next (u.finish n 0 1 c { r0 := p, conts := u.entryBytes (c.a0 22 20) p })) ∧
  (∀ t p, c.a0 22 20 = 0 → s.cls.move = none → fdbOk (leAt c.cont 0 16) = true → u.keyPos 0 c.cont = none →
    u.fdbInsert (fdbMerge (leAt c.cont 0 16) 0) = (t, some p) →
    exec (.insert c) s =
      .next ((if isF (fdbMerge (leAt c.cont 0 16) 0) E.fdbStatic then t else t.logAt 7 p).finish n 0 2 c { r0 := p })) ∧
  (∀ p, c.a0 22 20 = 1 → sidOk (leAt c.cont 0 64) = true → u.keyPos 1 c.cont = none →
    (u.sidSlots (natBits (leAt c.cont 0 64) 479 0)).find? (fun p => !isF (Tbl.at0 u.cls.sid p) E.sidValid) = some p →
    exec (.insert c) s =
      .next ((u.setCls { u.cls with sid := Tbl.set0 u.cls.sid p (sidEntry (leAt c.cont 0 64)) }).finish n 0 2 c { r0 := p })) ∧
  (∀ p, c.a0 22 20 = 1 → sidOk (leAt c.cont 0 64) = true → u.keyPos 1 c.cont = some p →
    exec (.update c) s =
      .next ((u.setCls { u.cls with sid := Tbl.set0 u.cls.sid p (sidEntry (leAt c.cont 0 64)) }).finish n 0 3 c { r0 := p })) ∧
  (∀ p, c.a0 22 20 = 0 → u.keyPos 0 c.cont = some p → isF (Tbl.at0 u.cls.fdb p) E.fdbCref = false →
    exec (.delete c) s = .next ((u.fdbRemove p 5).finish n 0 4 c { r0 := p })) ∧
  (c.a0 22 20 = 0 → exec (.flush c) s = .next ((u.fdbFlush 4 (flushHits (leAt c.cont 0 4))).finish n 0 5 c {})) ∧
  (c.a0 22 20 = 3 → c.a0 16 0 < 4096 →
    ∃ t, exec (.writePos c) s = .next (t.finish n 0 6 c { r0 := c.a0 16 0 }) ∧
      t = u.setCls { u.cls with vlan := Tbl.set0 u.cls.vlan (c.a0 16 0) (putF (BitVec.ofNat 256 (leAt c.cont 0 32)) ⟨253, 204⟩ 0) })

/-- R64, R66: an entry inserted at a free place is found there by its key, in every replica, with its hit bits set when dynamic.
-/
def Obligations.InsertedEntryIsFound : Prop := ∀ (s : State) (e : BitVec 128) (p : Nat),
  isF e E.fdbValid = true → s.fdbFind (getF e E.fdbKey) = none → s.placeOf (getF e E.fdbKey) = .free p →
  (s.fdbInsert e).2 = some p ∧ (s.fdbInsert e).1.fdbFind (getF e E.fdbKey) = some p ∧
  (∀ q, q ≠ p → Tbl.at0 (s.fdbInsert e).1.cls.fdb q = Tbl.at0 s.cls.fdb q) ∧
  Tbl.atN (s.fdbInsert e).1.cls.hits p = (if isF e E.fdbStatic then 0 else s.powered)

/-- R67, R69 to R74: the engines of the forwarding table. The move register clears and a waiting insertion proceeds; a learn
request inserts a dynamic entry or moves a station; the sweeper clears the hit bits of a used entry, marks an idle one stale and
removes a stale one. R82 to R84: a pass finds the differences between the tables and the shadows while BGC_EN is 1; a difference
found again is counted and posted once, and repaired while REPAIR_EN is 1. -/
def Obligations.LearnAgeAndCompareComplete : Prop :=
  (∀ (s : State),
    (s.cls.waiting = [] → ∃ t, exec .moveRegisterClear s = .next t ∧ t = s.setCls { s.cls with move := none }) ∧
    (∀ r rest p u v, s.cls.learnQ = r :: rest → u = (s.setCls { s.cls with learnQ := rest }).count 0x6A8 →
      u.fdbFind (fdbKeyOf r.fid r.mac) = none → u.placeOf (fdbKeyOf r.fid r.mac) = .free p → u.fdbInsert (learned r) = (v, some p) →
      getF (learned r) E.fdbKey = fdbKeyOf r.fid r.mac →
      exec .learnQueueServe s = .next ((v.logAt 1 p).blk ClsCtr.learnNew.idx)) ∧
    (∀ pos : Fin 65568, s.on F.AGE_CFG.AGE_EN = true → isF (s.fdbAt pos) E.fdbValid = true → isF (s.fdbAt pos) E.fdbStatic = false →
      pos.val < 65536 →
      (isF (s.fdbAt pos) E.fdbHit = true → ∃ t, exec (.ageSweepVisit pos) s = .next t ∧ Tbl.atN t.cls.hits pos = 0 ∧
        getF (Tbl.at0 t.cls.fdb pos) E.fdbStale = 0) ∧
      (isF (s.fdbAt pos) E.fdbHit = false → isF (s.fdbAt pos) E.fdbStale = false →
        ∃ t, exec (.ageSweepVisit pos) s = .next t ∧ getF (Tbl.at0 t.cls.fdb pos) E.fdbStale = 1 ∧ t.regs = s.regs) ∧
      (isF (s.fdbAt pos) E.fdbHit = false → isF (s.fdbAt pos) E.fdbStale = true →
        ∃ t, exec (.ageSweepVisit pos) s = .next t ∧ Tbl.at0 t.cls.fdb pos = 0 ∧ ∀ q, q ≠ pos.val → Tbl.at0 t.cls.fdb q = Tbl.at0 s.cls.fdb q))) ∧
  (∀ (s : State) (b : BgcShadow),
    (s.on F.BGC_CFG.BGC_EN = true → ∃ t, exec (.bgcPass b) s = .next t ∧ t.cls.bgcOpen = s.bgcDiffs b ∧ t.cls.fdb = s.cls.fdb) ∧
    (exec (.bgcConfirm b) s = .next ((s.setCls { s.cls with bgcOpen := [] }).each (s.cls.bgcOpen.filter (s.bgcDiffs b).contains)
      (fun d t => if (t.bgcPost d).on F.BGC_CFG.REPAIR_EN then (t.bgcPost d).bgcRepair d else t.bgcPost d))))

/-- R254 to R257, Tables 10.6 and 16.7: filters and meters. A write of entry `k` that no contracted stream holds stores the
fields the host owns and keeps BLOCKED or MARK_RED; unblocking and unmarking clear those bits; a meter starts full; reads return
entry and counters; clearing zeroes a filter's counters. R255: the colour of a frame. It is green when its length fits the
committed bucket, otherwise yellow when it fits the excess bucket, otherwise red; only the bucket charged loses its length, and
MARK_RED makes every frame red. Table 5.7, R132: TUN_WRITE stores a header whose length agrees with its options and refuses any
other; TUN_READ returns it. -/
def Obligations.FiltersMetersAndTunnelsComplete : Prop :=
  (∀ (s : State) (n : Fin 64) (c : RingCmd) (k : Nat), c.served n s →
    k = c.a0 63 0 → k < 16384 →
    (s.filterHeld k = false →
      (∃ t, exec (.fltWrite c) s = .next t ∧ getF (t.fltAt k) L.blocked = getF (s.fltAt k) L.blocked ∧
        getF (t.fltAt k) L.meter = getF (BitVec.ofNat 64 (leAt c.cont 0 8)) L.meter ∧
        getF (t.fltAt k) L.maxSdu = getF (BitVec.ofNat 64 (leAt c.cont 0 8)) L.maxSdu ∧ ∀ j, j ≠ k → t.fltAt j = s.fltAt j) ∧
      (∃ t, exec (.fltUnblock c) s = .next t ∧ t.fltAt k = putF (s.fltAt k) L.blocked 0 ∧ ∀ j, j ≠ k → t.fltAt j = s.fltAt j) ∧
      (∃ t, exec (.fltClearCnt c) s = .next t ∧ (∀ j, j < 7 → Tbl.atN t.flt.ctr (8 * k + j) = 0) ∧ t.fltAt k = s.fltAt k)) ∧
    (s.meterHeld k = false →
      (∃ t, exec (.mtrWrite c) s = .next t ∧ getF (t.mtrAt k) L.markRed = getF (s.mtrAt k) L.markRed ∧
        getF (t.mtrAt k) L.cbs = getF (BitVec.ofNat 128 (leAt c.cont 0 16)) L.cbs ∧
        Tbl.atN t.flt.fill (2 * k) = getF (t.mtrAt k) L.cbs * fillUnit ∧ ∀ j, j ≠ k → t.mtrAt j = s.mtrAt j) ∧
      (∃ t, exec (.mtrUnmark c) s = .next t ∧ t.mtrAt k = putF (s.mtrAt k) L.markRed 0 ∧ ∀ j, j ≠ k → t.mtrAt j = s.mtrAt j)) ∧
    (exec (.mtrRead c) s = .next (s.finish n 4 3 c { conts := leBytes 16 (s.mtrAt k).toNat })) ∧
    (∃ t, exec (.fltRead c) s = .next t ∧ s.Reported t)) ∧
  (∀ (s : State) (k len c x : Nat), s.mtrFills k = (c, x) →
    (isF (s.mtrAt k) L.markRed = false → len * fillUnit ≤ c → s.colour k len = (s.setFills k (c - len * fillUnit) x, .green)) ∧
    (isF (s.mtrAt k) L.markRed = false → c < len * fillUnit → len * fillUnit ≤ x →
      s.colour k len = (s.setFills k c (x - len * fillUnit), .yellow)) ∧
    (isF (s.mtrAt k) L.markRed = false → c < len * fillUnit → x < len * fillUnit →
      (s.colour k len).2 = .red ∧ Tbl.atN (s.colour k len).1.flt.fill (2 * k) = c ∧
      isF ((s.colour k len).1.mtrAt k) L.markRed = isF (s.mtrAt k) L.markRedEn) ∧
    (isF (s.mtrAt k) L.markRed = true → (s.colour k len).2 = .red)) ∧
  (∀ (s : State) (n : Fin 64) (c : RingCmd), c.served n s → c.a0 63 0 < 4096 →
    (∀ e, e = putF (putF (BitVec.ofNat 1024 (leAt c.cont 0 128)) ⟨1020, 1016⟩ 0) ⟨1007, 528⟩ 0 →
      (tunOk e = true → ∃ t, exec (.tunWrite c) s = .next t ∧ t.tunAt (c.a0 63 0) = e ∧ ∀ j, j ≠ c.a0 63 0 → t.tunAt j = s.tunAt j) ∧
      (tunOk e = false → exec (.tunWrite c) s = .next (s.finish n 5 0 c { code := 6 }))) ∧
    (exec (.tunRead c) s = .next (s.finish n 5 1 c { conts := leBytes 128 (s.tunAt (c.a0 11 0)).toNat })))

/-! ### Security contexts (spec/06_security_contexts.md) -/

/-- R150, R149, R112: the commands that act on one valid MACsec context `k` that is neither quarantined nor referenced by a
contract. CTX_ENABLE of a receive SA sets RX_EN, CTX_RETIRE clears both enables, CTX_FREE of a disabled, unpinned context clears
VALID alone, CTX_CLEAR_CNT zeroes the counters and the overflow bit, CTX_READ returns the image; no other context changes. R147,
R148: CTX_PIN of a valid context of a group whose slots are pinned and whose cache has room for a pin makes it pinned in that
group; CTX_UNPIN ends a pin that no contract holds. -/
def Obligations.ContextCommandsComplete : Prop :=
  (∀ (s : State) (n : Fin 64) (c : RingCmd) (k : Nat), c.served n s →
    c.a0 17 0 = k → c.a0 63 18 = 0 → s.ctxValid k = true → ctxKind (s.ctxAt k) = 1 → ctxQuar (s.ctxAt k) = false →
    (isF (s.ctxAt k) C.dir = false → s.ctxRef k = false →
      ∃ t, exec (.ctxEnable c) s = .next t ∧ t.ctxAt k = putF (s.ctxAt k) C.rxEn 1 ∧ ∀ j, j ≠ k → t.ctxAt j = s.ctxAt j) ∧
    (isF (s.ctxAt k) C.dir = false →
      ∃ t, exec (.ctxRetire c) s = .next t ∧ t.ctxAt k = putF (putF (s.ctxAt k) C.txEn 0) C.rxEn 0 ∧
        ∀ j, j ≠ k → t.ctxAt j = s.ctxAt j) ∧
    (s.ctxRef k = false → ctxEnabled (s.ctxAt k) = false → s.ctxPinned k = false →
      ∃ t, exec (.ctxFree c) s = .next t ∧ t.ctxAt k = putF (s.ctxAt k) C.valid 0 ∧ ∀ j, j ≠ k → t.ctxAt j = s.ctxAt j) ∧
    (∃ t, exec (.ctxClearCnt c) s = .next t ∧ t.ctxAt k = putF (putF (s.ctxAt k) (bytesAt 0x80 66) 0) C.mOvf 0 ∧
      ∀ j, j ≠ k → t.ctxAt j = s.ctxAt j) ∧
    (c.a1 0 0 = 0 → exec (.ctxRead c) s = .next (s.finish n 1 0 c { conts := leBytes 256 (s.ctxImage k).toNat }))) ∧
  (∀ (s : State) (n : Fin 64) (c : RingCmd) (k : Nat), c.served n s →
    c.a0 17 0 = k → c.a0 63 18 = 0 → s.ctxValid k = true →
    (∀ g, ctxGroup (s.ctxAt k) = some g → g < 12 → ctxQuar (s.ctxAt k) = false → s.ctxPinned k = false → s.pinnedIn g < 12288 →
      (ctxSlots (s.ctxAt k)).all s.slotPinned = true →
      ∃ t, exec (.ctxPin c) s = .next t ∧ t.ctxPinned k = true ∧ t.ctxRef k = s.ctxRef k ∧ t.ctxHoldGroup k = g) ∧
    (s.ctxRef k = false → ∃ t, exec (.ctxUnpin c) s = .next t ∧ t.ctxPinned k = false ∧ t.ctxAt k = s.ctxAt k ∧
      ∀ j, j ≠ k → t.ctxPinned j = s.ctxPinned j))

/-- R151: CTX_INSTALL of a MACsec receive image that passes every item of its list, into a quad without other kinds and a
context that is not enabled, writes the fields the image gives; CTX_SELECT of an enabled transmit AN takes force at once. R100,
R101, R161: SCM_ADD places a new key in the first free position of its two buckets, and SCM_DELETE removes a key none of whose
contexts is enabled for receive; SCM_USED follows. -/
def Obligations.ContextInstallSelectAndSciMapComplete : Prop :=
  (∀ (s : State) (n : Fin 64) (c : RingCmd), c.served n s →
    (∀ k img, k = c.a0 17 0 → img = BitVec.ofNat 2048 (leAt c.cont 0 256) → c.a0 63 18 = 0 → ctxKind img = 1 → macImageOk img = true →
      (∀ a, a < 4 → 4 * (k / 4) + a ≠ k → s.ctxValid (4 * (k / 4) + a) = true → ctxKind (s.ctxAt (4 * (k / 4) + a)) = 1) →
      (s.ctxValid k = true → ctxEnabled (s.ctxAt k) = false) → getF img C.cs = s.fld (F.SECY_CFG.CS (getF img C.port)) →
      isF img C.dir = false →
      s.ctx.scm.any (fun e => isF e.2 M.scmValid && getF e.2 M.scmIndex == k / 4 && getF e.2 M.scmPort == getF img C.port) = true →
      s.ctxRef k = false →
      ∃ t, exec (.ctxInstall c) s = .next t ∧ t.ctxAt k = macInstall (s.ctxAt k) img ∧ ∀ j, j ≠ k → t.ctxAt j = s.ctxAt j) ∧
    (∀ p a k t, p = c.a0 6 0 → a = c.a1 1 0 → k = s.txCtx p a → c.a1 20 20 = 0 → p < 96 → c.a0 63 7 = 0 → s.ctxValid k = true →
      ctxKind (s.ctxAt k) = 1 → ctxQuar (s.ctxAt k) = false → isF (s.ctxAt k) C.dir = true → isF (s.ctxAt k) C.txEn = true →
      (s.setSecyTx p (putF (s.secyTx p) M.txAn a)).keepResident k = some t →
      exec (.ctxSelect c) s = .next (t.finish n 1 4 c {})) ∧
    (c.a0 63 0 < 96 → exec (.secyTxRead c) s = .next (s.finish n 1 15 c { r0 := (s.secyTx (c.a0 6 0)).toNat }))) ∧
  (∀ (s : State) (n : Fin 64) (c : RingCmd) (d port sci : Nat), c.served n s →
    d = leAt c.cont 0 16 → port = natBits d 102 96 → sci = natBits d 63 0 → port < 96 →
    (∀ i, natBits d 127 127 = 1 → s.scmFind sci port = none → s.isTxKey sci port = false →
      (s.scmSlots sci port).find? (fun i => !isF (Tbl.at0 s.ctx.scm i) M.scmValid) = some i →
      ∃ t e, exec (.scmAdd c) s = .next t ∧ Tbl.at0 t.ctx.scm i = e ∧ isF e M.scmValid = true ∧ getF e M.scmSci = sci ∧
        getF e M.scmPort = port ∧ t.scmFind sci port = some i ∧ ∀ j, j ≠ i → Tbl.at0 t.ctx.scm j = Tbl.at0 s.ctx.scm j) ∧
    (∀ i, s.scmFind sci port = some i →
      (∀ a, a < 4 → isF (s.ctxAt (4 * getF (Tbl.at0 s.ctx.scm i) M.scmIndex + a)) C.rxEn = false) →
      ∃ t, exec (.scmDelete c) s = .next t ∧ Tbl.at0 t.ctx.scm i = 0 ∧ ∀ j, j ≠ i → Tbl.at0 t.ctx.scm j = Tbl.at0 s.ctx.scm j))

/-- R154, R155, R157: flip sets. FLIP_ADD makes an enabled transmit SA a member of an IDLE set with its PEND fields set;
FLIP_ARM arms an IDLE set whose targets are resident; FLIP_CANCEL empties a set that has not fired; FLIP_STATUS reports; a fired
set whose flip is done returns to IDLE without members. R159, R164: PN_LEAP is written in two halves in SETUP. A write of
CTX_LEAP_LO is held unchecked; a write of CTX_LEAP_HI forms the value from bit 0 and the held word, takes it between 2^10 and
2^32, and otherwise posts CTX_CFG and keeps PN_LEAP; later states are locked. -/
def Obligations.FlipSetsAndLeapComplete : Prop :=
  (∀ (s : State) (n : Fin 64) (c : RingCmd) (f : Nat), c.served n s → f = c.a0 7 0 →
    c.a0 63 8 = 0 →
    (∀ p an, p = c.a1 17 0 → an = c.a1 19 18 → c.a1 20 20 = 0 → p < 96 → (s.flip f).state = 0 →
      s.ctxValid (s.txCtx p an) = true → ctxKind (s.ctxAt (s.txCtx p an)) = 1 → ctxQuar (s.ctxAt (s.txCtx p an)) = false →
      isF (s.ctxAt (s.txCtx p an)) C.dir = true → isF (s.ctxAt (s.txCtx p an)) C.txEn = true → isF (s.secyTx p) M.txPend = false →
      ∃ t, exec (.flipAdd c) s = .next t ∧ (t.flip f).members = (s.flip f).members ++ [.secy p an] ∧ (t.flip f).state = 0 ∧
        isF (t.secyTx p) M.txPend = true ∧ getF (t.secyTx p) M.txPendAn = an ∧ getF (t.secyTx p) M.txPendSet = f ∧
        getF (t.secyTx p) M.txAn = getF (s.secyTx p) M.txAn) ∧
    (∀ u, leAt c.cont 6 4 < 1000000000 → (s.flip f).state = 0 → s.keepAll ((s.flip f).members.map s.flipTarget) = some u →
      ∃ t, exec (.flipArm c) s = .next t ∧ (t.flip f).state = 1 ∧ (t.flip f).members = (s.flip f).members ∧
        (t.flip f).notBefore = (leAt c.cont 0 6, leAt c.cont 6 4)) ∧
    ((s.flip f).state ≠ 2 → ∃ t, exec (.flipCancel c) s = .next t ∧ (t.flip f).state = 0 ∧ (t.flip f).members = []) ∧
    (∃ t, exec (.flipStatus c) s = .next t ∧ s.Reported t) ∧
    (∀ g : Fin 256, (s.flip g).state = 2 → ∃ t, exec (.flipDone g) s = .next t ∧ (t.flip g).state = 0 ∧ (t.flip g).members = [])) ∧
  (∀ (s : State) (v w : Word),
    (s.op = .setup → exec (.ctxLeapLoWrite v) s = .next (s.setCtx { s.ctx with leapHeld := some v })) ∧
    (s.op = .setup → s.ctx.leapHeld = some w → 2 ^ 10 ≤ v.toNat % 2 * 2 ^ 32 + w.toNat → v.toNat % 2 * 2 ^ 32 + w.toNat ≤ 2 ^ 32 →
      ∃ t, exec (.ctxLeapHiWrite v) s = .next t ∧ t.pnLeap = v.toNat % 2 * 2 ^ 32 + w.toNat ∧ t.ctx.leapHeld = none) ∧
    (s.op = .setup → s.ctx.leapHeld = some w →
      v.toNat % 2 * 2 ^ 32 + w.toNat < 2 ^ 10 ∨ 2 ^ 32 < v.toNat % 2 * 2 ^ 32 + w.toNat →
      ∃ t, exec (.ctxLeapHiWrite v) s = .next t ∧ t.pnLeap = s.pnLeap ∧ t.ctx.leapHeld = none) ∧
    (s.op = .run → ∃ t, exec (.ctxLeapHiWrite v) s = .next t ∧ t.pnLeap = s.pnLeap))

/-! ### Keys (spec/09_key_store.md) -/

/-- R204, R216, R221, R222, R224: filling an empty host slot `k` that no context names. An import under a usable wrapping key
fills the slot when the wrapped key or blob verifies and otherwise completes with AUTH_FAIL; a generation while the TRNG is
healthy and a derivation from a usable key fill the slot with the attributes given; the wrapping or deriving key is used once.
-/
def Obligations.KeyFillsComplete : Prop := ∀ (s u : State) (n : Fin 64) (c : RingCmd) (k w : Nat) (a : BitVec 128), c.served n s →
  s.alarm.stopped.testBit 2 = false → u = s.count 0x6A2 → k = c.a0 18 0 → w = c.a1 18 0 → a = RingCmdAttr c → attrOk a = true →
  c.a1 31 31 = 0 → hostSlot (c.a0 63 0) = true → hostSlot w = true →
  (16 + (if isF a K.ksize then 40 else 24) ≤ c.cont.length → u.useCheck w K.wrap true = none → u.fillCheck k true = none →
    exec (.keyImportKw c) s = .next (match keyUnwrap (u.keyBytes w) (slice c.cont 16 (if isF a K.ksize then 40 else 24)) with
      | some key => (((u.touch w).spend w).fill k (putF a K.exportBit 0) (keyNat key) false).finish n 2 0 c {}
      | none => ((u.touch w).spend w).finish n 2 0 c { code := 10 })) ∧
  (∀ b, b = c.cont.drop 16 → attrOk (xwAttr b) = true → leAt b 0 1 = 1 → leAt b 2 1 = u.lc → leAt b 2 1 ≤ 5 →
    32 + (if leAt b 1 1 % 2 = 1 then 32 else 16) ≤ b.length → u.useCheck w K.wrap true = none → u.fillCheck k true = none →
    exec (.keyImportXw c) s =
      .next (match xwUnwrap (u.keyBytes w) (b.take (32 + (if leAt b 1 1 % 2 = 1 then 32 else 16))) with
        | some key => (((u.touch w).spend w).fill k (xwAttr b) (keyNat key) false).finish n 2 1 c {}
        | none => ((u.touch w).spend w).finish n 2 1 c { code := 10 })) ∧
  (∀ v t, u.fillCheck k false = none → u.draw 256 = (v, t) →
    exec (.keyGenerate c true) s =
      .next ((t.fill k a (BitVec.ofNat 256 (v.toNat % 2 ^ (if isF a K.ksize then 256 else 128))) false).finish n 2 2 c {})) ∧
  (∀ bits ll cl, bits = leAt c.cont 16 2 → ll = leAt c.cont 18 1 → cl = leAt c.cont 19 1 → bits = 128 ∨ bits = 256 → ll ≤ 64 →
    cl ≤ 64 → 32 + ll + cl ≤ c.cont.length → u.useCheck w K.derive true = none → u.fillCheck k true = none →
    exec (.keyDerive c) s = .next ((((u.touch w).spend w).fill k (putF a K.ksize (if bits = 256 then 1 else 0))
      (keyNat (kdf (u.keyBytes w) (slice c.cont 32 ll) (slice c.cont (32 + ll) cl) bits)) false).finish n 2 3 c {}))

/-- R210, R223, R224: using a key. An export by a usable wrapping key of a key with EXPORT answers its wrapped form in the
continuations; a CMAC over data read from BUF answers the tag, and a verification DONE or AUTH_FAIL; each use counts once. R210:
a key with a use counter above 0 loses exactly one use at a use, and a key with unlimited life none; its other attributes and
its bytes stay. -/
def Obligations.KeyUsesComplete : Prop :=
  (∀ (s u : State) (n : Fin 64) (c : RingCmd) (k w : Nat), c.served n s →
    s.alarm.stopped.testBit 2 = false → u = s.count 0x6A2 → k = c.a0 18 0 → w = c.a1 18 0 → c.a1 31 31 = 0 → hostSlot w = true →
    (hostSlot (c.a0 63 0) = true → u.useCheck w K.wrap true = none → u.useCheck k K.exportBit true = none →
      exec (.keyExportKw c) s =
        .next ((((u.touch w).spend w).touch k).finish n 2 4 c { conts := keyWrap (u.keyBytes w) (u.keyBytes k) })) ∧
    (hostSlot (c.a0 63 0) = true → u.useCheck w K.wrap true = none → u.useCheck k K.exportBit true = none →
      exec (.keyExportXw c) s =
        .next ((((u.touch w).spend w).touch k).finish n 2 5 c { conts := xwWrap (u.keyBytes w) (u.slot k).attr u.lc (u.keyBytes k) })) ∧
    (∀ d, c.bufIn = some d → 1 ≤ c.bufLen.toNat → c.bufLen.toNat ≤ 2048 → u.useCheck w K.macg true = none →
      exec (.keyCmacGen c) s =
        .next (((u.touch w).spend w).finish n 2 6 c { conts := cmac (u.keyBytes w) (padTo c.bufLen.toNat d) })) ∧
    (∀ d, c.bufIn = some d → 1 ≤ c.bufLen.toNat → c.bufLen.toNat ≤ 2048 → u.useCheck w K.macv true = none →
      exec (.keyCmacVerify c) s = .next (((u.touch w).spend w).finish n 2 7 c
        { code := if cmac (u.keyBytes w) (padTo c.bufLen.toNat d) = slice c.cont 0 16 then 0 else 10 }))) ∧
  (∀ (s : State) (k : Nat),
    (isF (s.slot k).attr K.life = false → 0 < getF (s.slot k).attr K.uses →
      getF ((s.spend k).slot k).attr K.uses = getF (s.slot k).attr K.uses - 1) ∧
    (isF (s.slot k).attr K.life = true → s.spend k = s) ∧
    ((s.spend k).slot k).key = (s.slot k).key ∧
    (∀ j, j ≠ k → (s.spend k).slot j = s.slot j))

/-- R205, R208, R211, R226: a filled, unquarantined host slot. KEY_ATTR_READ returns its image; KEY_ATTR_REDUCE takes the fields
it may lower; KEY_PIN of a resident slot pins it while fewer than 6,144 are; KEY_UNPIN ends a pin that no contract needs;
KEY_FREE zeroes a slot that no context names; an uncorrectable error quarantines a resident slot. R211: no command frees a slot
that a valid context names: KEY_FREE then completes with IN_USE and the key store stays. -/
def Obligations.KeySlotsComplete : Prop :=
  (∀ (s : State) (n : Fin 64) (c : RingCmd) (k : Nat), c.served n s →
    s.alarm.stopped.testBit 2 = false → k = c.a0 63 0 → k < 262144 → c.a1 31 31 = 0 → s.slotValid k = true →
    isF (s.slot k).attr M.attrQuar = false →
    (∃ u, u = s.count 0x6A2 ∧
      exec (.keyAttrRead c) s = .next (u.finish n 2 8 c { conts := leBytes 16 (s.attrImage k).toNat })) ∧
    (∀ a, a = RingCmdAttr c → attrOk a = true → getF a M.usage &&& (63 - getF (s.slot k).attr M.usage) = 0 →
      getF a K.exportBit ≤ getF (s.slot k).attr K.exportBit → getF a K.ksize = getF (s.slot k).attr K.ksize →
      getF a K.life = getF (s.slot k).attr K.life → getF a K.lc = getF (s.slot k).attr K.lc →
      getF a K.uses ≤ getF (s.slot k).attr K.uses →
      ∃ t, exec (.keyAttrReduce c) s = .next t ∧ (t.slot k).key = (s.slot k).key ∧
        (t.slot k).attr = putF (putF (putF (s.slot k).attr M.usage (getF a M.usage)) K.exportBit (getF a K.exportBit)) K.uses
          (getF a K.uses)) ∧
    (s.slotResident k = true → s.slotPinned k = false → s.fld F.KEY_STATUS.PINNED < 6144 →
      ∃ t, exec (.keyPin c) s = .next t ∧ t.slotPinned k = true ∧ (t.slot k).key = (s.slot k).key) ∧
    (s.ctx.ctx.any (fun e => isF e.2 C.valid && (ctxSlots e.2).contains k && s.ctxRef e.1) = false →
      ∃ t, exec (.keyUnpin c) s = .next t ∧ t.slotPinned k = false ∧ (t.slot k).key = (s.slot k).key) ∧
    (s.refs k = 0 → ∃ t, exec (.keyFree c) s = .next t ∧ (t.slot k).attr = 0 ∧ (t.slot k).key = 0 ∧ t.slotResident k = false ∧
      ∀ j, j ≠ k → t.slot j = s.slot j) ∧
    (∀ x : Fin 263168, x.val = k → s.slotResident k = true →
      ∃ t, exec (.keySlotUncorr x) s = .next t ∧ isF (t.slot k).attr M.attrQuar = true ∧ (t.slot k).key = (s.slot k).key)) ∧
  (∀ (s : State) (n : Fin 64) (c : RingCmd), c.served n s →
    s.alarm.stopped.testBit 2 = false → c.a0 63 0 < 262144 → c.a1 31 31 = 0 → s.refs (c.a0 18 0) ≠ 0 →
    ∃ t, exec (.keyFree c) s = .next t ∧ t = (s.count 0x6A2).finish n 2 12 c { code := 7 } ∧ t.key = s.key)

/-- R213, R219, R220, R224, R225: roots. In SETUP, ROOT_INJECT seals a root into the empty slot that the life cycle selects and
forms the keys derived from it; ROOT_ERASE zeroes that slot and drops them; ROOT_STATUS reports; a new PAIR_ID or DOMAIN_ID
forms its keys again; a failed TRNG is reported, and generations that wait for it proceed when it recovers. -/
def Obligations.RootCommandsComplete : Prop := ∀ (s u : State) (n : Fin 64) (c : RingCmd) (x : Nat), c.served n s →
  s.alarm.stopped.testBit 2 = false → u = s.count 0x6A2 → c.a1 31 31 = 0 →
  (s.op = .setup → rootOf s.lc = some x → Tbl.at0 s.bat.roots x = 0 →
    ∃ t, exec (.rootInject c) s = .next t ∧ Tbl.at0 t.bat.roots x = s.sealRoot x (slice c.cont 0 32) ∧ t.key.rootUp = true ∧
      Tbl.at0 t.bat.rootChecks x = rootCheck (slice c.cont 0 32) ∧ ∀ y, y ≠ x → Tbl.at0 t.bat.roots y = Tbl.at0 s.bat.roots y) ∧
  (s.op = .setup → rootOf s.lc = some x →
    ∃ t, exec (.rootErase c) s = .next t ∧ Tbl.at0 t.bat.roots x = 0 ∧ t.key.rootUp = false ∧
      (∀ e ∈ t.key.slots, e.2.fromRoot = false) ∧ ∀ y, y ≠ x → Tbl.at0 t.bat.roots y = Tbl.at0 s.bat.roots y) ∧
  (∃ t r, exec (.rootStatus c) s = .next t ∧ t = u.finish n 2 15 c r ∧ r.r1 = u.rootStatus ∧ s.Reported t) ∧
  (∀ v : Word, s.op = .setup → s.config ≠ 2 → ∃ t, exec (.keyGroupIdWrite v) s = .next t ∧
    t.fld F.KEY_GROUP_ID.PAIR_ID = natBits v.toNat 15 0 ∧ t.fld F.KEY_GROUP_ID.DOMAIN_ID = natBits v.toNat 31 16 ∧
    ∀ k, k < 262144 → t.slot k = s.slot k) ∧
  (∃ t, exec .trngHealthRestored s = .next t ∧
    t = (s.setKey { s.key with trngBad := false, generating := [] }).each s.key.generating
      (fun c t => ringRun 2 2 (fun c s => keyGenerate c (s.count 0x6A2)) c t))

/-! ### Contracts and redundancy (spec/11_latency_contracts.md, spec/12_stream_redundancy.md) -/

/-- R264 to R270, R274: contract commands. CT_ADMIT of an image that passes every check accepts the contract, and a failed
resource check refuses it with the check's code and nothing changed; CT_WITHDRAW of an accepted contract releases it and its
stream; CT_READ returns it; CT_CLEAR_CNT keeps its image fields and zeroes the rest. -/
def Obligations.ContractCommandsComplete : Prop := ∀ (s : State) (n : Fin 64) (c : RingCmd) (k : Nat), c.served n s →
  k = c.a0 63 0 → k < 16384 →
  (∀ w e ins egs paths keys ctxs u, w = ctFields (BitVec.ofNat 1024 (leAt c.cont 0 128)) → ctImageOk w = true → s.accepted k = false →
    e = s.streamAt (getF w V.stream) → isF e E.strValid = true → isF e E.strContracted = false → ins = ctIns w → egs = ctEgs w →
    paths = ins.map (fun p => (p, s.ctPath e (getF w V.stream) p)) → egs ≠ [] →
    (ins ++ egs).any (fun p => s.fld (F.PORT_MODE.LOOPBACK p) != 0) = false →
    paths.any (fun x => match x.2 with | some (_, l, _) => l != egs | none => true) = false →
    keys = (paths.flatMap (fun x => match x.2 with | some (k, _, _) => k | none => [])).foldl addOnce [] →
    ctxs = s.ctContexts e ins egs (paths.map (fun x => (x.1, x.2.bind (fun y => y.2.2)))) →
    u = (⟨keys, ctxs.map (·.1), egs.map (fun q => (q, s.ctLen e (getF w V.maxLen) ins q)),
      egs.filter (s.ctCut e (getF w V.stream) ins)⟩ : CtUse) →
    (s.ctRefusal w e u ctxs = none → s.judge (s.planOf k w u.lens u.cut) (egs.flatMap s.ctLists) = none →
      exec (.ctAdmit c) s = .next ((s.accept k w u ctxs).finish n 7 0 c {})) ∧
    (∀ code r, s.ctRefusal w e u ctxs = some (code, r) →
      exec (.ctAdmit c) s = .next (s.finish n 7 0 c { code := code, r0 := r }))) ∧
  (s.accepted k = true →
    (∃ t, exec (.ctWithdraw c) s = .next t ∧ t.accepted k = false ∧
      isF (t.streamAt (getF (s.ctAt k) V.stream)) E.strContracted = false ∧ (∀ j, j ≠ k → t.ctAt j = s.ctAt j)) ∧
    (exec (.ctRead c) s = .next (s.finish n 7 2 c { conts := leBytes 128 (s.ctAt k).toNat })) ∧
    (∃ t, exec (.ctClearCnt c) s = .next t ∧ t.ctAt k = putF (ctFields (s.ctAt k)) V.state 1 ∧ ∀ j, j ≠ k → t.ctAt j = s.ctAt j))

/-- R278, R280 to R283, Table 12.2: recovery contexts. SRC_WRITE of a handle that no contract holds stores the fields of the
image with TAKE_ANY set and keeps the counters; SRC_READ returns it; after RESET_MS without a passed frame TAKE_ANY is set and
counted. R280, R281: the decision on a received number. With TAKE_ANY any number passes; under the match algorithm only the last
number is a duplicate; under the others a number at or beyond the history length on either side is outside, one in the history
passes when its bit is 0 and is a duplicate when it is 1, and one ahead of the last passes. R282: a passed number that is
decided a second time is a duplicate: recording it sets its place in the history. -/
def Obligations.RecoveryComplete : Prop :=
  (∀ (s : State) (n : Fin 64) (c : RingCmd) (h : Nat), c.served n s →
    h = c.a0 63 0 → h < 16384 →
    (∀ img : BitVec 512, img = BitVec.ofNat 512 (leAt c.cont 0 64) → 2 ≤ getF img S.histLen → getF img S.histLen ≤ 128 →
      s.streamContracted h = false →
      ∃ t, exec (.srcWrite c) s = .next t ∧ getF (t.srcAt h) S.takeAny = 1 ∧ getF (t.srcAt h) S.histLen = getF img S.histLen ∧
        getF (t.srcAt h) S.resetMs = getF img S.resetMs ∧ getF (t.srcAt h) S.txSeq = getF img S.txSeq ∧
        (∀ j, j < 6 → getF (t.srcAt h) (S.ctr j) = getF (s.srcAt h) (S.ctr j)) ∧ ∀ j, j ≠ h → t.srcAt j = s.srcAt j) ∧
    (exec (.srcRead c) s = .next (s.finish n 6 0 c { conts := leBytes 64 (s.srcAt h).toNat })) ∧
    (∀ x : Fin 16384, x.val = h → isF (s.srcAt h) S.valid = true → getF (s.srcAt h) S.resetMs ≠ 0 → isF (s.srcAt h) S.takeAny = false →
      ∃ t, exec (.takeAnyReset x) s = .next t ∧ isF (t.srcAt h) S.takeAny = true ∧ getF (t.srcAt h) S.recov = getF (s.srcAt h) S.recov)) ∧
  (∀ (w : BitVec 512) (mode q : Nat),
    (isF w S.takeAny = true → srcDecide w mode q = .pass) ∧
    (isF w S.takeAny = false → mode = 1 → (srcDecide w mode q = .duplicate ↔ srcDiff w q = 0)) ∧
    (isF w S.takeAny = false → mode ≠ 1 → (getF w S.histLen : Int) ≤ srcDiff w q ∨ srcDiff w q ≤ -(getF w S.histLen : Int) →
      srcDecide w mode q = (if mode = 0 then .outside else .restart)) ∧
    (isF w S.takeAny = false → mode ≠ 1 → -(getF w S.histLen : Int) < srcDiff w q → srcDiff w q ≤ 0 →
      (srcDecide w mode q = .duplicate ↔ natBit (getF w S.history) (-srcDiff w q).toNat = true)) ∧
    (isF w S.takeAny = false → mode ≠ 1 → 0 < srcDiff w q → srcDiff w q < (getF w S.histLen : Int) → srcDecide w mode q = .pass)) ∧
  (∀ (w : BitVec 512) (mode q : Nat), q < 2 ^ 16 → mode ≠ 1 →
    2 ≤ getF w S.histLen → getF w S.histLen ≤ 128 → srcDecide w mode q = .pass →
    srcDecide (srcUpdate w mode q false) mode q = .duplicate)

/-- R285 to R293: the Stencil engine. It takes the first sample of its queue and counts it in STN_SAMPLES when it is well formed
and in its own error otherwise; a sample whose partner has not come in time counts as missed; STN_WRITE stores a valid entry
with its history started anew and its counters kept; STN_READ returns it; STN_CLEAR_CNT zeroes the counters. -/
def Obligations.StencilCompletes : Prop := ∀ (s : State) (n : Fin 64) (c : RingCmd) (k : Nat), c.served n s → k = c.a0 63 0 →
  k < 4096 →
  (∀ a rest, s.rcv.queue = a :: rest → isF (s.stnAt a.stn) T.valid = true → 8 * getF (s.stnAt a.stn) T.chCount ≤ a.data.length →
    a.smp < getF (s.stnAt a.stn) T.wrap →
    ∃ t, exec .stnAsduExamine s = .next t ∧ t.rcv.queue = rest ∧
      Tbl.atN (t.dyn a.stn).ctr 0 = (Tbl.atN (s.dyn a.stn).ctr 0 + 1) % 2 ^ 48 ∧ (t.dyn a.stn).bad = s.stnBad a) ∧
  (∀ a rest, s.rcv.queue = a :: rest → isF (s.stnAt a.stn) T.valid = true → getF (s.stnAt a.stn) T.wrap ≤ a.smp →
    ∃ t, exec .stnAsduExamine s = .next t ∧ t.rcv.queue = rest ∧ t.rcv.dyn = s.rcv.dyn) ∧
  (∀ (x : Fin 4096) (smp : BitVec 16) y, (s.dyn x).waiting.find? (fun z => z.smp = smp.toNat) = some y →
    ∃ t, exec (.stnPairWaitExpire x smp) s = .next t ∧ (t.dyn x).waiting = (s.dyn x).waiting.filter (fun z => z.smp != smp.toNat) ∧
      Tbl.atN (t.dyn x).ctr 6 = (Tbl.atN (s.dyn x).ctr 6 + 1) % 2 ^ 48) ∧
  (∀ e : BitVec 256, e = putF (putF (BitVec.ofNat 256 (leAt c.cont 0 32)) ⟨243, 240⟩ 0) ⟨95, 0⟩ 0 → stnOk e = true →
    s.cls.stream.any (fun x => isF x.2 E.strContracted && isF x.2 E.strStnEn && getF x.2 E.strStnIdx == k) = false →
    ∃ t, exec (.stnWrite c) s = .next t ∧ t.stnAt k = e ∧ t.dyn k = { StnDyn.idle with ctr := (s.dyn k).ctr } ∧
      ∀ j, j ≠ k → t.stnAt j = s.stnAt j ∧ t.dyn j = s.dyn j) ∧
  (∃ t, exec (.stnRead c) s = .next t ∧ s.Reported t) ∧
  (∃ t, exec (.stnClearCnt c) s = .next t ∧ t.dyn k = { s.dyn k with ctr := [] } ∧ ∀ j, j ≠ k → t.dyn j = s.dyn j)

/-! ### Coat pairs (spec/13_coat_pairs.md) -/

/-- R301, R302, R304 to R306: roles. In RUN a heartbeat leaves on both paths; a third missed one ends its path, and when both
are lost a STANDBY takes over as ALONE and an ACTIVE member becomes ALONE; a lone start ends ALONE, or BLOCKED when all it heard
failed authentication; an authenticated YIELD makes a STANDBY take over. R301 to R303: an authenticated heartbeat ends the
misses of its path and tells the partner's role: a member OFFLINE in RUN becomes STANDBY of an active partner, a member ALONE
becomes ACTIVE when its partner is STANDBY. -/
def Obligations.PairRolesComplete : Prop :=
  (∀ (s : State), s.config = 1 → s.op = .run →
    (∃ t, exec .pairHbSend s = .next t ∧ s.Reported t ∧
      .lath (s.linkOf 0) Kind.pairHb.num 0 0 (leBytes 1 s.role ++ instantBytes s.pair.since ++ instantBytes s.now) ∈ t.out ∧
      .lath (s.linkOf 1) Kind.pairHb.num 0 0 (leBytes 1 s.role ++ instantBytes s.pair.since ++ instantBytes s.now) ∈ t.out) ∧
    (∀ l, s.lathPath l = 0 → s.pair.missA = 2 → s.pair.missB < 3 → s.pathOk 0 = true →
      ∃ t, exec (.pairHbMiss l) s = .next t ∧ t.pathOk 0 = false ∧ t.role = s.role ∧ natBit (t.reg R.PAIR_EVENT).toNat 1 = true) ∧
    (∀ l, s.lathPath l = 0 → s.pair.missA = 2 → 3 ≤ s.pair.missB → s.role = 2 →
      ∃ t, exec (.pairHbMiss l) s = .next t ∧ t.role = 4 ∧ t.pair.txFrom = s.now + 2000 ∧ t.pair.since = s.now ∧
        natBit (t.reg R.PAIR_EVENT).toNat 3 = true) ∧
    (∀ l, s.lathPath l = 0 → s.pair.missA = 2 → 3 ≤ s.pair.missB → s.role = 3 →
      ∃ t, exec (.pairHbMiss l) s = .next t ∧ t.role = 4 ∧ natBit (t.reg R.PAIR_EVENT).toNat 4 = true) ∧
    (s.pair.waiting = true → s.role = 0 → s.pair.failed = false →
      ∃ t, exec .pairStartWait s = .next t ∧ t.role = 4 ∧ t.pair.waiting = false ∧ t.pair.since = s.now) ∧
    (s.pair.waiting = true → s.role = 0 → s.pair.failed = true → s.pair.heard = false →
      ∃ t, exec .pairStartWait s = .next t ∧ t.role = 5 ∧ t.pair.waiting = false) ∧
    (∀ l r, r.authOk = true → s.role = 2 → ∃ t, exec (.yieldReceive l r) s = .next t ∧ t.role = 4 ∧ t.pair.txFrom = s.now + 2000)) ∧
  (∀ (s : State) (l : LathLink) (r : LathRec), s.config = 1 → s.op = .run →
    r.authOk = true →
    (∃ t, exec (.pairHbReceive l r) s = .next t ∧ t.partnerRole = leAt r.payload 0 1 % 8 ∧
      (s.lathPath l = 0 → t.pair.missA = 0 ∧ t.pair.goodA = s.pair.goodA + 1) ∧
      (s.lathPath l ≠ 0 → t.pair.missB = 0 ∧ t.pair.goodB = s.pair.goodB + 1) ∧ t.pair.heard = true ∧
      (s.role = 0 → leAt r.payload 0 1 % 8 = 3 → t.role = 2) ∧
      (s.role = 4 → leAt r.payload 0 1 % 8 = 2 → t.role = 3) ∧
      (s.role = 2 → t.role = 2)))

/-- R308, R312, R314: the pair commands. PAIR_REFILL in SETUP beside an active partner makes the member JOINING; PAIR_STATUS
answers the status word; PAIR_DEMOTE at least 1 ms ahead is accepted and completes at the handover. R307, R308: checkpoints and
planned handover. An ACTIVE member sends the numbers of its transmitting contexts; a STANDBY stores each number it receives in
the context's checkpoint; at the handover the ACTIVE member becomes STANDBY and the STANDBY ACTIVE from the instant agreed; an
abandoned one ends without a change of role. -/
def Obligations.PairCommandsAndHandoverComplete : Prop :=
  (∀ (s : State) (n : Fin 64) (c : RingCmd), c.served n s → s.config = 1 →
    (exec (.pairStatus c) s =
      .next (s.finish n 8 0 c { conts := leBytes 4 s.pairStatusWord.toNat ++ instantBytes s.pair.since })) ∧
    (s.op = .setup → s.role ≠ 1 → s.partnerActive = true → ∃ t, exec (.pairRefill c) s = .next t ∧ t.role = 1 ∧ t.pair.gotSlots = []) ∧
    (s.op = .run → s.role = 3 → s.now + 1000000 ≤ instantOf c.cont → s.pair.handover = none → s.partnerRole = 2 →
      ∃ t k, exec (.pairDemote c) s = .next t ∧ t.pair.handover = some ⟨instantOf c.cont, false, some (n.val, k)⟩ ∧ t.role = 3)) ∧
  (∀ (s : State), s.config = 1 → s.op = .run →
    (s.role = 3 → ∃ t, exec .pairCheckpointSend s = .next t ∧ s.Reported t ∧
      ∃ l, .lath l Kind.checkpoint.num 0 0 (leBytes 1 0 ++ instantBytes 0 ++ s.checkpoint) ∈ t.out) ∧
    (∀ l r, r.authOk = true → s.role = 2 → ∃ t, exec (.pairCheckpointReceive l r) s = .next t ∧
      (leAt r.payload 0 1 = 1 → t.pair.handover = some ⟨instantOf (slice r.payload 1 10), true, none⟩) ∧
      (leAt r.payload 0 1 ≠ 1 → t.pair.handover = s.pair.handover) ∧ t.role = 2) ∧
    (∀ h, s.role = 3 → s.pair.handover = some h → h.begun = false →
      ∃ t, exec .demoteCheckpointStart s = .next t ∧ t.pair.handover = some { h with begun := true }) ∧
    (∀ h, s.pair.handover = some h → (∀ n k, h.owner = some (n, k) → n < 64) →
      ∃ t, exec .demoteAbandon s = .next t ∧ t.pair.handover = none ∧ t.role = s.role) ∧
    (∀ h, s.pair.handover = some h → s.role = 3 → ∃ t, exec .pairHandover s = .next t ∧ t.role = 2 ∧ t.pair.handover = none) ∧
    (∀ h, s.pair.handover = some h → s.role = 2 →
      ∃ t, exec .pairHandover s = .next t ∧ t.role = 3 ∧ t.pair.txFrom = h.t ∧ t.pair.handover = none))

/-- R310, R311: twin digests. A digest of a held port that both members know is compared and counts as equal or different; one
that stays unmatched counts as missed. R310: a match of both sums and counts adds to TWIN_MATCH only, and any difference adds to
TWIN_DIFF. -/
def Obligations.TwinDigestsComplete : Prop :=
  (∀ (s : State) (p : Fin 96), s.config = 1 → s.op = .run → s.role = 2 ∨ s.role = 3 →
    s.twinHeld p = true →
    (s.listRuns p = true → (s.line p).now = none → ∃ u t, u = s.setTwin p ((s.twin p).atCycle ((s.operBank p).cycleAt s.now)) ∧
      exec (.digestSend p) s = .next (t.digestMatch p) ∧ u.Reported t) ∧
    (∀ l r, r.authOk = true → leAt r.payload 0 1 = p.val → (s.twin p).cycle ≤ leAt r.payload 1 8 →
      ∃ t, exec (.digestReceive l r) s = .next t ∧ t = ((s.count (0x6D2 + b2n (l == .b))).setTwin p { (s.twin p) with
        peer := ((leAt r.payload 1 8, leAt r.payload 9 8, leAt r.payload 17 4) :: (s.twin p).peer).take 8 }).digestMatch p) ∧
    (∀ e, (s.twin p).own = [e] → ∃ t, exec (.digestMiss p) s = .next t ∧ (t.twin p).own = [] ∧
      Tbl.atN t.perf.blk (portCtr p 6) = (Tbl.atN s.perf.blk (portCtr p 6) + 1) % 2 ^ 48)) ∧
  (∀ (s : State) (p k a b c d : Nat), p < 96 →
    (a = c → b = d → s.digestCompare p k a b c d = s.blk (portCtr p 4)) ∧
    (a ≠ c ∨ b ≠ d → (s.twin p).posted ≠ s.sec + 1 → natBit ((s.digestCompare p k a b c d).reg R.PAIR_EVENT).toNat 7 = true ∧
      ((s.digestCompare p k a b c d).twin p).posted = s.sec + 1) ∧
    (a ≠ c ∨ b ≠ d → (s.twin p).posted = s.sec + 1 → s.digestCompare p k a b c d = s.blk (portCtr p 5)))

/-- R312, R313: refill. An active member answers a request with its slots, contexts, SCI map entries and recovery contexts in
order; a JOINING one stores each record at its index, and ends OFFLINE at the last record. -/
def Obligations.PairRefillCompletes : Prop := ∀ (s : State) (l : LathLink) (r : LathRec), s.config = 1 → s.op = .setup ∨ s.op = .run →
  r.authOk = true →
  (s.role = 3 ∨ s.role = 4 → exec (.refillRequestReceive l r) s =
    .next ((s.count (0x6D2 + b2n (l == .b))).each ((s.count (0x6D2 + b2n (l == .b))).refillRecords) (fun d t => t.pairSend .refill d))) ∧
  (s.role = 1 → leAt r.payload 0 1 = 4 →
    ∃ t, exec (.refillRecordReceive l r) s = .next t ∧ t.srcAt (leAt r.payload 1 4) = BitVec.ofNat 512 (leAt r.payload 5 64) ∧
      t.role = 1) ∧
  (s.role = 1 → leAt r.payload 0 1 = 5 →
    ∃ t, exec (.refillRecordReceive l r) s = .next t ∧ t.role = 0 ∧ t.pair.gotCtx = [])

/-! ### Domains (spec/14_lath_domains.md) -/

/-- R319, R320, R329: presence. A domain device sends DISCOVER; one received tells the hop count and the state of its sender,
and a shared index is flagged; an unopposed claim makes a hawk; heartbeats are sent, make their sender present, and when missed
take it out. R319, R321: the rings. A lost link leaves the ring wrapped, a restored one unwraps it when both links work; a
record of another device is forwarded on the next working link. -/
def Obligations.DomainPresenceAndRingsComplete : Prop :=
  (∀ (s : State), s.config = 2 →
    (3 ≤ s.op.code → exec .discoverSend s = .next (s.lathSend Kind.discover.num 0x7F (s.discover 1))) ∧
    (∀ l r, s.arrives .discover l r = true → s.dom.claiming = false →
      (leAt r.payload 2 1 == OpState.load.code && Tbl.atN s.dom.states r.src != leAt r.payload 2 1 + 1) = false →
      ∃ t, exec (.discoverReceive l r) s = .next t ∧ Tbl.atN t.dom.states r.src = leAt r.payload 2 1 + 1 ∧
        Tbl.atN t.dom.hops (2 * r.src.val + b2n (l == .b)) = leAt r.payload 1 1 ∧
        (s.isHawk = true → natBit t.presentMap r.src = true)) ∧
    (s.op = .load → s.dom.claiming = true → s.dom.dup = false →
      ∃ t, exec .hawkClaimExpiry s = .next t ∧ t.isHawk = true ∧ t.dom.claiming = false ∧ natBit t.presentMap s.index = true) ∧
    (4 ≤ s.op.code → exec .domHbSend s =
      .next (s.lathSend Kind.hb.num 0x7F (leBytes 1 s.index ++ leBytes 1 s.op.code ++ leBytes 6 s.sec ++ leBytes 4 s.ns))) ∧
    (∀ l r, s.acting .hb l r →
      ∃ t, exec (.domHbReceive l r) s = .next t ∧ Tbl.atN t.dom.states r.src = leAt r.payload 1 1 + 1 ∧
        (s.isHawk = true → natBit t.presentMap r.src = true) ∧
        (s.isHawk = false → s.dom.hawk = r.src.val + 1 → t.on F.DOM_STATUS.HAWK_HEARD = true)) ∧
    (∀ j : Fin 64, 4 ≤ s.op.code → s.isHawk = true → natBit s.presentMap j = true → j.val ≠ s.index →
      ∃ t, exec (.domHbMiss j) s = .next t ∧ natBit t.presentMap j = false ∧ Tbl.atN t.dom.states j = 0 ∧
        natBit (t.reg R.DOM_EVENT).toNat 2 = true) ∧
    (∀ j : Fin 64, 4 ≤ s.op.code → s.isHawk = false → s.dom.hawk = j.val + 1 → s.on F.DOM_STATUS.HAWK_HEARD = true →
      ∃ t, exec (.domHbMiss j) s = .next t ∧ t.on F.DOM_STATUS.HAWK_HEARD = false ∧ natBit (t.reg R.DOM_EVENT).toNat 1 = true)) ∧
  (∀ (s : State) (l : LathLink), s.config = 2 →
    (s.on (linkFld l) = true → ∃ t, exec (.ringLinkLoss l) s = .next t ∧ t.on (linkFld l) = false ∧ t.on F.DOM_STATUS.WRAPPED = true ∧
      natBit (t.reg R.DOM_EVENT).toNat 0 = true) ∧
    (3 ≤ s.op.code → s.op ≠ .fault → s.on (linkFld l) = false →
      ∃ t, exec (.ringLinkRestore l) s = .next t ∧ t.on (linkFld l) = true ∧
        (s.on (linkFld (if l == .a then .b else .a)) = true → t.on F.DOM_STATUS.WRAPPED = false)) ∧
    (∀ r, 3 ≤ s.op.code → s.on (linkFld l) = true → s.on (linkFld (if l == .a then .b else .a)) = true → r.src.val ≠ s.index →
      r.dst ≠ s.index → r.dst ≠ 0x7E → r.kind ≠ Kind.discover.num → r.kind ≠ Kind.fwData.num →
      ∃ t, exec (.ringRecordForward l r) s = .next t ∧ s.Reported t ∧ Out.forward (if l == .a then .b else .a) r ∈ t.out))

/-- R324, R325: acknowledgement and the relay window. An ACK of a unicast that awaits nothing else ends it; a unicast without
ACK is sent again up to three times and then lost; a register access of the window travels to its target, is carried out by a
member for its hawk, and its answer, or all ones after the time allowed, is the data read. -/
def Obligations.DomainRelayComplete : Prop := ∀ (s : State), s.config = 2 →
  (∀ l r x u, s.acting .ack l r → u = s.heardAs .ack l r →
    u.dom.relays.find? (fun x => x.seq == leAt r.payload 0 4 && (x.dst == r.src.val || x.dst == 0x7F)) = some x → x.dst ≠ 0x7F →
    awaits x = false → x.owner = none →
    ∃ t, exec (.ackReceive l r) s = .next t ∧ t.dom.relays = u.dom.relays.filter (fun y => y != x)) ∧
  (∀ (q : BitVec 32) x, s.dom.relays.find? (fun x => x.seq == q.toNat && !x.acked) = some x → x.tries < 3 →
    ∃ t u : State, exec (.recordAckTimeout q) s = .next t ∧
      u.dom.relays = s.dom.relays.map (fun y => if y == x then { y with tries := y.tries + 1 } else y) ∧
      t = ((u.lathAgain State.overflow x.kind x.dst x.seq x.payload).blk 27).count 0x6D4) ∧
  (∀ (q : BitVec 32) x, s.dom.relays.find? (fun x => x.seq == q.toNat && !x.acked) = some x → 3 ≤ x.tries →
    exec (.recordAckTimeout q) s = .next (s.relayLost x)) ∧
  (∀ (x : BitVec 23) v, s.isHawk = true → s.regsOpen = true → x.toNat % 4 = 0 → s.relayTarget ≠ s.index →
    natBit s.presentMap s.relayTarget = true →
    exec (.relayWindowWrite x v) s =
      .next (s.unicast Kind.reg.num s.relayTarget ([1] ++ leBytes 4 x.toNat ++ leBytes 4 v.toNat) none)) ∧
  (∀ x : BitVec 23, s.isHawk = true → x.toNat % 4 = 0 → s.relayTarget ≠ s.index → natBit s.presentMap s.relayTarget = true →
    ∃ t, exec (.relayWindowRead x) s = .next t ∧ t.dom.reads = s.dom.reads ++ [(s.dom.seq, s.relayTarget)]) ∧
  (∀ l r, s.acting .reg l r → leAt r.payload 0 1 = 2 →
    s.dom.reads.contains (leAt r.payload 1 4, r.src.val) = true →
    ∃ t, exec (.relayReadResponse l r) s = .next t ∧ Out.readData (BitVec.ofNat 32 (leAt r.payload 5 4)) ∈ t.out ∧
      t.dom.reads = s.dom.reads.filter (fun e => e.1 != leAt r.payload 1 4)) ∧
  (∀ (q : BitVec 32) e, s.isHawk = true → s.dom.reads.find? (fun e => e.1 == q.toNat) = some e →
    ∃ t, exec (.relayReadTimeout q) s = .next t ∧ Out.readData 0xFFFFFFFF ∈ t.out ∧ natBit (t.reg R.DOM_EVENT).toNat 10 = true) ∧
  (∀ l r u, s.acting .reg l r → u = s.heardAs .reg l r → s.dom.hawk = r.src.val + 1 →
    (leAt r.payload 0 1 = 1 → leAt r.payload 1 4 < 0x800000 →
      exec (.regRecordReceive l r) s = .next (u.pf0Write (leAt r.payload 1 4) (BitVec.ofNat 32 (leAt r.payload 5 4)))) ∧
    (leAt r.payload 0 1 = 0 → exec (.regRecordReceive l r) s = .next ((u.hostRead (leAt r.payload 1 4)).2.unicast Kind.reg.num r.src
      ([2] ++ leBytes 4 r.seq.toNat ++ leBytes 4 (u.hostRead (leAt r.payload 1 4)).1.toNat) none)))

/-- R326 to R328, R330: records that carry commands, host memory, frames and firmware. A member carries out a relayed command
and answers it; the hawk writes a member's data to host memory and takes its events; exception frames reach PF2; a member in
LOAD takes the image in order; the hawk keeps load results; DOM_RESET resets a member. -/
def Obligations.DomainRecordsComplete : Prop := ∀ (s u : State) (l : LathLink) (r : LathRec), s.config = 2 →
  (∀ g op c v d, s.acting .cmd l r → u = s.heardAs .cmd l r → s.isHawk = false → cmdOf r.payload = (g, op, c) →
    u.runRelayed g op c = (v, d) → d.bufOut = [] →
    exec (.relayedCmdReceive l r) s = .next (v.unicast Kind.cpl.num r.src (leBytes 4 r.seq.toNat ++
      (d.completion g op v.source).head c.tag 0 ++ (d.completion g op v.source).conts) none)) ∧
  (r.kind = Kind.dma.num → s.acting .dma l r → u = s.heardAs .dma l r → s.isHawk = true →
    exec (.dmaRecordReceive l r) s = .next (u.emit (.hostWrite (leAt r.payload 0 8) (r.payload.drop 8)))) ∧
  (r.kind = Kind.evt.num → s.acting .evt l r → u = s.heardAs .evt l r → s.isHawk = true →
    (evRecOf r.payload r.src).block ≠ 0x0C → exec (.dmaRecordReceive l r) s = .next (u.post (evRecOf r.payload r.src))) ∧
  (∀ q, s.acting .exc l r → u = s.heardAs .exc l r → s.isHawk = false → q = leAt r.payload 0 1 → q < 96 →
    natBit (leAt r.payload 1 1) 4 = false →
    exec (.excRecordReceive l r) s = .next (u.pf2Queue q (leAt r.payload 1 1 % 8) (r.payload.drop 2) false none)) ∧
  (s.arrives .fwStart l r = true → s.isMember = true → s.op = .load → s.fld F.HOST_STATUS.LINK ≠ 2 → s.dom.dup = false →
    s.boot.loadBlocked = false → s.fwStatus ≠ 15 → s.heardIt r = false →
    ∃ t, exec (.fwStartReceive l r) s = .next t ∧ t.fld F.KEY_GROUP_ID.DOMAIN_ID = leAt r.payload 0 2 ∧ t.boot.image = [] ∧
      t.fwStatus = 1 ∧ t.dom.hawk = r.src.val + 1) ∧
  (s.arrives .fwData l r = true → s.isMember = true → s.op = .load → s.heardIt r = false → s.fwStatus = 1 →
    leAt r.payload 0 4 = s.boot.image.length →
    ∃ t, exec (.fwDataReceive l r) s = .next t ∧ t.boot.image = (s.boot.image ++ r.payload.drop 4).take s.dom.fwLen) ∧
  (s.arrives .loadStatus l r = true → s.isHawk = true → s.heardIt r = false →
    ∃ t, exec (.loadStatusReceive l r) s = .next t ∧ Tbl.atN t.dom.loads r.src = leAt r.payload 1 1 + 1) ∧
  (s.acting .domReset l r → u = s.heardAs .domReset l r → s.isHawk = false →
    exec (.domResetReceive l r) s = .next (u.raiseReset .domain))

/-- R335 to R339, R341: screed records and two-phase activation. Each device sends its record, and the hawk judges what it
receives: a second mismatch in a row raises the alarm and holds activation. A member that prepares freezes its journal and
reports; the hawk sends ACTIVATE when every report is good and aborts otherwise or when they do not come in time; an activation
in time is armed and carried out at its instant. -/
def Obligations.ActivationCompletes : Prop := ∀ (s u : State) (l : LathLink) (r : LathRec), s.config = 2 →
  (4 ≤ s.op.code → s.isHawk = false → ∃ t, exec .screedSend s = .next t ∧
    Tbl.getD (fun _ => none) t.dom.screeds s.index = some s.screedNow) ∧
  (s.acting .screed l r → s.isHawk = false → ∃ t, exec (.screedReceive l r) s = .next t ∧
    Tbl.getD (fun _ => none) t.dom.screeds r.src = some ⟨leAt r.payload 1 4, BitVec.ofNat 128 (leAt r.payload 5 16),
      BitVec.ofNat 128 (leAt r.payload 21 16), leAt r.payload 37 2⟩) ∧
  (s.acting .prepare l r → s.hawkHeard = true →
    ∃ t, exec (.prepareReceive l r) s = .next t ∧ t.dom.frozen = true ∧ t.dom.prepared = some (instantOf r.payload)) ∧
  (s.acting .report l r → u = s.heardAs .report l r → s.isHawk = true → exec (.reportReceive l r) s =
    .next (u.takeReport r.src (leAt r.payload 0 1) (BitVec.ofNat 128 (leAt r.payload 1 16)))) ∧
  (∀ x, s.dom.prep = some x → s.isHawk = true → x.sent = none → (∀ n k, x.owner = some (n, k) → n < 64) →
    ∃ t, exec .prepTimeout s = .next t ∧ t.dom.prep = none ∧ t.dom.frozen = false ∧ t.on F.DOM_STATUS.PREPARING = false) ∧
  (s.acting .abort l r → s.hawkHeard = true → s.dom.frozen = true → s.dom.armed = none →
    ∃ t, exec (.abortReceive l r) s = .next t ∧ t.dom.frozen = false ∧ t.dom.prepared = none ∧ t.dom.journal = s.dom.journal) ∧
  (s.acting .activate l r → s.hawkHeard = true → s.dom.prepared = some (instantOf r.payload) →
    s.now + 10000 ≤ instantOf r.payload →
    ∃ t, exec (.activateReceive l r) s = .next t ∧ t.dom.armed = some (instantOf r.payload) ∧ t.dom.journal = s.dom.journal) ∧
  (∀ at_, s.dom.armed = some at_ → at_ ≤ s.now →
    exec .activation s = .next (s.each s.stagedPorts (fun p u => u.swapBanks p at_)).applyStaged) ∧
  (∀ d : Fin 15, 2 ≤ s.op.code → d.val ≠ 2 → d.val < 11 →
    exec (.monDisagree d) s = .next (((s.raise 13 d).blk 29).domEvent 5 s.index d))

/-- R335 to R339, R342: the domain commands on the hawk. DOM_STATUS writes the status of the domain to BUF; DOM_EXPECT loads the
expected values; DOM_PREPARE that nothing refuses begins a preparation that all devices are told of; DOM_ABORT ends one not yet
activated; DOM_DISCARD empties its own journal; DOM_RELEASE after two clean intervals clears HELD; DOM_RESET of all is sent to
all. -/
def Obligations.DomainCommandsComplete : Prop := ∀ (s : State) (n : Nat) (c : RingCmd), s.domRing c = some n →
  (2576 ≤ c.bufLen.toNat → exec (.domStatus c) s = .next (s.finish n 9 0 c { bufOut := s.domStatusBytes })) ∧
  (∀ bs, c.bufIn = some bs → 16 * (devicesOf c.arg0.toNat).length ≤ c.bufLen.toNat →
    ∃ t : State, exec (.domExpect c) s = .next (t.finish n 9 1 c {}) ∧ t.dom.expect = valuesOf c.arg0.toNat bs ∧
      t.dom.expectMap = c.arg0.toNat ∧ t.on F.DOM_STATUS.EXPECT_VALID = true) ∧
  (∀ t k, s.prepareRefusal c = none → s.owe n c.tag 9 2 = (t, k) → exec (.domPrepare c) s = .next (t.startPrepare c (n, k))) ∧
  (s.dom.prep = none → exec (.domAbort c) s = .next (s.finish n 9 3 c {})) ∧
  (∀ x v t, s.dom.prep = some x → x.sent = none → s.draw 4 = (v, t) →
    exec (.domAbort c) s = .next ((t.abortPrep x v.toNat 0).finish n 9 3 c {})) ∧
  (c.arg0 = BitVec.ofNat 64 (2 ^ s.index) → s.on F.DOM_STATUS.PREPARING = false →
    exec (.domDiscard c) s = .next (s.discard.finish n 9 4 c {})) ∧
  (2 ≤ s.dom.clean → ∃ t, exec (.domRelease c) s = .next (t.finish n 9 5 c {}) ∧ t = s.put F.DOM_STATUS.HELD 0) ∧
  (c.a0 6 0 = 0x7F → exec (.domReset c) s = .next ((s.lathSend Kind.domReset.num 0x7F (leBytes 1 0x7F)).finish n 9 6 c {}))

/-! ### The stacked memory (spec/15_stacked_memory.md) -/

/-- R348, R356, R357, R362, R369: reads. A requester's clean read of a data region that it reaches returns the line; a poisoned
line returns nothing and posts; a requester without the right gets nothing; a scrub read of a line is the same read for the
scrubber. R351, R357: a whole-line write outside the protected class stores the 64 bytes, which a read of the line returns,
clears the line's poison, and changes no other line. -/
def Obligations.MemoryReadsAndWritesComplete : Prop :=
  (∀ (s : State) (m : MemRead) (k : Nat), s.region m.line = some k → k ≠ 4 → k ≠ 5 →
    (s.reaches m.requester k false = true → s.accessWaits k m.line = false → (s.mem.raw && s.on (F.MEM_RGN_ATTR.PRIV k)) = false →
      (s.poisoned m.line = false → m.outcome = .clean →
        ∃ t, exec (.memReadDone m) s = .next t ∧ Out.memory m.requester m.line (some (s.lineBytes k m.line)) ∈ t.out ∧
          t.mem.data = s.mem.data ∧ t.mem.poison = s.mem.poison) ∧
      (s.poisoned m.line = true →
        ∃ t, exec (.memReadDone m) s = .next t ∧ Out.memory m.requester m.line none ∈ t.out ∧
          natBit (t.reg R.MEM_EVENT).toNat 0 = true ∧ t.mem.data = s.mem.data)) ∧
    (s.reaches m.requester k false = false → exec (.memReadDone m) s = .next (s.accessRefused m.requester m.line)) ∧
    (s.accessWaits k m.line = false →
      exec (.scrubRead m) s = .next ((s.count 0x699).readLine k { m with requester := .scrubber }))) ∧
  (∀ (s : State) (w : MemWrite) (k : Nat), s.region w.line = some k →
    k = 0 ∨ k = 3 ∨ k = 7 ∨ k = 8 → s.rgnClass k ≠ 2 → s.reaches w.requester k true = true → s.accessWaits k w.line = false →
    (s.mem.raw && s.on (F.MEM_RGN_ATTR.PRIV k)) = false → w.off = 0 → w.data.length = 64 →
    ∃ t, exec (.memLineWrite w) s = .next t ∧ t.lineBytes k w.line = w.data ∧ t.poisoned w.line = false ∧
      (∀ j, j ≠ w.line → Tbl.at0 t.mem.data j = Tbl.at0 s.mem.data j) ∧ (∀ j, j ≠ w.line → t.poisoned j = s.poisoned j))

/-- R345, R359, R361, R181, R368: faults of the stack and its ends. A rebuilt node is no longer lost; an error in the root is
held; a failed cipher core leaves service; the sensor's crossing shows in HOT; the end of the Strip pass lowers STRIP_BUSY. -/
def Obligations.MemoryEventsComplete : Prop := ∀ (s : State),
  (∀ n, s.mem.lost.contains n = true → s.mem.majorHigh < 2 ^ 48 - 1 →
    ∃ t, exec (.nodeRebuildDone n) s = .next t ∧ t.mem.lost.contains n = false) ∧
  (∀ k, ∃ t, exec (.memRootError k) s = .next t ∧ t.mem.rootBad = true) ∧
  (∀ (k : Fin 4) l, ∃ t, exec (.mcuCoreFault k l) s = .next t ∧ natBit (t.fld F.MCU_STATUS.CORE_OK) k = false) ∧
  (∀ hot, s.on F.MEM_STATUS.HOT ≠ hot → ∃ t, exec (.stackTempChange hot) s = .next t ∧ t.on F.MEM_STATUS.HOT = hot ∧
    natBit (t.reg R.MEM_EVENT).toNat 5 = true) ∧
  (s.on F.MEM_STATUS.STRIP_BUSY = true → ∃ t, exec .stripDone s = .next t ∧ t.on F.MEM_STATUS.STRIP_BUSY = false ∧
    t.boot.stripDone = true)

/-- R347, R365, R366, R370: passes over the stack. SKIM_START that nothing refuses gives each region of the mask a free key ID
and begins at line 0; each group of 32 lines moves the line on; a change of DBUF_T in SETUP starts a Strip pass; raw debug
access, once the debug port and its right allow it, retires the private key IDs the first time, moves the device to HOLD and
answers ciphertext. -/
def Obligations.MemoryPassesComplete : Prop := ∀ (s : State) (v : Word),
  (∀ regions, regions = allBelow (fun k => (natBits v.toNat 8 0).testBit k) 9 → s.regsOpen = true → natBit v.toNat 31 = true →
    natBit v.toNat 5 = false → regions ≠ [] → s.on F.MEM_STATUS.SKIM_BUSY = false → s.on F.MEM_STATUS.STRIP_BUSY = false →
    regions.length ≤ s.freeIds.length → s.alarm.stopped.testBit 4 = false →
    ∃ t, exec (.skimStart v) s = .next t ∧ t.mem.skim = some ⟨regions.zip s.freeIds, false⟩ ∧
      t.on F.MEM_STATUS.SKIM_BUSY = true ∧ t.fld F.MEM_SKIM_LINE.LINE = 0) ∧
  (∀ x l k i, s.mem.skim = some x → x.stopped = false → s.alarm.stopped.testBit 4 = false →
    s.skimNext x.ids (s.fld F.MEM_SKIM_LINE.LINE) = some (l, k, i) → s.accessWaits k l = false → l + 32 < s.rgnBase k + s.rgnSize k →
    l + 32 < 2 ^ 28 → ∃ t, exec .skimGroupMove s = .next t ∧ t.fld F.MEM_SKIM_LINE.LINE = l + 32 ∧ t.mem.skim = s.mem.skim) ∧
  (s.op = .setup → natBit v.toNat 31 ≠ s.on F.MEM_CFG.DBUF_T → natBit v.toNat 31 = true ∨ s.fuse 136 136 = 0 →
    ∃ t, exec (.dbufTWrite v) s = .next t ∧ t.on F.MEM_CFG.DBUF_T = natBit v.toNat 31 ∧ t.on F.MEM_STATUS.STRIP_BUSY = true) ∧
  (∀ (a : RawAccess) k, s.region a.line = some k → a.write = none → s.on F.BOOT_STATUS.DEBUG_OPEN = true →
    natBit s.debugRights 3 = true →
    (s.mem.raw = false → s.op = .run → ∃ t, exec (.rawDebugAccess a) s = .next t ∧ t.mem.raw = true ∧ t.op = .hold) ∧
    (s.mem.raw = true → ∃ t d, exec (.rawDebugAccess a) s = .next t ∧ t.out = s.out ++ [.memory .debug a.line (some d)] ∧
      d.length = 64 ∧ t.mem = s.mem))

/-- R345: a command on a line that lies in no region stops the block with the fault that names it; no other command faults, and
none is refused: every other command answers a next state, in every state. -/
def Obligations.OnlyAbsentLinesFault : Prop := ∀ (s : State) (i : Instr),
  (∃ t, exec i s = .next t) ∨
  (exec i s = .fault (.noSuchObject "line") ∧
    ((∃ m, i = .memReadDone m ∧ s.region m.line = none) ∨ (∃ m, i = .scrubRead m ∧ s.region m.line = none) ∨
     (∃ w, i = .memLineWrite w ∧ s.region w.line = none) ∨ (∃ a, i = .rawDebugAccess a ∧ s.region a.line = none)))

/-! ### The host interface (spec/16_host_interface.md) -/

/-- R373, R374, R401 to R403: the UCIe link. Training that ends on an unreset, powered device reports the link up with its rate
and width; an incomplete one starts again; a link that goes down clears the MSI-X state and stops the rings that owe nothing,
while the data path is unchanged. -/
def Obligations.HostLinkCompletes : Prop := ∀ (s : State), s.corePowered = true → s.boot.inReset = none →
  (∀ x : UcieTrain, s.fld F.HOST_STATUS.LINK ≠ 2 → s.config ≠ 2 →
    (if s.straps.uciePkg then x.width.val ≠ 0 else x.width.val = 0) →
    ∃ t, exec (.ucieTrainDone x) s = .next t ∧ t.fld F.HOST_STATUS.LINK = 2 ∧ t.fld F.HOST_STATUS.RATE = x.rate.val ∧
      t.fld F.HOST_STATUS.WIDTH = x.width.val ∧ t.host.linkLost = false) ∧
  (s.fld F.HOST_STATUS.LINK ≠ 2 → ∃ t, exec .ucieTrainRetry s = .next t ∧ t.fld F.HOST_STATUS.LINK = 1) ∧
  (s.fld F.HOST_STATUS.LINK = 2 → s.op = .run →
    ∃ t, exec .ucieLinkDown s = .next t ∧ t.fld F.HOST_STATUS.LINK = 0 ∧ t.host.linkLost = true ∧ t.host.msix = [] ∧
      t.host.pba = [] ∧ t.path = s.path ∧ t.sched = s.sched ∧
      ∀ n : Fin 64, (s.ring n).owed = [] → t.running n = false) ∧
  (∀ n : Fin 64, s.running n = true → ∃ t, exec (.hostReadTimeout (.descriptor n)) s = .next t ∧ t.fld (F.RING_STATUS.ERR n) = 1 ∧
    t.on (F.RING_CTL.EN n) = false ∧ natBit (t.reg R.HOST_EVENT).toNat 2 = true) ∧
  (∀ fn : Fin 3, fn.val ≠ 0 → s.op ≠ .rom → ∃ t, exec (.functionLevelReset fn) s = .next t ∧
    ∀ n : Fin 64, s.fld (F.RING_CFG.FUNC n) = fn.val → t.running n = false) ∧
  (exec (.functionLevelReset 0) s = .next s.warmReset)

/-- R382, R384, R400: ring control. Enabling a stopped pair whose indices have been reset and whose kind and function agree
starts it, disabling ends its fetching, it stops when nothing is owed, and a reset zeroes its indices and sets its phase; a
doorbell of the owning function sets the tail or the head; a due coalescing time signals an armed pair once. R385, R386, R388:
fetching. A whole posted command of an existing operation is fetched when there is room for its completion and fewer than 64 are
owed: it joins the end of the owed list with its tag, not yet done. -/
def Obligations.RingControlAndFetchComplete : Prop :=
  (∀ (s : State) (n : Fin 64),
    (s.regsOpen = true → s.running n = false → (s.ring n).fresh = true → s.kindOk n = true → s.kind n ≠ 1 →
      ∃ t, exec (.ringEnable n) s = .next t ∧ t.running n = true ∧ t.on (F.RING_CTL.EN n) = true ∧ (t.ring n).fresh = false) ∧
    (s.regsOpen = true → ∃ t, exec (.ringDisable n) s = .next t ∧ t.on (F.RING_CTL.EN n) = false ∧ t.host = s.host) ∧
    (s.running n = true → s.on (F.RING_CTL.EN n) = false → (s.ring n).owed = [] →
      ∃ t, exec (.ringStopDone n) s = .next t ∧ t.running n = false ∧ t.host = s.host) ∧
    (s.regsOpen = true → s.running n = false →
      ∃ t, exec (.ringReset n) s = .next t ∧ t.fld (F.RING_HEADS.SQ_HEAD n) = 0 ∧ t.fld (F.RING_HEADS.CQ_WRITE n) = 0 ∧
        t.fld (F.RING_HEADS.CQ_PHASE n) = 1 ∧ (t.ring n).fresh = true ∧ (t.ring n).tail = 0) ∧
    (∀ fn v, s.doorbell fn n = true → exec (.sqTailDoorbell fn n v) s =
      .next ((s.setRing n { s.ring n with tail := natBits v.toNat 14 0 % s.sqSize n, tailWord := v }).count 0x6C0)) ∧
    (∀ fn v, s.doorbell fn n = true → natBit v.toNat 31 = false → ∀ h u, h = natBits v.toNat 14 0 % s.cqSize n →
      u = (s.fld (F.RING_HEADS.CQ_WRITE n) + s.cqSize n - h) % s.cqSize n →
      exec (.cqHeadDoorbell fn n v) s = .next ((s.setRing n { s.ring n with cqHead := h, headWord := v, cqUsed := u }).count 0x6C0)) ∧
    ((s.ring n).armed = true → 0 < (s.ring n).unsignalled → s.fld (F.RING_COAL.COAL_TIME n) ≠ 0 →
      exec (.msixCoalTimeout n) s = .next ((s.setRing n { s.ring n with armed := false, unsignalled := 0 }).message
        (s.fld (F.RING_CFG.FUNC n)) (s.fld (F.RING_CFG.VECTOR n))))) ∧
  (∀ (s : State) (n : Fin 64) (d : List Byte) (k g op : Nat), s.fetchesNow n = true →
    s.kind n = 0 → k = natBits (leAt d 0 4) 15 12 → g = natBits (leAt d 0 4) 31 28 → op = natBits (leAt d 0 4) 27 24 →
    op < groupOps g → 1 + k ≤ s.sqPosted n → (s.ring n).owed.length < 64 →
    (((s.ring n).owed.map (·.maxSlots)).sum + 16 ≤ s.cqFree n) →
    ∃ t o, exec (.cmdFetch n d) s = .next t ∧ (t.ring n).owed = (s.ring n).owed ++ [o] ∧ o.tag = BitVec.ofNat 16 (leAt d 4 2) ∧
      o.group = g ∧ o.op = op ∧ o.done = none ∧ o.maxSlots = 1 + maxConts g op)

/-- R390, R394, R395, Table 16.7: the slow path and the SYS group. A transmit frame of legal length for this device is queued on
its port; EXC_STEER takes pair and rate and refills its bucket; NOP completes; FENCE completes at once when no command is owed,
and waits while an earlier one is. -/
def Obligations.SlowPathAndSysComplete : Prop := ∀ (s : State) (n : Fin 64),
  (∀ d fr, s.fetchesNow n = true → s.kind n = 2 → s.sqPosted n ≠ 0 → natBits (leAt d 12 1) 6 0 < 96 → 60 ≤ leAt d 10 2 →
    leAt d 10 2 ≤ 9216 → natBits (leAt d 13 1) 6 0 = 0x7E → natBit (leAt d 12 1) 7 = false →
    exec (.pf2TxFetch n d (some fr)) s = .next ((s.takeSlots n 1).pf2Queue (natBits (leAt d 12 1) 6 0) (natBits (leAt d 14 1) 2 0)
      (padTo (leAt d 10 2) fr) false (some (n.val, leAt d 8 2)))) ∧
  (∀ (r : Fin 4) v, s.regsOpen = true → ∃ t, exec (.excSteerWrite r v) s = .next t ∧ t.fld (F.EXC_STEER.RATE r) = natBits v.toNat 31 16 ∧
    t.fld (F.EXC_STEER.PAIR r) = natBits v.toNat 5 0 ∧ (t.tokens r).1 = (t.tokens r).2) ∧
  (∀ c : RingCmd, c.served n s → exec (.nop c) s = .next (s.finish n 12 0 c {})) ∧
  (∀ c : RingCmd, c.served n s → s.host.fences = [] → (∀ m, (s.ring m).owed = []) → (∀ e ∈ s.host.rings, e.2.owed = []) →
    ∃ t, exec (.fence c) s = .next t ∧ t.host.fences = [] ∧ s.Reported t) ∧
  (∀ (c : RingCmd) (m : Fin 64) o, c.served n s → s.host.fences = [] → orderOf s n c.tag 12 1 = none → o ∈ (s.ring m).owed →
    o.done = none → o.order < s.host.order → ∃ t, exec (.fence c) s = .next t ∧ t.host.fences = [(n.val, s.host.order)])

/-- R7, R376, R377, R513, R514, R518: host writes. Before LOAD a write reaches nothing; from LOAD on a 32-bit write of
ID_SCRATCH stores the word and nothing else, and an access of another size is dropped; a write of 1 clears an event bit; an RW-L
register takes a value in range in SETUP, keeps its word in RUN, HOLD and FAULT, where a differing write raises LOCK_WRITE, and
keeps it when the value is out of range. -/
def Obligations.RegisterWriteCompletes : Prop := ∀ (s : State) (x : BitVec 64) (v : Word), v = BitVec.ofNat 32 x.toNat →
  (∀ w, s.op.code < 3 → exec (.registerWrite w) s = .next s) ∧
  (3 ≤ s.op.code →
    (exec (.registerWrite ⟨0, 0, R.ID_SCRATCH, 4, x⟩) s = .next (s.setReg R.ID_SCRATCH v)) ∧
    (∀ off size, size ≠ 4 → exec (.registerWrite ⟨0, 0, off, size, x⟩) s = .next s) ∧
    (∀ off size, exec (.registerWrite ⟨1, 0, off, size, x⟩) s = .next s) ∧
    (∃ t : State, exec (.registerWrite ⟨0, 0, R.HOST_EVENT, 4, x⟩) s = .next t ∧ t = s.setReg R.HOST_EVENT (t.reg R.HOST_EVENT) ∧
      ∀ b, b < 5 → natBit (t.reg R.HOST_EVENT).toNat b = (natBit (s.reg R.HOST_EVENT).toNat b && !natBit v.toNat b))) ∧
  (∀ p : Fin 96, ∃ t : State, exec (.registerWrite ⟨0, 0, R.PORT_MAC_CFG p, 4, x⟩) s = .next t ∧
    (s.op = .setup → 1518 ≤ natBits v.toNat 13 0 → natBits v.toNat 13 0 ≤ 9344 → 1518 ≤ natBits v.toNat 29 16 → natBits v.toNat 29 16 ≤ 9344 →
      t.fld (F.PORT_MAC_CFG.TX_MAX_LEN p) = natBits v.toNat 13 0 ∧ t.fld (F.PORT_MAC_CFG.RX_MAX_LEN p) = natBits v.toNat 29 16 ∧
      ∀ a, a ≠ R.PORT_MAC_CFG p → t.reg a = s.reg a) ∧
    (s.op = .setup → 9344 < natBits v.toNat 13 0 → t.reg (R.PORT_MAC_CFG p) = s.reg (R.PORT_MAC_CFG p) ∧
      natBit (t.reg (R.PORT_EVENT p)).toNat 2 = true) ∧
    (s.op = .run ∨ s.op = .hold ∨ s.op = .fault → t.reg (R.PORT_MAC_CFG p) = s.reg (R.PORT_MAC_CFG p) ∧
      (natBits v.toNat 13 0 ≠ s.fld (F.PORT_MAC_CFG.TX_MAX_LEN p) → natBit (t.reg R.HOST_EVENT).toNat 0 = true)))

/-! ### Power, boot and tamper (spec/17_boot_and_lifecycle.md, spec/18_tamper.md, spec/21_power_clocks_reset.md) -/

/-- R477, R483, R484, R486 to R488, R501: power and resets. PWRGOOD begins a power-on reset; the battery's arrival and loss
change the battery domain only; a loss of core power leaves the battery domain and the fuses; a reset raised while none runs is
carried out with its cause, keeps battery, fuses and straps and drops the keys; raised while one runs it merges with it, and
during a fuse burn it waits. -/
def Obligations.PowerAndResetComplete : Prop := ∀ (s : State),
  (s.corePowered = false → ∃ t : State, exec .powerGood s = .next t ∧ t.op = .rom ∧ t.boot.inReset = some (.powerOn, true) ∧
    t.fld F.BOOT_STATUS.RESET_CAUSE = 0 ∧ t.bat = { s.bat with core := true } ∧ t.out = s.out) ∧
  (∃ t : State, exec .vbatPresent s = .next t ∧ t.bat = { s.bat with vbat := true } ∧ t.regs = s.regs ∧
    t.op = (if s.op = .off then .battery else s.op)) ∧
  (∃ t : State, exec .vbatLoss s = .next t ∧ t.bat.vbat = false ∧ t.bat.roots = [] ∧ t.bat.log = [] ∧ t.boot = s.boot ∧
    t.regs = s.regs ∧ t.key = s.key ∧ t.op = (if s.op = .battery then .off else s.op)) ∧
  (s.corePowered = true → s.boot.burn = none → ∃ t : State, exec .powerLoss s = .next t ∧ t.boot.fuses = s.boot.fuses ∧
    t.bat = { s.bat with core := false } ∧ t.key.slots = [] ∧ t.op = (if s.bat.vbat then .battery else .off)) ∧
  (s.corePowered = true → s.boot.inReset = none → s.on F.FUSE_STATUS.BUSY = false → s.boot.burn = none →
    (∃ t : State, exec .coldReset s = .next t ∧ t.boot.inReset = some (.cold, true) ∧ t.fld F.BOOT_STATUS.RESET_CAUSE = 1 ∧
      t.boot.fuses = s.boot.fuses ∧ t.bat = s.bat ∧ t.straps = s.straps ∧ t.key.slots = [] ∧ t.op = .rom) ∧
    (∃ t : State, exec .warmReset s = .next t ∧ t.boot.inReset = some (.warm, false) ∧ t.fld F.BOOT_STATUS.RESET_CAUSE = 2 ∧
      t.boot.fuses = s.boot.fuses ∧ t.bat = s.bat ∧ t.straps = s.straps ∧ t.key.slots = [] ∧ t.op = .rom ∧
      (s.config = 1 → s.role = 3 → 3 ≤ s.op.code → Out.yield ∈ t.out))) ∧
  (∀ k b, s.corePowered = true → s.boot.inReset = some (k, b) →
    ∃ t : State, exec .coldReset s = .next t ∧ t.boot.inReset = some (k.merge .cold, true) ∧ t.key = s.key ∧ t.bat = s.bat) ∧
  (s.corePowered = true → s.boot.inReset = none → s.on F.FUSE_STATUS.BUSY = true → s.boot.deferred = none →
    exec .coldReset s = .next (s.setBoot { s.boot with deferred := some .cold }))

/-- R408, R411, R412, R414, R488, R498: boot. A release samples the straps as its kind says and runs the ROM steps; ROM ends in
LOAD; GO reads the image and verification reports the first check that fails, or 15; a verified image enters SETUP; RUN_REQ and
HOLD_REQ enter RUN and HOLD. -/
def Obligations.BootCompletes : Prop := ∀ (s : State),
  (∀ k smp (pins : Straps), s.boot.inReset = some (k, smp) →
    ∃ t : State, exec (.resetRelease pins) s = .next t ∧ t.boot.inReset = none ∧
      t.straps = (if smp then pins else { s.straps with dbgReq := pins.dbgReq }) ∧ t.boot.romRun = true ∧
      (t.straps.cfg.val ≠ 3 → t.bat.bootCount = min (s.bat.bootCount + 1) (2 ^ 48 - 1) ∧ t.fld F.MCU_STATUS.KEYSET_VALID = 255 ∧
        t.fld F.HOST_STATUS.LINK = 1 ∧ t.sliceState 12 = 2 ∧ t.op = s.op)) ∧
  (s.op = .rom → s.boot.inReset = none → s.on F.MEM_STATUS.STRIP_BUSY = false → s.boot.romRun = true →
    ∃ t : State, exec .romDone s = .next t ∧ t.op = .load ∧ (s.on F.BOOT_STATUS.DEBUG_OPEN = true → t.key = s.key)) ∧
  (s.op = .load → s.fwStatus ≠ 1 → s.fwStatus ≠ 15 → s.boot.loadBlocked = false → s.isMember = false →
    (∀ bs, ∃ t : State, exec (.fwLoadGo (some bs)) s = .next t ∧ t.fwStatus = 1 ∧ t.boot.image = bs.take (s.fld F.FW_LOAD_LEN.LEN)) ∧
    (∃ t : State, exec (.fwLoadGo none) s = .next t ∧ t.fwStatus = 2 ∧ t.boot.image = [])) ∧
  (s.op = .load → s.fwStatus = 1 → s.isMember = false →
    ∃ t : State, exec .fwVerifyDone s = .next t ∧ t.fwStatus = s.verifyImage s.boot.image ∧ t.op = .load ∧
      (s.verifyImage s.boot.image = 15 → t.boot.header = s.boot.image.take 256 ∧
        t.fld F.FW_INFO.IMAGE_ARB = leAt s.boot.image 8 1) ∧
      (s.verifyImage s.boot.image ≠ 15 → t.boot.header = s.boot.header ∧ t.boot.image = [])) ∧
  (s.op = .load → s.fwStatus = 15 → s.config ≠ 2 →
    ∃ t : State, exec .setupEntry s = .next t ∧ t.op = .setup ∧ natBit (t.reg R.BOOT_EVENT).toNat 0 = true ∧
      t.bat.lfsrA = Config.freeValue s.free 32 ∧ t.bat.notice = none ∧ t.boot = s.boot) ∧
  (s.op = .setup → s.on F.MEM_STATUS.STRIP_BUSY = false →
    ∃ t : State, exec .runReq s = .next t ∧ t.op = .run ∧ (s.config = 0 → 12 ≤ s.fld F.RUB_CFG.RETIRE → t = { s with op := .run })) ∧
  (s.op = .setup ∨ s.op = .run →
    ∃ t : State, exec .holdReq s = .next t ∧ t.op = .hold ∧ (s.config ≠ 1 → t = { s with op := .hold }))

/-- R415, R417, R418, R423, R430, R487: fuses. In SETUP with no burn running, each operation whose checks pass starts its burn,
and its end sets exactly the bits of the burn; outside SETUP an operation answers STATE and burns nothing. R422: attestation. GO
in SETUP, RUN or HOLD starts the report while an identity key exists and answers NO_ROOT without one; at its end the signed
report lies in the buffer, unless that cannot be written, and ATTEST_DONE is raised. -/
def Obligations.FusesAndAttestationComplete : Prop :=
  (∀ (s : State),
    (s.op = .setup → s.boot.burn = none →
      (s.fusedArb < leAt s.boot.header 8 1 →
        exec .arbCommit s = .next (s.fuseBurn 1 (BitVec.ofNat 1600 ((2 ^ leAt s.boot.header 8 1 - 1) <<< 64)))) ∧
      (leAt s.boot.header 8 1 ≤ s.fusedArb → exec .arbCommit s = .next (s.fuseAnswer 0)) ∧
      (∀ bs, 1 ≤ s.lc → s.lc ≤ 3 → s.ownerFused = false → leAt bs 0 32 ≠ 0 → leAt bs 32 32 ≠ 0 →
        exec (.ownerHash (some bs)) s =
          .next (s.fuseBurn 2 (BitVec.ofNat 1600 ((leAt bs 32 32 <<< 1024) + (leAt bs 0 32 <<< 768))))) ∧
      (∀ obj hdr who, hdr = slice obj 0 256 → slice hdr 0 4 = ascii "XCLC" → leAt hdr 4 2 = 1 → leAt hdr 0x10 240 = 0 → leAt hdr 6 1 = s.lc →
        leAt hdr 8 8 = s.fuse 255 192 → transition s.lc (leAt hdr 7 1) = some who →
        exec (.lcAdvance (some obj)) s = .next (if s.signedBy (slice obj 256 5376) hdr who then
          s.fuseBurn 3 (BitVec.ofNat 1600 (255 <<< (8 * (leAt hdr 7 1 - 1)))) else s.fuseAnswer 4)) ∧
      (exec .dbufMinT s = .next (s.fuseBurn 4 (BitVec.ofNat 1600 (2 ^ 136)))) ∧
      (s.lc ≠ 0 → s.lc ≠ 5 → ∃ t : State, exec .floorCmd s = .next t ∧ t.on F.FLOOR_CMD.BUSY = true ∧ t.boot.fuses = s.boot.fuses ∧
        t.boot.burn = some (8, BitVec.ofNat 1600 (((s.reg R.ALARM_RESP_HI).toNat * 2 ^ 32 + (s.reg R.ALARM_RESP_LO).toNat) <<< 1280)))) ∧
    (∀ op m, s.boot.burn = some (op, m) → s.boot.deferred = none → s.boot.inReset = none →
      ∃ t : State, exec .fuseBurnDone s = .next t ∧ t.boot.fuses = s.boot.fuses ||| m ∧ t.boot.burn = none ∧
        (op ≠ 3 → op ≠ 8 → t.on F.FUSE_STATUS.BUSY = false ∧ t.fld F.FUSE_STATUS.CODE = 0 ∧
          natBit (t.reg R.BOOT_EVENT).toNat 2 = true) ∧
        (op = 8 → t.on F.FLOOR_CMD.BUSY = false ∧ t.fld F.FLOOR_CMD.CODE = 0) ∧
        (op = 3 → t.boot.inReset = some (.cold, true))) ∧
    (s.op = .run → exec .arbCommit s = .next (s.fuseAnswer 1) ∧ exec .dbufMinT s = .next (s.fuseAnswer 1))) ∧
  (∀ (s : State),
    (s.op = .setup ∨ s.op = .run ∨ s.op = .hold → s.on F.ATT_STATUS.BUSY = false →
      (s.key.rootUp = true → exec .attGo s = .next (s.put F.ATT_STATUS.BUSY 1)) ∧
      (s.key.rootUp = false → exec .attGo s = .next (s.put F.ATT_STATUS.CODE 6))) ∧
    (∀ ok, s.on F.ATT_STATUS.BUSY = true → s.isMember = false →
      ∃ t : State, exec (.attDone ok) s = .next t ∧ t.on F.ATT_STATUS.BUSY = false ∧ t.fld F.ATT_STATUS.CODE = (if ok then 0 else 7) ∧
        natBit (t.reg R.BOOT_EVENT).toNat 1 = true ∧ t.key = s.key ∧
        (ok = true → Out.hostWrite (s.fld F.ATT_BUF_HI.ADDR * 2 ^ 32 + s.fld F.ATT_BUF_LO.ADDR * 64) s.attReport ∈ t.out)))

/-- R225, R427, R432, R436, R438, R439: monitors. A trip of a running monitor whose condition is new raises its alarm: the cause
shows in ALARM_STATUS and one record joins the log; ALARM_REARM ends the condition; ENC_CFG takes effect; a test round opens its
windows one after the other, and a stimulus without a trip raises cause 14; the health line follows its kicks; a TRNG failure
puts the device into FAULT. -/
def Obligations.MonitorsComplete : Prop := ∀ (s : State),
  (∀ (x : Trip), s.monitorRuns x.cause = true → s.alarm.testing = none → s.alarm.present.testBit x.cause = false → s.alarmRuns = none →
    ∃ t : State, exec (.monitorTrip x) s = .next t ∧ t.alarm.present.testBit x.cause = true ∧ t.bat.status.testBit x.cause = true ∧
      t.bat.logCount = s.bat.logCount + 1 ∧ (∃ r, t.tlogAt (logEntry s.bat.logCount) = some r ∧ r.causes = 2 ^ x.cause.val ∧
        r.detail = x.detail.toNat ∧ r.opstate = s.op.code) ∧
      (16 ≤ x.cause.val → s.op ≠ .battery → t.op = .fault ∧ ∀ p, p < 96 → t.link p = 0)) ∧
  (∀ k, ∃ t : State, exec (.alarmRearm k) s = .next t ∧ t.alarm.present.testBit k = false ∧ t = s.setAlarm t.alarm) ∧
  (∀ v, s.bat.vbat = true → ∃ t : State, exec (.encCfgApply v) s = .next t ∧ t.bat = { s.bat with encCfg := v &&& 0xEE } ∧
    t.alarm = { s.alarm with encPending := none } ∧ t.regs = s.regs) ∧
  (3 ≤ s.op.code → s.op.code ≤ 6 → s.on F.ALARM_TEST_CFG.TEST_EN = true → s.alarm.testing = none →
    exec .monitorTestRound s = .next (s.setAlarm { s.alarm with testing := some (if s.config = 2 then 2 else 0) })) ∧
  (∀ d : Fin 15, s.alarm.testing = some d.val → s.op ≠ .off →
    (exec (.testWindowEnd d true false) s =
      .next (s.setAlarm { s.alarm with testing := (s.stimulated.filter (fun e => d.val < e)).head? })) ∧
    (∃ t : State, exec (.testWindowEnd d false false) s = .next t ∧ t.fld F.ALARM_TEST_CFG.LAST_FAIL = d ∧
      t.alarm.present.testBit 14 = true)) ∧
  (s.regsOpen = true → exec .healthKick s = .next (s.setAlarm { s.alarm with kicked := true })) ∧
  (exec .healthKickExpiry s = .next (s.setAlarm { s.alarm with kicked := false })) ∧
  (2 ≤ s.op.code → ∃ t : State, exec .trngHealthTimeout s = .next t ∧ t.key.generating = [] ∧ t.alarm.present.testBit 19 = true ∧
    (s.alarm.present.testBit 19 = false → s.alarmRuns = none → t.op = .fault))

/-- R432: a trip of a running detector raises an alarm: one more record of the log, or, while another alarm's responses execute
(R433), a cause of that alarm's record. A trip while the condition is still present adds nothing. Once the condition has been
absent for 1 s (ALARM_REARM), the cause raises again. -/
def Obligations.ConditionRaisesOneAlarm : Prop := ∀ (s : State) (x : Trip), s.monitorRuns x.cause = true → s.alarm.testing = none →
  (s.alarm.present.testBit x.cause = false →
    (s.alarmRuns = none → ∃ t : State, exec (.monitorTrip x) s = .next t ∧ t.bat.logCount = s.bat.logCount + 1 ∧
      t.alarm.present.testBit x.cause = true) ∧
    (∀ a r, s.alarmRuns = some a → s.tlogAt a.entry = some r → ∃ t r', exec (.monitorTrip x) s = .next t ∧
      t.bat.logCount = s.bat.logCount ∧ t.tlogAt a.entry = some r' ∧ r'.causes = r.causes ||| 2 ^ x.cause.val ∧
      t.alarm.present.testBit x.cause = true)) ∧
  (s.alarm.present.testBit x.cause = true →
    ∃ t : State, exec (.monitorTrip x) s = .next t ∧ t.bat = s.bat ∧ t.op = s.op ∧ t.key = s.key ∧ t.alarm.present = s.alarm.present ∧
      t.alarm.running = s.alarm.running) ∧
  (∃ t : State, exec (.alarmRearm x.cause) s = .next t ∧ t.alarm.present.testBit x.cause = false ∧ t.bat = s.bat ∧
    t.alarm.running = s.alarm.running)

/-! ### Rub-down, slices, counters -/

/-- R442 to R447: the first half of a pass. In RUN, with no pass running and a float that works, a pass starts on the next slice
of the order, or is skipped as too hot; after its preparation it mirrors, or tests in place; the copy ends; at the hand-over
instant the float carries the group with its extra work; without an instant the pass ends with the result NO_GAP. -/
def Obligations.RubPassGoesOut : Prop := ∀ (s : State),
  (s.op = .run → s.rub.halted = false → s.rubPhase = 0 → s.on F.RUB_STATUS.FLOAT_FAILED = false → ∀ temp : Int,
    (temp < s.fld F.RUB_CFG.TEMP_MAX →
      (∃ t : State, exec (.rubNow temp) s = .next t ∧ t.rubPhase = 1 ∧ t.testing = s.rubNext ∧ t.fld F.RUB_STATUS.NEXT = s.rubNext ∧
        t.rub.inPlace = (s.rubNext == 12 || !s.groupEnabled s.rubNext) ∧ t.rub.retired = s.rub.retired) ∧
      (s.on F.RUB_CFG.RUB_EN = true → exec (.rubPassStart temp) s = exec (.rubNow temp) s) ∧
      (s.on F.RUB_CFG.RUB_EN = true → s.fld (F.RUB_RESULT.LAST s.rubNext) = 6 →
        exec (.rubTempRetry temp) s = exec (.rubNow temp) s)) ∧
    ((s.fld F.RUB_CFG.TEMP_MAX : Int) ≤ temp →
      ∃ t : State, exec (.rubNow temp) s = .next t ∧ t.rubPhase = 0 ∧ t.fld (F.RUB_RESULT.LAST s.rubNext) = 6 ∧
        natBit (t.reg R.RUB_EVENT).toNat 1 = true ∧ t.rub = s.rub)) ∧
  (s.rubRuns = true →
    (s.rubPhase = 1 → ∃ t : State, exec .rubPrepareDone s = .next t ∧ t.rubPhase = (if s.rub.inPlace then 4 else 2) ∧
      (s.rub.inPlace = false → t.rub.copy = 1 ∧ t.sliceState 12 = 3) ∧ (s.rub.inPlace = true → s.testing ≤ 12 → t.sliceState s.testing = 3)) ∧
    (s.rub.copy = 1 → s.rubPhase = 2 ∨ s.rubPhase = 5 → s.rubSlice ≤ 12 →
      ∃ t : State, exec .rubMirrorDone s = .next t ∧ t.rub = { s.rub with copy := 2, copiedAt := s.now } ∧ t.rubPhase = s.rubPhase) ∧
    (s.rubPhase = 2 → s.rubSlice < 12 → s.mayHand s.rubSlice = true →
      ∃ t : State, exec .rubHandover s = .next t ∧ t.rubPhase = 3 ∧ t.carried = s.rubSlice ∧ t.sliceOf s.rubSlice = 12 ∧
        t.extra 12 = s.extra s.rubSlice ∧ t.extra s.rubSlice = []) ∧
    (s.rubPhase = 2 → s.rub.copy = 2 → s.rub.retiring = none →
      ∃ t : State, exec .rubGapTimeout s = .next t ∧ t = s.endPass s.testing 5 ∧
        (s.rub.other = none → s.power.held = none → s.testing ≤ 12 → t.rubPhase = 0 ∧ t.fld (F.RUB_RESULT.LAST s.testing) = 5)))

/-- R447, R449 to R451, R454: the second half of a pass. A drained slice is tested, or retired where that is wanted; a failed
slice is retired, lost cores leave service while five are left, and a clean test restores all six; the replicas are refilled and
the state is mirrored back; at the second hand-over the ports return and the pass ends. While no instant is found, nothing
changes. -/
def Obligations.RubPassReturns : Prop := ∀ (s : State),
  (s.rubRuns = true →
    (s.rubPhase = 3 → s.path.frames.any (fun f => f.port / 8 == s.rubSlice && f.verdict.isNone) = false →
      (s.rub.retiring = none → ∃ t : State, exec .rubDrainDone s = .next t ∧ t.rubPhase = (if s.rub.result = 4 then 5 else 4) ∧
        t.rub = { s.rub with copy := 0 }) ∧
      (∀ k, s.rub.retiring = some k → k < 12 → ∃ t : State, exec .rubDrainDone s = .next t ∧ t.rubPhase = 6 ∧ t.rub.retired = [k])) ∧
    (s.rubPhase = 4 → s.testing < 12 → ∀ r : RubResult,
      (r.sliceFail = true ∨ r.sramFail = true → ∃ t : State, exec (.rubTestDone r) s = .next t ∧ t.rubPhase = 6 ∧ t.rub.retired = [s.testing] ∧
        t.fld (F.RUB_RESULT.LAST s.testing) = 3 ∧ t.carried = s.testing) ∧
      (r.sliceFail = false → r.sramFail = false → r.coreFail = 0 → ∃ t : State, exec (.rubTestDone r) s = .next t ∧ t.rubPhase = 5 ∧
        t.fld (F.CIPHER_STATUS.CORE_OK s.testing) = 63 ∧ t.rub = { s.rub with result := 1, copy := 0 }) ∧
      (∀ left, left = s.fld (F.CIPHER_STATUS.CORE_OK s.testing) &&& (63 ^^^ r.coreFail.toNat) → r.sliceFail = false → r.sramFail = false →
        r.coreFail ≠ 0 → 5 ≤ popCount left 6 → ∃ t : State, exec (.rubTestDone r) s = .next t ∧ t.rubPhase = 5 ∧
          t.fld (F.CIPHER_STATUS.CORE_OK s.testing) = left ∧ t.rub = { s.rub with result := 2, copy := 0 })) ∧
    (s.rubPhase = 5 → s.rub.copy = 0 → s.rub.inPlace = false →
      exec .rubRefillDone s =
        .next ((s.refillHits (s.refillSource s.testing) s.testing).setRub { s.rub with copy := 1 })) ∧
    (s.rubPhase = 5 → s.rub.copy = 0 → s.rub.inPlace = true →
      exec .rubRefillDone s = .next ((s.refillHits (s.refillSource s.testing) s.testing).endPass s.testing s.rub.result)) ∧
    (s.rubPhase = 5 → s.testing < 12 → s.rub.result = 1 ∨ s.rub.result = 2 → s.rub.other = none → s.power.held = none →
      s.mayHand s.testing = true →
      ∃ t : State, exec .rubHandback s = .next t ∧ t.rubPhase = 0 ∧ t.carried = 15 ∧ t.fld (F.RUB_RESULT.LAST s.testing) = s.rub.result ∧
        t.extra s.testing = s.extra 12)) ∧
  (exec .rubReturnRetry s = .next s)

/-- R174, R477 to R479, R482, R489, R493: slices. A slice whose condition for ACTIVE holds wakes and becomes ACTIVE; one that
leaves it takes the state its conditions give; a slice reset runs, waits for the pass on its slice, or is refused, and ends; a
lost slice clock resets its slice and a lost central clock raises cause 16; a failed core leaves service. -/
def Obligations.SlicesComplete : Prop := ∀ (s : State) (sl : Fin 13),
  (4 ≤ s.op.code → s.op.code ≤ 6 → s.sliceWants sl = 3 → s.sliceState sl ≠ 3 →
    ∃ t : State, exec (.sliceWake sl) s = .next t ∧ t.power.waking.contains sl.val = true ∧ t = { s with power := t.power }) ∧
  (s.power.waking.contains sl.val = true →
    ∃ t : State, exec (.sliceWakeDone sl) s = .next t ∧ t.sliceState sl = 3 ∧ t.power.waking.contains sl.val = false ∧
      (∀ k : Fin 13, k ≠ sl → t.sliceState k = s.sliceState k)) ∧
  (s.sliceWants sl ≠ 3 → s.sliceWants sl ≠ s.sliceState sl →
    ∃ t : State, exec (.sliceSleep sl) s = .next t ∧ t.sliceState sl = s.sliceWants sl ∧ t.power.waking.contains sl.val = false ∧
      (∀ k : Fin 13, k ≠ sl → t.sliceState k = s.sliceState k)) ∧
  (∀ v : Word, s.op = .setup ∨ s.op = .run ∨ s.op = .hold → natBit v.toNat 30 = true →
    (natBits v.toNat 3 0 = sl.val → s.sliceDead sl = false → s.on F.RST_STATUS.SLICE_BUSY = false → s.rubPhase = 0 →
      ∃ t : State, exec (.sliceReset v) s = .next t ∧ t.on F.RST_STATUS.SLICE_BUSY = true ∧ t.on F.RST_STATUS.SLICE_HELD = false ∧
        t.fld F.RST_STATUS.SLICE = sl) ∧
    (natBits v.toNat 3 0 = sl.val → s.sliceDead sl = false → s.on F.RST_STATUS.SLICE_BUSY = false → 1 ≤ s.rubPhase → s.rubPhase ≤ 5 →
      s.testing = sl.val → ∃ t : State, exec (.sliceReset v) s = .next t ∧ t.power.held = some sl.val ∧
        t.on F.RST_STATUS.SLICE_HELD = true ∧ t.path = s.path ∧ t.sched = s.sched) ∧
    (12 < natBits v.toNat 3 0 → exec (.sliceReset v) s = .next (s.pwrEvent 2 (natBits v.toNat 3 0)))) ∧
  (s.on F.RST_STATUS.SLICE_BUSY = true → s.on F.RST_STATUS.SLICE_HELD = false →
    ∃ t : State, exec .sliceResetDone s = .next t ∧ t.on F.RST_STATUS.SLICE_BUSY = false ∧ t.fld F.RST_STATUS.SLICE = 15 ∧
      natBit (t.reg R.PWR_EVENT).toNat 0 = true) ∧
  (s.sliceState sl = 3 → ∃ t : State, exec (.slicePllUnlock sl) s = .next t ∧ t.on F.RST_STATUS.SLICE_BUSY = true ∧
    t.fld F.RST_STATUS.SLICE = sl) ∧
  (∀ k : Fin 4, 2 ≤ s.op.code → (k.val = 3 → s.config ≠ 0) → s.alarm.present.testBit 16 = false → s.alarmRuns = none →
    ∃ t : State, exec (.centralPllUnlock k) s = .next t ∧ t.op = .fault ∧ t.alarm.present.testBit 16 = true) ∧
  (∀ (k : Fin 6) left, natBit (s.fld (F.CIPHER_STATUS.CORE_OK sl)) k = true → s.sliceState sl = 3 →
    left = natClr (s.fld (F.CIPHER_STATUS.CORE_OK sl)) k → 5 ≤ popCount left 6 →
    ∃ t : State, exec (.cipherCoreFault sl k) s = .next t ∧ t.fld (F.CIPHER_STATUS.CORE_OK sl) = left ∧ t.rub = s.rub ∧ t.op = s.op)

/-- R467 to R472: snapshots, dumps and samples. A snapshot copies every counter into the bank that does not hold the latest one,
unless that bank has still to be dumped, and its end turns the view to it; a pending instant fires once; a dump writes the
snapshot that is due and marks it dumped; a read answers live entries; an enabled sampler below its rate posts one sample. -/
def Obligations.CountersComplete : Prop := ∀ (s : State),
  (∀ (per : Bool) b v, v = s.showSnapshot → b = (match v.perf.view with | some w => 1 - w | none => 0) →
    (∀ x, v.bank b = some x → x.dumped = true) →
    ∃ u x, s.snapshot per = u ∧ u.perf.writing = some b ∧ u.bank b = some x ∧ x.ev = s.perf.ev ∧ x.th = s.perf.th ∧ x.stat = s.perf.stat ∧
      x.blk = s.perf.blk ∧ x.seq = (s.perf.lastSeq + 1) % 2 ^ 32 ∧ u.perf.lastSeq = x.seq ∧ x.sec = s.sec ∧ x.ns = s.ns ∧
      (per = true → s.on F.PERF_CTL.DUMP_EN = true → exec .periodicSnapshot s = .next u) ∧
      (per = false → ∀ (n : Fin 64) (c : RingCmd), c.served n s → exec (.perfSnapshot c) s = .next (u.finish n 11 0 c { r0 := x.seq }))) ∧
  (∀ b x, s.perf.writing = some b → s.bank b = some x → x.seq < 2 ^ 32 →
    ∃ t : State, exec .snapshotDone s = .next t ∧ t.perf = { s.perf with writing := none, view := some b } ∧
      t.fld F.PERF_SNAP_SEQ.SEQ = x.seq) ∧
  (∀ t0, s.perf.snapAt = some t0 → t0.1 * 1000000000 + t0.2 ≤ s.now →
    ∃ t : State, exec .snapAtFire s = .next t ∧ t.perf.snapAt = none ∧ t = (s.setPerf { s.perf with snapAt := none }).snapshot false) ∧
  (∀ b x, s.on F.PERF_CTL.DUMP_EN = true → s.nextDump = some b → s.bank b = some x →
    ∃ t : State, exec .dumpRecordWrite s = .next t ∧ t = s.dumpRecord b ∧ t.bank b = some { x with dumped := true }) ∧
  (∀ (n : Fin 64) (c : RingCmd), c.served n s →
    (s.perf.snapAt = none → leAt c.cont 6 4 < 1000000000 → s.now + 10000 ≤ instantOf c.cont →
      ∃ u : State, exec (.perfSnapAt c) s = .next (u.finish n 11 1 c {}) ∧
        u = s.setPerf { s.perf with snapAt := some (leAt c.cont 0 6, leAt c.cont 6 4) }) ∧
    (∀ b, s.perf.view = some b → exec (.perfDump c) s = .next ((s.dumpRecord b).finish n 11 2 c {})) ∧
    (c.a0 30 16 + c.arg1.toNat ≤ areaSize (c.a0 1 0) → 8 * c.arg1.toNat ≤ c.bufLen.toNat →
      exec (.perfRead c) s = .next (s.finish n 11 3 c
        { bufOut := (List.range c.arg1.toNat).flatMap (fun i => leBytes 8 (s.liveEntry (c.a0 1 0) (c.a0 30 16 + i))) }))) ∧
  (∀ (j : Fin 2) (x : SampleInfo) e, e = s.fld (F.PERF_SAMPLE_CFG.EVENT j.val) → s.on (F.PERF_SAMPLE_CFG.EN j.val) = true →
    sampleEventOk j e = true → Tbl.atN s.perf.rate j.val < 100000 → s.cyc < Tbl.atN s.perf.rateFrom j.val + 1500000000 →
    exec (.perfSample j x) s = .next (((s.setPerf { s.perf with
        rate := Tbl.setN s.perf.rate j.val (Tbl.atN s.perf.rate j.val + 1),
        rateFrom := Tbl.setN s.perf.rateFrom j.val (Tbl.atN s.perf.rateFrom j.val) }).record 0x0F (1 + j.val)
      (if j.val = 0 then x.object.toNat % 4 else x.object.toNat)
      (if j.val = 0 then x.v0.toNat % 2 ^ 24 + e * 2 ^ 32 else x.v0.toNat) (if j.val = 0 then 0 else x.v1.toNat)
      (if j.val = 0 then 0 else x.v2.toNat))))

/-! ### The block as a whole -/

/-- The step (log entry 1: the empty queue's cycle is the model's choice): the command at the front of the queue is carried out
with the queue's rest; on an empty queue one core cycle passes. -/
def Obligations.StepRunsTheFrontCommand : Prop :=
  (∀ (s : State) (c : Instr) (rest : List Instr), s.pending = c :: rest → step s = exec c { s with pending := rest }) ∧
  (∀ s : State, s.pending = [] → ∃ t : State, step s = .next t ∧ t = tick s ∧ t.pending = [] ∧ t.op = s.op ∧ t.boot = s.boot ∧
    (2 ≤ s.op.code → s.boot.inReset = none → t.cyc = s.cyc + 1) ∧
    (s.bat.vbat = true → s.bat.rtcAcc < 1500000000 → s.bat.rtc < 2 ^ 48 → t.bat.rtc * 1500000000 + t.bat.rtcAcc =
      s.bat.rtc * 1500000000 + s.bat.rtcAcc + 32768 ∨ t.bat.rtc = 0))

/-- R7, R488 and log entry 1: after reset the queue is empty, and the register file holds its reset words in canonical form. -/
def Obligations.ResetIsCanonical : Prop :=
  State.reset.regsWf ∧ State.reset.pending = [] ∧ State.reset.op = .rom ∧ State.reset.fld F.BOOT_STATUS.RESET_CAUSE = 0 ∧
    (∀ p : Fin 96, State.reset.link p = 0 ∧ State.reset.fld (F.PORT_MAC_CFG.RX_MAX_LEN p) = 1518)

/-- The register file keeps its canonical form: from every state in which it has it, every step that goes on leaves it so. -/
def Obligations.RegistersStayCanonical : Prop := ∀ s t : State, s.regsWf → step s = .next t → t.regsWf

/-- R418, R423, R487: fuses only gain bits. No step clears a burned fuse, whatever resets, power losses or burns cut short it
carries out. -/
def Obligations.FusesOnlyGainBits : Prop := ∀ s t : State, step s = .next t → s.boot.fuses &&& t.boot.fuses = s.boot.fuses
end

