-- ==== Sys2Proof/Laws/Bits.lean ====
section
/-!
SUPPORT. Bit fields of numbers: a field written reads as the value, fields beside it keep theirs.
-/
namespace Sys2Proof.Machine

theorem natBits_testBit (v hi lo i : Nat) :
    (natBits v hi lo).testBit i = (decide (i < hi + 1 - lo) && v.testBit (lo + i)) := by
  simp [natBits, Nat.testBit_mod_two_pow, Nat.testBit_shiftRight]

theorem natBits_lt (v hi lo : Nat) : natBits v hi lo < 2 ^ (hi + 1 - lo) := Nat.mod_lt _ (Nat.two_pow_pos _)

/-- A number split at a field: the bits above it, the field, the bits below it. -/
theorem natBits_split (v hi lo : Nat) :
    v = v / 2 ^ (lo + (hi + 1 - lo)) * 2 ^ (lo + (hi + 1 - lo)) + natBits v hi lo * 2 ^ lo + v % 2 ^ lo := by
  unfold natBits
  rw [Nat.shiftRight_eq_div_pow, Nat.pow_add]
  generalize 2 ^ (hi + 1 - lo) = w
  have h1 := Nat.div_add_mod v (2 ^ lo)
  have h2 := Nat.div_add_mod (v / 2 ^ lo) w
  rw [Nat.div_div_eq_div_mul] at h2
  calc v = 2 ^ lo * (v / 2 ^ lo) + v % 2 ^ lo := h1.symm
    _ = 2 ^ lo * (w * (v / (2 ^ lo * w)) + v / 2 ^ lo % w) + v % 2 ^ lo := by rw [h2]
    _ = _ := by ring

/-- A field write replaces the middle part. -/
theorem natPut_eq (v hi lo x : Nat) :
    natPut v hi lo x =
      v / 2 ^ (lo + (hi + 1 - lo)) * 2 ^ (lo + (hi + 1 - lo)) + (x % 2 ^ (hi + 1 - lo)) * 2 ^ lo + v % 2 ^ lo := by
  have h := natBits_split v hi lo
  unfold natPut
  simp only
  omega

theorem natPut_testBit (v hi lo x i : Nat) :
    (natPut v hi lo x).testBit i = if lo ≤ i ∧ i < lo + (hi + 1 - lo) then x.testBit (i - lo) else v.testBit i := by
  rw [natPut_eq]
  generalize hw : hi + 1 - lo = w
  have hlow : v % 2 ^ lo < 2 ^ lo := Nat.mod_lt _ (Nat.two_pow_pos _)
  have e : v / 2 ^ (lo + w) * 2 ^ (lo + w) + x % 2 ^ w * 2 ^ lo + v % 2 ^ lo =
      2 ^ lo * (2 ^ w * (v / 2 ^ (lo + w)) + x % 2 ^ w) + v % 2 ^ lo := by rw [Nat.pow_add]; ring
  rw [e, Nat.testBit_two_pow_mul_add _ hlow]
  split
  · next h => rw [if_neg (by omega), Nat.testBit_mod_two_pow]; simp [h]
  · next h =>
    rw [Nat.testBit_two_pow_mul_add _ (Nat.mod_lt _ (Nat.two_pow_pos _))]
    split
    · next h2 => rw [if_pos (by omega), Nat.testBit_mod_two_pow]; simp [h2]
    · next h2 =>
      rw [if_neg (by omega), Nat.testBit_div_two_pow]
      congr 1; omega

/-- A field written reads as the value, cut to the field's width. -/
theorem natBits_natPut_same (v hi lo x : Nat) : natBits (natPut v hi lo x) hi lo = x % 2 ^ (hi + 1 - lo) := by
  apply Nat.eq_of_testBit_eq
  intro i
  rw [natBits_testBit, natPut_testBit, Nat.testBit_mod_two_pow]
  by_cases h : i < hi + 1 - lo
  · simp [h]
  · simp [h]

/-- A field beside the one written keeps its value. -/
theorem natBits_natPut_ne {hi lo hi' lo' : Nat} (h : hi < lo' ∨ hi' < lo) (v x : Nat) :
    natBits (natPut v hi lo x) hi' lo' = natBits v hi' lo' := by
  apply Nat.eq_of_testBit_eq
  intro i
  rw [natBits_testBit, natBits_testBit, natPut_testBit]
  by_cases hi1 : i < hi' + 1 - lo'
  · rw [if_neg (by omega)]
  · simp [hi1]

/-- A field write keeps a number within its word. -/
theorem natPut_lt {v n hi lo x : Nat} (hv : v < 2 ^ n) (hhi : hi < n) : natPut v hi lo x < 2 ^ n := by
  apply Nat.lt_pow_two_of_testBit
  intro i hi'
  rw [natPut_testBit, if_neg (by omega)]
  exact Nat.testBit_lt_two_pow (Nat.lt_of_lt_of_le hv (Nat.pow_le_pow_right (by omega) hi'))

theorem natBit_natPut (v hi lo x i : Nat) (h : i < lo ∨ hi < i) : natBit (natPut v hi lo x) i = natBit v i := by
  unfold natBit
  rw [natPut_testBit, if_neg (by omega)]

/-- A bit set reads 1; the other bits keep their values. -/
theorem natBit_natSet (v i j : Nat) : natBit (natSet v i) j = (natBit v j || decide (i = j)) := by
  unfold natBit natSet
  rw [Nat.testBit_or, Nat.testBit_two_pow]

theorem getF_putF_same {n : Nat} (w : BitVec n) (f : BF) (x : Nat) (h : f.hi < n) :
    getF (putF w f x) f = x % 2 ^ (f.hi + 1 - f.lo) := by
  unfold getF putF
  rw [BitVec.toNat_ofNat, Nat.mod_eq_of_lt (natPut_lt w.isLt h), natBits_natPut_same]

theorem getF_putF_ne {n : Nat} (w : BitVec n) (f g : BF) (x : Nat) (h : f.hi < n) (hd : f.hi < g.lo ∨ g.hi < f.lo) :
    getF (putF w f x) g = getF w g := by
  unfold getF putF
  rw [BitVec.toNat_ofNat, Nat.mod_eq_of_lt (natPut_lt w.isLt h), natBits_natPut_ne hd]

end Sys2Proof.Machine
end

