-- ==== Sys2Proof/Laws/Table.lean ====
section
/-!
SUPPORT. Sparse tables: every operation keeps the canonical form, a read after a write gives the value written, a write
leaves the other entries alone, and two canonical tables that read alike are equal.
-/
namespace Sys2Proof.Machine

variable {α : Type} [DecidableEq α] {d : Nat → α}

/-! ### The canonical form -/

theorem Tbl.wfFrom_cons {lo k : Nat} {v : α} {t : Tbl α} :
    Tbl.wfFrom d lo ((k, v) :: t) = true ↔ lo ≤ k ∧ v ≠ d k ∧ Tbl.wfFrom d (k + 1) t = true := by
  simp [Tbl.wfFrom, and_assoc]

/-- A bound may be lowered. -/
theorem Tbl.wfFrom_mono {lo lo' : Nat} {t : Tbl α} (hle : lo' ≤ lo) (h : Tbl.wfFrom d lo t = true) :
    Tbl.wfFrom d lo' t = true := by
  cases t with
  | nil => rfl
  | cons e t =>
    obtain ⟨h1, h2, h3⟩ := Tbl.wfFrom_cons.mp h
    exact Tbl.wfFrom_cons.mpr ⟨by omega, h2, h3⟩

theorem Tbl.wf_nil : Tbl.wf d ([] : Tbl α) = true := rfl

theorem Tbl.insert_wfFrom {k : Nat} {v : α} (hv : v ≠ d k) :
    ∀ {t : Tbl α} {lo : Nat}, lo ≤ k → Tbl.wfFrom d lo t = true → Tbl.wfFrom d lo (Tbl.insert t k v) = true
  | [], lo, hk, _ => by simp [Tbl.insert, Tbl.wfFrom, hk, hv]
  | (j, w) :: t, lo, hk, h => by
    obtain ⟨h1, h2, h3⟩ := Tbl.wfFrom_cons.mp h
    unfold Tbl.insert
    split
    · next e => subst e; exact Tbl.wfFrom_cons.mpr ⟨hk, hv, h3⟩
    · split
      · exact Tbl.wfFrom_cons.mpr ⟨hk, hv, Tbl.wfFrom_cons.mpr ⟨by omega, h2, h3⟩⟩
      · exact Tbl.wfFrom_cons.mpr ⟨h1, h2, Tbl.insert_wfFrom hv (by omega) h3⟩

theorem Tbl.erase_wfFrom {k : Nat} :
    ∀ {t : Tbl α} {lo : Nat}, Tbl.wfFrom d lo t = true → Tbl.wfFrom d lo (Tbl.erase t k) = true
  | [], _, _ => rfl
  | (j, w) :: t, lo, h => by
    obtain ⟨h1, h2, h3⟩ := Tbl.wfFrom_cons.mp h
    unfold Tbl.erase
    split
    · exact Tbl.erase_wfFrom (Tbl.wfFrom_mono (by omega) h3)
    · exact Tbl.wfFrom_cons.mpr ⟨h1, h2, Tbl.erase_wfFrom h3⟩

/-- A write keeps the canonical form. -/
theorem Tbl.setD_wf {t : Tbl α} (k : Nat) (v : α) (h : Tbl.wf d t = true) : Tbl.wf d (Tbl.setD d t k v) = true := by
  unfold Tbl.setD
  split
  · exact Tbl.erase_wfFrom h
  · next hv => exact Tbl.insert_wfFrom hv (Nat.zero_le k) h

/-! ### Read after write -/

theorem Tbl.getD_below {k : Nat} : ∀ {t : Tbl α} {lo : Nat}, Tbl.wfFrom d lo t = true → k < lo → Tbl.getD d t k = d k
  | [], _, _, _ => rfl
  | (j, w) :: t, lo, h, hk => by
    obtain ⟨h1, _, h3⟩ := Tbl.wfFrom_cons.mp h
    unfold Tbl.getD
    rw [if_neg (by omega)]
    exact Tbl.getD_below h3 (by omega)

omit [DecidableEq α] in
theorem Tbl.getD_insert {k : Nat} {v : α} (j : Nat) :
    ∀ {t : Tbl α}, Tbl.getD d (Tbl.insert t k v) j = if j = k then v else Tbl.getD d t j
  | [] => by
    by_cases h : j = k
    · simp [Tbl.insert, Tbl.getD, h]
    · simp [Tbl.insert, Tbl.getD, h, Ne.symm h]
  | (i, w) :: t => by
    unfold Tbl.insert
    by_cases h : j = k
    · subst h
      split
      · simp [Tbl.getD]
      · next hne =>
        split
        · simp [Tbl.getD]
        · unfold Tbl.getD
          rw [if_neg hne, Tbl.getD_insert j]
          simp
    · rw [if_neg h]
      split
      · next e => subst e; simp [Tbl.getD, Ne.symm h]
      · split
        · simp [Tbl.getD, Ne.symm h]
        · unfold Tbl.getD
          rw [Tbl.getD_insert j, if_neg h]

omit [DecidableEq α] in
theorem Tbl.getD_erase {k : Nat} (j : Nat) :
    ∀ {t : Tbl α}, Tbl.getD d (Tbl.erase t k) j = if j = k then d j else Tbl.getD d t j
  | [] => by simp [Tbl.erase, Tbl.getD]
  | (i, w) :: t => by
    unfold Tbl.erase
    split
    · next e =>
      rw [Tbl.getD_erase j]
      split
      · rfl
      · next h => subst e; simp [Tbl.getD, Ne.symm h]
    · next e =>
      unfold Tbl.getD
      rw [Tbl.getD_erase j]
      by_cases h : j = k
      · subst h; simp [e]
      · simp [h]

/-- The whole of a write: the index written reads as the value, every other index as before. -/
theorem Tbl.getD_setD (t : Tbl α) (k : Nat) (v : α) (j : Nat) :
    Tbl.getD d (Tbl.setD d t k v) j = if j = k then v else Tbl.getD d t j := by
  unfold Tbl.setD
  split
  · next e =>
    rw [Tbl.getD_erase]
    split
    · next h => rw [e, h]
    · rfl
  · exact Tbl.getD_insert j

@[simp] theorem Tbl.getD_setD_same (t : Tbl α) (k : Nat) (v : α) : Tbl.getD d (Tbl.setD d t k v) k = v := by
  rw [Tbl.getD_setD, if_pos rfl]

theorem Tbl.getD_setD_ne (t : Tbl α) {j k : Nat} (h : j ≠ k) (v : α) :
    Tbl.getD d (Tbl.setD d t k v) j = Tbl.getD d t j := by
  rw [Tbl.getD_setD, if_neg h]

@[simp] theorem Tbl.atN_setN_same (t : Tbl Nat) (k v : Nat) : Tbl.atN (Tbl.setN t k v) k = v := Tbl.getD_setD_same t k v

theorem Tbl.atN_setN_ne (t : Tbl Nat) {j k : Nat} (h : j ≠ k) (v : Nat) : Tbl.atN (Tbl.setN t k v) j = Tbl.atN t j :=
  Tbl.getD_setD_ne t h v

@[simp] theorem Tbl.at0_set0_same {n : Nat} (t : Tbl (BitVec n)) (k : Nat) (v : BitVec n) : Tbl.at0 (Tbl.set0 t k v) k = v :=
  Tbl.getD_setD_same t k v

theorem Tbl.at0_set0_ne {n : Nat} (t : Tbl (BitVec n)) {j k : Nat} (h : j ≠ k) (v : BitVec n) :
    Tbl.at0 (Tbl.set0 t k v) j = Tbl.at0 t j := Tbl.getD_setD_ne t h v

/-- Two canonical tables that read alike are the same data. -/
theorem Tbl.ext_wfFrom :
    ∀ {t u : Tbl α} {lo : Nat}, Tbl.wfFrom d lo t = true → Tbl.wfFrom d lo u = true →
      (∀ k, Tbl.getD d t k = Tbl.getD d u k) → t = u
  | [], [], _, _, _, _ => rfl
  | [], (k, v) :: u, _, _, hu, h => by
    obtain ⟨_, h2, _⟩ := Tbl.wfFrom_cons.mp hu
    have hk := h k
    simp [Tbl.getD] at hk
    exact absurd hk.symm h2
  | (k, v) :: t, [], _, ht, _, h => by
    obtain ⟨_, h2, _⟩ := Tbl.wfFrom_cons.mp ht
    have hk := h k
    simp [Tbl.getD] at hk
    exact absurd hk h2
  | (j, v) :: t, (k, w) :: u, _, ht, hu, h => by
    obtain ⟨_, h2, h3⟩ := Tbl.wfFrom_cons.mp ht
    obtain ⟨_, g2, g3⟩ := Tbl.wfFrom_cons.mp hu
    have hj := h j
    have hk := h k
    rcases Nat.lt_trichotomy j k with hlt | heq | hgt
    · rw [Tbl.getD_below (Tbl.wfFrom_cons.mpr ⟨Nat.le_refl k, g2, g3⟩) hlt] at hj
      simp [Tbl.getD] at hj
      exact absurd hj h2
    · subst heq
      simp [Tbl.getD] at hj
      subst hj
      have : t = u := Tbl.ext_wfFrom h3 g3 (fun i => by
        rcases Nat.lt_or_ge i (j + 1) with hi | hi
        · rw [Tbl.getD_below h3 hi, Tbl.getD_below g3 hi]
        · have := h i
          simpa [Tbl.getD, show ¬ j = i by omega] using this)
      rw [this]
    · rw [Tbl.getD_below (Tbl.wfFrom_cons.mpr ⟨Nat.le_refl j, h2, h3⟩) hgt] at hk
      simp [Tbl.getD] at hk
      exact absurd hk.symm g2

theorem Tbl.ext_wf {t u : Tbl α} (ht : Tbl.wf d t = true) (hu : Tbl.wf d u = true)
    (h : ∀ k, Tbl.getD d t k = Tbl.getD d u k) : t = u := Tbl.ext_wfFrom ht hu h

end Sys2Proof.Machine
end

