-- ==== Sys2Proof/Laws/Reg.lean ====
section
/-!
SUPPORT. Register reads and writes: what a write of a register or of a field does to every register and field, and that it
keeps the canonical form of the register file. These are the lemmas through which register effects are proved.
-/
namespace Sys2Proof.Machine


theorem State.setReg_regsWf {s : State} (a : Nat) (w : Word) (h : s.regsWf) : (s.setReg a w).regsWf := Tbl.setD_wf a w h

theorem State.put_regsWf {s : State} (f : Fld) (v : Nat) (h : s.regsWf) : (s.put f v).regsWf := Tbl.setD_wf _ _ h

/-- A register write: that register reads as the word, every other register as before. -/
theorem State.reg_setReg (s : State) (a : Nat) (w : Word) (b : Nat) :
    (s.setReg a w).reg b = if b = a then w else s.reg b := Tbl.getD_setD s.regs a w b

theorem State.reg_setReg_same (s : State) (a : Nat) (w : Word) : (s.setReg a w).reg a = w := by
  rw [State.reg_setReg s, if_pos rfl]

theorem State.reg_setReg_ne (s : State) {a b : Nat} (hne : b ≠ a) (w : Word) :
    (s.setReg a w).reg b = s.reg b := by rw [State.reg_setReg s, if_neg hne]

/-- A field write leaves every other register alone. -/
theorem State.reg_put_ne (s : State) {f : Fld} {b : Nat} (hne : b ≠ f.addr) (v : Nat) :
    (s.put f v).reg b = s.reg b := State.reg_setReg_ne s hne _

/-- A field written reads as the value, cut to its width. -/
theorem State.fld_put_same (s : State) (f : Fld) (v : Nat) (hf : f.hi < 32) :
    (s.put f v).fld f = v % 2 ^ (f.hi + 1 - f.lo) := by
  unfold State.fld State.put
  rw [State.reg_setReg_same s, BitVec.toNat_ofNat, Nat.mod_eq_of_lt (natPut_lt (s.reg f.addr).isLt hf), natBits_natPut_same]

/-- A field beside the one written keeps its value. -/
theorem State.fld_put_ne (s : State) (f g : Fld) (v : Nat) (hf : f.hi < 32)
    (hd : g.addr ≠ f.addr ∨ f.hi < g.lo ∨ g.hi < f.lo) : (s.put f v).fld g = s.fld g := by
  unfold State.fld
  by_cases ha : g.addr = f.addr
  · rw [ha]
    unfold State.put
    rw [State.reg_setReg_same s, BitVec.toNat_ofNat, Nat.mod_eq_of_lt (natPut_lt (s.reg f.addr).isLt hf),
      natBits_natPut_ne (hd.resolve_left (fun hne => hne ha))]
  · rw [State.reg_put_ne s ha]

/-- A field of another register keeps its value in a register write. -/
theorem State.fld_setReg_ne (s : State) {a : Nat} {g : Fld} (hne : g.addr ≠ a) (w : Word) :
    (s.setReg a w).fld g = s.fld g := by
  unfold State.fld
  rw [State.reg_setReg_ne s hne]

theorem State.fld_setReg_same (s : State) (g : Fld) (w : Word) :
    (s.setReg g.addr w).fld g = natBits w.toNat g.hi g.lo := by
  unfold State.fld
  rw [State.reg_setReg_same s]

/-- Every field is within its width. -/
theorem State.fld_lt (s : State) (f : Fld) : s.fld f < 2 ^ (f.hi + 1 - f.lo) := natBits_lt _ _ _

end Sys2Proof.Machine
end

