-- ==== Sys2Proof/Laws/State.lean ====
section
/-!
SUPPORT. What each named update of a field of the state leaves in every field: true by definition, so that no later proof
unfolds a record update.
-/
namespace Sys2Proof.Machine

variable (s : State)

/-! ### setReg -/

@[simp] theorem State.setReg_op (a : Nat) (w : Word) : (s.setReg a w).op = s.op := rfl
@[simp] theorem State.setReg_straps (a : Nat) (w : Word) : (s.setReg a w).straps = s.straps := rfl
@[simp] theorem State.setReg_boot (a : Nat) (w : Word) : (s.setReg a w).boot = s.boot := rfl
@[simp] theorem State.setReg_bat (a : Nat) (w : Word) : (s.setReg a w).bat = s.bat := rfl
@[simp] theorem State.setReg_alarm (a : Nat) (w : Word) : (s.setReg a w).alarm = s.alarm := rfl
@[simp] theorem State.setReg_host (a : Nat) (w : Word) : (s.setReg a w).host = s.host := rfl
@[simp] theorem State.setReg_perf (a : Nat) (w : Word) : (s.setReg a w).perf = s.perf := rfl
@[simp] theorem State.setReg_power (a : Nat) (w : Word) : (s.setReg a w).power = s.power := rfl
@[simp] theorem State.setReg_ports (a : Nat) (w : Word) : (s.setReg a w).ports = s.ports := rfl
@[simp] theorem State.setReg_cls (a : Nat) (w : Word) : (s.setReg a w).cls = s.cls := rfl
@[simp] theorem State.setReg_ctx (a : Nat) (w : Word) : (s.setReg a w).ctx = s.ctx := rfl
@[simp] theorem State.setReg_key (a : Nat) (w : Word) : (s.setReg a w).key = s.key := rfl
@[simp] theorem State.setReg_dom (a : Nat) (w : Word) : (s.setReg a w).dom = s.dom := rfl
@[simp] theorem State.setReg_pair (a : Nat) (w : Word) : (s.setReg a w).pair = s.pair := rfl
@[simp] theorem State.setReg_mem (a : Nat) (w : Word) : (s.setReg a w).mem = s.mem := rfl
@[simp] theorem State.setReg_rub (a : Nat) (w : Word) : (s.setReg a w).rub = s.rub := rfl
@[simp] theorem State.setReg_time (a : Nat) (w : Word) : (s.setReg a w).time = s.time := rfl
@[simp] theorem State.setReg_sched (a : Nat) (w : Word) : (s.setReg a w).sched = s.sched := rfl
@[simp] theorem State.setReg_flt (a : Nat) (w : Word) : (s.setReg a w).flt = s.flt := rfl
@[simp] theorem State.setReg_ct (a : Nat) (w : Word) : (s.setReg a w).ct = s.ct := rfl
@[simp] theorem State.setReg_rcv (a : Nat) (w : Word) : (s.setReg a w).rcv = s.rcv := rfl
@[simp] theorem State.setReg_path (a : Nat) (w : Word) : (s.setReg a w).path = s.path := rfl
@[simp] theorem State.setReg_cyc (a : Nat) (w : Word) : (s.setReg a w).cyc = s.cyc := rfl
@[simp] theorem State.setReg_sec (a : Nat) (w : Word) : (s.setReg a w).sec = s.sec := rfl
@[simp] theorem State.setReg_ns (a : Nat) (w : Word) : (s.setReg a w).ns = s.ns := rfl
@[simp] theorem State.setReg_frac (a : Nat) (w : Word) : (s.setReg a w).frac = s.frac := rfl
@[simp] theorem State.setReg_res (a : Nat) (w : Word) : (s.setReg a w).res = s.res := rfl
@[simp] theorem State.setReg_free (a : Nat) (w : Word) : (s.setReg a w).free = s.free := rfl
@[simp] theorem State.setReg_out (a : Nat) (w : Word) : (s.setReg a w).out = s.out := rfl
@[simp] theorem State.setReg_pending (a : Nat) (w : Word) : (s.setReg a w).pending = s.pending := rfl

/-! ### put -/

@[simp] theorem State.put_op (f : Fld) (v : Nat) : (s.put f v).op = s.op := rfl
@[simp] theorem State.put_straps (f : Fld) (v : Nat) : (s.put f v).straps = s.straps := rfl
@[simp] theorem State.put_boot (f : Fld) (v : Nat) : (s.put f v).boot = s.boot := rfl
@[simp] theorem State.put_bat (f : Fld) (v : Nat) : (s.put f v).bat = s.bat := rfl
@[simp] theorem State.put_alarm (f : Fld) (v : Nat) : (s.put f v).alarm = s.alarm := rfl
@[simp] theorem State.put_host (f : Fld) (v : Nat) : (s.put f v).host = s.host := rfl
@[simp] theorem State.put_perf (f : Fld) (v : Nat) : (s.put f v).perf = s.perf := rfl
@[simp] theorem State.put_power (f : Fld) (v : Nat) : (s.put f v).power = s.power := rfl
@[simp] theorem State.put_ports (f : Fld) (v : Nat) : (s.put f v).ports = s.ports := rfl
@[simp] theorem State.put_cls (f : Fld) (v : Nat) : (s.put f v).cls = s.cls := rfl
@[simp] theorem State.put_ctx (f : Fld) (v : Nat) : (s.put f v).ctx = s.ctx := rfl
@[simp] theorem State.put_key (f : Fld) (v : Nat) : (s.put f v).key = s.key := rfl
@[simp] theorem State.put_dom (f : Fld) (v : Nat) : (s.put f v).dom = s.dom := rfl
@[simp] theorem State.put_pair (f : Fld) (v : Nat) : (s.put f v).pair = s.pair := rfl
@[simp] theorem State.put_mem (f : Fld) (v : Nat) : (s.put f v).mem = s.mem := rfl
@[simp] theorem State.put_rub (f : Fld) (v : Nat) : (s.put f v).rub = s.rub := rfl
@[simp] theorem State.put_time (f : Fld) (v : Nat) : (s.put f v).time = s.time := rfl
@[simp] theorem State.put_sched (f : Fld) (v : Nat) : (s.put f v).sched = s.sched := rfl
@[simp] theorem State.put_flt (f : Fld) (v : Nat) : (s.put f v).flt = s.flt := rfl
@[simp] theorem State.put_ct (f : Fld) (v : Nat) : (s.put f v).ct = s.ct := rfl
@[simp] theorem State.put_rcv (f : Fld) (v : Nat) : (s.put f v).rcv = s.rcv := rfl
@[simp] theorem State.put_path (f : Fld) (v : Nat) : (s.put f v).path = s.path := rfl
@[simp] theorem State.put_cyc (f : Fld) (v : Nat) : (s.put f v).cyc = s.cyc := rfl
@[simp] theorem State.put_sec (f : Fld) (v : Nat) : (s.put f v).sec = s.sec := rfl
@[simp] theorem State.put_ns (f : Fld) (v : Nat) : (s.put f v).ns = s.ns := rfl
@[simp] theorem State.put_frac (f : Fld) (v : Nat) : (s.put f v).frac = s.frac := rfl
@[simp] theorem State.put_res (f : Fld) (v : Nat) : (s.put f v).res = s.res := rfl
@[simp] theorem State.put_free (f : Fld) (v : Nat) : (s.put f v).free = s.free := rfl
@[simp] theorem State.put_out (f : Fld) (v : Nat) : (s.put f v).out = s.out := rfl
@[simp] theorem State.put_pending (f : Fld) (v : Nat) : (s.put f v).pending = s.pending := rfl

/-! ### emit -/

@[simp] theorem State.emit_op (o : Out) : (s.emit o).op = s.op := rfl
@[simp] theorem State.emit_straps (o : Out) : (s.emit o).straps = s.straps := rfl
@[simp] theorem State.emit_regs (o : Out) : (s.emit o).regs = s.regs := rfl
@[simp] theorem State.emit_boot (o : Out) : (s.emit o).boot = s.boot := rfl
@[simp] theorem State.emit_bat (o : Out) : (s.emit o).bat = s.bat := rfl
@[simp] theorem State.emit_alarm (o : Out) : (s.emit o).alarm = s.alarm := rfl
@[simp] theorem State.emit_host (o : Out) : (s.emit o).host = s.host := rfl
@[simp] theorem State.emit_perf (o : Out) : (s.emit o).perf = s.perf := rfl
@[simp] theorem State.emit_power (o : Out) : (s.emit o).power = s.power := rfl
@[simp] theorem State.emit_ports (o : Out) : (s.emit o).ports = s.ports := rfl
@[simp] theorem State.emit_cls (o : Out) : (s.emit o).cls = s.cls := rfl
@[simp] theorem State.emit_ctx (o : Out) : (s.emit o).ctx = s.ctx := rfl
@[simp] theorem State.emit_key (o : Out) : (s.emit o).key = s.key := rfl
@[simp] theorem State.emit_dom (o : Out) : (s.emit o).dom = s.dom := rfl
@[simp] theorem State.emit_pair (o : Out) : (s.emit o).pair = s.pair := rfl
@[simp] theorem State.emit_mem (o : Out) : (s.emit o).mem = s.mem := rfl
@[simp] theorem State.emit_rub (o : Out) : (s.emit o).rub = s.rub := rfl
@[simp] theorem State.emit_time (o : Out) : (s.emit o).time = s.time := rfl
@[simp] theorem State.emit_sched (o : Out) : (s.emit o).sched = s.sched := rfl
@[simp] theorem State.emit_flt (o : Out) : (s.emit o).flt = s.flt := rfl
@[simp] theorem State.emit_ct (o : Out) : (s.emit o).ct = s.ct := rfl
@[simp] theorem State.emit_rcv (o : Out) : (s.emit o).rcv = s.rcv := rfl
@[simp] theorem State.emit_path (o : Out) : (s.emit o).path = s.path := rfl
@[simp] theorem State.emit_cyc (o : Out) : (s.emit o).cyc = s.cyc := rfl
@[simp] theorem State.emit_sec (o : Out) : (s.emit o).sec = s.sec := rfl
@[simp] theorem State.emit_ns (o : Out) : (s.emit o).ns = s.ns := rfl
@[simp] theorem State.emit_frac (o : Out) : (s.emit o).frac = s.frac := rfl
@[simp] theorem State.emit_res (o : Out) : (s.emit o).res = s.res := rfl
@[simp] theorem State.emit_free (o : Out) : (s.emit o).free = s.free := rfl
@[simp] theorem State.emit_out (o : Out) : (s.emit o).out = s.out ++ [o] := rfl
@[simp] theorem State.emit_pending (o : Out) : (s.emit o).pending = s.pending := rfl

/-! ### setRing -/

@[simp] theorem State.setRing_op (n : Nat) (r : Ring) : (s.setRing n r).op = s.op := rfl
@[simp] theorem State.setRing_straps (n : Nat) (r : Ring) : (s.setRing n r).straps = s.straps := rfl
@[simp] theorem State.setRing_regs (n : Nat) (r : Ring) : (s.setRing n r).regs = s.regs := rfl
@[simp] theorem State.setRing_boot (n : Nat) (r : Ring) : (s.setRing n r).boot = s.boot := rfl
@[simp] theorem State.setRing_bat (n : Nat) (r : Ring) : (s.setRing n r).bat = s.bat := rfl
@[simp] theorem State.setRing_alarm (n : Nat) (r : Ring) : (s.setRing n r).alarm = s.alarm := rfl
@[simp] theorem State.setRing_perf (n : Nat) (r : Ring) : (s.setRing n r).perf = s.perf := rfl
@[simp] theorem State.setRing_power (n : Nat) (r : Ring) : (s.setRing n r).power = s.power := rfl
@[simp] theorem State.setRing_ports (n : Nat) (r : Ring) : (s.setRing n r).ports = s.ports := rfl
@[simp] theorem State.setRing_cls (n : Nat) (r : Ring) : (s.setRing n r).cls = s.cls := rfl
@[simp] theorem State.setRing_ctx (n : Nat) (r : Ring) : (s.setRing n r).ctx = s.ctx := rfl
@[simp] theorem State.setRing_key (n : Nat) (r : Ring) : (s.setRing n r).key = s.key := rfl
@[simp] theorem State.setRing_dom (n : Nat) (r : Ring) : (s.setRing n r).dom = s.dom := rfl
@[simp] theorem State.setRing_pair (n : Nat) (r : Ring) : (s.setRing n r).pair = s.pair := rfl
@[simp] theorem State.setRing_mem (n : Nat) (r : Ring) : (s.setRing n r).mem = s.mem := rfl
@[simp] theorem State.setRing_rub (n : Nat) (r : Ring) : (s.setRing n r).rub = s.rub := rfl
@[simp] theorem State.setRing_time (n : Nat) (r : Ring) : (s.setRing n r).time = s.time := rfl
@[simp] theorem State.setRing_sched (n : Nat) (r : Ring) : (s.setRing n r).sched = s.sched := rfl
@[simp] theorem State.setRing_flt (n : Nat) (r : Ring) : (s.setRing n r).flt = s.flt := rfl
@[simp] theorem State.setRing_ct (n : Nat) (r : Ring) : (s.setRing n r).ct = s.ct := rfl
@[simp] theorem State.setRing_rcv (n : Nat) (r : Ring) : (s.setRing n r).rcv = s.rcv := rfl
@[simp] theorem State.setRing_path (n : Nat) (r : Ring) : (s.setRing n r).path = s.path := rfl
@[simp] theorem State.setRing_cyc (n : Nat) (r : Ring) : (s.setRing n r).cyc = s.cyc := rfl
@[simp] theorem State.setRing_sec (n : Nat) (r : Ring) : (s.setRing n r).sec = s.sec := rfl
@[simp] theorem State.setRing_ns (n : Nat) (r : Ring) : (s.setRing n r).ns = s.ns := rfl
@[simp] theorem State.setRing_frac (n : Nat) (r : Ring) : (s.setRing n r).frac = s.frac := rfl
@[simp] theorem State.setRing_res (n : Nat) (r : Ring) : (s.setRing n r).res = s.res := rfl
@[simp] theorem State.setRing_free (n : Nat) (r : Ring) : (s.setRing n r).free = s.free := rfl
@[simp] theorem State.setRing_out (n : Nat) (r : Ring) : (s.setRing n r).out = s.out := rfl
@[simp] theorem State.setRing_pending (n : Nat) (r : Ring) : (s.setRing n r).pending = s.pending := rfl

/-! ### setMem -/

@[simp] theorem State.setMem_op (x : MemSt) : (s.setMem x).op = s.op := rfl
@[simp] theorem State.setMem_straps (x : MemSt) : (s.setMem x).straps = s.straps := rfl
@[simp] theorem State.setMem_regs (x : MemSt) : (s.setMem x).regs = s.regs := rfl
@[simp] theorem State.setMem_boot (x : MemSt) : (s.setMem x).boot = s.boot := rfl
@[simp] theorem State.setMem_bat (x : MemSt) : (s.setMem x).bat = s.bat := rfl
@[simp] theorem State.setMem_alarm (x : MemSt) : (s.setMem x).alarm = s.alarm := rfl
@[simp] theorem State.setMem_host (x : MemSt) : (s.setMem x).host = s.host := rfl
@[simp] theorem State.setMem_perf (x : MemSt) : (s.setMem x).perf = s.perf := rfl
@[simp] theorem State.setMem_power (x : MemSt) : (s.setMem x).power = s.power := rfl
@[simp] theorem State.setMem_ports (x : MemSt) : (s.setMem x).ports = s.ports := rfl
@[simp] theorem State.setMem_cls (x : MemSt) : (s.setMem x).cls = s.cls := rfl
@[simp] theorem State.setMem_ctx (x : MemSt) : (s.setMem x).ctx = s.ctx := rfl
@[simp] theorem State.setMem_key (x : MemSt) : (s.setMem x).key = s.key := rfl
@[simp] theorem State.setMem_dom (x : MemSt) : (s.setMem x).dom = s.dom := rfl
@[simp] theorem State.setMem_pair (x : MemSt) : (s.setMem x).pair = s.pair := rfl
@[simp] theorem State.setMem_mem (x : MemSt) : (s.setMem x).mem = x := rfl
@[simp] theorem State.setMem_rub (x : MemSt) : (s.setMem x).rub = s.rub := rfl
@[simp] theorem State.setMem_time (x : MemSt) : (s.setMem x).time = s.time := rfl
@[simp] theorem State.setMem_sched (x : MemSt) : (s.setMem x).sched = s.sched := rfl
@[simp] theorem State.setMem_flt (x : MemSt) : (s.setMem x).flt = s.flt := rfl
@[simp] theorem State.setMem_ct (x : MemSt) : (s.setMem x).ct = s.ct := rfl
@[simp] theorem State.setMem_rcv (x : MemSt) : (s.setMem x).rcv = s.rcv := rfl
@[simp] theorem State.setMem_path (x : MemSt) : (s.setMem x).path = s.path := rfl
@[simp] theorem State.setMem_cyc (x : MemSt) : (s.setMem x).cyc = s.cyc := rfl
@[simp] theorem State.setMem_sec (x : MemSt) : (s.setMem x).sec = s.sec := rfl
@[simp] theorem State.setMem_ns (x : MemSt) : (s.setMem x).ns = s.ns := rfl
@[simp] theorem State.setMem_frac (x : MemSt) : (s.setMem x).frac = s.frac := rfl
@[simp] theorem State.setMem_res (x : MemSt) : (s.setMem x).res = s.res := rfl
@[simp] theorem State.setMem_free (x : MemSt) : (s.setMem x).free = s.free := rfl
@[simp] theorem State.setMem_out (x : MemSt) : (s.setMem x).out = s.out := rfl
@[simp] theorem State.setMem_pending (x : MemSt) : (s.setMem x).pending = s.pending := rfl

/-! ### setPair -/

@[simp] theorem State.setPair_op (x : PairSt) : (s.setPair x).op = s.op := rfl
@[simp] theorem State.setPair_straps (x : PairSt) : (s.setPair x).straps = s.straps := rfl
@[simp] theorem State.setPair_regs (x : PairSt) : (s.setPair x).regs = s.regs := rfl
@[simp] theorem State.setPair_boot (x : PairSt) : (s.setPair x).boot = s.boot := rfl
@[simp] theorem State.setPair_bat (x : PairSt) : (s.setPair x).bat = s.bat := rfl
@[simp] theorem State.setPair_alarm (x : PairSt) : (s.setPair x).alarm = s.alarm := rfl
@[simp] theorem State.setPair_host (x : PairSt) : (s.setPair x).host = s.host := rfl
@[simp] theorem State.setPair_perf (x : PairSt) : (s.setPair x).perf = s.perf := rfl
@[simp] theorem State.setPair_power (x : PairSt) : (s.setPair x).power = s.power := rfl
@[simp] theorem State.setPair_ports (x : PairSt) : (s.setPair x).ports = s.ports := rfl
@[simp] theorem State.setPair_cls (x : PairSt) : (s.setPair x).cls = s.cls := rfl
@[simp] theorem State.setPair_ctx (x : PairSt) : (s.setPair x).ctx = s.ctx := rfl
@[simp] theorem State.setPair_key (x : PairSt) : (s.setPair x).key = s.key := rfl
@[simp] theorem State.setPair_dom (x : PairSt) : (s.setPair x).dom = s.dom := rfl
@[simp] theorem State.setPair_pair (x : PairSt) : (s.setPair x).pair = x := rfl
@[simp] theorem State.setPair_mem (x : PairSt) : (s.setPair x).mem = s.mem := rfl
@[simp] theorem State.setPair_rub (x : PairSt) : (s.setPair x).rub = s.rub := rfl
@[simp] theorem State.setPair_time (x : PairSt) : (s.setPair x).time = s.time := rfl
@[simp] theorem State.setPair_sched (x : PairSt) : (s.setPair x).sched = s.sched := rfl
@[simp] theorem State.setPair_flt (x : PairSt) : (s.setPair x).flt = s.flt := rfl
@[simp] theorem State.setPair_ct (x : PairSt) : (s.setPair x).ct = s.ct := rfl
@[simp] theorem State.setPair_rcv (x : PairSt) : (s.setPair x).rcv = s.rcv := rfl
@[simp] theorem State.setPair_path (x : PairSt) : (s.setPair x).path = s.path := rfl
@[simp] theorem State.setPair_cyc (x : PairSt) : (s.setPair x).cyc = s.cyc := rfl
@[simp] theorem State.setPair_sec (x : PairSt) : (s.setPair x).sec = s.sec := rfl
@[simp] theorem State.setPair_ns (x : PairSt) : (s.setPair x).ns = s.ns := rfl
@[simp] theorem State.setPair_frac (x : PairSt) : (s.setPair x).frac = s.frac := rfl
@[simp] theorem State.setPair_res (x : PairSt) : (s.setPair x).res = s.res := rfl
@[simp] theorem State.setPair_free (x : PairSt) : (s.setPair x).free = s.free := rfl
@[simp] theorem State.setPair_out (x : PairSt) : (s.setPair x).out = s.out := rfl
@[simp] theorem State.setPair_pending (x : PairSt) : (s.setPair x).pending = s.pending := rfl

/-! ### setAlarm -/

@[simp] theorem State.setAlarm_op (x : Alarm) : (s.setAlarm x).op = s.op := rfl
@[simp] theorem State.setAlarm_straps (x : Alarm) : (s.setAlarm x).straps = s.straps := rfl
@[simp] theorem State.setAlarm_regs (x : Alarm) : (s.setAlarm x).regs = s.regs := rfl
@[simp] theorem State.setAlarm_boot (x : Alarm) : (s.setAlarm x).boot = s.boot := rfl
@[simp] theorem State.setAlarm_bat (x : Alarm) : (s.setAlarm x).bat = s.bat := rfl
@[simp] theorem State.setAlarm_alarm (x : Alarm) : (s.setAlarm x).alarm = x := rfl
@[simp] theorem State.setAlarm_host (x : Alarm) : (s.setAlarm x).host = s.host := rfl
@[simp] theorem State.setAlarm_perf (x : Alarm) : (s.setAlarm x).perf = s.perf := rfl
@[simp] theorem State.setAlarm_power (x : Alarm) : (s.setAlarm x).power = s.power := rfl
@[simp] theorem State.setAlarm_ports (x : Alarm) : (s.setAlarm x).ports = s.ports := rfl
@[simp] theorem State.setAlarm_cls (x : Alarm) : (s.setAlarm x).cls = s.cls := rfl
@[simp] theorem State.setAlarm_ctx (x : Alarm) : (s.setAlarm x).ctx = s.ctx := rfl
@[simp] theorem State.setAlarm_key (x : Alarm) : (s.setAlarm x).key = s.key := rfl
@[simp] theorem State.setAlarm_dom (x : Alarm) : (s.setAlarm x).dom = s.dom := rfl
@[simp] theorem State.setAlarm_pair (x : Alarm) : (s.setAlarm x).pair = s.pair := rfl
@[simp] theorem State.setAlarm_mem (x : Alarm) : (s.setAlarm x).mem = s.mem := rfl
@[simp] theorem State.setAlarm_rub (x : Alarm) : (s.setAlarm x).rub = s.rub := rfl
@[simp] theorem State.setAlarm_time (x : Alarm) : (s.setAlarm x).time = s.time := rfl
@[simp] theorem State.setAlarm_sched (x : Alarm) : (s.setAlarm x).sched = s.sched := rfl
@[simp] theorem State.setAlarm_flt (x : Alarm) : (s.setAlarm x).flt = s.flt := rfl
@[simp] theorem State.setAlarm_ct (x : Alarm) : (s.setAlarm x).ct = s.ct := rfl
@[simp] theorem State.setAlarm_rcv (x : Alarm) : (s.setAlarm x).rcv = s.rcv := rfl
@[simp] theorem State.setAlarm_path (x : Alarm) : (s.setAlarm x).path = s.path := rfl
@[simp] theorem State.setAlarm_cyc (x : Alarm) : (s.setAlarm x).cyc = s.cyc := rfl
@[simp] theorem State.setAlarm_sec (x : Alarm) : (s.setAlarm x).sec = s.sec := rfl
@[simp] theorem State.setAlarm_ns (x : Alarm) : (s.setAlarm x).ns = s.ns := rfl
@[simp] theorem State.setAlarm_frac (x : Alarm) : (s.setAlarm x).frac = s.frac := rfl
@[simp] theorem State.setAlarm_res (x : Alarm) : (s.setAlarm x).res = s.res := rfl
@[simp] theorem State.setAlarm_free (x : Alarm) : (s.setAlarm x).free = s.free := rfl
@[simp] theorem State.setAlarm_out (x : Alarm) : (s.setAlarm x).out = s.out := rfl
@[simp] theorem State.setAlarm_pending (x : Alarm) : (s.setAlarm x).pending = s.pending := rfl

/-! ### setCls -/

@[simp] theorem State.setCls_op (x : ClassSt) : (s.setCls x).op = s.op := rfl
@[simp] theorem State.setCls_straps (x : ClassSt) : (s.setCls x).straps = s.straps := rfl
@[simp] theorem State.setCls_regs (x : ClassSt) : (s.setCls x).regs = s.regs := rfl
@[simp] theorem State.setCls_boot (x : ClassSt) : (s.setCls x).boot = s.boot := rfl
@[simp] theorem State.setCls_bat (x : ClassSt) : (s.setCls x).bat = s.bat := rfl
@[simp] theorem State.setCls_alarm (x : ClassSt) : (s.setCls x).alarm = s.alarm := rfl
@[simp] theorem State.setCls_host (x : ClassSt) : (s.setCls x).host = s.host := rfl
@[simp] theorem State.setCls_perf (x : ClassSt) : (s.setCls x).perf = s.perf := rfl
@[simp] theorem State.setCls_power (x : ClassSt) : (s.setCls x).power = s.power := rfl
@[simp] theorem State.setCls_ports (x : ClassSt) : (s.setCls x).ports = s.ports := rfl
@[simp] theorem State.setCls_cls (x : ClassSt) : (s.setCls x).cls = x := rfl
@[simp] theorem State.setCls_ctx (x : ClassSt) : (s.setCls x).ctx = s.ctx := rfl
@[simp] theorem State.setCls_key (x : ClassSt) : (s.setCls x).key = s.key := rfl
@[simp] theorem State.setCls_dom (x : ClassSt) : (s.setCls x).dom = s.dom := rfl
@[simp] theorem State.setCls_pair (x : ClassSt) : (s.setCls x).pair = s.pair := rfl
@[simp] theorem State.setCls_mem (x : ClassSt) : (s.setCls x).mem = s.mem := rfl
@[simp] theorem State.setCls_rub (x : ClassSt) : (s.setCls x).rub = s.rub := rfl
@[simp] theorem State.setCls_time (x : ClassSt) : (s.setCls x).time = s.time := rfl
@[simp] theorem State.setCls_sched (x : ClassSt) : (s.setCls x).sched = s.sched := rfl
@[simp] theorem State.setCls_flt (x : ClassSt) : (s.setCls x).flt = s.flt := rfl
@[simp] theorem State.setCls_ct (x : ClassSt) : (s.setCls x).ct = s.ct := rfl
@[simp] theorem State.setCls_rcv (x : ClassSt) : (s.setCls x).rcv = s.rcv := rfl
@[simp] theorem State.setCls_path (x : ClassSt) : (s.setCls x).path = s.path := rfl
@[simp] theorem State.setCls_cyc (x : ClassSt) : (s.setCls x).cyc = s.cyc := rfl
@[simp] theorem State.setCls_sec (x : ClassSt) : (s.setCls x).sec = s.sec := rfl
@[simp] theorem State.setCls_ns (x : ClassSt) : (s.setCls x).ns = s.ns := rfl
@[simp] theorem State.setCls_frac (x : ClassSt) : (s.setCls x).frac = s.frac := rfl
@[simp] theorem State.setCls_res (x : ClassSt) : (s.setCls x).res = s.res := rfl
@[simp] theorem State.setCls_free (x : ClassSt) : (s.setCls x).free = s.free := rfl
@[simp] theorem State.setCls_out (x : ClassSt) : (s.setCls x).out = s.out := rfl
@[simp] theorem State.setCls_pending (x : ClassSt) : (s.setCls x).pending = s.pending := rfl

/-! ### setCtx -/

@[simp] theorem State.setCtx_op (x : CtxSt) : (s.setCtx x).op = s.op := rfl
@[simp] theorem State.setCtx_straps (x : CtxSt) : (s.setCtx x).straps = s.straps := rfl
@[simp] theorem State.setCtx_regs (x : CtxSt) : (s.setCtx x).regs = s.regs := rfl
@[simp] theorem State.setCtx_boot (x : CtxSt) : (s.setCtx x).boot = s.boot := rfl
@[simp] theorem State.setCtx_bat (x : CtxSt) : (s.setCtx x).bat = s.bat := rfl
@[simp] theorem State.setCtx_alarm (x : CtxSt) : (s.setCtx x).alarm = s.alarm := rfl
@[simp] theorem State.setCtx_host (x : CtxSt) : (s.setCtx x).host = s.host := rfl
@[simp] theorem State.setCtx_perf (x : CtxSt) : (s.setCtx x).perf = s.perf := rfl
@[simp] theorem State.setCtx_power (x : CtxSt) : (s.setCtx x).power = s.power := rfl
@[simp] theorem State.setCtx_ports (x : CtxSt) : (s.setCtx x).ports = s.ports := rfl
@[simp] theorem State.setCtx_cls (x : CtxSt) : (s.setCtx x).cls = s.cls := rfl
@[simp] theorem State.setCtx_ctx (x : CtxSt) : (s.setCtx x).ctx = x := rfl
@[simp] theorem State.setCtx_key (x : CtxSt) : (s.setCtx x).key = s.key := rfl
@[simp] theorem State.setCtx_dom (x : CtxSt) : (s.setCtx x).dom = s.dom := rfl
@[simp] theorem State.setCtx_pair (x : CtxSt) : (s.setCtx x).pair = s.pair := rfl
@[simp] theorem State.setCtx_mem (x : CtxSt) : (s.setCtx x).mem = s.mem := rfl
@[simp] theorem State.setCtx_rub (x : CtxSt) : (s.setCtx x).rub = s.rub := rfl
@[simp] theorem State.setCtx_time (x : CtxSt) : (s.setCtx x).time = s.time := rfl
@[simp] theorem State.setCtx_sched (x : CtxSt) : (s.setCtx x).sched = s.sched := rfl
@[simp] theorem State.setCtx_flt (x : CtxSt) : (s.setCtx x).flt = s.flt := rfl
@[simp] theorem State.setCtx_ct (x : CtxSt) : (s.setCtx x).ct = s.ct := rfl
@[simp] theorem State.setCtx_rcv (x : CtxSt) : (s.setCtx x).rcv = s.rcv := rfl
@[simp] theorem State.setCtx_path (x : CtxSt) : (s.setCtx x).path = s.path := rfl
@[simp] theorem State.setCtx_cyc (x : CtxSt) : (s.setCtx x).cyc = s.cyc := rfl
@[simp] theorem State.setCtx_sec (x : CtxSt) : (s.setCtx x).sec = s.sec := rfl
@[simp] theorem State.setCtx_ns (x : CtxSt) : (s.setCtx x).ns = s.ns := rfl
@[simp] theorem State.setCtx_frac (x : CtxSt) : (s.setCtx x).frac = s.frac := rfl
@[simp] theorem State.setCtx_res (x : CtxSt) : (s.setCtx x).res = s.res := rfl
@[simp] theorem State.setCtx_free (x : CtxSt) : (s.setCtx x).free = s.free := rfl
@[simp] theorem State.setCtx_out (x : CtxSt) : (s.setCtx x).out = s.out := rfl
@[simp] theorem State.setCtx_pending (x : CtxSt) : (s.setCtx x).pending = s.pending := rfl

/-! ### setKey -/

@[simp] theorem State.setKey_op (x : KeySt) : (s.setKey x).op = s.op := rfl
@[simp] theorem State.setKey_straps (x : KeySt) : (s.setKey x).straps = s.straps := rfl
@[simp] theorem State.setKey_regs (x : KeySt) : (s.setKey x).regs = s.regs := rfl
@[simp] theorem State.setKey_boot (x : KeySt) : (s.setKey x).boot = s.boot := rfl
@[simp] theorem State.setKey_bat (x : KeySt) : (s.setKey x).bat = s.bat := rfl
@[simp] theorem State.setKey_alarm (x : KeySt) : (s.setKey x).alarm = s.alarm := rfl
@[simp] theorem State.setKey_host (x : KeySt) : (s.setKey x).host = s.host := rfl
@[simp] theorem State.setKey_perf (x : KeySt) : (s.setKey x).perf = s.perf := rfl
@[simp] theorem State.setKey_power (x : KeySt) : (s.setKey x).power = s.power := rfl
@[simp] theorem State.setKey_ports (x : KeySt) : (s.setKey x).ports = s.ports := rfl
@[simp] theorem State.setKey_cls (x : KeySt) : (s.setKey x).cls = s.cls := rfl
@[simp] theorem State.setKey_ctx (x : KeySt) : (s.setKey x).ctx = s.ctx := rfl
@[simp] theorem State.setKey_key (x : KeySt) : (s.setKey x).key = x := rfl
@[simp] theorem State.setKey_dom (x : KeySt) : (s.setKey x).dom = s.dom := rfl
@[simp] theorem State.setKey_pair (x : KeySt) : (s.setKey x).pair = s.pair := rfl
@[simp] theorem State.setKey_mem (x : KeySt) : (s.setKey x).mem = s.mem := rfl
@[simp] theorem State.setKey_rub (x : KeySt) : (s.setKey x).rub = s.rub := rfl
@[simp] theorem State.setKey_time (x : KeySt) : (s.setKey x).time = s.time := rfl
@[simp] theorem State.setKey_sched (x : KeySt) : (s.setKey x).sched = s.sched := rfl
@[simp] theorem State.setKey_flt (x : KeySt) : (s.setKey x).flt = s.flt := rfl
@[simp] theorem State.setKey_ct (x : KeySt) : (s.setKey x).ct = s.ct := rfl
@[simp] theorem State.setKey_rcv (x : KeySt) : (s.setKey x).rcv = s.rcv := rfl
@[simp] theorem State.setKey_path (x : KeySt) : (s.setKey x).path = s.path := rfl
@[simp] theorem State.setKey_cyc (x : KeySt) : (s.setKey x).cyc = s.cyc := rfl
@[simp] theorem State.setKey_sec (x : KeySt) : (s.setKey x).sec = s.sec := rfl
@[simp] theorem State.setKey_ns (x : KeySt) : (s.setKey x).ns = s.ns := rfl
@[simp] theorem State.setKey_frac (x : KeySt) : (s.setKey x).frac = s.frac := rfl
@[simp] theorem State.setKey_res (x : KeySt) : (s.setKey x).res = s.res := rfl
@[simp] theorem State.setKey_free (x : KeySt) : (s.setKey x).free = s.free := rfl
@[simp] theorem State.setKey_out (x : KeySt) : (s.setKey x).out = s.out := rfl
@[simp] theorem State.setKey_pending (x : KeySt) : (s.setKey x).pending = s.pending := rfl

/-! ### setDom -/

@[simp] theorem State.setDom_op (x : DomSt) : (s.setDom x).op = s.op := rfl
@[simp] theorem State.setDom_straps (x : DomSt) : (s.setDom x).straps = s.straps := rfl
@[simp] theorem State.setDom_regs (x : DomSt) : (s.setDom x).regs = s.regs := rfl
@[simp] theorem State.setDom_boot (x : DomSt) : (s.setDom x).boot = s.boot := rfl
@[simp] theorem State.setDom_bat (x : DomSt) : (s.setDom x).bat = s.bat := rfl
@[simp] theorem State.setDom_alarm (x : DomSt) : (s.setDom x).alarm = s.alarm := rfl
@[simp] theorem State.setDom_host (x : DomSt) : (s.setDom x).host = s.host := rfl
@[simp] theorem State.setDom_perf (x : DomSt) : (s.setDom x).perf = s.perf := rfl
@[simp] theorem State.setDom_power (x : DomSt) : (s.setDom x).power = s.power := rfl
@[simp] theorem State.setDom_ports (x : DomSt) : (s.setDom x).ports = s.ports := rfl
@[simp] theorem State.setDom_cls (x : DomSt) : (s.setDom x).cls = s.cls := rfl
@[simp] theorem State.setDom_ctx (x : DomSt) : (s.setDom x).ctx = s.ctx := rfl
@[simp] theorem State.setDom_key (x : DomSt) : (s.setDom x).key = s.key := rfl
@[simp] theorem State.setDom_dom (x : DomSt) : (s.setDom x).dom = x := rfl
@[simp] theorem State.setDom_pair (x : DomSt) : (s.setDom x).pair = s.pair := rfl
@[simp] theorem State.setDom_mem (x : DomSt) : (s.setDom x).mem = s.mem := rfl
@[simp] theorem State.setDom_rub (x : DomSt) : (s.setDom x).rub = s.rub := rfl
@[simp] theorem State.setDom_time (x : DomSt) : (s.setDom x).time = s.time := rfl
@[simp] theorem State.setDom_sched (x : DomSt) : (s.setDom x).sched = s.sched := rfl
@[simp] theorem State.setDom_flt (x : DomSt) : (s.setDom x).flt = s.flt := rfl
@[simp] theorem State.setDom_ct (x : DomSt) : (s.setDom x).ct = s.ct := rfl
@[simp] theorem State.setDom_rcv (x : DomSt) : (s.setDom x).rcv = s.rcv := rfl
@[simp] theorem State.setDom_path (x : DomSt) : (s.setDom x).path = s.path := rfl
@[simp] theorem State.setDom_cyc (x : DomSt) : (s.setDom x).cyc = s.cyc := rfl
@[simp] theorem State.setDom_sec (x : DomSt) : (s.setDom x).sec = s.sec := rfl
@[simp] theorem State.setDom_ns (x : DomSt) : (s.setDom x).ns = s.ns := rfl
@[simp] theorem State.setDom_frac (x : DomSt) : (s.setDom x).frac = s.frac := rfl
@[simp] theorem State.setDom_res (x : DomSt) : (s.setDom x).res = s.res := rfl
@[simp] theorem State.setDom_free (x : DomSt) : (s.setDom x).free = s.free := rfl
@[simp] theorem State.setDom_out (x : DomSt) : (s.setDom x).out = s.out := rfl
@[simp] theorem State.setDom_pending (x : DomSt) : (s.setDom x).pending = s.pending := rfl

/-! ### setFlt -/

@[simp] theorem State.setFlt_op (x : FilterSt) : (s.setFlt x).op = s.op := rfl
@[simp] theorem State.setFlt_straps (x : FilterSt) : (s.setFlt x).straps = s.straps := rfl
@[simp] theorem State.setFlt_regs (x : FilterSt) : (s.setFlt x).regs = s.regs := rfl
@[simp] theorem State.setFlt_boot (x : FilterSt) : (s.setFlt x).boot = s.boot := rfl
@[simp] theorem State.setFlt_bat (x : FilterSt) : (s.setFlt x).bat = s.bat := rfl
@[simp] theorem State.setFlt_alarm (x : FilterSt) : (s.setFlt x).alarm = s.alarm := rfl
@[simp] theorem State.setFlt_host (x : FilterSt) : (s.setFlt x).host = s.host := rfl
@[simp] theorem State.setFlt_perf (x : FilterSt) : (s.setFlt x).perf = s.perf := rfl
@[simp] theorem State.setFlt_power (x : FilterSt) : (s.setFlt x).power = s.power := rfl
@[simp] theorem State.setFlt_ports (x : FilterSt) : (s.setFlt x).ports = s.ports := rfl
@[simp] theorem State.setFlt_cls (x : FilterSt) : (s.setFlt x).cls = s.cls := rfl
@[simp] theorem State.setFlt_ctx (x : FilterSt) : (s.setFlt x).ctx = s.ctx := rfl
@[simp] theorem State.setFlt_key (x : FilterSt) : (s.setFlt x).key = s.key := rfl
@[simp] theorem State.setFlt_dom (x : FilterSt) : (s.setFlt x).dom = s.dom := rfl
@[simp] theorem State.setFlt_pair (x : FilterSt) : (s.setFlt x).pair = s.pair := rfl
@[simp] theorem State.setFlt_mem (x : FilterSt) : (s.setFlt x).mem = s.mem := rfl
@[simp] theorem State.setFlt_rub (x : FilterSt) : (s.setFlt x).rub = s.rub := rfl
@[simp] theorem State.setFlt_time (x : FilterSt) : (s.setFlt x).time = s.time := rfl
@[simp] theorem State.setFlt_sched (x : FilterSt) : (s.setFlt x).sched = s.sched := rfl
@[simp] theorem State.setFlt_flt (x : FilterSt) : (s.setFlt x).flt = x := rfl
@[simp] theorem State.setFlt_ct (x : FilterSt) : (s.setFlt x).ct = s.ct := rfl
@[simp] theorem State.setFlt_rcv (x : FilterSt) : (s.setFlt x).rcv = s.rcv := rfl
@[simp] theorem State.setFlt_path (x : FilterSt) : (s.setFlt x).path = s.path := rfl
@[simp] theorem State.setFlt_cyc (x : FilterSt) : (s.setFlt x).cyc = s.cyc := rfl
@[simp] theorem State.setFlt_sec (x : FilterSt) : (s.setFlt x).sec = s.sec := rfl
@[simp] theorem State.setFlt_ns (x : FilterSt) : (s.setFlt x).ns = s.ns := rfl
@[simp] theorem State.setFlt_frac (x : FilterSt) : (s.setFlt x).frac = s.frac := rfl
@[simp] theorem State.setFlt_res (x : FilterSt) : (s.setFlt x).res = s.res := rfl
@[simp] theorem State.setFlt_free (x : FilterSt) : (s.setFlt x).free = s.free := rfl
@[simp] theorem State.setFlt_out (x : FilterSt) : (s.setFlt x).out = s.out := rfl
@[simp] theorem State.setFlt_pending (x : FilterSt) : (s.setFlt x).pending = s.pending := rfl

/-! ### setHost -/

@[simp] theorem State.setHost_op (x : HostIf) : (s.setHost x).op = s.op := rfl
@[simp] theorem State.setHost_straps (x : HostIf) : (s.setHost x).straps = s.straps := rfl
@[simp] theorem State.setHost_regs (x : HostIf) : (s.setHost x).regs = s.regs := rfl
@[simp] theorem State.setHost_boot (x : HostIf) : (s.setHost x).boot = s.boot := rfl
@[simp] theorem State.setHost_bat (x : HostIf) : (s.setHost x).bat = s.bat := rfl
@[simp] theorem State.setHost_alarm (x : HostIf) : (s.setHost x).alarm = s.alarm := rfl
@[simp] theorem State.setHost_host (x : HostIf) : (s.setHost x).host = x := rfl
@[simp] theorem State.setHost_perf (x : HostIf) : (s.setHost x).perf = s.perf := rfl
@[simp] theorem State.setHost_power (x : HostIf) : (s.setHost x).power = s.power := rfl
@[simp] theorem State.setHost_ports (x : HostIf) : (s.setHost x).ports = s.ports := rfl
@[simp] theorem State.setHost_cls (x : HostIf) : (s.setHost x).cls = s.cls := rfl
@[simp] theorem State.setHost_ctx (x : HostIf) : (s.setHost x).ctx = s.ctx := rfl
@[simp] theorem State.setHost_key (x : HostIf) : (s.setHost x).key = s.key := rfl
@[simp] theorem State.setHost_dom (x : HostIf) : (s.setHost x).dom = s.dom := rfl
@[simp] theorem State.setHost_pair (x : HostIf) : (s.setHost x).pair = s.pair := rfl
@[simp] theorem State.setHost_mem (x : HostIf) : (s.setHost x).mem = s.mem := rfl
@[simp] theorem State.setHost_rub (x : HostIf) : (s.setHost x).rub = s.rub := rfl
@[simp] theorem State.setHost_time (x : HostIf) : (s.setHost x).time = s.time := rfl
@[simp] theorem State.setHost_sched (x : HostIf) : (s.setHost x).sched = s.sched := rfl
@[simp] theorem State.setHost_flt (x : HostIf) : (s.setHost x).flt = s.flt := rfl
@[simp] theorem State.setHost_ct (x : HostIf) : (s.setHost x).ct = s.ct := rfl
@[simp] theorem State.setHost_rcv (x : HostIf) : (s.setHost x).rcv = s.rcv := rfl
@[simp] theorem State.setHost_path (x : HostIf) : (s.setHost x).path = s.path := rfl
@[simp] theorem State.setHost_cyc (x : HostIf) : (s.setHost x).cyc = s.cyc := rfl
@[simp] theorem State.setHost_sec (x : HostIf) : (s.setHost x).sec = s.sec := rfl
@[simp] theorem State.setHost_ns (x : HostIf) : (s.setHost x).ns = s.ns := rfl
@[simp] theorem State.setHost_frac (x : HostIf) : (s.setHost x).frac = s.frac := rfl
@[simp] theorem State.setHost_res (x : HostIf) : (s.setHost x).res = s.res := rfl
@[simp] theorem State.setHost_free (x : HostIf) : (s.setHost x).free = s.free := rfl
@[simp] theorem State.setHost_out (x : HostIf) : (s.setHost x).out = s.out := rfl
@[simp] theorem State.setHost_pending (x : HostIf) : (s.setHost x).pending = s.pending := rfl

/-! ### setPath -/

@[simp] theorem State.setPath_op (x : PathSt) : (s.setPath x).op = s.op := rfl
@[simp] theorem State.setPath_straps (x : PathSt) : (s.setPath x).straps = s.straps := rfl
@[simp] theorem State.setPath_regs (x : PathSt) : (s.setPath x).regs = s.regs := rfl
@[simp] theorem State.setPath_boot (x : PathSt) : (s.setPath x).boot = s.boot := rfl
@[simp] theorem State.setPath_bat (x : PathSt) : (s.setPath x).bat = s.bat := rfl
@[simp] theorem State.setPath_alarm (x : PathSt) : (s.setPath x).alarm = s.alarm := rfl
@[simp] theorem State.setPath_host (x : PathSt) : (s.setPath x).host = s.host := rfl
@[simp] theorem State.setPath_perf (x : PathSt) : (s.setPath x).perf = s.perf := rfl
@[simp] theorem State.setPath_power (x : PathSt) : (s.setPath x).power = s.power := rfl
@[simp] theorem State.setPath_ports (x : PathSt) : (s.setPath x).ports = s.ports := rfl
@[simp] theorem State.setPath_cls (x : PathSt) : (s.setPath x).cls = s.cls := rfl
@[simp] theorem State.setPath_ctx (x : PathSt) : (s.setPath x).ctx = s.ctx := rfl
@[simp] theorem State.setPath_key (x : PathSt) : (s.setPath x).key = s.key := rfl
@[simp] theorem State.setPath_dom (x : PathSt) : (s.setPath x).dom = s.dom := rfl
@[simp] theorem State.setPath_pair (x : PathSt) : (s.setPath x).pair = s.pair := rfl
@[simp] theorem State.setPath_mem (x : PathSt) : (s.setPath x).mem = s.mem := rfl
@[simp] theorem State.setPath_rub (x : PathSt) : (s.setPath x).rub = s.rub := rfl
@[simp] theorem State.setPath_time (x : PathSt) : (s.setPath x).time = s.time := rfl
@[simp] theorem State.setPath_sched (x : PathSt) : (s.setPath x).sched = s.sched := rfl
@[simp] theorem State.setPath_flt (x : PathSt) : (s.setPath x).flt = s.flt := rfl
@[simp] theorem State.setPath_ct (x : PathSt) : (s.setPath x).ct = s.ct := rfl
@[simp] theorem State.setPath_rcv (x : PathSt) : (s.setPath x).rcv = s.rcv := rfl
@[simp] theorem State.setPath_path (x : PathSt) : (s.setPath x).path = x := rfl
@[simp] theorem State.setPath_cyc (x : PathSt) : (s.setPath x).cyc = s.cyc := rfl
@[simp] theorem State.setPath_sec (x : PathSt) : (s.setPath x).sec = s.sec := rfl
@[simp] theorem State.setPath_ns (x : PathSt) : (s.setPath x).ns = s.ns := rfl
@[simp] theorem State.setPath_frac (x : PathSt) : (s.setPath x).frac = s.frac := rfl
@[simp] theorem State.setPath_res (x : PathSt) : (s.setPath x).res = s.res := rfl
@[simp] theorem State.setPath_free (x : PathSt) : (s.setPath x).free = s.free := rfl
@[simp] theorem State.setPath_out (x : PathSt) : (s.setPath x).out = s.out := rfl
@[simp] theorem State.setPath_pending (x : PathSt) : (s.setPath x).pending = s.pending := rfl

/-! ### setPerf -/

@[simp] theorem State.setPerf_op (x : Perf) : (s.setPerf x).op = s.op := rfl
@[simp] theorem State.setPerf_straps (x : Perf) : (s.setPerf x).straps = s.straps := rfl
@[simp] theorem State.setPerf_regs (x : Perf) : (s.setPerf x).regs = s.regs := rfl
@[simp] theorem State.setPerf_boot (x : Perf) : (s.setPerf x).boot = s.boot := rfl
@[simp] theorem State.setPerf_bat (x : Perf) : (s.setPerf x).bat = s.bat := rfl
@[simp] theorem State.setPerf_alarm (x : Perf) : (s.setPerf x).alarm = s.alarm := rfl
@[simp] theorem State.setPerf_host (x : Perf) : (s.setPerf x).host = s.host := rfl
@[simp] theorem State.setPerf_perf (x : Perf) : (s.setPerf x).perf = x := rfl
@[simp] theorem State.setPerf_power (x : Perf) : (s.setPerf x).power = s.power := rfl
@[simp] theorem State.setPerf_ports (x : Perf) : (s.setPerf x).ports = s.ports := rfl
@[simp] theorem State.setPerf_cls (x : Perf) : (s.setPerf x).cls = s.cls := rfl
@[simp] theorem State.setPerf_ctx (x : Perf) : (s.setPerf x).ctx = s.ctx := rfl
@[simp] theorem State.setPerf_key (x : Perf) : (s.setPerf x).key = s.key := rfl
@[simp] theorem State.setPerf_dom (x : Perf) : (s.setPerf x).dom = s.dom := rfl
@[simp] theorem State.setPerf_pair (x : Perf) : (s.setPerf x).pair = s.pair := rfl
@[simp] theorem State.setPerf_mem (x : Perf) : (s.setPerf x).mem = s.mem := rfl
@[simp] theorem State.setPerf_rub (x : Perf) : (s.setPerf x).rub = s.rub := rfl
@[simp] theorem State.setPerf_time (x : Perf) : (s.setPerf x).time = s.time := rfl
@[simp] theorem State.setPerf_sched (x : Perf) : (s.setPerf x).sched = s.sched := rfl
@[simp] theorem State.setPerf_flt (x : Perf) : (s.setPerf x).flt = s.flt := rfl
@[simp] theorem State.setPerf_ct (x : Perf) : (s.setPerf x).ct = s.ct := rfl
@[simp] theorem State.setPerf_rcv (x : Perf) : (s.setPerf x).rcv = s.rcv := rfl
@[simp] theorem State.setPerf_path (x : Perf) : (s.setPerf x).path = s.path := rfl
@[simp] theorem State.setPerf_cyc (x : Perf) : (s.setPerf x).cyc = s.cyc := rfl
@[simp] theorem State.setPerf_sec (x : Perf) : (s.setPerf x).sec = s.sec := rfl
@[simp] theorem State.setPerf_ns (x : Perf) : (s.setPerf x).ns = s.ns := rfl
@[simp] theorem State.setPerf_frac (x : Perf) : (s.setPerf x).frac = s.frac := rfl
@[simp] theorem State.setPerf_res (x : Perf) : (s.setPerf x).res = s.res := rfl
@[simp] theorem State.setPerf_free (x : Perf) : (s.setPerf x).free = s.free := rfl
@[simp] theorem State.setPerf_out (x : Perf) : (s.setPerf x).out = s.out := rfl
@[simp] theorem State.setPerf_pending (x : Perf) : (s.setPerf x).pending = s.pending := rfl

/-! ### setBoot -/

@[simp] theorem State.setBoot_op (x : Boot) : (s.setBoot x).op = s.op := rfl
@[simp] theorem State.setBoot_straps (x : Boot) : (s.setBoot x).straps = s.straps := rfl
@[simp] theorem State.setBoot_regs (x : Boot) : (s.setBoot x).regs = s.regs := rfl
@[simp] theorem State.setBoot_boot (x : Boot) : (s.setBoot x).boot = x := rfl
@[simp] theorem State.setBoot_bat (x : Boot) : (s.setBoot x).bat = s.bat := rfl
@[simp] theorem State.setBoot_alarm (x : Boot) : (s.setBoot x).alarm = s.alarm := rfl
@[simp] theorem State.setBoot_host (x : Boot) : (s.setBoot x).host = s.host := rfl
@[simp] theorem State.setBoot_perf (x : Boot) : (s.setBoot x).perf = s.perf := rfl
@[simp] theorem State.setBoot_power (x : Boot) : (s.setBoot x).power = s.power := rfl
@[simp] theorem State.setBoot_ports (x : Boot) : (s.setBoot x).ports = s.ports := rfl
@[simp] theorem State.setBoot_cls (x : Boot) : (s.setBoot x).cls = s.cls := rfl
@[simp] theorem State.setBoot_ctx (x : Boot) : (s.setBoot x).ctx = s.ctx := rfl
@[simp] theorem State.setBoot_key (x : Boot) : (s.setBoot x).key = s.key := rfl
@[simp] theorem State.setBoot_dom (x : Boot) : (s.setBoot x).dom = s.dom := rfl
@[simp] theorem State.setBoot_pair (x : Boot) : (s.setBoot x).pair = s.pair := rfl
@[simp] theorem State.setBoot_mem (x : Boot) : (s.setBoot x).mem = s.mem := rfl
@[simp] theorem State.setBoot_rub (x : Boot) : (s.setBoot x).rub = s.rub := rfl
@[simp] theorem State.setBoot_time (x : Boot) : (s.setBoot x).time = s.time := rfl
@[simp] theorem State.setBoot_sched (x : Boot) : (s.setBoot x).sched = s.sched := rfl
@[simp] theorem State.setBoot_flt (x : Boot) : (s.setBoot x).flt = s.flt := rfl
@[simp] theorem State.setBoot_ct (x : Boot) : (s.setBoot x).ct = s.ct := rfl
@[simp] theorem State.setBoot_rcv (x : Boot) : (s.setBoot x).rcv = s.rcv := rfl
@[simp] theorem State.setBoot_path (x : Boot) : (s.setBoot x).path = s.path := rfl
@[simp] theorem State.setBoot_cyc (x : Boot) : (s.setBoot x).cyc = s.cyc := rfl
@[simp] theorem State.setBoot_sec (x : Boot) : (s.setBoot x).sec = s.sec := rfl
@[simp] theorem State.setBoot_ns (x : Boot) : (s.setBoot x).ns = s.ns := rfl
@[simp] theorem State.setBoot_frac (x : Boot) : (s.setBoot x).frac = s.frac := rfl
@[simp] theorem State.setBoot_res (x : Boot) : (s.setBoot x).res = s.res := rfl
@[simp] theorem State.setBoot_free (x : Boot) : (s.setBoot x).free = s.free := rfl
@[simp] theorem State.setBoot_out (x : Boot) : (s.setBoot x).out = s.out := rfl
@[simp] theorem State.setBoot_pending (x : Boot) : (s.setBoot x).pending = s.pending := rfl

/-! ### setRub -/

@[simp] theorem State.setRub_op (x : RubSt) : (s.setRub x).op = s.op := rfl
@[simp] theorem State.setRub_straps (x : RubSt) : (s.setRub x).straps = s.straps := rfl
@[simp] theorem State.setRub_regs (x : RubSt) : (s.setRub x).regs = s.regs := rfl
@[simp] theorem State.setRub_boot (x : RubSt) : (s.setRub x).boot = s.boot := rfl
@[simp] theorem State.setRub_bat (x : RubSt) : (s.setRub x).bat = s.bat := rfl
@[simp] theorem State.setRub_alarm (x : RubSt) : (s.setRub x).alarm = s.alarm := rfl
@[simp] theorem State.setRub_host (x : RubSt) : (s.setRub x).host = s.host := rfl
@[simp] theorem State.setRub_perf (x : RubSt) : (s.setRub x).perf = s.perf := rfl
@[simp] theorem State.setRub_power (x : RubSt) : (s.setRub x).power = s.power := rfl
@[simp] theorem State.setRub_ports (x : RubSt) : (s.setRub x).ports = s.ports := rfl
@[simp] theorem State.setRub_cls (x : RubSt) : (s.setRub x).cls = s.cls := rfl
@[simp] theorem State.setRub_ctx (x : RubSt) : (s.setRub x).ctx = s.ctx := rfl
@[simp] theorem State.setRub_key (x : RubSt) : (s.setRub x).key = s.key := rfl
@[simp] theorem State.setRub_dom (x : RubSt) : (s.setRub x).dom = s.dom := rfl
@[simp] theorem State.setRub_pair (x : RubSt) : (s.setRub x).pair = s.pair := rfl
@[simp] theorem State.setRub_mem (x : RubSt) : (s.setRub x).mem = s.mem := rfl
@[simp] theorem State.setRub_rub (x : RubSt) : (s.setRub x).rub = x := rfl
@[simp] theorem State.setRub_time (x : RubSt) : (s.setRub x).time = s.time := rfl
@[simp] theorem State.setRub_sched (x : RubSt) : (s.setRub x).sched = s.sched := rfl
@[simp] theorem State.setRub_flt (x : RubSt) : (s.setRub x).flt = s.flt := rfl
@[simp] theorem State.setRub_ct (x : RubSt) : (s.setRub x).ct = s.ct := rfl
@[simp] theorem State.setRub_rcv (x : RubSt) : (s.setRub x).rcv = s.rcv := rfl
@[simp] theorem State.setRub_path (x : RubSt) : (s.setRub x).path = s.path := rfl
@[simp] theorem State.setRub_cyc (x : RubSt) : (s.setRub x).cyc = s.cyc := rfl
@[simp] theorem State.setRub_sec (x : RubSt) : (s.setRub x).sec = s.sec := rfl
@[simp] theorem State.setRub_ns (x : RubSt) : (s.setRub x).ns = s.ns := rfl
@[simp] theorem State.setRub_frac (x : RubSt) : (s.setRub x).frac = s.frac := rfl
@[simp] theorem State.setRub_res (x : RubSt) : (s.setRub x).res = s.res := rfl
@[simp] theorem State.setRub_free (x : RubSt) : (s.setRub x).free = s.free := rfl
@[simp] theorem State.setRub_out (x : RubSt) : (s.setRub x).out = s.out := rfl
@[simp] theorem State.setRub_pending (x : RubSt) : (s.setRub x).pending = s.pending := rfl

/-! ### setPort -/

@[simp] theorem State.setPort_op (p : Nat) (x : PortSt) : (s.setPort p x).op = s.op := rfl
@[simp] theorem State.setPort_straps (p : Nat) (x : PortSt) : (s.setPort p x).straps = s.straps := rfl
@[simp] theorem State.setPort_regs (p : Nat) (x : PortSt) : (s.setPort p x).regs = s.regs := rfl
@[simp] theorem State.setPort_boot (p : Nat) (x : PortSt) : (s.setPort p x).boot = s.boot := rfl
@[simp] theorem State.setPort_bat (p : Nat) (x : PortSt) : (s.setPort p x).bat = s.bat := rfl
@[simp] theorem State.setPort_alarm (p : Nat) (x : PortSt) : (s.setPort p x).alarm = s.alarm := rfl
@[simp] theorem State.setPort_host (p : Nat) (x : PortSt) : (s.setPort p x).host = s.host := rfl
@[simp] theorem State.setPort_perf (p : Nat) (x : PortSt) : (s.setPort p x).perf = s.perf := rfl
@[simp] theorem State.setPort_power (p : Nat) (x : PortSt) : (s.setPort p x).power = s.power := rfl
@[simp] theorem State.setPort_cls (p : Nat) (x : PortSt) : (s.setPort p x).cls = s.cls := rfl
@[simp] theorem State.setPort_ctx (p : Nat) (x : PortSt) : (s.setPort p x).ctx = s.ctx := rfl
@[simp] theorem State.setPort_key (p : Nat) (x : PortSt) : (s.setPort p x).key = s.key := rfl
@[simp] theorem State.setPort_dom (p : Nat) (x : PortSt) : (s.setPort p x).dom = s.dom := rfl
@[simp] theorem State.setPort_pair (p : Nat) (x : PortSt) : (s.setPort p x).pair = s.pair := rfl
@[simp] theorem State.setPort_mem (p : Nat) (x : PortSt) : (s.setPort p x).mem = s.mem := rfl
@[simp] theorem State.setPort_rub (p : Nat) (x : PortSt) : (s.setPort p x).rub = s.rub := rfl
@[simp] theorem State.setPort_time (p : Nat) (x : PortSt) : (s.setPort p x).time = s.time := rfl
@[simp] theorem State.setPort_sched (p : Nat) (x : PortSt) : (s.setPort p x).sched = s.sched := rfl
@[simp] theorem State.setPort_flt (p : Nat) (x : PortSt) : (s.setPort p x).flt = s.flt := rfl
@[simp] theorem State.setPort_ct (p : Nat) (x : PortSt) : (s.setPort p x).ct = s.ct := rfl
@[simp] theorem State.setPort_rcv (p : Nat) (x : PortSt) : (s.setPort p x).rcv = s.rcv := rfl
@[simp] theorem State.setPort_path (p : Nat) (x : PortSt) : (s.setPort p x).path = s.path := rfl
@[simp] theorem State.setPort_cyc (p : Nat) (x : PortSt) : (s.setPort p x).cyc = s.cyc := rfl
@[simp] theorem State.setPort_sec (p : Nat) (x : PortSt) : (s.setPort p x).sec = s.sec := rfl
@[simp] theorem State.setPort_ns (p : Nat) (x : PortSt) : (s.setPort p x).ns = s.ns := rfl
@[simp] theorem State.setPort_frac (p : Nat) (x : PortSt) : (s.setPort p x).frac = s.frac := rfl
@[simp] theorem State.setPort_res (p : Nat) (x : PortSt) : (s.setPort p x).res = s.res := rfl
@[simp] theorem State.setPort_free (p : Nat) (x : PortSt) : (s.setPort p x).free = s.free := rfl
@[simp] theorem State.setPort_out (p : Nat) (x : PortSt) : (s.setPort p x).out = s.out := rfl
@[simp] theorem State.setPort_pending (p : Nat) (x : PortSt) : (s.setPort p x).pending = s.pending := rfl

/-! ### setSch -/

@[simp] theorem State.setSch_op (p : Nat) (x : SchedSt) : (s.setSch p x).op = s.op := rfl
@[simp] theorem State.setSch_straps (p : Nat) (x : SchedSt) : (s.setSch p x).straps = s.straps := rfl
@[simp] theorem State.setSch_regs (p : Nat) (x : SchedSt) : (s.setSch p x).regs = s.regs := rfl
@[simp] theorem State.setSch_boot (p : Nat) (x : SchedSt) : (s.setSch p x).boot = s.boot := rfl
@[simp] theorem State.setSch_bat (p : Nat) (x : SchedSt) : (s.setSch p x).bat = s.bat := rfl
@[simp] theorem State.setSch_alarm (p : Nat) (x : SchedSt) : (s.setSch p x).alarm = s.alarm := rfl
@[simp] theorem State.setSch_host (p : Nat) (x : SchedSt) : (s.setSch p x).host = s.host := rfl
@[simp] theorem State.setSch_perf (p : Nat) (x : SchedSt) : (s.setSch p x).perf = s.perf := rfl
@[simp] theorem State.setSch_power (p : Nat) (x : SchedSt) : (s.setSch p x).power = s.power := rfl
@[simp] theorem State.setSch_ports (p : Nat) (x : SchedSt) : (s.setSch p x).ports = s.ports := rfl
@[simp] theorem State.setSch_cls (p : Nat) (x : SchedSt) : (s.setSch p x).cls = s.cls := rfl
@[simp] theorem State.setSch_ctx (p : Nat) (x : SchedSt) : (s.setSch p x).ctx = s.ctx := rfl
@[simp] theorem State.setSch_key (p : Nat) (x : SchedSt) : (s.setSch p x).key = s.key := rfl
@[simp] theorem State.setSch_dom (p : Nat) (x : SchedSt) : (s.setSch p x).dom = s.dom := rfl
@[simp] theorem State.setSch_pair (p : Nat) (x : SchedSt) : (s.setSch p x).pair = s.pair := rfl
@[simp] theorem State.setSch_mem (p : Nat) (x : SchedSt) : (s.setSch p x).mem = s.mem := rfl
@[simp] theorem State.setSch_rub (p : Nat) (x : SchedSt) : (s.setSch p x).rub = s.rub := rfl
@[simp] theorem State.setSch_time (p : Nat) (x : SchedSt) : (s.setSch p x).time = s.time := rfl
@[simp] theorem State.setSch_flt (p : Nat) (x : SchedSt) : (s.setSch p x).flt = s.flt := rfl
@[simp] theorem State.setSch_ct (p : Nat) (x : SchedSt) : (s.setSch p x).ct = s.ct := rfl
@[simp] theorem State.setSch_rcv (p : Nat) (x : SchedSt) : (s.setSch p x).rcv = s.rcv := rfl
@[simp] theorem State.setSch_path (p : Nat) (x : SchedSt) : (s.setSch p x).path = s.path := rfl
@[simp] theorem State.setSch_cyc (p : Nat) (x : SchedSt) : (s.setSch p x).cyc = s.cyc := rfl
@[simp] theorem State.setSch_sec (p : Nat) (x : SchedSt) : (s.setSch p x).sec = s.sec := rfl
@[simp] theorem State.setSch_ns (p : Nat) (x : SchedSt) : (s.setSch p x).ns = s.ns := rfl
@[simp] theorem State.setSch_frac (p : Nat) (x : SchedSt) : (s.setSch p x).frac = s.frac := rfl
@[simp] theorem State.setSch_res (p : Nat) (x : SchedSt) : (s.setSch p x).res = s.res := rfl
@[simp] theorem State.setSch_free (p : Nat) (x : SchedSt) : (s.setSch p x).free = s.free := rfl
@[simp] theorem State.setSch_out (p : Nat) (x : SchedSt) : (s.setSch p x).out = s.out := rfl
@[simp] theorem State.setSch_pending (p : Nat) (x : SchedSt) : (s.setSch p x).pending = s.pending := rfl

/-! ### setSlot -/

@[simp] theorem State.setSlot_op (k : Nat) (x : Slot) : (s.setSlot k x).op = s.op := rfl
@[simp] theorem State.setSlot_straps (k : Nat) (x : Slot) : (s.setSlot k x).straps = s.straps := rfl
@[simp] theorem State.setSlot_regs (k : Nat) (x : Slot) : (s.setSlot k x).regs = s.regs := rfl
@[simp] theorem State.setSlot_boot (k : Nat) (x : Slot) : (s.setSlot k x).boot = s.boot := rfl
@[simp] theorem State.setSlot_bat (k : Nat) (x : Slot) : (s.setSlot k x).bat = s.bat := rfl
@[simp] theorem State.setSlot_alarm (k : Nat) (x : Slot) : (s.setSlot k x).alarm = s.alarm := rfl
@[simp] theorem State.setSlot_host (k : Nat) (x : Slot) : (s.setSlot k x).host = s.host := rfl
@[simp] theorem State.setSlot_perf (k : Nat) (x : Slot) : (s.setSlot k x).perf = s.perf := rfl
@[simp] theorem State.setSlot_power (k : Nat) (x : Slot) : (s.setSlot k x).power = s.power := rfl
@[simp] theorem State.setSlot_ports (k : Nat) (x : Slot) : (s.setSlot k x).ports = s.ports := rfl
@[simp] theorem State.setSlot_cls (k : Nat) (x : Slot) : (s.setSlot k x).cls = s.cls := rfl
@[simp] theorem State.setSlot_ctx (k : Nat) (x : Slot) : (s.setSlot k x).ctx = s.ctx := rfl
@[simp] theorem State.setSlot_dom (k : Nat) (x : Slot) : (s.setSlot k x).dom = s.dom := rfl
@[simp] theorem State.setSlot_pair (k : Nat) (x : Slot) : (s.setSlot k x).pair = s.pair := rfl
@[simp] theorem State.setSlot_mem (k : Nat) (x : Slot) : (s.setSlot k x).mem = s.mem := rfl
@[simp] theorem State.setSlot_rub (k : Nat) (x : Slot) : (s.setSlot k x).rub = s.rub := rfl
@[simp] theorem State.setSlot_time (k : Nat) (x : Slot) : (s.setSlot k x).time = s.time := rfl
@[simp] theorem State.setSlot_sched (k : Nat) (x : Slot) : (s.setSlot k x).sched = s.sched := rfl
@[simp] theorem State.setSlot_flt (k : Nat) (x : Slot) : (s.setSlot k x).flt = s.flt := rfl
@[simp] theorem State.setSlot_ct (k : Nat) (x : Slot) : (s.setSlot k x).ct = s.ct := rfl
@[simp] theorem State.setSlot_rcv (k : Nat) (x : Slot) : (s.setSlot k x).rcv = s.rcv := rfl
@[simp] theorem State.setSlot_path (k : Nat) (x : Slot) : (s.setSlot k x).path = s.path := rfl
@[simp] theorem State.setSlot_cyc (k : Nat) (x : Slot) : (s.setSlot k x).cyc = s.cyc := rfl
@[simp] theorem State.setSlot_sec (k : Nat) (x : Slot) : (s.setSlot k x).sec = s.sec := rfl
@[simp] theorem State.setSlot_ns (k : Nat) (x : Slot) : (s.setSlot k x).ns = s.ns := rfl
@[simp] theorem State.setSlot_frac (k : Nat) (x : Slot) : (s.setSlot k x).frac = s.frac := rfl
@[simp] theorem State.setSlot_res (k : Nat) (x : Slot) : (s.setSlot k x).res = s.res := rfl
@[simp] theorem State.setSlot_free (k : Nat) (x : Slot) : (s.setSlot k x).free = s.free := rfl
@[simp] theorem State.setSlot_out (k : Nat) (x : Slot) : (s.setSlot k x).out = s.out := rfl
@[simp] theorem State.setSlot_pending (k : Nat) (x : Slot) : (s.setSlot k x).pending = s.pending := rfl

end Sys2Proof.Machine
end

