-- ==== Sys2Proof/Laws/Ops.lean ====
section
/-!
SUPPORT. What the shared operations that report (counting, event records, completions, lath records) can do: each leaves a
state that differs at most by reporting. The meanings' effects are proved through these, not by unfolding the operations.
-/
namespace Sys2Proof.Machine

/-! ### Reporting as a relation -/

theorem State.Reported.refl (s : State) : s.Reported s := by
  constructor <;> first | rfl | exact List.prefix_refl _ | exact id | (intro _ _; rfl)

theorem State.Reported.trans {s t u : State} (h : s.Reported t) (g : t.Reported u) : s.Reported u where
  op := g.op.trans h.op
  straps := g.straps.trans h.straps
  boot := g.boot.trans h.boot
  bat := g.bat.trans h.bat
  alarm := g.alarm.trans h.alarm
  power := g.power.trans h.power
  ports := g.ports.trans h.ports
  cls := g.cls.trans h.cls
  ctx := g.ctx.trans h.ctx
  key := g.key.trans h.key
  pair := g.pair.trans h.pair
  mem := g.mem.trans h.mem
  rub := g.rub.trans h.rub
  time := g.time.trans h.time
  sched := g.sched.trans h.sched
  flt := g.flt.trans h.flt
  ct := g.ct.trans h.ct
  rcv := g.rcv.trans h.rcv
  path := g.path.trans h.path
  cyc := g.cyc.trans h.cyc
  sec := g.sec.trans h.sec
  ns := g.ns.trans h.ns
  frac := g.frac.trans h.frac
  res := g.res.trans h.res
  free := g.free.trans h.free
  pending := g.pending.trans h.pending
  dom := by rw [g.dom, h.dom]
  out := h.out.trans g.out
  regsWf := fun w => g.regsWf (h.regsWf w)
  regs := fun b hb => (g.regs b hb).trans (h.regs b hb)

/-- A field of a register that reporting does not write keeps its value. -/
theorem State.Reported.fld {s t : State} (h : s.Reported t) {f : Fld} (hf : reportReg f.addr = false) :
    t.fld f = s.fld f := by
  unfold State.fld
  rw [h.regs _ hf]

/-- A change of the counters and the host interface alone is reporting. -/
theorem State.Reported.ofPerfHost (s : State) (x : Perf) (y : HostIf) : s.Reported { s with perf := x, host := y } := by
  constructor <;> first | rfl | exact List.prefix_refl _ | exact id | (intro _ _; rfl)

theorem State.Reported.ofPerf (s : State) (x : Perf) : s.Reported { s with perf := x } := State.Reported.ofPerfHost s x s.host

theorem State.Reported.ofHost (s : State) (y : HostIf) : s.Reported { s with host := y } := State.Reported.ofPerfHost s s.perf y

theorem State.setRing_reported (s : State) (n : Nat) (r : Ring) : s.Reported (s.setRing n r) := State.Reported.ofHost s _

theorem State.emit_reported (s : State) (o : Out) : s.Reported (s.emit o) := by
  constructor <;> first | rfl | exact List.prefix_append _ _ | exact id | (intro _ _; rfl)

theorem State.setReg_reported (s : State) {a : Nat} (h : reportReg a = true) (w : Word) : s.Reported (s.setReg a w) := by
  constructor <;> first
    | rfl
    | exact List.prefix_refl _
    | exact fun hw => State.setReg_regsWf a w hw
    | (intro b hb
       refine State.reg_setReg_ne s ?_ w
       intro e
       rw [e, h] at hb
       cases hb)

theorem State.put_reported (s : State) {f : Fld} (h : reportReg f.addr = true) (v : Nat) : s.Reported (s.put f v) :=
  State.setReg_reported s h _

theorem State.bitOnly_reported (s : State) {r : Nat} (h : reportReg r = true) (b : Nat) : s.Reported (s.bitOnly r b) :=
  State.setReg_reported s h _

/-- A change that reports when it is made, reports when it is made on a condition. -/
theorem State.when_reported (s : State) (c : Bool) {f : State → State} (h : s.Reported (f s)) : s.Reported (s.when c f) := by
  unfold State.when
  split
  · exact h
  · exact .refl s

theorem State.each_reported {α : Type} {f : α → State → State} :
    ∀ (l : List α) (s : State), (∀ a ∈ l, ∀ t, State.Reported t (f a t)) → s.Reported (s.each l f)
  | [], s, _ => .refl s
  | a :: l, s, h => by
    have h1 : s.Reported (f a s) := h a (List.mem_cons_self ..) s
    exact h1.trans (State.each_reported l (f a s) (fun b hb => h b (List.mem_cons_of_mem _ hb)))

/-! ### Which registers reporting writes -/

theorem reportReg_event : reportReg R.PERF_EVENT = true := rfl

theorem reportReg_thOvf : reportReg R.PERF_TH_OVF = true := rfl

theorem reportReg_ovf {k : Nat} (h : k < 64) : reportReg (R.PERF_OVF k) = true := by
  have : R.PERF_OVF 0 ≤ R.PERF_OVF k ∧ R.PERF_OVF k < R.PERF_OVF 64 := by unfold R.PERF_OVF; omega
  simp [reportReg, this.1, this.2]

theorem reportReg_bovf {k : Nat} (h : k < 256) : reportReg (R.PERF_BOVF k) = true := by
  have : R.PERF_BOVF 0 ≤ R.PERF_BOVF k ∧ R.PERF_BOVF k < R.PERF_BOVF 256 := by unfold R.PERF_BOVF; omega
  simp [reportReg, this.1, this.2]

theorem reportReg_heads {n : Nat} (h : n < 64) : reportReg (R.RING_HEADS n) = true := by
  have h1 : 0x4400 ≤ R.RING_HEADS n ∧ R.RING_HEADS n < 0x5400 := by unfold R.RING_HEADS; omega
  have h2 : R.RING_HEADS n % 0x40 = R.RING_HEADS 0 % 0x40 := by unfold R.RING_HEADS; omega
  simp [reportReg, h1.1, h1.2, h2]

/-! ### Counting and records, over any way of noting a wrap -/

/-- A way of noting a wrap that only reports. -/
def OvfOk (ovf : State → Nat → Nat → State) : Prop := ∀ s r b, reportReg r = true → State.Reported s (ovf s r b)

theorem bitOnly_ok : OvfOk State.bitOnly := fun s _ b h => State.bitOnly_reported s h b

section
variable {ovf : State → Nat → Nat → State}

theorem State.countWith_reported (ho : OvfOk ovf) (s : State) {e : Nat} (he : e < 2048) : s.Reported (s.countWith ovf e) := by
  have hk : reportReg (R.PERF_OVF (e / 32)) = true := reportReg_ovf (by omega)
  unfold State.countWith
  dsimp only
  split
  · exact .ofPerf s _
  · split
    · exact (State.Reported.trans (.ofPerf s _) (.ofPerf _ _)).trans (ho _ _ _ hk)
    · exact State.Reported.trans (.ofPerf s _) (.ofPerf _ _)

theorem State.blkAddWith_reported (ho : OvfOk ovf) (s : State) {i : Nat} (hi : i < 8192) (n : Nat) :
    s.Reported (s.blkAddWith ovf i n) := by
  have hk : reportReg (R.PERF_BOVF (i / 32)) = true := reportReg_bovf (by omega)
  unfold State.blkAddWith
  dsimp only
  split
  · exact (State.Reported.ofPerf s _).trans (ho _ _ _ hk)
  · exact .ofPerf s _

theorem State.message_reported (s : State) (fn v : Nat) : s.Reported (s.message fn v) := by
  unfold State.message
  dsimp only
  split
  · exact .ofHost s _
  · exact State.emit_reported s _

theorem State.signal_reported (s : State) (n : Nat) : s.Reported (s.signal n) := by
  unfold State.signal
  dsimp only
  split
  · exact (State.setRing_reported s _ _).trans (State.message_reported _ _ _)
  · exact .refl s

theorem State.cqWriteWith_reported (ho : OvfOk ovf) (s : State) {n : Nat} (hn : n < 64) (head conts : List Byte) :
    s.Reported (s.cqWriteWith ovf n head conts) := by
  have hh := reportReg_heads hn
  unfold State.cqWriteWith
  dsimp only
  refine State.Reported.trans ?_ (State.signal_reported _ n)
  refine State.Reported.trans ?_ (State.countWith_reported ho _ (by decide))
  refine State.Reported.trans ?_ (State.setRing_reported _ _ _)
  refine State.Reported.trans ?_ (State.put_reported _ hh _)
  refine State.Reported.trans ?_ (State.put_reported _ hh _)
  refine State.Reported.trans ?_ (State.emit_reported _ _)
  exact State.each_reported _ s (fun a _ t => State.emit_reported t _)

theorem State.postTo_reported (ho : OvfOk ovf) (s : State) (r : EvRec) {n : Nat} (hn : n < 64) :
    s.Reported (s.postTo ovf r n) := by
  unfold State.postTo
  dsimp only
  split
  · exact .refl s
  · split
    · exact (State.blkAddWith_reported ho s (by omega) 1).trans (State.setRing_reported _ _ _)
    · exact ((State.setRing_reported s _ _).trans (State.cqWriteWith_reported ho _ hn _ _)).trans
        (State.countWith_reported ho _ (by decide))

theorem State.onRing_reported (ho : OvfOk ovf) (s : State) (ring kind dst seq : Nat) (p : List Byte) :
    s.Reported (s.onRing ovf ring kind dst seq p) := by
  unfold State.onRing
  split
  · split
    · exact (State.emit_reported s _).trans (State.countWith_reported ho _ (by decide))
    · exact .refl s
  · split
    · exact (State.emit_reported s _).trans (State.countWith_reported ho _ (by decide))
    · exact .refl s

theorem State.lathAgain_reported (ho : OvfOk ovf) (s : State) (kind dst seq : Nat) (p : List Byte) :
    s.Reported (s.lathAgain ovf kind dst seq p) := by
  unfold State.lathAgain
  split
  · exact (State.onRing_reported ho s _ _ _ _ _).trans (State.onRing_reported ho _ _ _ _ _ _)
  · exact State.onRing_reported ho s _ _ _ _ _

theorem State.domSeq_reported (s : State) (q : Nat) (l : List Relay) :
    s.Reported { s with dom := { s.dom with seq := q, relays := l } } := by
  constructor <;> first | rfl | exact List.prefix_refl _ | exact id | (intro _ _; rfl)

theorem State.lathSendWith_reported (ho : OvfOk ovf) (s : State) (kind dst : Nat) (p : List Byte) :
    s.Reported (s.lathSendWith ovf kind dst p) :=
  (State.domSeq_reported s _ s.dom.relays).trans (State.lathAgain_reported ho _ _ _ _ _)

theorem State.unicastWith_reported (ho : OvfOk ovf) (s : State) (kind dst : Nat) (p : List Byte) (o : Option (Nat × Nat)) :
    s.Reported (s.unicastWith ovf kind dst p o) :=
  (State.lathSendWith_reported ho s kind dst p).trans (State.domSeq_reported _ _ _)

theorem State.postWith_reported (ho : OvfOk ovf) (s : State) (r : EvRec) : s.Reported (s.postWith ovf r) := by
  unfold State.postWith
  split
  · exact State.unicastWith_reported ho s _ _ _ _
  · split
    · split
      · exact .ofHost s _
      · exact .ofHost s _
    · refine State.each_reported _ s (fun n hn t => State.postTo_reported ho t r ?_)
      unfold State.eventRings allBelow at hn
      exact List.mem_range.mp (List.mem_filter.mp hn).1

end

theorem overflow_ok : OvfOk State.overflow := by
  intro s r b h
  unfold State.overflow
  dsimp only
  have h1 := State.bitOnly_reported s h b
  split
  · exact h1
  · have h2 := State.bitOnly_reported (s.bitOnly r b) reportReg_event 0
    split
    · exact (h1.trans h2).trans (State.postWith_reported bitOnly_ok _ _)
    · exact h1.trans h2

/-! ### The operations as the meanings use them -/

theorem State.count_reported (s : State) {e : Nat} (h : e < 2048) : s.Reported (s.count e) :=
  State.countWith_reported overflow_ok s h

theorem State.blkAdd_reported (s : State) {i : Nat} (h : i < 8192) (n : Nat) : s.Reported (s.blkAdd i n) :=
  State.blkAddWith_reported overflow_ok s h n

theorem State.blk_reported (s : State) {i : Nat} (h : i < 8192) : s.Reported (s.blk i) := State.blkAdd_reported s h 1

theorem State.cqWrite_reported (s : State) {n : Nat} (h : n < 64) (head conts : List Byte) :
    s.Reported (s.cqWrite n head conts) := State.cqWriteWith_reported overflow_ok s h head conts

theorem State.post_reported (s : State) (r : EvRec) : s.Reported (s.post r) := State.postWith_reported overflow_ok s r

theorem State.record_reported (s : State) (b c o v0 v1 v2 : Nat) : s.Reported (s.record b c o v0 v1 v2) :=
  State.post_reported s _

theorem State.lathSend_reported (s : State) (kind dst : Nat) (p : List Byte) : s.Reported (s.lathSend kind dst p) :=
  State.lathSendWith_reported overflow_ok s kind dst p

theorem State.unicast_reported (s : State) (kind dst : Nat) (p : List Byte) (o : Option (Nat × Nat)) :
    s.Reported (s.unicast kind dst p o) := State.unicastWith_reported overflow_ok s kind dst p o

theorem State.dma_reported (s : State) (a : Nat) (b : List Byte) : s.Reported (s.dma a b) := by
  unfold State.dma
  split
  · exact State.unicast_reported s _ _ _ _
  · exact State.emit_reported s _

/-- An event bit is set in its register, and the rest is reporting (R50). -/
theorem State.event_reported (s : State) (ev en b block code o v0 v1 v2 : Nat) :
    (s.setReg ev (s.reg ev ||| BitVec.ofNat 32 (2 ^ b))).Reported (s.event ev en b block code o v0 v1 v2) := by
  unfold State.event
  dsimp only
  split
  · exact State.record_reported _ _ _ _ _ _ _
  · exact .refl _

/-! ### Registers beside the ones that reporting writes -/

/-- The port windows hold no register that reporting writes. -/
theorem reportReg_port {a : Nat} (h : 0x200000 ≤ a) : reportReg a = false := by
  unfold reportReg R.PERF_EVENT R.PERF_TH_OVF R.PERF_OVF R.PERF_BOVF R.RING_HEADS
  simp only [Bool.or_eq_false_iff, beq_eq_false_iff_ne, Bool.and_eq_false_iff, decide_eq_false_iff_not]
  refine ⟨⟨⟨⟨?_, ?_⟩, ?_⟩, ?_⟩, ?_⟩ <;> omega

/-- Nor does any central block but HOST and PERF. -/
theorem reportReg_central {a : Nat} (h : a < 0x4400 ∨ (0x5400 ≤ a ∧ a < 0x13000)) : reportReg a = false := by
  unfold reportReg R.PERF_EVENT R.PERF_TH_OVF R.PERF_OVF R.PERF_BOVF R.RING_HEADS
  simp only [Bool.or_eq_false_iff, beq_eq_false_iff_ne, Bool.and_eq_false_iff, decide_eq_false_iff_not]
  refine ⟨⟨⟨⟨?_, ?_⟩, ?_⟩, ?_⟩, ?_⟩ <;> omega

theorem natBit_or_two_pow (w : Word) {b : Nat} (hb : b < 32) : natBit (w ||| BitVec.ofNat 32 (2 ^ b)).toNat b = true := by
  have : (BitVec.ofNat 32 (2 ^ b)).toNat = 2 ^ b := by
    rw [BitVec.toNat_ofNat, Nat.mod_eq_of_lt (Nat.pow_lt_pow_right (by omega) hb)]
  unfold natBit
  rw [BitVec.toNat_or, this, Nat.testBit_or, Nat.testBit_two_pow_self, Bool.or_true]

/-- The bit of an event is 1 afterwards. -/
theorem State.event_bit (s : State) {ev : Nat} (en : Nat) {b : Nat} (block code o v0 v1 v2 : Nat) (hb : b < 32)
    (h : reportReg ev = false) : natBit ((s.event ev en b block code o v0 v1 v2).reg ev).toNat b = true := by
  rw [(State.event_reported s ev en b block code o v0 v1 v2).regs ev h, State.reg_setReg_same]
  exact natBit_or_two_pow _ hb

/-- A register other than the event register keeps its word, unless reporting writes it. -/
theorem State.event_reg (s : State) (ev en b block code o v0 v1 v2 : Nat) {a : Nat} (ha : a ≠ ev) (h : reportReg a = false) :
    (s.event ev en b block code o v0 v1 v2).reg a = s.reg a := by
  rw [(State.event_reported s ev en b block code o v0 v1 v2).regs a h, State.reg_setReg_ne s ha]

theorem State.portEvent_bit (s : State) (p : Nat) {b : Nat} (hb : b < 32) :
    natBit ((s.portEvent p b).reg (R.PORT_EVENT p)).toNat b = true :=
  State.event_bit s _ _ _ _ _ _ _ hb (reportReg_port (by unfold R.PORT_EVENT; omega))

theorem State.portEvent_reported (s : State) (p b : Nat) :
    (s.setReg (R.PORT_EVENT p) (s.reg (R.PORT_EVENT p) ||| BitVec.ofNat 32 (2 ^ b))).Reported (s.portEvent p b) :=
  State.event_reported s _ _ _ _ _ _ _ _ _

theorem State.portEvent_reg (s : State) (p b : Nat) {a : Nat} (ha : a ≠ R.PORT_EVENT p) (h : 0x200000 ≤ a) :
    (s.portEvent p b).reg a = s.reg a := State.event_reg s _ _ _ _ _ _ _ _ _ ha (reportReg_port h)

@[simp] theorem State.portEvent_ports (s : State) (p b : Nat) : (s.portEvent p b).ports = s.ports :=
  (State.portEvent_reported s p b).ports

@[simp] theorem State.portEvent_sched (s : State) (p b : Nat) : (s.portEvent p b).sched = s.sched :=
  (State.portEvent_reported s p b).sched

@[simp] theorem State.portEvent_path (s : State) (p b : Nat) : (s.portEvent p b).path = s.path :=
  (State.portEvent_reported s p b).path

/-! ### Completions (R386) -/

theorem State.flush_reported {n : Nat} (hn : n < 64) : ∀ (k : Nat) (s : State), s.Reported (s.flush n k)
  | 0, s => .refl s
  | k + 1, s => by
    unfold State.flush
    split
    · split
      · dsimp only
        refine State.Reported.trans ?_ (State.flush_reported hn k _)
        split
        · exact (State.setRing_reported s _ _).trans (State.cqWrite_reported _ hn _ _)
        · exact State.setRing_reported s _ _
      · exact .refl s
    · exact .refl s

theorem State.completeOrder1_reported (s : State) {n : Nat} (hn : n < 64) (k : Nat) (d : Completion) :
    s.Reported (s.completeOrder1 n k d) := by
  unfold State.completeOrder1
  dsimp only
  split
  · exact (State.setRing_reported s _ _).trans (State.flush_reported hn _ _)
  · exact .refl s

theorem State.settle_reported : ∀ (k : Nat) (s : State), s.Reported (s.settle k)
  | 0, s => .refl s
  | k + 1, s => by
    unfold State.settle
    split
    · exact ((State.Reported.ofHost s _).trans (State.completeOrder1_reported _ (Nat.mod_lt _ (by decide)) _ _)).trans
        (State.settle_reported k _)
    · exact .refl s

theorem State.complete_reported (s : State) {n : Nat} (hn : n < 64) (tag : BitVec 16) (d : Completion) :
    s.Reported (s.complete n tag d) := by
  unfold State.complete
  dsimp only
  refine State.Reported.trans ?_ (State.settle_reported _ _)
  refine State.Reported.trans ?_ (State.flush_reported hn _ _)
  refine State.Reported.trans ?_ (State.setRing_reported _ _ _)
  split
  · exact .ofHost s _
  · exact .refl s

theorem State.completeOrder_reported (s : State) {n : Nat} (hn : n < 64) (k : Nat) (d : Completion) :
    s.Reported (s.completeOrder n k d) :=
  (State.completeOrder1_reported s hn k d).trans (State.settle_reported _ _)

theorem State.finish_reported (s : State) {n : Nat} (hn : n < 64) (g o : Nat) (c : RingCmd) (r : Reply) :
    s.Reported (s.finish n g o c r) := by
  unfold State.finish
  dsimp only
  refine State.Reported.trans ?_ (State.complete_reported _ hn _ _)
  split
  · exact .refl s
  · exact State.dma_reported s _ _

/-! ### Commands that are served -/

/-- Without STAGE, a domain or a joining member, a command is carried out by its block engine. -/
theorem runLocal_direct {c : RingCmd} {s : State} (hs : c.stage = false) (hc : s.config ≠ 2) (hj : s.joining = false)
    (g o : Nat) (body : Body) : runLocal g o body c s = body c s := by
  unfold runLocal
  rw [hj, hs]
  simp only [Bool.false_and, Bool.false_eq_true, if_false, hc, decide_false]

/-- A served command is carried out by its block engine, and then finished (R386). -/
theorem ringExec_served {c : RingCmd} {n : Fin 64} {s : State} (h : RingCmd.served c n s) (g o : Nat) (body : Body) :
    ringExec g o body c s = .next ((body c s).1.finish n.val g o c (body c s).2) := by
  obtain ⟨hv, hop, hf, ht, hs, hc, hj⟩ := h
  have hrun := runLocal_direct hs hc hj g o body
  have h3 : c.target.toNat = 0x7E := congrArg BitVec.toNat ht
  have h1 : (decide (s.op = .hold) || decide (s.op = .fault)) = false := by rcases hop with h | h <;> rw [h] <;> rfl
  have h2 : (decide (s.op ≠ .setup) && decide (s.op ≠ .run)) = false := by rcases hop with h | h <;> rw [h] <;> rfl
  unfold ringExec ringRun
  simp only [hv, h1, h2, hf, h3, hrun]
  simp

/-- A served command leaves what its block engine made of the state, and reports. -/
theorem ringExec_reported {c : RingCmd} {n : Fin 64} {s : State} (h : RingCmd.served c n s) (g o : Nat) (body : Body) :
    ∃ t, ringExec g o body c s = .next t ∧ (body c s).1.Reported t :=
  ⟨_, ringExec_served h g o body, State.finish_reported _ n.isLt g o c _⟩

end Sys2Proof.Machine
end

