-- ==== Sys2Proof/Laws/Port.lean ====
section
/-!
SUPPORT. Ports: what a port holds, its link state and its status fields after the operations of Machine/Ports.lean.
-/
namespace Sys2Proof.Machine

@[simp] theorem State.port_setPort_same (s : State) (p : Nat) (x : PortSt) : (s.setPort p x).port p = x :=
  Tbl.getD_setD_same _ _ _

theorem State.port_setPort_ne (s : State) {p q : Nat} (h : q ≠ p) (x : PortSt) : (s.setPort p x).port q = s.port q :=
  Tbl.getD_setD_ne _ h _

@[simp] theorem State.port_put (s : State) (f : Fld) (v q : Nat) : (s.put f v).port q = s.port q := rfl

@[simp] theorem State.port_portEvent (s : State) (p b q : Nat) : (s.portEvent p b).port q = s.port q := by
  unfold State.port
  rw [State.portEvent_ports]

@[simp] theorem State.fld_setPort (s : State) (p : Nat) (x : PortSt) (f : Fld) : (s.setPort p x).fld f = s.fld f := rfl

@[simp] theorem State.reg_setPort (s : State) (p : Nat) (x : PortSt) (a : Nat) : (s.setPort p x).reg a = s.reg a := rfl

@[simp] theorem State.link_setPort (s : State) (p : Nat) (x : PortSt) (q : Nat) : (s.setPort p x).link q = s.link q := rfl

theorem State.fld_portEvent (s : State) (p b : Nat) {f : Fld} (ha : f.addr ≠ R.PORT_EVENT p) (h : 0x200000 ≤ f.addr) :
    (s.portEvent p b).fld f = s.fld f := by
  unfold State.fld
  rw [State.portEvent_reg s p b ha h]

/-- A status field of a port is not touched by an event of the port. -/
@[simp] theorem State.status_portEvent (s : State) (p b hi lo : Nat) :
    (s.portEvent p b).fld ⟨R.PORT_STATUS p, hi, lo⟩ = s.fld ⟨R.PORT_STATUS p, hi, lo⟩ :=
  State.fld_portEvent s p b (by simp [R.PORT_STATUS, R.PORT_EVENT]) (by simp [R.PORT_STATUS]; omega)

@[simp] theorem State.link_put_link (s : State) (p v : Nat) : (s.put (F.PORT_STATUS.LINK_STATE p) v).link p = v % 8 :=
  State.fld_put_same s _ v (by simp [F.PORT_STATUS.LINK_STATE])

@[simp] theorem State.link_portEvent (s : State) (p b : Nat) : (s.portEvent p b).link p = s.link p :=
  State.status_portEvent s p b 2 0

end Sys2Proof.Machine
end

