-- ==== Sys2Proof/WellFormed.lean ====
section
/-!
DEFINITION. Well-formed commands: what the outside can bring at all (access sizes of R513, slots of R380, lines of R345, the
four bytes of an FCS). A command that is not well formed has a meaning too; it stands for nothing that happens.
-/
namespace Sys2Proof

/-- The size of a BAR (Table 16.2): PF2 has no BAR0. -/
def barSize (fn : Fin 3) (bar : Fin 2) : Nat :=
  if bar = 1 then 0x10000 else if fn = 0 then 0x1000000 else if fn = 1 then 0x4000000 else 0

/-- An access of 1, 2, 4 or 8 bytes within a BAR. -/
def HostWrite.wf (w : HostWrite) : Bool := [1, 2, 4, 8].contains w.size && decide (w.off + w.size ≤ barSize w.fn w.bar)

/-- At most 15 whole continuation slots (Table 16.5), and no more of BUF than its length. -/
def RingCmd.wf (c : RingCmd) : Bool :=
  c.cont.length % 32 == 0 && decide (c.cont.length ≤ 480) &&
  (match c.bufIn with | some b => decide (b.length ≤ c.bufLen.toNat) | none => true)

/-- A destination is a device, the hawk (0x7E) or everyone (0x7F) (R322). -/
def LathRec.wf (r : LathRec) : Bool := decide (r.dst < 64) || r.dst == 0x7E || r.dst == 0x7F

/-- A frame check sequence has four bytes (R33). -/
def RxEnd.wf (e : RxEnd) : Bool := e.fcs.length == 4

/-- A line of the stack of 16 GiB (R345). -/
def lineOk (line : Nat) : Bool := decide (line < 2 ^ 28)

/-- A read of a line of the stack. -/
def MemRead.wf (m : MemRead) : Bool := lineOk m.line

/-- A write of bytes of one line. -/
def MemWrite.wf (m : MemWrite) : Bool := lineOk m.line && m.data != [] && decide (m.off + m.data.length ≤ 64)

/-- A raw access of one line (R370). -/
def RawAccess.wf (a : RawAccess) : Bool :=
  lineOk a.line && (match a.write with | some d => d.length == 64 | none => true)

/-- A command that the outside can bring. -/
def Instr.wf (i : Instr) : Bool :=
  match i with
  | .registerWrite w => w.wf
  | .frameEndReceive _ e => e.wf
  | .gclWrite c => c.wf
  | .gclRead c => c.wf
  | .gclParams c => c.wf
  | .gclChange c => c.wf
  | .gclCancel c => c.wf
  | .gclStatus c => c.wf
  | .mcuCoreFault _ line => lineOk line
  | .readPos c => c.wf
  | .search c => c.wf
  | .insert c => c.wf
  | .update c => c.wf
  | .delete c => c.wf
  | .flush c => c.wf
  | .writePos c => c.wf
  | .ctxRead c => c.wf
  | .ctxInstall c => c.wf
  | .ctxEnable c => c.wf
  | .ctxRetire c => c.wf
  | .ctxSelect c => c.wf
  | .ctxFree c => c.wf
  | .ctxPin c => c.wf
  | .ctxUnpin c => c.wf
  | .ctxClearCnt c => c.wf
  | .scmAdd c => c.wf
  | .scmDelete c => c.wf
  | .flipAdd c => c.wf
  | .flipArm c => c.wf
  | .flipCancel c => c.wf
  | .flipStatus c => c.wf
  | .secyTxRead c => c.wf
  | .keyImportKw c => c.wf
  | .keyImportXw c => c.wf
  | .keyGenerate c _ => c.wf
  | .keyDerive c => c.wf
  | .keyExportKw c => c.wf
  | .keyExportXw c => c.wf
  | .keyCmacGen c => c.wf
  | .keyCmacVerify c => c.wf
  | .keyAttrRead c => c.wf
  | .keyAttrReduce c => c.wf
  | .keyPin c => c.wf
  | .keyUnpin c => c.wf
  | .keyFree c => c.wf
  | .rootInject c => c.wf
  | .rootErase c => c.wf
  | .rootStatus c => c.wf
  | .ptpGet c => c.wf
  | .ptpSet c => c.wf
  | .fltWrite c => c.wf
  | .fltRead c => c.wf
  | .mtrWrite c => c.wf
  | .mtrRead c => c.wf
  | .fltUnblock c => c.wf
  | .mtrUnmark c => c.wf
  | .fltClearCnt c => c.wf
  | .tunWrite c => c.wf
  | .tunRead c => c.wf
  | .ctAdmit c => c.wf
  | .ctWithdraw c => c.wf
  | .ctRead c => c.wf
  | .ctClearCnt c => c.wf
  | .srcRead c => c.wf
  | .srcWrite c => c.wf
  | .stnRead c => c.wf
  | .stnWrite c => c.wf
  | .stnClearCnt c => c.wf
  | .pairStatus c => c.wf
  | .pairDemote c => c.wf
  | .pairRefill c => c.wf
  | .pairHbReceive _ r => r.wf
  | .yieldReceive _ r => r.wf
  | .pairCheckpointReceive _ r => r.wf
  | .digestReceive _ r => r.wf
  | .refillRecordReceive _ r => r.wf
  | .discoverReceive _ r => r.wf
  | .ringRecordForward _ r => r.wf
  | .ackReceive _ r => r.wf
  | .relayReadResponse _ r => r.wf
  | .relayedCmdReceive _ r => r.wf
  | .excRecordReceive _ r => r.wf
  | .fwStartReceive _ r => r.wf
  | .fwDataReceive _ r => r.wf
  | .loadStatusReceive _ r => r.wf
  | .domResetReceive _ r => r.wf
  | .screedReceive _ r => r.wf
  | .prepareReceive _ r => r.wf
  | .reportReceive _ r => r.wf
  | .abortReceive _ r => r.wf
  | .activateReceive _ r => r.wf
  | .domStatus c => c.wf
  | .domExpect c => c.wf
  | .domPrepare c => c.wf
  | .domAbort c => c.wf
  | .domDiscard c => c.wf
  | .domRelease c => c.wf
  | .domReset c => c.wf
  | .memReadDone m => m.wf
  | .memLineWrite m => m.wf
  | .scrubRead m => m.wf
  | .rawDebugAccess a => a.wf
  | .cmdFetch _ slots => slots.length % 32 == 0
  | .pf2TxFetch _ d _ => d.length == 32
  | .nop c => c.wf
  | .fence c => c.wf
  | .perfSnapshot c => c.wf
  | .perfSnapAt c => c.wf
  | .perfDump c => c.wf
  | .perfRead c => c.wf
  | .refillRequestReceive _ r => r.wf
  | .domHbReceive _ r => r.wf
  | .regRecordReceive _ r => r.wf
  | .dmaRecordReceive _ r => r.wf
  | .portModeWrite _ _ => true
  | .portStatusRead _ => true
  | .negotiationResolved _ => true
  | .anFail _ => true
  | .signalLock _ => true
  | .trainingDone _ => true
  | .trainingFail _ => true
  | .linkUp _ => true
  | .lockLoss _ => true
  | .linkDown _ => true
  | .faultLocalEnter _ => true
  | .faultLocalClear _ => true
  | .faultRemoteEnter _ => true
  | .faultRemoteClear _ => true
  | .verifyMpacketSend _ => true
  | .respondMpacketReceive _ => true
  | .mmVerifyFail _ => true
  | .mmFragmentReceive _ _ => true
  | .lpiEnter _ => true
  | .lpiWake _ => true
  | .lpiIdleExpiry _ => true
  | .rxLpiEntry _ => true
  | .twReqWrite _ _ => true
  | .twApply _ => true
  | .frameHeadReceive _ => true
  | .contextFetchDone _ _ _ => true
  | .keyUnwrapDone _ _ => true
  | .frameWet _ => true
  | .forwardingLookupDone _ => true
  | .frameVerdict _ => true
  | .stnAsduExamine => true
  | .stnPairWaitExpire _ _ => true
  | .takeAnyReset _ => true
  | .txCommit _ _ => true
  | .transmitStart _ => true
  | .reservedStart _ _ => true
  | .tailRelease _ _ => true
  | .txEnd _ => true
  | .extraWorkDone _ => true
  | .dbfReadDone _ _ _ => true
  | .gateCycleStart _ => true
  | .gateSetGates _ => true
  | .gateSetHold _ => true
  | .gateSetRelease _ => true
  | .gateKeyflip _ => true
  | .gateReserve _ => true
  | .gclConfigChange _ => true
  | .flipDone _ => true
  | .cipherCoreFault _ _ => true
  | .moveRegisterClear => true
  | .learnQueueServe => true
  | .ageSweepVisit _ => true
  | .bgcPass _ => true
  | .bgcConfirm _ => true
  | .ctxLeapLoWrite _ => true
  | .ctxLeapHiWrite _ => true
  | .keyGroupIdWrite _ => true
  | .trngHealthTimeout => true
  | .keySlotUncorr _ => true
  | .timeSet => true
  | .timeStep => true
  | .timeSnap => true
  | .timeRateWrite _ => true
  | .clockSourceAdjust _ => true
  | .ppsInEdge => true
  | .ppsInLoss => true
  | .ppsOutRise => true
  | .ppsOutFall => true
  | .todOutSend => true
  | .todInReceive _ => true
  | .tsCalDone _ => true
  | .ptpTcEntryExpire _ _ => true
  | .pairHbSend => true
  | .pairHbMiss _ => true
  | .pairStartWait => true
  | .pairCheckpointSend => true
  | .demoteCheckpointStart => true
  | .demoteAbandon => true
  | .pairHandover => true
  | .digestSend _ => true
  | .digestMiss _ => true
  | .discoverSend => true
  | .hawkClaimExpiry => true
  | .ringLinkLoss _ => true
  | .ringLinkRestore _ => true
  | .recordAckTimeout _ => true
  | .relayWindowWrite _ _ => true
  | .relayWindowRead _ => true
  | .relayReadTimeout _ => true
  | .domHbSend => true
  | .domHbMiss _ => true
  | .screedSend => true
  | .prepTimeout => true
  | .activation => true
  | .monDisagree _ => true
  | .nodeRebuildDone _ => true
  | .memRootError _ => true
  | .stackTempChange _ => true
  | .skimStart _ => true
  | .skimGroupMove => true
  | .stripDone => true
  | .dbufTWrite _ => true
  | .ucieTrainDone _ => true
  | .ucieTrainRetry => true
  | .ucieLinkDown => true
  | .hostReadTimeout _ => true
  | .functionLevelReset _ => true
  | .sqTailDoorbell _ _ _ => true
  | .cqHeadDoorbell _ _ _ => true
  | .ringEnable _ => true
  | .ringDisable _ => true
  | .ringStopDone _ => true
  | .ringReset _ => true
  | .msixCoalTimeout _ => true
  | .excSteerWrite _ _ => true
  | .powerGood => true
  | .vbatPresent => true
  | .vbatLoss => true
  | .powerLoss => true
  | .coldReset => true
  | .warmReset => true
  | .resetRelease _ => true
  | .romDone => true
  | .fwLoadGo _ => true
  | .fwVerifyDone => true
  | .setupEntry => true
  | .runReq => true
  | .holdReq => true
  | .arbCommit => true
  | .ownerHash _ => true
  | .lcAdvance _ => true
  | .dbufMinT => true
  | .fuseBurnDone => true
  | .attGo => true
  | .attDone _ => true
  | .monitorTrip _ => true
  | .alarmRearm _ => true
  | .encCfgApply _ => true
  | .monitorTestRound => true
  | .testWindowEnd _ _ _ => true
  | .floorCmd => true
  | .healthKick => true
  | .healthKickExpiry => true
  | .rubPassStart _ => true
  | .rubNow _ => true
  | .rubTempRetry _ => true
  | .rubPrepareDone => true
  | .rubMirrorDone => true
  | .rubHandover => true
  | .rubGapTimeout => true
  | .rubDrainDone => true
  | .rubTestDone _ => true
  | .rubRefillDone => true
  | .rubHandback => true
  | .rubReturnRetry => true
  | .periodicSnapshot => true
  | .snapAtFire => true
  | .snapshotDone => true
  | .dumpRecordWrite => true
  | .perfSample _ _ => true
  | .sliceWake _ => true
  | .sliceWakeDone _ => true
  | .sliceSleep _ => true
  | .slicePllUnlock _ => true
  | .centralPllUnlock _ => true
  | .sliceReset _ => true
  | .sliceResetDone => true
  | .spoilMarkerReceive _ => true
  | .trngHealthRestored => true
  | .rxLpiExit _ => true
  | .erroredBlockReceive _ _ => true

end Sys2Proof
end

