-- ==== Sys2Proof/Tests/Slice0.lean ====
section
/-!
SUPPORT. Tests. First the small states that the tests start from (`W`), then ill-formed terms that the check refuses, the
worked examples of the spec, single commands, and for every obligation with premises a state and operands that meet them all.
-/
namespace Sys2Proof.Tests
open Sys2Proof.Machine
set_option maxRecDepth 20000
set_option Elab.async false

/-! ### States to start from -/

/-- Reset with no register listed. -/
def W.base : State := { State.reset with regs := [] }
/-- That state in an operational state, with fields set. -/
def W.at (o : OpState) (l : List (Fld × Nat)) : State := l.foldl (fun s f => s.put f.1 f.2) { W.base with op := o }
/-- Port 0 in mode 25GBASE-R with negotiation on, in link state `l`. -/
def W.port (l : Nat) (more : List (Fld × Nat)) : State :=
  W.at .run ([(F.PORT_MODE.LANE_MODE 0, 4), (F.PORT_MODE.AN_EN 0, 1), (F.PORT_STATUS.LINK_STATE 0, l)] ++ more)
def W.seek : State := W.port 1 []
def W.train : State := W.port 2 [(F.PORT_MODE.LT_EN 0, 1)]
def W.up : State := W.port 3 []
/-- Port 0 UP with verification running and `n` verify mPackets sent. -/
def W.verifying (n : Nat) : State := (W.port 3 [(F.PORT_STATUS.MM_STATE 0, 1)]).setPort 0 { PortSt.idle with verifySent := n }
/-- A fragment. -/
def W.frag (k : FragKind) (n : Fin 4) : Fragment := { kind := k, data := [1, 2], count := n, mcrcOk := true }
def W.assembling : State := (W.port 3 []).setPort 0 { PortSt.idle with assembly := some ⟨[7], 1⟩ }
/-- A gate bank: cycle 1 ms, base 0. -/
def W.bank (es : List (BitVec 64)) : GateBank :=
  { base := 0, cycle := 1000000, ext := 0, length := es.length, entries := es.zipIdx.map (fun e => (e.2, e.1)) }
/-- Port 0 UP with a running list. -/
def W.listed (es : List (BitVec 64)) : State :=
  (W.port 3 [(F.PORT_MODE.AN_EN 0, 0), (F.SCHED_CFG.GATE_EN 0, 1), (F.SCHED_STATUS.OPER_VALID 0, 1), (F.PORT_EEE_CFG.EEE_EN 0,
    1)]).setSch 0 { SchedSt.idle with bank0 := W.bank es }
/-- A gate entry. -/
def W.entry (op gates interval : Nat) : BitVec 64 := putF (putF (putF 0 G.op op) G.gates gates) G.interval interval
/-- A frame of 64 zero bytes, number 1, received on port 0. -/
def W.bytes : List Byte := List.replicate 60 0
def W.frame : FrameRec := FrameRec.new 1 0 W.bytes true 0
/-- A MACsec frame of context 8 with its end, wetness, and verdict inputs. -/
def W.mac (wet : Bool) (ended : Option Nat) : FrameRec :=
  { W.frame with guard := .macsec 8 5 false, wet := wet, ended := ended }
def W.withFrames (s : State) (l : List FrameRec) : State := { s with path := { s.path with frames := l } }
/-- A copy of frame 1, number 4. -/
def W.copy : Copy :=
  ⟨4, some 1, none, 1, W.bytes, none, none, none, 0, false, false, true, false, none, false, false, false, none, 0, 0⟩
def W.queued (s : State) (k : Nat) (l : List Copy) : State := { s with path :=
  { s.path with queues := Tbl.setD (fun _ => []) s.path.queues k l } }
def W.sending (last : Bool) (tail : Option Nat) (cut : Bool) : Sending :=
  ⟨{ W.copy with cut := cut, wet := true }, 0, W.bytes, 0, 60, last, 0, none, false, tail, none, none⟩
/-- Port 0 UP without negotiation. -/
def W.clear : State := W.port 3 [(F.PORT_MODE.AN_EN 0, 0)]
def W.sends (x : Sending) : State := { W.clear with path :=
  { W.clear.path with line := [(0, ⟨some x, none⟩)], frames := [W.mac true none] } }
def W.macSet : FrameRec := { W.mac true (some 0) with looked := true, plain := W.bytes }
def W.macBroken (asm : Nat) (fault lost tagOk : Bool) : FrameRec :=
  { W.mac true (some 0) with asm := asm, fault := fault, lost := lost, tagOk := tagOk }
def W.ctxRx (more : List (BF × Nat)) : BitVec 2048 := more.foldl (fun w f => putF w f.1 f.2) (putF (putF (putF 0 C.valid 1)
  C.kind 1) C.nextPn 1)
def W.withCtx (s : State) (l : List (Nat × BitVec 2048)) : State := s.setCtx { s.ctx with ctx := l }
def W.fetching : State := (W.withCtx W.clear [(8, W.ctxRx [])]).setCtx
  { (W.withCtx W.clear [(8, W.ctxRx [])]).ctx with fetches := [(0, [⟨8, [1]⟩])] }
def W.unwrapping : State := W.clear.setKey { KeySt.empty with unwraps := [⟨7, [0], [1]⟩] }
def W.reserved : State :=
  { W.queued W.clear 0 [{ W.copy with start := some 0, contract := some 5 }] with sched := [(0,
    { SchedSt.idle with starts := [⟨0, some 5, none, false, 0⟩] })] }
def W.commits : State := W.clear.setSch 0 { SchedSt.idle with starts := [⟨100, some 5, none, false, 0⟩] }
/-- A command of ring 0 for this device. -/
def W.cmd (a0 a1 : Nat) (cont : List Byte) (len : Nat) (buf : Option (List Byte)) : RingCmd :=
  ⟨.ring 0, 7, false, 0x7E, BitVec.ofNat 64 a0, BitVec.ofNat 32 a1, cont, 0x1000, BitVec.ofNat 32 len, buf, false⟩
def W.setup : State := W.at .setup []
def W.run : State := W.at .run []
def W.gclBuf : List Byte := leBytes 8 (W.entry 0 255 10000).toNat
def W.gclParams : List Byte := leBytes 10 0 ++ leBytes 4 1000 ++ leBytes 4 0 ++ leBytes 2 1
/-- Port 0 with a list of one entry in the administrative bank. -/
def W.admin : State := (W.at .run [(F.SCHED_CFG.GATE_EN 0, 1)]).setSch 0 { SchedSt.idle with bank1 :=
  { W.bank [W.entry 0 255 1000000] with base := 5000000 } }
def W.changing : State := W.admin.setSch 0 { W.admin.sch 0 with change := some 0 }
def W.flipEntry : BitVec 64 := putF (putF 0 G.op 3) G.flip 2
def W.flipDue : State := (W.listed [W.flipEntry]).setCtx { (W.listed [W.flipEntry]).ctx with flips := [(2,
  { FlipSet.idle with state := 1 })] }
def W.rsvEntry : BitVec 64 := putF (putF 0 G.op 4) G.arg 5
def W.rsvDue : State := { W.listed [W.rsvEntry] with ct := { (W.listed [W.rsvEntry]).ct with ct := [(5, putF 0 V.state 1)] } }
def W.clockHost (more : List (Fld × Nat)) : State := W.at .run ([(F.TIME_CTL.SRC, 6)] ++ more)
def W.ppsRisen : State := { W.at .run [(F.TOD_CFG.TOD_OUT_EN, 1)] with time := { W.run.time with rise := some 0, pps := true } }
def W.todMsg : List Byte := (beBytes 2 0x5854 ++ List.replicate 14 0) ++ beBytes 2 (crc16 (beBytes 2 0x5854 ++ List.replicate
  14 0))
def W.todIn : State := { W.at .run [(F.TOD_CFG.TOD_IN_EN, 1)] with time := { W.run.time with edge := some 0 } }
/-- A dynamic entry for station 5 of FID 0 on port 2. -/
def W.fdbEntry : BitVec 128 := putF (putF (putF 0 E.fdbValid 1) E.fdbDest 2) E.fdbKey 5
def W.fdbState : State := (W.run.fdbInsert W.fdbEntry).1
def W.sidData : List Byte := leBytes 64 (putF (putF (putF (0 : BitVec 512) E.sidValid 1) E.sidMethod 1) E.sidKey 9).toNat
def W.sidState : State := (tceInsert (W.cmd 0x100000 0 W.sidData 0 none) W.run).1
def W.learning : State := W.run.setCls { W.run.cls with learnQ := [⟨0, 5, 2⟩] }
def W.aging (hit stale : Bool) (pos : Nat) : State :=
  (W.at .run [(F.AGE_CFG.AGE_EN, 1)]).setCls
    { W.run.cls with fdb := [(pos, putF (putF W.fdbEntry E.fdbHit (b2n hit)) E.fdbStale (b2n stale))], hits := if hit then
      [(pos, 1)] else [] }
def W.shadow : BgcShadow := ⟨[], [], [], [], [], []⟩
def W.filterCmd : RingCmd := W.cmd 16383 0 (List.replicate 16 1) 0 none
def W.metered (mark : Nat) : State :=
  let m := putF (putF (putF 0 L.cbs 100) L.ebs 200) L.markRed mark
  { W.run with flt := { W.run.flt with mtr := [(1, m)], fill := [(2, 50 * fillUnit), (3, 150 * fillUnit)] } }
def W.tunHeader : List Byte := leBytes 128 (putF (0 : BitVec 1024) U.hdrLen 42).toNat
def W.swept : State := (W.aging true false 0).put ⟨R.PWR_SLICE_STATUS, 1, 0⟩ 3
def W.ctxTx (more : List (BF × Nat)) : BitVec 2048 := W.ctxRx ([(C.dir, 1)] ++ more)
def W.slotAttr (more : List (BF × Nat)) : BitVec 128 := more.foldl (fun w f => putF w f.1 f.2) (putF (putF 0 M.attrValid 1)
  K.life 1)
def W.withSlots (s : State) (l : List (Nat × Slot)) : State := s.setKey { s.key with slots := l, lru := l.map (·.1) }
/-- Context 8 receives on port 0, context 4 transmits. -/
def W.ctxs : State := W.withCtx W.run [(8, W.ctxRx [])]
def W.ctxsPinnedSlot : State := W.withSlots W.ctxs [(0, ⟨W.slotAttr [(M.attrPin, 1)], 0, false⟩)]
def W.image : List Byte := leBytes 256 (W.ctxRx []).toNat
def W.scmOne : State := W.run.setCtx { W.run.ctx with scm := [(0, putF (putF (putF 0 M.scmValid 1) M.scmIndex 2) M.scmSci 9)] }
def W.txState : State := W.withCtx W.run [(W.run.txCtx 0 0, W.ctxTx [(C.txEn, 1)])]
def W.scmData : List Byte := leBytes 16 (putF (putF (0 : BitVec 128) M.scmValid 1) M.scmSci 9).toNat
def W.scmFound : State := (scmAdd (W.cmd 0 0 W.scmData 0 none) W.run).1
def W.flipped (n : Nat) : State := W.txState.setCtx { W.txState.ctx with flips := [(0, { FlipSet.idle with state := n })] }
def W.leap (v : Word) : State := W.setup.setCtx { W.setup.ctx with leapHeld := some v }
/-- Slot 5 holds a key of all uses; slot 6 is empty. -/
def W.kek : State := W.withSlots W.setup [(5, ⟨W.slotAttr [(M.usage, 63), (K.exportBit, 1)], 0, false⟩)]
def W.zeros (n : Nat) : List Byte := List.replicate n 0
def W.fillAttr : List Byte := leBytes 16 (putF (0 : BitVec 128) K.life 1).toNat
def W.kwCont : List Byte := padTo 64 (W.fillAttr ++ keyWrap (W.zeros 16) (W.zeros 16))
def W.xwCont : List Byte := padTo 64 (W.fillAttr ++ xwWrap (W.zeros 16) (W.slotAttr []) 0 (W.zeros 16))
def W.kdfCont : List Byte := padTo 32 (W.fillAttr ++ leBytes 2 128)
def W.kc (a0 a1 : Nat) (cont : List Byte) : RingCmd := W.cmd a0 a1 cont 16 (some [1])
def W.counted : State := W.setup.setSlot 5 ⟨putF (putF (0 : BitVec 128) M.attrValid 1) K.uses 3, 0, false⟩
def W.slotRef : State := W.withCtx W.setup [(8, putF (W.ctxRx []) C.slot 5)]
def W.owned (s : State) : State := { s with boot := { s.boot with fuses := putF s.boot.fuses ⟨39, 0⟩ 0xFF } }
def W.slot6 : State := W.withSlots W.setup [(6, ⟨W.slotAttr [(M.usage, 63), (K.exportBit, 1)], 7, false⟩)]
def W.kaCont : List Byte := padTo 32 (leBytes 16 (putF (putF (0 : BitVec 128) K.life 1) M.usage 1).toNat)
def W.rooted (s : State) : State := { W.owned s with bat := { s.bat with roots := [] } }

/-- Ports 0 and 1 UP, a stream with a fixed path from 0 to 1, its filter and meter, and a list with one reservation of
  contract 0. -/
def W.ctList : List (BitVec 64) :=
  [W.entry 0 0xDF 10000, putF (putF 0 G.op 4) G.arg 0, W.entry 0 0x20 10000, W.entry 0 0xDF 980000]
def W.ctSid : BitVec 512 := putF (putF (putF (0 : BitVec 512) E.sidValid 1) E.sidMethod 1) E.sidHandle 3
def W.ctStr : BitVec 256 := putF (putF (putF (putF (0 : BitVec 256) E.strValid 1) E.strFwd 1) E.strDest 2) E.strFilter 1
def W.ctFlt : BitVec 64 := putF (putF (putF (putF 0 L.valid 1) L.meterEn 1) L.meter 1) L.maxSdu 64
def W.ctMtr : BitVec 128 := putF (putF 0 L.cbs 64) L.cir 10
def W.ctRegs : State := W.at .run [(F.PORT_MODE.LANE_MODE 0, 4), (F.PORT_STATUS.LINK_STATE 0, 3), (F.PORT_MODE.LANE_MODE 1,
  4), (F.PORT_STATUS.LINK_STATE 1, 3), (F.SCHED_CFG.GATE_EN 1, 1), (F.SCHED_STATUS.OPER_VALID 1, 1), (F.CT_POOL.POOL 0, 1)]
def W.ctReady : State :=
  let s := W.ctRegs.setSch 1 { SchedSt.idle with bank0 := W.bank W.ctList }
  let s := s.setCls { s.cls with sid := [(0, W.ctSid)], stream := [(3, W.ctStr)], mcast := [(2, putF 0 E.groupMask 2)], vlan
    := [(0, putF (putF 0 E.vlanValid 1) E.vlanMember 2)] }
  { s with flt := { s.flt with flt := [(1, W.ctFlt)], mtr := [(1, W.ctMtr)] } }
def W.ctImage (bound : Nat) : BitVec 1024 :=
  [(V.stream, 3), (V.cls, 5), (V.burst, 1), (V.maxLen, 64), (V.count, 1), (V.period, 1000000), (V.arrOfs, 0), (V.arrJit, 500),
    (V.bound, bound), (V.inPort, 0), (V.inPort2, 0xFF), (V.egress, 2)].foldl (fun w f => putF w f.1 f.2) 0
def W.ctCmd : RingCmd := W.cmd 0 0 (leBytes 128 (W.ctImage 20000).toNat) 0 none
def W.ctNoMeter : State := { W.ctReady with flt := { W.ctReady.flt with flt := [] } }
def W.src (take : Nat) : BitVec 512 := putF (putF (putF (putF (0 : BitVec 512) S.valid 1) S.histLen 8) S.resetMs 1) S.takeAny
  take
def W.srcSt : State := { W.run with rcv := { W.run.rcv with src := [(5, W.src 0)] } }
def W.srcCmd : RingCmd := W.cmd 5 0 (leBytes 64 (W.src 0).toNat) 0 none
def W.stnE : BitVec 256 := putF (putF (putF (putF (putF (0 : BitVec 256) T.valid 1) T.chCount 1) T.wrap 4000) T.runLen 1)
  T.pairWait 1
def W.stnSt (smp : Nat) : State :=
  let q : List Asdu := [⟨5, smp, 0, W.zeros 8, 0, 0⟩]
  let d : StnDyn := { StnDyn.idle with waiting := [⟨7, [0], 0, 0, 0⟩] }
  { W.run with rcv := { W.run.rcv with stn := [(5, W.stnE)], queue := q, dyn := [(5, d)] } }
def W.stnCmd : RingCmd := W.cmd 5 0 (leBytes 32 W.stnE.toNat) 0 none
def W.cfg (s : State) (k : Fin 4) (idx : Fin 64) : State := { s with straps := ⟨k, false, idx, false, false⟩ }
/-- Member 0 of a pair in a role. -/
def W.pair (o : OpState) (role : Nat) (more : List (Fld × Nat)) : State :=
  W.cfg (W.at o ([(F.PAIR_STATUS.ROLE, role), (F.PAIR_STATUS.PATH_A_OK, 1), (F.PAIR_STATUS.PATH_B_OK, 1)] ++ more)) 1 0
def W.missed (role a b : Nat) : State := let s := W.pair .run role []; s.setPair { s.pair with missA := a, missB := b }
def W.started (failed : Bool) : State := let s := W.pair .run 0 []; s.setPair { s.pair with waiting := true, failed := failed }
def W.rec (k : Kind) (dst : Nat) (payload : List Byte) : LathRec := ⟨k.num, 3, dst, 0, payload, true⟩
def W.hbRec (role : Nat) : LathRec := W.rec .pairHb 0 (leBytes 1 role ++ W.zeros 20)
def W.handing (role : Nat) : State := let s := W.pair .run role []; s.setPair { s.pair with handover := some ⟨0, false, none⟩ }
def W.twinHeld : State := (W.pair .run 3 [(F.PORT_MODE.LANE_MODE 0, 4), (F.SCHED_CFG.GATE_EN 0, 1), (F.SCHED_STATUS.OPER_VALID
  0, 1)]).setReg (R.PAIR_TWIN 0) 1
def W.twinRun : State := W.twinHeld.setSch 0 { SchedSt.idle with bank0 := W.bank [W.entry 0 255 1000000] }
def W.twinOwn : State := W.twinHeld.setTwin 0 { TwinSt.idle with own := [(0, 1, 1)] }
def W.twinPosted (n : Nat) : State := W.twinHeld.setTwin 0 { TwinSt.idle with posted := n }
def W.demote : RingCmd := W.cmd 0 0 (leBytes 6 1 ++ leBytes 4 0) 0 none
/-- Device 5 of a domain with both links up; the hawk is 3 or itself. -/
def W.dom (o : OpState) (more : List (Fld × Nat)) : State :=
  W.cfg (W.at o ([(F.DOM_STATUS.LINK_A_OK, 1), (F.DOM_STATUS.LINK_B_OK, 1)] ++ more)) 2 5
def W.hawk (o : OpState) (more : List (Fld × Nat)) : State := W.dom o ([(F.DOM_STATUS.HAWK, 1), (F.DOM_PRESENT_LO.MAP, 0x28),
  (F.DOM_RELAY_TARGET.TARGET, 3)] ++ more)
def W.memb (o : OpState) (more : List (Fld × Nat)) : State :=
  let s := W.dom o ([(F.DOM_STATUS.HAWK_HEARD, 1)] ++ more); s.setDom { s.dom with hawk := 4 }
def W.claims : State := let s := W.dom .load []; s.setDom { s.dom with claiming := true }
def W.toMe (k : Kind) (payload : List Byte) : LathRec := W.rec k 5 payload
def W.relays (s : State) (l : List Relay) : State := s.setDom { s.dom with relays := l }
def W.relayReg (tries : Nat) : Relay := ⟨7, 3, Kind.reg.num, [1], tries, false, none⟩
def W.reading : State := let s := W.hawk .run []; s.setDom { s.dom with reads := [(7, 3)] }
def W.prep : Prep := ⟨0, 0x28, [], 0, 0, 0, none, 0, none⟩
def W.preparing : State := let s := W.hawk .run [(F.DOM_STATUS.PREPARING, 1)]; s.setDom
  { s.dom with prep := some W.prep, frozen := true, prepared := some 0 }
def W.prepared (t : Nat) : State := let s := W.memb .run []; s.setDom { s.dom with frozen := true, prepared := some t }
def W.armed (t : Nat) : State := let s := W.memb .run []; s.setDom { s.dom with armed := some t }
def W.cleanDom : State := let s := W.hawk .run []; s.setDom { s.dom with clean := 2 }
def W.domCmd (a0 : Nat) (cont : List Byte) : RingCmd := W.cmd a0 0 cont 3000 (some (W.zeros 64))
def W.fwLoading : State := let s := W.memb .load [(F.BOOT_STATUS.FW_STATUS, 1)]; s.setDom { s.dom with fwLen := 4 }
def W.ready2 : State := let s := W.hawk .run [(F.DOM_STATUS.EXPECT_VALID, 1)]; s
def W.cmdPayload : List Byte := leBytes 4 ((3 : Nat) * 2 ^ 28) ++ W.zeros 28
def W.mread (l : Nat) (o : LineOutcome) (r : Requester) : MemRead := ⟨l, o, r⟩
def W.lostNode : State := W.run.setMem { W.run.mem with lost := [3] }
def W.strip : State := W.at .run [(F.MEM_STATUS.STRIP_BUSY, 1)]

/-- The debug port is open with every right. -/
def W.debug (raw : Bool) : State :=
  let s := W.at .run [(F.MEM_RGN_POS.SIZE 0, 16), (F.BOOT_STATUS.DEBUG_OPEN, 1)]
  { (s.setMem { s.mem with raw := raw }) with boot := { s.boot with fuses := putF s.boot.fuses ⟨63, 40⟩ 0xFFFFFF } }
def W.linked (more : List (Fld × Nat)) : State := W.at .run ([(F.HOST_STATUS.LINK, 2)] ++ more)
/-- Pair 0 of a kind runs, of a function, with four slots posted. -/
def W.ringOn (kind func : Nat) (r : Ring) : State :=
  (W.linked [(F.RING_CFG.KIND 0, kind), (F.RING_CFG.FUNC 0, func), (F.RING_CTL.EN 0, 1), (F.RING_STATUS.RUNNING 0, 1),
    (F.RING_COAL.COAL_TIME 0, 1)]).setRing 0 r
def W.posted : Ring := { Ring.idle with tail := 4, armed := true, unsignalled := 1, fresh := false }
def W.stopping : State := W.linked [(F.RING_STATUS.RUNNING 0, 1)]
def W.owedFence : State := W.run.setHost { (W.run.setRing 1 { Ring.idle with owed := [⟨0, 7, 1, 0, 1, 0, none⟩] }).host with
  order := 1 }
def W.nopSlot : List Byte := leBytes 4 (12 * 2 ^ 28) ++ W.zeros 28
def W.txSlot : List Byte := W.zeros 10 ++ leBytes 2 60 ++ [0, 0x7E] ++ W.zeros 18
def W.mem (more : List (Fld × Nat)) : State :=
  W.at .run ([(F.MEM_RGN_POS.BASE 7, 296), (F.MEM_RGN_POS.SIZE 7, 192), (F.MEM_RGN_ATTR.CLASS 7, 1), (F.MEM_RGN_POS.SIZE 0,
    16)] ++ more)
def W.calm : State := W.mem [(F.MEM_STATUS.STRIP_BUSY, 0)]
def W.calmPoisoned : State := W.calm.poison 4849664 4849665
def W.op (o : OpState) : State := { W.base with op := o }
def W.battery (o : OpState) : State := { W.op o with bat := { (W.op o).bat with vbat := true } }
def W.inReset : State := { W.op .rom with boot := { State.reset.boot with inReset := some (.warm, true) } }
def W.busyFuse : State := W.at .run [(F.FUSE_STATUS.BUSY, 1)]
def W.romEnds : State := let s := W.at .rom [(F.MEM_STATUS.STRIP_BUSY, 0)]; { s with boot := { s.boot with romRun := true } }
def W.load (st : Nat) : State := W.at .load [(F.BOOT_STATUS.FW_STATUS, st)]
def W.calmSetup : State := W.at .setup [(F.MEM_STATUS.STRIP_BUSY, 0), (F.RUB_CFG.RETIRE, 15)]
def W.fused (bits : Nat) : State := { W.setup with boot := { W.setup.boot with fuses := BitVec.ofNat 1600 bits } }
def W.arb : State := { W.setup with boot := { W.setup.boot with header := W.zeros 8 ++ [1] } }
def W.burning (op : Nat) : State := { W.setup with boot := { W.setup.boot with burn := some (op, 1) } }
def W.lcObj : List Byte := padTo 256 (ascii "XCLC" ++ leBytes 2 1 ++ [1, 2]) 
def W.rootUp : State := W.run.setKey { W.run.key with rootUp := true }
def W.att : State := W.at .run [(F.ATT_STATUS.BUSY, 1)]
def W.present (s : State) (n : Nat) : State := s.setAlarm { s.alarm with present := n }
def W.testWin : State := let s := W.at .run [(F.ALARM_TEST_CFG.TEST_EN, 1)]; s.setAlarm { s.alarm with testing := some 3 }
def W.logRec : LogRec := ⟨1, 0, 5, false, 0, 0, 1, 0, 0⟩
def W.alarming : State := { W.run with alarm := { W.run.alarm with present := 1, running := some ⟨0, 0, 0, 0, 5⟩ }, bat :=
  { W.run.bat with log := [(0, W.logRec)], logCount := 1 } }
/-- A pass of slice 0, whose group has a port, in a phase. -/
def W.rub (phase : Nat) (x : RubSt) : State :=
  (W.at .run [(F.PORT_MODE.LANE_MODE 0, 4), (F.RUB_STATUS.PHASE, phase), (F.RUB_STATUS.TESTING, 0), (F.RUB_CFG.RUB_EN, 1),
    (F.RUB_CFG.TEMP_MAX, 90)]).setRub x
def W.rubLate (phase : Nat) (x : RubSt) : State := { W.rub phase x with ns := 2000 }
def W.noPass : State := W.at .run [(F.RUB_CFG.RUB_EN, 1), (F.RUB_CFG.TEMP_MAX, 90), (F.RUB_STATUS.TESTING, 15),
  (F.RUB_RESULT.LAST 0, 6)]
def W.good : RubResult := ⟨0, false, false, false⟩
def W.sliced (st : Nat) (more : List (Fld × Nat)) : State :=
  (W.at .run ([(F.PORT_MODE.LANE_MODE 0, 4), (F.CIPHER_STATUS.CORE_OK 0, 63)] ++ more)).setSliceState 0 st
def W.snap (d : Bool) : Snapshot := ⟨1, 0, 0, 0, false, d, [], [], [], [], [], []⟩
def W.snaps (x : Snapshot) (writing view : Option Nat) : State :=
  let s := W.at .run [(F.PERF_CTL.DUMP_EN, 1)]; s.setPerf
    { s.perf with bank := [(0, some x)], writing := writing, view := view }
def W.snapDue : State := W.run.setPerf { W.run.perf with snapAt := some (0, 0) }
def W.sampling : State := W.at .run [(F.PERF_SAMPLE_CFG.EN 0, 1), (F.PERF_SAMPLE_CFG.EVENT 0, 0x680)]
def W.perfCmd : RingCmd := W.cmd 0 1 (leBytes 6 1 ++ leBytes 4 0) 64 none
def W.ctDone : State := (ctAdmit W.ctCmd W.ctReady).1
def W.skimming : State := W.calm.setMem { W.calm.mem with skim := some ⟨[(0, 8)], false⟩ }
/-- Port 0 in SEEK with lock and its slice active. -/
def W.ready : State := (W.port 1 [(⟨R.PWR_SLICE_STATUS, 1, 0⟩, 3)]).setPort 0
  { PortSt.idle with lock := true, resolved := true }
def W.badFcs : State :=
  let s := W.up.setPort 0 { PortSt.idle with badFcs := some 9 }
  { s with perf := { s.perf with stat := [(16, 3)] } }
def W.head : RxHead := ⟨1, 0, W.bytes, true⟩
def W.resetting : State := (W.clear.put F.RST_STATUS.SLICE_BUSY 1).put F.RST_STATUS.SLICE 0
def W.secy : State := W.clear.put (F.SECY_CFG.SECY_EN 0) 1
/-- A frame with a SecTAG whose TCI byte is `tci`. -/
def W.tagged (tci : Byte) : FrameRec :=
  { W.frame with bytes := List.replicate 12 0 ++ [0x88, 0xE5, tci, 0, 0, 0, 0, 1] ++ List.replicate 100 0 }
def W.deepCopy : Copy := { W.copy with deep := true }
def W.timed : Copy := { W.copy with start := some 0, contract := some 5 }
/-- The place at which a key of 5 goes in an empty table. -/
def W.freePlace : Nat := match W.run.placeOf 5 with | .free p => p | _ => 0

/-! ### Ill-formed terms are refused (R34, R322, R345, R380, R385, R513) -/

/-- A command of ring 0 with given continuation bytes, length and bytes read. -/
def wfCmd (cont : List Byte) (len : Nat) (buf : Option (List Byte)) : RingCmd := W.cmd 0 0 cont len buf

theorem test_wf_access_size : (Instr.registerWrite ⟨0, 0, 0, 3, 0⟩).wf = false := by decide
theorem test_wf_access_past_bar : (Instr.registerWrite ⟨0, 1, 0xFFFE, 4, 0⟩).wf = false := by decide
theorem test_wf_pf2_has_no_bar0 : (Instr.registerWrite ⟨2, 0, 0, 4, 0⟩).wf = false := by decide
theorem test_wf_cont_of_part_of_a_slot : (Instr.nop (wfCmd (List.replicate 31 0) 0 none)).wf = false := by decide +kernel
theorem test_wf_cont_of_16_slots : (Instr.nop (wfCmd (List.replicate 512 0) 0 none)).wf = false := by decide +kernel
theorem test_wf_more_read_than_buf : (Instr.keyImportKw (wfCmd [] 1 (some [1, 2]))).wf = false := by decide +kernel
theorem test_wf_destination : (Instr.yieldReceive .a ⟨1, 0, 64, 0, [], true⟩).wf = false := by decide
theorem test_wf_fcs_of_three_bytes : (Instr.frameEndReceive 0 ⟨[1, 2, 3], false⟩).wf = false := by decide
theorem test_wf_line_past_stack : (Instr.memReadDone ⟨2 ^ 28, .clean, .gheor⟩).wf = false := by decide
theorem test_wf_scrub_line_past_stack : (Instr.scrubRead ⟨2 ^ 28, .clean, .scrubber⟩).wf = false := by decide
theorem test_wf_write_of_nothing : (Instr.memLineWrite ⟨0, 0, [], .clean, .gheor⟩).wf = false := by decide
theorem test_wf_write_past_line : (Instr.memLineWrite ⟨0, 63, [1, 2], .clean, .gheor⟩).wf = false := by decide
theorem test_wf_raw_write_of_part : (Instr.rawDebugAccess ⟨0, some [1]⟩).wf = false := by decide
theorem test_wf_core_fault_line : (Instr.mcuCoreFault 0 (2 ^ 28)).wf = false := by decide
theorem test_wf_fetch_of_part_of_a_slot : (Instr.cmdFetch 0 [1]).wf = false := by decide
theorem test_wf_transmit_slot : (Instr.pf2TxFetch 0 [1] none).wf = false := by decide
theorem test_wf_accepts : (Instr.registerWrite ⟨0, 0, 0x229458, 4, 0⟩).wf = true := by decide

/-! ### The spec's worked examples -/

/-- A value of the next state; none at a fault or a refusal. -/
def after {α : Type} (o : Host.Outcome State Fault Refusal) (f : State → α) : Option α :=
  match o with
  | .next t => some (f t)
  | _ => none

/-- 23_register_map.md, worked example: SCHED_QLIM_6 of P41. -/
theorem test_map_qlim : R.SCHED_QLIM 41 6 = 0x229458 := by decide
/-- The same: in RUN a write leaves the field and raises LOCK_WRITE. -/
theorem test_locked_qlim :
    after (execRegisterWrite ⟨0, 0, 0x229458, 4, 5⟩ W.run) (fun t => (t.reg (R.SCHED_QLIM 41 6) == W.run.reg (R.SCHED_QLIM 41 6),
      natBit (t.reg R.HOST_EVENT).toNat 0)) = some (true, true) := by decide +kernel
/-- In SETUP the same write is taken. -/
theorem test_open_qlim :
    after (execRegisterWrite ⟨0, 0, 0x229458, 4, 5⟩ W.setup) (fun t => t.fld (F.SCHED_QLIM.QLIM 41 6)) = some 5 := by
  decide +kernel

/-- The history of Table 12.3 before its first arrival. -/
def vectorStart : BitVec 512 := putF (putF (putF (putF (0 : BitVec 512) S.valid 1) S.histLen 32) S.recov 0xFFFE) S.history 1
/-- Table 12.3: the decision on a number and what follows it. -/
def vectorStep (w : BitVec 512) (seq : Nat) : BitVec 512 := srcUpdate w 0 seq false
theorem test_vector_1 : srcDecide vectorStart 0 0xFFFF = .pass := by decide +kernel
theorem test_vector_2 : srcDecide (vectorStep vectorStart 0xFFFF) 0 1 = .pass := by decide +kernel
theorem test_vector_3 :
    let w := vectorStep (vectorStep vectorStart 0xFFFF) 1
    srcDecide w 0 0 = .pass ∧ getF (vectorStep w 0) S.recov = 1 ∧ getF (vectorStep w 0) (S.ctr 2) = 2 := by decide +kernel
theorem test_vector_4 :
    let w := vectorStep (vectorStep (vectorStep vectorStart 0xFFFF) 1) 0
    srcDecide w 0 1 = .duplicate ∧ srcDecide w 0 0x40 = .outside ∧ srcDecide w 2 0x40 = .restart := by decide +kernel

/-- Table 4.11: the recovered packet numbers. -/
theorem test_recovered_pn :
    recoverPn 0x1FFFFFFB0 5 = 0x200000005 ∧ recoverPn 0x1FFFFFFC6 0xFFFFFFD0 = 0x1FFFFFFD0 ∧
    recoverPn 0x1FFFFFFC6 0xFFFFFFA0 = 0x2FFFFFFA0 := by decide

/-- P40 of Table 10.9: 25GBASE-R, classes 0 to 5 preemptible. -/
def p40 : State := W.port 3 [(F.PORT_MM_CFG.MM_EN 0, 1), (F.PORT_STATUS.MM_STATE 0, 2), (F.PORT_MM_CFG.PREEMPT_CLASS 0, 0x3F)]
theorem test_fit_waits : p40.fit 0 6 212 19950 (some 20000) = .wait := by decide +kernel
theorem test_fit_cuts : p40.fit 0 0 1550 59600 (some 60000) = .cut 1226 := by decide +kernel
theorem test_fit_rest : p40.fit 0 0 324 270000 (some 290000) = .whole := by decide +kernel

/-- Table 10.6: the change time on P33. -/
theorem test_change_time :
    let s : State := { W.run with sec := 5000, ns := 123000 }
    let b : GateBank := ⟨1000 * 1000000000, 250000, 10000, 0, []⟩
    s.changeTime 33 b false = some 5000000250000 ∧
    (s.put (F.SCHED_CFG.ADMIN_PAST_REJECT 33) 1).changeTime 33 b true = none := by decide +kernel

/-- 15_stacked_memory.md, worked example: node 495 of level 2. -/
theorem test_tree_node :
    nodeAddr (level2First + 495) = 0x0A507BC0 ∧ nodeCover (level2First + 495) = (0x01EF0000 / 64, 1024) ∧
    nodeParent (level2First + 495) = some (level3First + 15) := by decide

/-- 13_coat_pairs.md, worked example: the leap of P41's transmit SA. -/
theorem test_takeover_leap :
    let w := putF (putF (W.ctxTx []) C.nextPn 7340021) C.mChkpt 7340032
    let s := (W.withCtx W.run [(8, w)]).put F.CTX_LEAP_LO.LEAP (2 ^ 20)
    getF ((s.setCtx { s.ctx with leapDue := [8] }).leap 8 |>.ctxAt 8) C.nextPn = 8388608 := by decide +kernel

/-- Table 12.6, channel 0: the runs of THRESH 2,000 and RUN_LEN 4. -/
def runAfter (l : List Nat) : Run := l.foldl (fun r d => (r.next d 2000 4).1) Run.idle
theorem test_run_before : runAfter [1500, 2400, 2600, 3100] = ⟨3, 0, false, 8100⟩ := by decide +kernel
theorem test_run_diverges : (runAfter [1500, 2400, 2600, 3100]).next 2900 2000 4 = (⟨4, 0, true, 11000⟩, true, false) := by
  decide +kernel
theorem test_run_goes_on : (runAfter [1500, 2400, 2600, 3100, 2900]).next 3300 2000 4 = (⟨5, 0, true, 14300⟩, false, false) := by
  decide +kernel

/-- 05_substation_profiles.md, worked example: a Profile L context under CBC with an IPv4 template of one VLAN tag. -/
def tunnelState (mode ipv6 : Nat) : State :=
  let w := putF (putF (putF (putF (putF (0 : BitVec 2048) C.valid 1) C.kind 2) C.dir 1) C.profile 3) C.lMode mode
  let s := W.withCtx W.run [(8, w)]
  { s with flt := { s.flt with tun := [(0, putF (putF (putF (0 : BitVec 1024) U.valid 1) U.vlan 1) U.hdrLen (46 + 20 * ipv6))] } }
theorem test_tunnel_cbc : 1514 + 4 + (tunnelState 1 0).profileAdds 8 1514 = 1614 := by decide +kernel
theorem test_tunnel_cfb : 1514 + 4 + (tunnelState 2 0).profileAdds 8 1514 = 1608 := by decide +kernel
theorem test_tunnel_long :
    9212 + 4 + (tunnelState 1 0).profileAdds 8 9212 = 9310 ∧ 9212 + 4 + (tunnelState 1 1).profileAdds 8 9212 = 9330 := by
  decide +kernel

/-- Table 16.9: CMD pair 0 before the doorbell. -/
def cmdRing : State :=
  (W.linked [(F.RING_CFG.SQ_ORDER 0, 6), (F.RING_CFG.CQ_ORDER 0, 6), (F.RING_CTL.EN 0, 1), (F.RING_STATUS.RUNNING 0, 1),
    (F.RING_HEADS.SQ_HEAD 0, 60)]).setRing 0 { Ring.idle with tail := 60, fresh := false }
theorem test_doorbell : after (execSqTailDoorbell 0 0 0xF cmdRing) (fun t => (t.ring 0).tail) = some 15 := by decide +kernel
theorem test_fetch_install :
    after (execCmdFetch 0 (leBytes 4 0x117E8000 ++ leBytes 2 0x0101 ++ List.replicate 282 0)
        (cmdRing.setRing 0 { cmdRing.ring 0 with tail := 15 }))
      (fun t => (t.fld (F.RING_HEADS.SQ_HEAD 0), (t.ring 0).owed.map (fun o => (o.tag.toNat, o.group, o.op)))) =
    some (5, [(0x101, 1, 1)]) := by decide +kernel

/-- Table 11.5: the arrival windows of the pole 1 contract within 625,000 ns, and D of R267 on P41. -/
def pole1 : BitVec 1024 := putF (putF (putF (putF (0 : BitVec 1024) V.period 625000) V.count 3) V.arrOfs 12000) V.arrJit 500
theorem test_arrival_windows :
    arrivalOpens pole1 ⟨0, 625000, 0, 0, []⟩ = [12000, 220333, 428666] := by decide +kernel
theorem test_stored_delay : (⟨0, pole1, 0, 30720, [], []⟩ : Plan).d 41 = 108720 := by decide

/-- 02_ports_and_mac.md, worked example: TW_REQ 8 gives Tw 8.0 microseconds at 25GBASE-R. -/
theorem test_wake_time : (W.up.setPort 0 { PortSt.idle with tw := 8 }).wakeNs 0 = 8000 := by decide +kernel

/-! ### Single commands, from their rules -/

/-- R12: with nothing to wait for, the link comes up. -/
theorem test_link_up : after (execLinkUp 0 W.ready) (fun t => t.link 0) = some 3 := by decide +kernel
/-- R28: loss of lock on an UP port goes back to SEEK. -/
theorem test_link_down : after (execLinkDown 0 W.up) (fun t => t.link 0) = some 1 := by decide +kernel
/-- An empty queue leaves the queue empty: no command comes of itself. -/
theorem test_tick_keeps_queue : after (step W.base) (fun t => t.pending) = some [] := by decide +kernel
/-- The queue is first in, first out. -/
theorem test_front_first :
    after (step { W.up with pending := [.linkDown 0, .linkDown 1] }) (fun t => (t.link 0, t.pending)) =
      some (1, [.linkDown 1]) := by decide +kernel

/-! ### The premises of the obligations hold together -/

/-- States and operands that meet the premises of `Obligations.PortBringUpCompletes`, clause by clause. -/
theorem test_witness_PortBringUpCompletes :
    (∃ (s : State) (p : Fin 96), s.lane ↑p = true ∧ s.link ↑p = 1 ∧ s.negotiates ↑p = true) ∧
    (∃ (s : State) (p : Fin 96), s.lane ↑p = true ∧ s.link ↑p = 1 ∧ s.negotiates ↑p = true ∧ (s.port ↑p).resolved = false) ∧
    (∃ (s : State) (p : Fin 96), s.lane ↑p = true) ∧
    (∃ (s : State) (p : Fin 96), s.lane ↑p = true ∧ s.link ↑p = 2) ∧
    (∃ (s : State) (p : Fin 96), s.lane ↑p = true ∧ s.link ↑p = 2 ∧ (s.port ↑p).trained = false) ∧
    (∃ (s : State) (p : Fin 96), s.lane ↑p = true) :=
  ⟨
    ⟨W.seek, (0 : Fin 96), by decide +kernel, by decide +kernel, by decide +kernel⟩,
    ⟨W.seek, (0 : Fin 96), by decide +kernel, by decide +kernel, by decide +kernel, by decide +kernel⟩,
    ⟨W.seek, (0 : Fin 96), by decide +kernel⟩,
    ⟨W.train, (0 : Fin 96), by decide +kernel, by decide +kernel⟩,
    ⟨W.train, (0 : Fin 96), by decide +kernel, by decide +kernel, by decide +kernel⟩,
    ⟨W.seek, (0 : Fin 96), by decide +kernel⟩⟩

/-- States and operands that meet the premises of `Obligations.PortUpDownCompletes`, clause by clause. -/
theorem test_witness_PortUpDownCompletes :
    (∃ (s : State) (p : Fin 96), s.readyUp ↑p = true) ∧
    (∃ (s : State) (p : Fin 96), s.link ↑p = 3) ∧
    (∃ (s : State) (p : Fin 96), s.link ↑p = 3) ∧
    (∃ (s : State) (p : Fin 96), s.link ↑p = 4) ∧
    (∃ (s : State) (p : Fin 96), s.link ↑p = 3) ∧
    (∃ (s : State) (p : Fin 96), s.link ↑p = 5) :=
  ⟨
    ⟨W.ready, (0 : Fin 96), by decide +kernel⟩,
    ⟨W.up, (0 : Fin 96), by decide +kernel⟩,
    ⟨W.up, (0 : Fin 96), by decide +kernel⟩,
    ⟨W.port 4 [], (0 : Fin 96), by decide +kernel⟩,
    ⟨W.up, (0 : Fin 96), by decide +kernel⟩,
    ⟨W.port 5 [], (0 : Fin 96), by decide +kernel⟩⟩

/-- States and operands that meet the premises of `Obligations.PortModeAndStatusComplete`, clause by clause. -/
theorem test_witness_PortModeAndStatusComplete :
    (∃ (s : State) (p : Fin 96) (v : Word), s.op = OpState.setup ∧ s.modeErr ↑p (BitVec.toNat v &&& 65295) = 0) ∧
    (∃ (s : State) (p : Fin 96) (v : Word), s.op = OpState.setup ∧ s.modeErr ↑p (BitVec.toNat v &&& 65295) ≠ 0) ∧
    (∃ (s : State) (p : Fin 96) (v : Nat), natBits v 3 0 ≤ 6 ∧ s.modeErr ↑p v = 0 ∧ natBits v 3 0 = 6) ∧
    (∃ (s : State) (p : Fin 96) (v : Nat), natBits v 3 0 ≤ 6 ∧ s.modeErr ↑p v = 0 ∧ natBits v 3 0 = 6) ∧
    (∃ (s : State) (p : Fin 96) (v : Nat), natBits v 3 0 ≤ 6 ∧ s.modeErr ↑p v = 0 ∧ ↑p % 2 = 1 ∧ s.mode (↑p - 1) = 6) :=
  ⟨
    ⟨W.setup, (0 : Fin 96), (3 : Word), by decide +kernel, by decide +kernel⟩,
    ⟨W.setup, (0 : Fin 96), (7 : Word), by decide +kernel, by decide +kernel⟩,
    ⟨W.setup, (0 : Fin 96), 774, by decide +kernel, by decide +kernel, by decide +kernel⟩,
    ⟨W.setup, (0 : Fin 96), 774, by decide +kernel, by decide +kernel, by decide +kernel⟩,
    ⟨W.at .setup [(F.PORT_MODE.LANE_MODE 0, 6)], (1 : Fin 96), 0, by decide +kernel, by decide +kernel, by decide +kernel,
      by decide +kernel⟩⟩

/-- States and operands that meet the premises of `Obligations.MacMergeAndLineErrorsComplete`, clause by clause. -/
theorem test_witness_MacMergeAndLineErrorsComplete :
    (∃ (s : State) (p : Fin 96), s.link ↑p = 3 ∧ s.fld (F.PORT_STATUS.MM_STATE ↑p) = 1 ∧ (s.port ↑p).verifySent < 3) ∧
    (∃ (s : State) (p : Fin 96), s.link ↑p = 3 ∧ s.fld (F.PORT_STATUS.MM_STATE ↑p) = 1 ∧ (s.port ↑p).verifySent = 3) ∧
    (∃ (s : State) (p : Fin 96), s.link ↑p = 3 ∧ s.fld (F.PORT_STATUS.MM_STATE ↑p) = 1) ∧
    (∃ (s : State) (p : Fin 96), s.link ↑p = 3 ∧ s.fld (F.PORT_STATUS.MM_STATE ↑p) = 1 ∧ (s.port ↑p).verifySent = 3) ∧
    (∃ (s : State) (p : Fin 96) (f : Fragment), s.txUp ↑p = true ∧ f.kind = FragKind.first ∧ f.mcrcOk = true ∧ (s.port
      ↑p).assembly = none) ∧
    (∃ (s : State) (p : Fin 96) (f : Fragment) (a : Assembly), s.txUp ↑p = true ∧ f.kind = FragKind.middle false ∧ f.mcrcOk =
      true ∧ (s.port ↑p).assembly = some a ∧ ↑f.count = a.next) ∧
    (∃ (s : State) (p : Fin 96) (f : Fragment) (a : Assembly), s.txUp ↑p = true ∧ f.kind = FragKind.middle true ∧ (s.port
      ↑p).assembly = some a ∧ ↑f.count = a.next) ∧
    (∃ (s : State) (p : Fin 96), s.link ↑p ≠ 0) ∧
    (∃ (s : State) (p : Fin 96) (id : Nat), (s.port ↑p).badFcs = some id ∧ s.frame? id = none ∧ 0 < Tbl.atN s.perf.stat (64 *
      ↑p + 16)) :=
  ⟨
    ⟨W.verifying 0, (0 : Fin 96), by decide +kernel, by decide +kernel, by decide +kernel⟩,
    ⟨W.verifying 3, (0 : Fin 96), by decide +kernel, by decide +kernel, by decide +kernel⟩,
    ⟨W.verifying 0, (0 : Fin 96), by decide +kernel, by decide +kernel⟩,
    ⟨W.verifying 3, (0 : Fin 96), by decide +kernel, by decide +kernel, by decide +kernel⟩,
    ⟨W.badFcs, (0 : Fin 96), W.frag .first 0, by decide +kernel, by decide +kernel, by decide +kernel, by decide +kernel⟩,
    ⟨W.assembling, (0 : Fin 96), W.frag (.middle false) 1, (⟨[7], 1⟩ : Assembly), by decide +kernel, by decide +kernel,
      by decide +kernel, by decide +kernel, by decide +kernel⟩,
    ⟨W.assembling, (0 : Fin 96), W.frag (.middle true) 1, (⟨[7], 1⟩ : Assembly), by decide +kernel, by decide +kernel,
      by decide +kernel, by decide +kernel⟩,
    ⟨W.assembling, (0 : Fin 96), by decide +kernel⟩,
    ⟨W.badFcs, (0 : Fin 96), 9, by decide +kernel, by decide +kernel, by decide +kernel⟩⟩

/-- States and operands that meet the premises of `Obligations.LowPowerIdleCompletes`, clause by clause. -/
theorem test_witness_LowPowerIdleCompletes :
    (∃ (s : State) (p : Fin 96), s.mayLpi ↑p = true ∧ s.listRuns ↑p = true ∧ s.closedLong ↑p = true) ∧
    (∃ (s : State) (p : Fin 96), s.mayLpi ↑p = true ∧ s.listRuns ↑p = false) ∧
    (∃ (s : State) (p : Fin 96), s.fld (F.PORT_STATUS.LPI_TX ↑p) = 1 ∧ (s.port ↑p).wakeEnd = none) ∧
    (∃ (s : State) (p : Fin 96), s.on (F.PORT_EEE_CFG.EEE_EN ↑p) = true ∧ s.link ↑p = 3 ∧ s.fld (F.PORT_STATUS.LPI_RX ↑p) = 0)
      ∧
    (∃ (s : State), s.op = OpState.run) ∧
    (∃ (s : State), s.op = OpState.run) :=
  ⟨
    ⟨W.listed [W.entry 0 0 1000000], (0 : Fin 96), by decide +kernel, by decide +kernel, by decide +kernel⟩,
    ⟨W.port 3 [(F.PORT_EEE_CFG.EEE_EN 0, 1)], (0 : Fin 96), by decide +kernel, by decide +kernel⟩,
    ⟨W.port 3 [(F.PORT_STATUS.LPI_TX 0, 1)], (0 : Fin 96), by decide +kernel, by decide +kernel⟩,
    ⟨W.listed [W.entry 0 0 1000000], (0 : Fin 96), by decide +kernel, by decide +kernel, by decide +kernel⟩,
    ⟨W.listed [W.entry 0 0 1000000], by decide +kernel⟩,
    ⟨W.listed [W.entry 0 0 1000000], by decide +kernel⟩⟩

/-- States and operands that meet the premises of `Obligations.ReceivedLpiLeavesTransmitAlone`, clause by clause. -/
theorem test_witness_ReceivedLpiLeavesTransmitAlone :
    (∃ (s : State) (p : Fin 96), s.on (F.PORT_EEE_CFG.EEE_EN ↑p) = true ∧ s.link ↑p = 3) ∧
    (∃ (s : State) (p : Fin 96), s.on (F.PORT_EEE_CFG.EEE_EN ↑p) = false) :=
  ⟨
    ⟨W.port 3 [(F.PORT_EEE_CFG.EEE_EN 0, 1)], (0 : Fin 96), by decide +kernel, by decide +kernel⟩,
    ⟨W.run, (0 : Fin 96), by decide +kernel⟩⟩

/-- States and operands that meet the premises of `Obligations.SteeringMovesWholeGroups`, clause by clause. -/
theorem test_witness_SteeringMovesWholeGroups :
    (∃ (p : Nat), p < 96) ∧
    (∃ (p : Nat), p < 96) ∧
    (∃ (p : Nat) (q : Nat), p / 8 = q / 8) ∧
    (∃ (k : Nat), k < 48) ∧
    (∃ (p : Nat), p < 96) :=
  ⟨
    ⟨0, by decide +kernel⟩,
    ⟨0, by decide +kernel⟩,
    ⟨0, 7, by decide +kernel⟩,
    ⟨0, by decide +kernel⟩,
    ⟨0, by decide +kernel⟩⟩

/-- States and operands that meet the premises of `Obligations.FrameHeadCompletes`, clause by clause. -/
theorem test_witness_FrameHeadCompletes :
    (∃ (s : State) (h : RxHead), s.txUp ↑h.port = true ∧ s.frame? h.id = none ∧ s.sliceResets ↑h.port = false) ∧
    (∃ (s : State) (h : RxHead), s.txUp ↑h.port = true ∧ s.frame? h.id = none ∧ s.sliceResets ↑h.port = true) ∧
    (∃ (s : State) (f : FrameRec), s.on (F.SECY_CFG.SECY_EN f.port) = false) ∧
    (∃ (s : State) (f : FrameRec), s.on (F.SECY_CFG.SECY_EN f.port) = true ∧ secTagAfter (s.fld (F.SECY_CFG.TAGS_IN_CLEAR
      f.port)) f.bytes = none) ∧
    (∃ (s : State) (f : FrameRec) (o : Nat), s.on (F.SECY_CFG.SECY_EN f.port) = true ∧ secTagAfter (s.fld
      (F.SECY_CFG.TAGS_IN_CLEAR f.port)) f.bytes = some o ∧ (secTagAt f.bytes o).ok f.bytes.length (s.fld (F.SECY_CFG.CS
      f.port)) = false) ∧
    (∃ (s : State) (f : FrameRec) (o : Nat), s.on (F.SECY_CFG.SECY_EN f.port) = true ∧ secTagAfter (s.fld
      (F.SECY_CFG.TAGS_IN_CLEAR f.port)) f.bytes = some o ∧ (secTagAt f.bytes o).ok f.bytes.length (s.fld (F.SECY_CFG.CS
      f.port)) = true ∧ (((s.resolveSci f.port f.bytes (secTagAt f.bytes o)).bind fun x => s.scmFind x f.port) = none)) :=
  ⟨
    ⟨W.clear, W.head, by decide +kernel, by decide +kernel, by decide +kernel⟩,
    ⟨W.resetting, W.head, by decide +kernel, by decide +kernel, by decide +kernel⟩,
    ⟨W.clear, W.frame, by decide +kernel⟩,
    ⟨W.secy, W.frame, by decide +kernel, by decide +kernel⟩,
    ⟨W.secy, W.tagged 0x80, 12, by decide +kernel, by decide +kernel, by decide +kernel⟩,
    ⟨W.secy, W.tagged 0x20, 12, by decide +kernel, by decide +kernel, by decide +kernel, by decide +kernel⟩⟩

/-- States and operands that meet the premises of `Obligations.ReceivePathCompletes`, clause by clause. -/
theorem test_witness_ReceivePathCompletes :
    (∃ (s : State) (id : Nat) (f : FrameRec), s.frame? id = some f ∧ f.guard ≠ Guard.clear ∧ f.drop = none ∧ f.wet = false ∧
      f.waitCtx = none ∧ f.waitKey = none ∧ f.verdict = none) ∧
    (∃ (s : State) (id : Nat) (f : FrameRec), s.frame? id = some f ∧ f.looked = false ∧ f.verdict ≠ some 0) ∧
    (∃ (s : State) (id : Nat) (f : FrameRec), s.frame? id = some f ∧ f.ended = none ∧ f.drop = none ∧ f.uncontrolled = false ∧
      f.guard ≠ Guard.clear ∧ f.wet = true ∧ f.plain.length + 4 ≤ 9216) ∧
    (∃ (s : State) (id : Nat) (f : FrameRec) (e : RxEnd), s.frame? id = some f ∧ f.ended = none ∧ f.drop = none ∧
      f.uncontrolled = false ∧ f.guard = Guard.clear ∧ f.waitCtx = none ∧ f.waitKey = none ∧ s.endStatus f e ≠ 0) ∧
    (∃ (s : State) (id : Nat) (f : FrameRec) (r : Nat) (t : Tally), s.frame? id = some f ∧ f.wet = true ∧ f.verdict = none ∧
      f.ended.isSome = true ∧ f.plain.length + 4 ≤ 9216 ∧ (s.extra (s.inSlice f.port)).contains (Extra.frame id) = false ∧
      s.verdictOf f = some (r, t)) ∧
    (∃ (s : State) (id : Nat) (f : FrameRec) (g : Fin 12) (n : Fin 262144) (x : CtxFetch), s.frame? id = some f ∧ (List.find?
      (fun x => x.ctx == ↑n) (s.fetches ↑g) = some x) ∧ (ctxGroup ((s.setFetches ↑g (List.filter (fun y => y.ctx != ↑n)
      (s.fetches ↑g))).ctxAt ↑n) = some ↑g)) ∧
    (∃ (s : State) (id : Nat) (f : FrameRec) (k : Fin 262144) (u : Unwrap) (v : State), s.frame? id = some f ∧ (List.find?
      (fun u => u.slot == ↑k) s.key.unwraps = some u) ∧ ((s.setKey
      ({ s.key with unwraps := List.filter (fun v => v.slot != ↑k) s.key.unwraps })).slotPlace ↑k = some v)) :=
  ⟨
    ⟨W.withFrames W.clear [W.mac false none], 1, W.mac false none, by decide +kernel, by decide +kernel, by decide +kernel,
      by decide +kernel, by decide +kernel, by decide +kernel, by decide +kernel⟩,
    ⟨W.withFrames W.clear [W.mac false none], 1, W.mac false none, by decide +kernel, by decide +kernel, by decide +kernel⟩,
    ⟨W.withFrames W.clear [W.mac true none], 1, W.mac true none, by decide +kernel, by decide +kernel, by decide +kernel,
      by decide +kernel, by decide +kernel, by decide +kernel, by decide +kernel⟩,
    ⟨W.withFrames W.clear [W.frame], 1, W.frame, ({fcs := [0,0,0,0], errored := false} : RxEnd), by decide +kernel,
      by decide +kernel, by decide +kernel, by decide +kernel, by decide +kernel, by decide +kernel, by decide +kernel,
      by decide +kernel⟩,
    ⟨W.withFrames W.clear [W.macSet], 1, W.macSet, (((W.withFrames W.clear [W.macSet]).verdictOf W.macSet).getD (0, .stat 0
      0)).1, (((W.withFrames W.clear [W.macSet]).verdictOf W.macSet).getD (0, .stat 0 0)).2, by decide +kernel,
      by decide +kernel, by decide +kernel, by decide +kernel, by decide +kernel, by decide +kernel, by decide +kernel⟩,
    ⟨W.withFrames W.fetching [W.frame], 1, W.frame, Fin.ofNat 12 0, (8 : Fin 262144), ⟨8, [1]⟩, by decide +kernel,
      by decide +kernel, by decide +kernel⟩,
    ⟨W.withFrames W.unwrapping [W.frame], 1, W.frame, (7 : Fin 262144), ⟨7, [0], [1]⟩, (((W.withFrames W.unwrapping
      [W.frame]).setKey { (W.withFrames W.unwrapping [W.frame]).key with unwraps := [] }).slotPlace 7).getD W.base,
      by decide +kernel, by decide +kernel, by decide +kernel⟩⟩

/-- States and operands that meet the premises of `Obligations.VerdictOrder`, clause by clause. -/
theorem test_witness_VerdictOrder :
    (∃ (f : FrameRec) (n : Nat) (pn : Nat) (enc : Bool), f.guard = Guard.macsec n pn enc ∧ f.ended ≠ some 0) ∧
    (∃ (f : FrameRec) (n : Nat) (pn : Nat) (enc : Bool), f.guard = Guard.macsec n pn enc ∧ f.ended = some 0 ∧ f.asm ≠ 0) ∧
    (∃ (f : FrameRec) (n : Nat) (pn : Nat) (enc : Bool), f.guard = Guard.macsec n pn enc ∧ f.ended = some 0 ∧ f.asm = 0 ∧
      f.fault = true) ∧
    (∃ (f : FrameRec) (n : Nat) (pn : Nat) (enc : Bool), f.guard = Guard.macsec n pn enc ∧ f.ended = some 0 ∧ f.asm = 0 ∧
      f.fault = false ∧ f.lost = true) ∧
    (∃ (s : State) (f : FrameRec) (n : Nat) (pn : Nat) (enc : Bool), f.guard = Guard.macsec n pn enc ∧ f.ended = some 0 ∧
      f.asm = 0 ∧ f.fault = false ∧ f.lost = false ∧ (isF (s.ctxAt n) C.valid && ctxQuar (s.ctxAt n)) = false ∧ f.tagOk =
      false) ∧
    (∃ (s : State) (f : FrameRec) (n : Nat) (pn : Nat) (enc : Bool), f.guard = Guard.macsec n pn enc ∧ f.ended = some 0 ∧
      f.asm = 0 ∧ f.fault = false ∧ f.lost = false ∧ (isF (s.ctxAt n) C.valid && ctxQuar (s.ctxAt n)) = false ∧ f.tagOk = true
      ∧ saInUse (s.ctxAt n) f.port = false) ∧
    (∃ (s : State) (f : FrameRec) (n : Nat) (pn : Nat) (enc : Bool), f.guard = Guard.macsec n pn enc ∧ f.ended = some 0 ∧
      f.asm = 0 ∧ f.fault = false ∧ f.lost = false ∧ (isF (s.ctxAt n) C.valid && ctxQuar (s.ctxAt n)) = false ∧ f.tagOk = true
      ∧ saInUse (s.ctxAt n) f.port = true ∧ (s.replayView n).row pn = ReplayRow.late) ∧
    (∃ (s : State) (f : FrameRec) (n : Nat) (pn : Nat) (enc : Bool), f.guard = Guard.macsec n pn enc ∧ f.ended = some 0 ∧
      f.asm = 0 ∧ f.fault = false ∧ f.lost = false ∧ (isF (s.ctxAt n) C.valid && ctxQuar (s.ctxAt n)) = false ∧ f.tagOk = true
      ∧ saInUse (s.ctxAt n) f.port = true ∧ (s.replayView n).row pn = ReplayRow.duplicate) ∧
    (∃ (s : State) (f : FrameRec) (n : Nat) (pn : Nat) (enc : Bool), f.guard = Guard.macsec n pn enc ∧ f.ended = some 0 ∧
      f.asm = 0 ∧ f.fault = false ∧ f.lost = false ∧ (isF (s.ctxAt n) C.valid && ctxQuar (s.ctxAt n)) = false ∧ f.tagOk = true
      ∧ saInUse (s.ctxAt n) f.port = true ∧ ((s.replayView n).row pn = ReplayRow.ok ∨ (s.replayView n).row pn =
      ReplayRow.delayed)) :=
  ⟨
    ⟨W.mac true none, 8, 5, false, by decide +kernel, by decide +kernel⟩,
    ⟨W.macBroken 40 false false false, 8, 5, false, by decide +kernel, by decide +kernel, by decide +kernel⟩,
    ⟨W.macBroken 0 true false false, 8, 5, false, by decide +kernel, by decide +kernel, by decide +kernel, by decide +kernel⟩,
    ⟨W.macBroken 0 false true false, 8, 5, false, by decide +kernel, by decide +kernel, by decide +kernel, by decide +kernel,
      by decide +kernel⟩,
    ⟨W.clear, W.macBroken 0 false false false, 8, 5, false, by decide +kernel, by decide +kernel, by decide +kernel,
      by decide +kernel, by decide +kernel, by decide +kernel, by decide +kernel⟩,
    ⟨W.clear, W.macBroken 0 false false true, 8, 5, false, by decide +kernel, by decide +kernel, by decide +kernel,
      by decide +kernel, by decide +kernel, by decide +kernel, by decide +kernel, by decide +kernel⟩,
    ⟨(W.withCtx W.clear [(8, W.ctxRx [(C.rxEn, 1), (C.nextPn, 1000)])]).put (F.SECY_CFG.REPLAY_PROTECT 0) 1, W.macBroken 0
      false false true, 8, 5, false, by decide +kernel, by decide +kernel, by decide +kernel, by decide +kernel,
      by decide +kernel, by decide +kernel, by decide +kernel, by decide +kernel, by decide +kernel⟩,
    ⟨((W.withCtx W.clear [(8, W.ctxRx [(C.rxEn, 1), (C.nextPn, 10), (C.seen, 2 ^ 64 - 1)])]).put (F.SECY_CFG.DUP_CHECK 0)
      1).put (F.SECY_REPLAY_WINDOW.WINDOW 0) 64, W.macBroken 0 false false true, 8, 5, false, by decide +kernel,
      by decide +kernel, by decide +kernel, by decide +kernel, by decide +kernel, by decide +kernel, by decide +kernel,
      by decide +kernel, by decide +kernel⟩,
    ⟨W.withCtx W.clear [(8, W.ctxRx [(C.rxEn, 1)])], W.macBroken 0 false false true, 8, 5, false, by decide +kernel,
      by decide +kernel, by decide +kernel, by decide +kernel, by decide +kernel, by decide +kernel, by decide +kernel,
      by decide +kernel, by decide +kernel⟩⟩

/-- States and operands that meet the premises of `Obligations.TransmitCompletes`, clause by clause. -/
theorem test_witness_TransmitCompletes :
    (∃ (s : State) (p : Fin 96) (start : Nat) (g : Start), s.now + s.encap ↑p ≤ start ∧ (s.sch ↑p).startAt start = some g) ∧
    (∃ (s : State) (p : Fin 96) (s0 : State) (k : Nat) (c : Copy) (f : Fit) (e : Option Nat), s.fwdUp ↑p = true ∧ (s0 =
      (s.credits ↑p).each [7, 6, 5, 4, 3, 2, 1, 0] fun k t => t.dropNeverFit ↑p k (t.queue ↑p k).length) ∧ (s0.line ↑p).now =
      none ∧ (s0.sch ↑p).starts = [] ∧ s0.on (F.SCHED_CFG.LOOKAHEAD_EN ↑p) = false ∧ s0.pick ↑p (s0.now + s0.encap ↑p) none
      false = some (k, some c, f, e) ∧ (s0.unqueue ↑p k c).tsa ↑p k ≠ 2) ∧
    (∃ (s : State) (p : Fin 96) (ct : Fin 16384) (m : Nat) (k : Nat) (c : Copy), s.dueStart ↑p ↑ct = some m ∧ k < 8 ∧ (∀ j <
      k, List.find? (fun d => d.start == some m && d.contract == some ↑ct) (s.queue ↑p j) = none) ∧ (List.find? (fun d =>
      d.start == some m && d.contract == some ↑ct) (s.queue ↑p k) = some c) ∧ s.fwdUp ↑p = true ∧ c.ready = true ∧ c.waitCtx =
      false ∧ c.waitExtra = false ∧ c.deep = false ∧ (s.line ↑p).now = none) ∧
    (∃ (s : State) (p : Fin 96) (id : Nat) (x : Sending), (s.line ↑p).now = some x ∧ x.copy.frame = some id ∧ x.copy.cut =
      true ∧ x.tail = none ∧ x.final = true ∧ (x.copy.wet = true ∨ ((s.frame? id).bind fun x => x.verdict).isSome = true)) ∧
    (∃ (s : State) (p : Fin 96) (x : Sending), (s.line ↑p).now = some x ∧ x.final = false) ∧
    (∃ (s : State) (sl : Fin 13) (x : Extra) (rest : List Extra), s.extra ↑sl = x :: rest) ∧
    (∃ (s : State) (p : Fin 96) (k : Fin 8) (c : Copy), (List.find? (fun x => x.deep) (s.queue ↑p ↑k) = some c)) :=
  ⟨
    ⟨W.commits, (0 : Fin 96), 100, (⟨100, some 5, none, false, 0⟩ : Start), by decide +kernel, by decide +kernel⟩,
    ⟨W.queued W.clear 0 [W.copy], (0 : Fin 96), ((W.queued W.clear 0 [W.copy]).credits 0).each [7, 6, 5, 4, 3, 2, 1, 0] (fun k
      t => t.dropNeverFit 0 k (t.queue 0 k).length), 0, W.copy, .whole, none, by decide +kernel, rfl, by decide +kernel,
      by decide +kernel, by decide +kernel, by decide +kernel, by decide +kernel⟩,
    ⟨W.reserved, (0 : Fin 96), (5 : Fin 16384), 0, 0, W.timed, by decide +kernel, by decide +kernel, by decide +kernel,
      by decide +kernel, by decide +kernel, by decide +kernel, by decide +kernel, by decide +kernel, by decide +kernel,
      by decide +kernel⟩,
    ⟨W.sends (W.sending true none true), (0 : Fin 96), 1, W.sending true none true, by decide +kernel, by decide +kernel,
      by decide +kernel, by decide +kernel, by decide +kernel, by decide +kernel⟩,
    ⟨W.sends (W.sending false none true), (0 : Fin 96), W.sending false none true, by decide +kernel, by decide +kernel⟩,
    ⟨W.clear.setExtra 0 [Extra.copy 4], (0 : Fin 13), Extra.copy 4, ([] : List Extra), by decide +kernel⟩,
    ⟨W.queued W.clear 0 [W.deepCopy], (0 : Fin 96), (0 : Fin 8), W.deepCopy, by decide +kernel⟩⟩

/-- States and operands that meet the premises of `Obligations.GateEntriesComplete`, clause by clause. -/
theorem test_witness_GateEntriesComplete :
    (∃ (s : State) (p : Fin 96), s.listRuns ↑p = true ∧ (s.operBank ↑p).base ≤ s.now ∧ (s.operBank ↑p).cycle ≠ 0 ∧
      s.cycleBegun ↑p ((s.operBank ↑p).cycleAt s.now) = true) ∧
    (∃ (s : State) (p : Fin 96) (e : BitVec 64), s.dueEntry ↑p 0 = some e) ∧
    (∃ (s : State) (p : Fin 96) (e : BitVec 64), s.dueEntry ↑p 1 = some e ∧ s.preemption ↑p = false) ∧
    (∃ (s : State) (p : Fin 96) (e : BitVec 64), s.dueEntry ↑p 2 = some e) ∧
    (∃ (s : State) (p : Fin 96) (e : BitVec 64), s.dueEntry ↑p 3 = some e ∧ (s.flip (getF e G.flip)).state = 1 ∧ (s.flip (getF
      e G.flip)).armedLate = false ∧ (s.flip (getF e G.flip)).notBefore.1 * 1000000000 + (s.flip (getF e G.flip)).notBefore.2
      ≤ (s.sch ↑p).nextAt) ∧
    (∃ (s : State) (p : Fin 96) (e : BitVec 64), s.dueEntry ↑p 4 = some e ∧ s.accepted (getF e G.arg) = true ∧ s.now ≤ (s.sch
      ↑p).nextAt - s.encap ↑p ∧ (s.sch ↑p).startAt (s.sch ↑p).nextAt = none) :=
  ⟨
    ⟨W.listed [W.entry 0 255 1000000], (0 : Fin 96), by decide +kernel, by decide +kernel, by decide +kernel,
      by decide +kernel⟩,
    ⟨W.listed [W.entry 0 255 1000000], (0 : Fin 96), W.entry 0 255 1000000, by decide +kernel⟩,
    ⟨W.listed [W.entry 1 255 1000000], (0 : Fin 96), W.entry 1 255 1000000, by decide +kernel, by decide +kernel⟩,
    ⟨W.listed [W.entry 2 255 1000000], (0 : Fin 96), W.entry 2 255 1000000, by decide +kernel⟩,
    ⟨W.flipDue, (0 : Fin 96), W.flipEntry, by decide +kernel, by decide +kernel, by decide +kernel, by decide +kernel⟩,
    ⟨W.rsvDue, (0 : Fin 96), W.rsvEntry, by decide +kernel, by decide +kernel, by decide +kernel, by decide +kernel⟩⟩

/-- States and operands that meet the premises of `Obligations.GateCommandsComplete`, clause by clause. -/
theorem test_witness_GateCommandsComplete :
    (∃ (s : State) (n : Fin 64) (c : RingCmd) (p : Nat) (i : Nat) (k : Nat) (bs : List Byte), c.served n s ∧ gclPort c = some
      p ∧ gclRange c = some (i, k) ∧ (s.sch p).change = none ∧ c.bufIn = some bs ∧ ((List.map (fun j => BitVec.ofNat 64 (leAt
      bs (8 * j) 8)) (List.range k)).all gclEntryOk = true)) ∧
    (∃ (s : State) (n : Fin 64) (c : RingCmd) (p : Nat) (i : Nat) (k : Nat), c.served n s ∧ gclPort c = some p ∧ gclRange c =
      some (i, k)) ∧
    (∃ (s : State) (n : Fin 64) (c : RingCmd) (p : Nat), c.served n s ∧ gclPort c = some p ∧ leAt c.cont 6 4 < 1000000000 ∧
      1000 ≤ leAt c.cont 10 4 ∧ leAt c.cont 10 4 ≤ 1000000000 ∧ leAt c.cont 14 4 ≤ leAt c.cont 10 4 ∧ 1 ≤ leAt c.cont 18 2 ∧
      leAt c.cont 18 2 ≤ 1024 ∧ (s.sch p).change = none) ∧
    (∃ (s : State) (n : Fin 64) (c : RingCmd) (p : Nat) (at_ : Nat), c.served n s ∧ gclPort c = some p ∧ (s.sch p).change =
      none ∧ s.gateEn p = true ∧ (s.adminBank p).length ≠ 0 ∧ (s.adminBank p).list.all gclIntervalOk = true ∧ s.changeTime p
      (s.adminBank p) true = some at_ ∧ s.breaks p (s.adminBank p) = none) ∧
    (∃ (s : State) (n : Fin 64) (c : RingCmd) (p : Nat), c.served n s ∧ gclPort c = some p ∧ (s.sch p).change.isSome = true) ∧
    (∃ (s : State) (n : Fin 64) (c : RingCmd) (p : Nat), c.served n s ∧ gclPort c = some p) ∧
    (∃ (s : State) (p : Fin 96) (c : Nat), (s.sch ↑p).change = some c ∧ c ≤ s.now) :=
  ⟨
    ⟨W.run, (0 : Fin 64), W.cmd 0 1 [] 8 (some W.gclBuf), 0, 0, 1, W.gclBuf, by unfold RingCmd.served; decide +kernel,
      by decide +kernel, by decide +kernel, by decide +kernel, by decide +kernel, by decide +kernel⟩,
    ⟨W.run, (0 : Fin 64), W.cmd 0 1 [] 8 (some W.gclBuf), 0, 0, 1, by unfold RingCmd.served; decide +kernel,
      by decide +kernel, by decide +kernel⟩,
    ⟨W.run, (0 : Fin 64), W.cmd 0 0 W.gclParams 0 none, 0, by unfold RingCmd.served; decide +kernel, by decide +kernel,
      by decide +kernel, by decide +kernel, by decide +kernel, by decide +kernel, by decide +kernel, by decide +kernel,
      by decide +kernel⟩,
    ⟨W.admin, (0 : Fin 64), W.cmd 0 0 [] 0 none, 0, 5000000, by unfold RingCmd.served; decide +kernel, by decide +kernel,
      by decide +kernel, by decide +kernel, by decide +kernel, by decide +kernel, by decide +kernel, by decide +kernel⟩,
    ⟨W.changing, (0 : Fin 64), W.cmd 0 0 [] 0 none, 0, by unfold RingCmd.served; decide +kernel, by decide +kernel,
      by decide +kernel⟩,
    ⟨W.run, (0 : Fin 64), W.cmd 0 1 [] 8 (some W.gclBuf), 0, by unfold RingCmd.served; decide +kernel, by decide +kernel⟩,
    ⟨W.changing, (0 : Fin 96), 0, by decide +kernel, by decide +kernel⟩⟩

/-- States and operands that meet the premises of `Obligations.ClockCommandsComplete`, clause by clause. -/
theorem test_witness_ClockCommandsComplete :
    (∃ (s : State), s.regsOpen = true ∧ s.sec < 2 ^ 48 ∧ s.ns < 1000000000 ∧ s.clockSrc = 6 ∧ s.fld F.TIME_SET_NS.NS <
      1000000000) ∧
    (∃ (s : State) (m : Nat), s.regsOpen = true ∧ s.sec < 2 ^ 48 ∧ s.ns < 1000000000 ∧ s.clockSrc = 6 ∧ ↑m = ↑s.now + signed
      32 (s.fld F.TIME_STEP.STEP) ∧ m < 2 ^ 48 * 1000000000) ∧
    (∃ (s : State), s.regsOpen = true ∧ s.sec < 2 ^ 48 ∧ s.ns < 1000000000) ∧
    (∃ (s : State) (v : Word), s.regsOpen = true ∧ s.clockSrc = 6 ∧ (signed 32 (BitVec.toNat v)).natAbs ≤ 128000000) ∧
    (∃ (s : State) (v : Word), s.regsOpen = true ∧ s.clockSrc = 6 ∧ 128000000 < (signed 32 (BitVec.toNat v)).natAbs) ∧
    (∃ (s : State) (v : Word) (a : ClockAdjust), s.clockSrc = 4 ∧ a.rate = some v ∧ (signed 32 (BitVec.toNat v)).natAbs ≤
      128000000) ∧
    (∃ (s : State) (p : Fin 96), s.link ↑p = 3) :=
  ⟨
    ⟨W.clockHost [(F.TIME_SET_NS.NS, 999999999), (F.TIME_STEP.STEP, 7)], by decide +kernel, by decide +kernel,
      by decide +kernel, by decide +kernel, by decide +kernel⟩,
    ⟨W.clockHost [(F.TIME_SET_NS.NS, 999999999), (F.TIME_STEP.STEP, 7)], 7, by decide +kernel, by decide +kernel,
      by decide +kernel, by decide +kernel, by decide +kernel, by decide +kernel⟩,
    ⟨W.clockHost [(F.TIME_SET_NS.NS, 999999999), (F.TIME_STEP.STEP, 7)], by decide +kernel, by decide +kernel,
      by decide +kernel⟩,
    ⟨W.clockHost [(F.TIME_SET_NS.NS, 999999999), (F.TIME_STEP.STEP, 7)], (128000000 : Word), by decide +kernel,
      by decide +kernel, by decide +kernel⟩,
    ⟨W.clockHost [(F.TIME_SET_NS.NS, 999999999), (F.TIME_STEP.STEP, 7)], (128000001 : Word), by decide +kernel,
      by decide +kernel, by decide +kernel⟩,
    ⟨W.at .run [(F.TIME_CTL.SRC, 4)], (128000000 : Word), ({ offset := 1001, rate := some 128000000 } : ClockAdjust),
      by decide +kernel, by decide +kernel, by decide +kernel⟩,
    ⟨W.up, (0 : Fin 96), by decide +kernel⟩⟩

/-- States and operands that meet the premises of `Obligations.PulseAndTimeOfDayComplete`, clause by clause. -/
theorem test_witness_PulseAndTimeOfDayComplete :
    (∃ (s : State), s.ns < 1000000000) ∧
    (∃ (s : State), s.ns < 1000000000) ∧
    (∃ (s : State), s.ns < 1000000000 ∧ s.on F.PPS_CFG.PPS_OUT_EN = true ∧ (s.on F.TIME_STATUS.LOCKED = true ∨ s.on
      F.PPS_CFG.PPS_FREE = true) ∧ s.time.pps = false) ∧
    (∃ (s : State), s.ns < 1000000000 ∧ s.time.pps = true) ∧
    (∃ (s : State) (r : Nat), s.ns < 1000000000 ∧ s.time.rise = some r ∧ s.on F.TOD_CFG.TOD_OUT_EN = true) ∧
    (∃ (s : State) (m : List Byte) (e : Nat), s.ns < 1000000000 ∧ s.on F.TOD_CFG.TOD_IN_EN = true ∧ s.time.edge = some e ∧
      m.length = 18 ∧ beAt m 0 2 = 22612 ∧ beAt m 16 2 = crc16 (List.take 16 m) ∧ s.now ≤ e + 500000000) ∧
    (∃ (s : State), s.ns < 1000000000 ∧ s.on F.TOD_CFG.TOD_IN_EN = true ∧ s.time.edge = none) :=
  ⟨
    ⟨W.run, by decide +kernel⟩,
    ⟨W.run, by decide +kernel⟩,
    ⟨W.at .run [(F.PPS_CFG.PPS_OUT_EN, 1), (F.PPS_CFG.PPS_FREE, 1)], by decide +kernel, by decide +kernel, by decide +kernel,
      by decide +kernel⟩,
    ⟨W.ppsRisen, by decide +kernel, by decide +kernel⟩,
    ⟨W.ppsRisen, W.ppsRisen.time.rise.getD default, by decide +kernel, by decide +kernel, by decide +kernel⟩,
    ⟨W.todIn, W.todMsg, W.todIn.time.edge.getD default, by decide +kernel, by decide +kernel, by decide +kernel,
      by decide +kernel, by decide +kernel, by decide +kernel, by decide +kernel⟩,
    ⟨W.at .run [(F.TOD_CFG.TOD_IN_EN, 1)], by decide +kernel, by decide +kernel, by decide +kernel⟩⟩

/-- States and operands that meet the premises of `Obligations.PtpTablesComplete`, clause by clause. -/
theorem test_witness_PtpTablesComplete :
    (∃ (s : State) (n : Fin 64) (c : RingCmd) (i : Nat) (p : Nat) (m : Nat), c.served n s ∧ ptpArg c = some (i, p, m)) ∧
    (∃ (s : State) (n : Fin 64) (c : RingCmd) (i : Nat) (p : Nat) (m : Nat), c.served n s ∧ ptpArg c = some (i, p, m)) ∧
    (∃ (s : State) (n : Fin 64) (c : RingCmd), c.served n s) :=
  ⟨
    ⟨W.run, (0 : Fin 64), W.cmd 0 0x2000 [1] 0 none, ((ptpArg (W.cmd 0 8192 [1] 0 none)).getD default).1, ((ptpArg (W.cmd 0
      8192 [1] 0 none)).getD default).2.1, ((ptpArg (W.cmd 0 8192 [1] 0 none)).getD default).2.2,
      by unfold RingCmd.served; decide +kernel, by decide +kernel⟩,
    ⟨W.run, (0 : Fin 64), W.cmd 0 0x2000 [1] 0 none, ((ptpArg (W.cmd 0 8192 [1] 0 none)).getD default).1, ((ptpArg (W.cmd 0
      8192 [1] 0 none)).getD default).2.1, ((ptpArg (W.cmd 0 8192 [1] 0 none)).getD default).2.2,
      by unfold RingCmd.served; decide +kernel, by decide +kernel⟩,
    ⟨W.run, (0 : Fin 64), W.cmd 0 0x2000 [1] 0 none, by unfold RingCmd.served; decide +kernel⟩⟩

/-- States and operands that meet the premises of `Obligations.TableCommandsComplete`, clause by clause. -/
theorem test_witness_TableCommandsComplete :
    (∃ (s : State) (u : State) (n : Fin 64) (c : RingCmd), c.served n s ∧ u = s.count 1704 ∧ c.a0 16 0 < tableSize (c.a0 22
      20)) ∧
    (∃ (s : State) (u : State) (n : Fin 64) (c : RingCmd) (p : Nat), c.served n s ∧ u = s.count 1704 ∧ c.a0 22 20 < 2 ∧
      u.keyPos (c.a0 22 20) c.cont = some p) ∧
    (∃ (s : State) (u : State) (n : Fin 64) (c : RingCmd) (t : State) (p : Nat), c.served n s ∧ u = s.count 1704 ∧ c.a0 22 20
      = 0 ∧ s.cls.move = none ∧ fdbOk (leAt c.cont 0 16) = true ∧ u.keyPos 0 c.cont = none ∧ u.fdbInsert (fdbMerge (leAt
      c.cont 0 16) 0) = (t, some p)) ∧
    (∃ (s : State) (u : State) (n : Fin 64) (c : RingCmd) (p : Nat), c.served n s ∧ u = s.count 1704 ∧ c.a0 22 20 = 1 ∧ sidOk
      (leAt c.cont 0 64) = true ∧ u.keyPos 1 c.cont = none ∧ (List.find? (fun p => !isF (Tbl.at0 u.cls.sid p) E.sidValid)
      (u.sidSlots (natBits (leAt c.cont 0 64) 479 0)) = some p)) ∧
    (∃ (s : State) (u : State) (n : Fin 64) (c : RingCmd) (p : Nat), c.served n s ∧ u = s.count 1704 ∧ c.a0 22 20 = 1 ∧ sidOk
      (leAt c.cont 0 64) = true ∧ u.keyPos 1 c.cont = some p) ∧
    (∃ (s : State) (u : State) (n : Fin 64) (c : RingCmd) (p : Nat), c.served n s ∧ u = s.count 1704 ∧ c.a0 22 20 = 0 ∧
      u.keyPos 0 c.cont = some p ∧ isF (Tbl.at0 u.cls.fdb p) E.fdbCref = false) ∧
    (∃ (s : State) (u : State) (n : Fin 64) (c : RingCmd), c.served n s ∧ u = s.count 1704 ∧ c.a0 22 20 = 0) ∧
    (∃ (s : State) (u : State) (n : Fin 64) (c : RingCmd), c.served n s ∧ u = s.count 1704 ∧ c.a0 22 20 = 3 ∧ c.a0 16 0 <
      4096) :=
  ⟨
    ⟨W.run, W.run.count 1704, (0 : Fin 64), W.cmd 65567 0 [] 0 none, by unfold RingCmd.served; decide +kernel, rfl,
      by decide +kernel⟩,
    ⟨W.fdbState, W.fdbState.count 1704, (0 : Fin 64), W.cmd 0 0 (leBytes 16 W.fdbEntry.toNat) 0 none, ((W.fdbState.count
      1704).keyPos ((W.cmd 0 0 (leBytes 16 W.fdbEntry.toNat) 0 none).a0 22 20) (W.cmd 0 0 (leBytes 16 W.fdbEntry.toNat) 0
      none).cont).getD default, by unfold RingCmd.served; decide +kernel, rfl, by decide +kernel, by decide +kernel⟩,
    ⟨W.run, W.run.count 1704, (0 : Fin 64), W.cmd 0 0 (leBytes 16 W.fdbEntry.toNat) 0 none, ((W.run.count 1704).fdbInsert
      (fdbMerge (leAt (W.cmd 0 0 (leBytes 16 W.fdbEntry.toNat) 0 none).cont 0 16) 0)).1, ((W.run.count 1704).fdbInsert
      (fdbMerge (leAt (W.cmd 0 0 (leBytes 16 W.fdbEntry.toNat) 0 none).cont 0 16) 0)).2.getD default,
      by unfold RingCmd.served; decide +kernel, rfl, by decide +kernel, by decide +kernel, by decide +kernel,
      by decide +kernel, by decide +kernel⟩,
    ⟨W.run, W.run.count 1704, (0 : Fin 64), W.cmd 0x100000 0 W.sidData 0 none, (List.find? (fun p => !isF (Tbl.at0
      (W.run.count 1704).cls.sid p) E.sidValid) ((W.run.count 1704).sidSlots (natBits (leAt (W.cmd 1048576 0 W.sidData 0
      none).cont 0 64) 479 0))).getD default, by unfold RingCmd.served; decide +kernel, rfl, by decide +kernel,
      by decide +kernel, by decide +kernel, by decide +kernel⟩,
    ⟨W.sidState, W.sidState.count 1704, (0 : Fin 64), W.cmd 0x100000 0 W.sidData 0 none, ((W.sidState.count 1704).keyPos 1
      (W.cmd 1048576 0 W.sidData 0 none).cont).getD default, by unfold RingCmd.served; decide +kernel, rfl, by decide +kernel,
      by decide +kernel, by decide +kernel⟩,
    ⟨W.fdbState, W.fdbState.count 1704, (0 : Fin 64), W.cmd 0 0 (leBytes 16 W.fdbEntry.toNat) 0 none, ((W.fdbState.count
      1704).keyPos 0 (W.cmd 0 0 (leBytes 16 W.fdbEntry.toNat) 0 none).cont).getD default,
      by unfold RingCmd.served; decide +kernel, rfl, by decide +kernel, by decide +kernel, by decide +kernel⟩,
    ⟨W.run, W.run.count 1704, (0 : Fin 64), W.cmd 65567 0 [] 0 none, by unfold RingCmd.served; decide +kernel, rfl,
      by decide +kernel⟩,
    ⟨W.run, W.run.count 1704, (0 : Fin 64), W.cmd 0x300FFF 0 [] 0 none, by unfold RingCmd.served; decide +kernel, rfl,
      by decide +kernel, by decide +kernel⟩⟩

/-- States and operands that meet the premises of `Obligations.InsertedEntryIsFound`, clause by clause. -/
theorem test_witness_InsertedEntryIsFound :
    (∃ (s : State) (e : BitVec 128) (p : Nat), isF e E.fdbValid = true ∧ s.fdbFind (getF e E.fdbKey) = none ∧ s.placeOf (getF
      e E.fdbKey) = Place.free p) ∧
    (∃ (s : State) (e : BitVec 128) (p : Nat), isF e E.fdbValid = true ∧ s.fdbFind (getF e E.fdbKey) = none ∧ s.placeOf (getF
      e E.fdbKey) = Place.free p) ∧
    (∃ (s : State) (e : BitVec 128) (p : Nat) (q : Nat), isF e E.fdbValid = true ∧ s.fdbFind (getF e E.fdbKey) = none ∧
      s.placeOf (getF e E.fdbKey) = Place.free p ∧ q ≠ p) ∧
    (∃ (s : State) (e : BitVec 128) (p : Nat), isF e E.fdbValid = true ∧ s.fdbFind (getF e E.fdbKey) = none ∧ s.placeOf (getF
      e E.fdbKey) = Place.free p) :=
  ⟨
    ⟨W.run, W.fdbEntry, W.freePlace, by decide +kernel, by decide +kernel, by decide +kernel⟩,
    ⟨W.run, W.fdbEntry, W.freePlace, by decide +kernel, by decide +kernel, by decide +kernel⟩,
    ⟨W.run, W.fdbEntry, W.freePlace, 0, by decide +kernel, by decide +kernel, by decide +kernel, by decide +kernel⟩,
    ⟨W.run, W.fdbEntry, W.freePlace, by decide +kernel, by decide +kernel, by decide +kernel⟩⟩

/-- States and operands that meet the premises of `Obligations.LearnAgeAndCompareComplete`, clause by clause. -/
theorem test_witness_LearnAgeAndCompareComplete :
    (∃ (s : State), s.cls.waiting = []) ∧
    (∃ (s : State) (r : LearnReq) (rest : List LearnReq) (p : Nat) (u : State) (v : State), s.cls.learnQ = r :: rest ∧ u =
      (s.setCls ({ s.cls with learnQ := rest })).count 1704 ∧ u.fdbFind (fdbKeyOf r.fid r.mac) = none ∧ u.placeOf (fdbKeyOf
      r.fid r.mac) = Place.free p ∧ u.fdbInsert (learned r) = (v, some p) ∧ getF (learned r) E.fdbKey = fdbKeyOf r.fid r.mac)
      ∧
    (∃ (s : State) (pos : Fin 65568), s.on F.AGE_CFG.AGE_EN = true ∧ isF (s.fdbAt ↑pos) E.fdbValid = true ∧ isF (s.fdbAt ↑pos)
      E.fdbStatic = false ∧ ↑pos < 65536 ∧ isF (s.fdbAt ↑pos) E.fdbHit = true) ∧
    (∃ (s : State) (pos : Fin 65568), s.on F.AGE_CFG.AGE_EN = true ∧ isF (s.fdbAt ↑pos) E.fdbValid = true ∧ isF (s.fdbAt ↑pos)
      E.fdbStatic = false ∧ ↑pos < 65536 ∧ isF (s.fdbAt ↑pos) E.fdbHit = false ∧ isF (s.fdbAt ↑pos) E.fdbStale = false) ∧
    (∃ (s : State) (pos : Fin 65568), s.on F.AGE_CFG.AGE_EN = true ∧ isF (s.fdbAt ↑pos) E.fdbValid = true ∧ isF (s.fdbAt ↑pos)
      E.fdbStatic = false ∧ ↑pos < 65536 ∧ isF (s.fdbAt ↑pos) E.fdbHit = false ∧ isF (s.fdbAt ↑pos) E.fdbStale = true) ∧
    (∃ (s : State), s.on F.BGC_CFG.BGC_EN = true) :=
  ⟨
    ⟨W.learning, by decide +kernel⟩,
    ⟨W.learning, (⟨0, 5, 2⟩ : LearnReq), W.learning.cls.learnQ.tail, W.freePlace, (W.learning.setCls
      ({ W.learning.cls with learnQ := W.learning.cls.learnQ.tail })).count 1704, (((W.learning.setCls
      ({ W.learning.cls with learnQ := W.learning.cls.learnQ.tail })).count 1704).fdbInsert (learned
      { fid := 0, mac := 5, port := 2 })).1, by decide +kernel, rfl, by decide +kernel, by decide +kernel, by decide +kernel,
      by decide +kernel⟩,
    ⟨W.swept, (0 : Fin 65568), by decide +kernel, by decide +kernel, by decide +kernel, by decide +kernel, by decide +kernel⟩,
    ⟨W.aging false false 3, (3 : Fin 65568), by decide +kernel, by decide +kernel, by decide +kernel, by decide +kernel,
      by decide +kernel, by decide +kernel⟩,
    ⟨W.aging false true 3, (3 : Fin 65568), by decide +kernel, by decide +kernel, by decide +kernel, by decide +kernel,
      by decide +kernel, by decide +kernel⟩,
    ⟨W.run.put F.BGC_CFG.BGC_EN 1, by decide +kernel⟩⟩

/-- States and operands that meet the premises of `Obligations.FiltersMetersAndTunnelsComplete`, clause by clause. -/
theorem test_witness_FiltersMetersAndTunnelsComplete :
    (∃ (s : State) (n : Fin 64) (c : RingCmd) (k : Nat), c.served n s ∧ k = c.a0 63 0 ∧ k < 16384 ∧ s.filterHeld k = false) ∧
    (∃ (s : State) (n : Fin 64) (c : RingCmd) (k : Nat), c.served n s ∧ k = c.a0 63 0 ∧ k < 16384 ∧ s.filterHeld k = false) ∧
    (∃ (s : State) (n : Fin 64) (c : RingCmd) (k : Nat), c.served n s ∧ k = c.a0 63 0 ∧ k < 16384 ∧ s.filterHeld k = false) ∧
    (∃ (s : State) (n : Fin 64) (c : RingCmd) (k : Nat), c.served n s ∧ k = c.a0 63 0 ∧ k < 16384 ∧ s.meterHeld k = false) ∧
    (∃ (s : State) (n : Fin 64) (c : RingCmd) (k : Nat), c.served n s ∧ k = c.a0 63 0 ∧ k < 16384 ∧ s.meterHeld k = false) ∧
    (∃ (s : State) (n : Fin 64) (c : RingCmd) (k : Nat), c.served n s ∧ k = c.a0 63 0 ∧ k < 16384) ∧
    (∃ (s : State) (n : Fin 64) (c : RingCmd) (k : Nat), c.served n s ∧ k = c.a0 63 0 ∧ k < 16384) ∧
    (∃ (s : State) (k : Nat) (len : Nat) (c : Nat) (x : Nat), s.mtrFills k = (c, x) ∧ isF (s.mtrAt k) L.markRed = false ∧ len
      * fillUnit ≤ c) ∧
    (∃ (s : State) (k : Nat) (len : Nat) (c : Nat) (x : Nat), s.mtrFills k = (c, x) ∧ isF (s.mtrAt k) L.markRed = false ∧ c <
      len * fillUnit ∧ len * fillUnit ≤ x) ∧
    (∃ (s : State) (k : Nat) (len : Nat) (c : Nat) (x : Nat), s.mtrFills k = (c, x) ∧ isF (s.mtrAt k) L.markRed = false ∧ c <
      len * fillUnit ∧ x < len * fillUnit) ∧
    (∃ (s : State) (k : Nat) (len : Nat) (c : Nat) (x : Nat), s.mtrFills k = (c, x) ∧ isF (s.mtrAt k) L.markRed = false ∧ c <
      len * fillUnit ∧ x < len * fillUnit) ∧
    (∃ (s : State) (k : Nat) (len : Nat) (c : Nat) (x : Nat), s.mtrFills k = (c, x) ∧ isF (s.mtrAt k) L.markRed = false ∧ c <
      len * fillUnit ∧ x < len * fillUnit) ∧
    (∃ (s : State) (k : Nat) (c : Nat) (x : Nat), s.mtrFills k = (c, x) ∧ isF (s.mtrAt k) L.markRed = true) ∧
    (∃ (s : State) (n : Fin 64) (c : RingCmd) (e : BitVec 1024), c.served n s ∧ c.a0 63 0 < 4096 ∧ e = putF (putF
      (BitVec.ofNat 1024 (leAt c.cont 0 128)) (⟨1020, 1016⟩ : BF) 0) (⟨1007, 528⟩ : BF) 0 ∧ tunOk e = true) ∧
    (∃ (s : State) (n : Fin 64) (c : RingCmd), c.served n s ∧ c.a0 63 0 < 4096) :=
  ⟨
    ⟨W.run, (0 : Fin 64), W.filterCmd, 16383, by unfold RingCmd.served; decide +kernel, rfl, by decide +kernel,
      by decide +kernel⟩,
    ⟨W.run, (0 : Fin 64), W.filterCmd, 16383, by unfold RingCmd.served; decide +kernel, rfl, by decide +kernel,
      by decide +kernel⟩,
    ⟨W.run, (0 : Fin 64), W.filterCmd, 16383, by unfold RingCmd.served; decide +kernel, rfl, by decide +kernel,
      by decide +kernel⟩,
    ⟨W.run, (0 : Fin 64), W.filterCmd, 16383, by unfold RingCmd.served; decide +kernel, rfl, by decide +kernel,
      by decide +kernel⟩,
    ⟨W.run, (0 : Fin 64), W.filterCmd, 16383, by unfold RingCmd.served; decide +kernel, rfl, by decide +kernel,
      by decide +kernel⟩,
    ⟨W.run, (0 : Fin 64), W.filterCmd, 16383, by unfold RingCmd.served; decide +kernel, rfl, by decide +kernel⟩,
    ⟨W.run, (0 : Fin 64), W.filterCmd, 16383, by unfold RingCmd.served; decide +kernel, rfl, by decide +kernel⟩,
    ⟨W.run, 16383, 0, (W.run.mtrFills 16383).1, (W.run.mtrFills 16383).2, rfl, by decide +kernel, by decide +kernel⟩,
    ⟨W.metered 0, 1, 60, ((W.metered 0).mtrFills 1).1, ((W.metered 0).mtrFills 1).2, rfl, by decide +kernel,
      by decide +kernel, by decide +kernel⟩,
    ⟨W.run, 16383, 50, (W.run.mtrFills 16383).1, (W.run.mtrFills 16383).2, rfl, by decide +kernel, by decide +kernel,
      by decide +kernel⟩,
    ⟨W.run, 16383, 50, (W.run.mtrFills 16383).1, (W.run.mtrFills 16383).2, rfl, by decide +kernel, by decide +kernel,
      by decide +kernel⟩,
    ⟨W.run, 16383, 50, (W.run.mtrFills 16383).1, (W.run.mtrFills 16383).2, rfl, by decide +kernel, by decide +kernel,
      by decide +kernel⟩,
    ⟨W.metered 1, 1, ((W.metered 1).mtrFills 1).1, ((W.metered 1).mtrFills 1).2, rfl, by decide +kernel⟩,
    ⟨W.run, (0 : Fin 64), W.cmd 4095 0 W.tunHeader 0 none, putF (putF (BitVec.ofNat 1024 (leAt (W.cmd 4095 0 W.tunHeader 0
      none).cont 0 128)) (⟨1020, 1016⟩ : BF) 0) (⟨1007, 528⟩ : BF) 0, by unfold RingCmd.served; decide +kernel,
      by decide +kernel, rfl, by decide +kernel⟩,
    ⟨W.run, (0 : Fin 64), W.cmd 4095 0 W.tunHeader 0 none, by unfold RingCmd.served; decide +kernel, by decide +kernel⟩⟩

/-- States and operands that meet the premises of `Obligations.ContextCommandsComplete`, clause by clause. -/
theorem test_witness_ContextCommandsComplete :
    (∃ (s : State) (n : Fin 64) (c : RingCmd) (k : Nat), c.served n s ∧ c.a0 17 0 = k ∧ c.a0 63 18 = 0 ∧ s.ctxValid k = true ∧
      ctxKind (s.ctxAt k) = 1 ∧ ctxQuar (s.ctxAt k) = false ∧ isF (s.ctxAt k) C.dir = false ∧ s.ctxRef k = false) ∧
    (∃ (s : State) (n : Fin 64) (c : RingCmd) (k : Nat), c.served n s ∧ c.a0 17 0 = k ∧ c.a0 63 18 = 0 ∧ s.ctxValid k = true ∧
      ctxKind (s.ctxAt k) = 1 ∧ ctxQuar (s.ctxAt k) = false ∧ isF (s.ctxAt k) C.dir = false) ∧
    (∃ (s : State) (n : Fin 64) (c : RingCmd) (k : Nat), c.served n s ∧ c.a0 17 0 = k ∧ c.a0 63 18 = 0 ∧ s.ctxValid k = true ∧
      ctxKind (s.ctxAt k) = 1 ∧ ctxQuar (s.ctxAt k) = false ∧ s.ctxRef k = false ∧ ctxEnabled (s.ctxAt k) = false ∧
      s.ctxPinned k = false) ∧
    (∃ (s : State) (n : Fin 64) (c : RingCmd) (k : Nat), c.served n s ∧ c.a0 17 0 = k ∧ c.a0 63 18 = 0 ∧ s.ctxValid k = true ∧
      ctxKind (s.ctxAt k) = 1 ∧ ctxQuar (s.ctxAt k) = false) ∧
    (∃ (s : State) (n : Fin 64) (c : RingCmd) (k : Nat), c.served n s ∧ c.a0 17 0 = k ∧ c.a0 63 18 = 0 ∧ s.ctxValid k = true ∧
      ctxKind (s.ctxAt k) = 1 ∧ ctxQuar (s.ctxAt k) = false ∧ c.a1 0 0 = 0) ∧
    (∃ (s : State) (n : Fin 64) (c : RingCmd) (k : Nat) (g : Nat), c.served n s ∧ c.a0 17 0 = k ∧ c.a0 63 18 = 0 ∧ s.ctxValid
      k = true ∧ ctxGroup (s.ctxAt k) = some g ∧ g < 12 ∧ ctxQuar (s.ctxAt k) = false ∧ s.ctxPinned k = false ∧ s.pinnedIn g <
      12288 ∧ (ctxSlots (s.ctxAt k)).all s.slotPinned = true) ∧
    (∃ (s : State) (n : Fin 64) (c : RingCmd) (k : Nat), c.served n s ∧ c.a0 17 0 = k ∧ c.a0 63 18 = 0 ∧ s.ctxValid k = true ∧
      s.ctxRef k = false) :=
  ⟨
    ⟨W.ctxs, (0 : Fin 64), W.cmd 8 0 [] 0 none, (W.cmd 8 0 [] 0 none).a0 17 0, by unfold RingCmd.served; decide +kernel, rfl,
      by decide +kernel, by decide +kernel, by decide +kernel, by decide +kernel, by decide +kernel, by decide +kernel⟩,
    ⟨W.ctxs, (0 : Fin 64), W.cmd 8 0 [] 0 none, (W.cmd 8 0 [] 0 none).a0 17 0, by unfold RingCmd.served; decide +kernel, rfl,
      by decide +kernel, by decide +kernel, by decide +kernel, by decide +kernel, by decide +kernel⟩,
    ⟨W.ctxs, (0 : Fin 64), W.cmd 8 0 [] 0 none, (W.cmd 8 0 [] 0 none).a0 17 0, by unfold RingCmd.served; decide +kernel, rfl,
      by decide +kernel, by decide +kernel, by decide +kernel, by decide +kernel, by decide +kernel, by decide +kernel,
      by decide +kernel⟩,
    ⟨W.ctxs, (0 : Fin 64), W.cmd 8 0 [] 0 none, (W.cmd 8 0 [] 0 none).a0 17 0, by unfold RingCmd.served; decide +kernel, rfl,
      by decide +kernel, by decide +kernel, by decide +kernel, by decide +kernel⟩,
    ⟨W.ctxs, (0 : Fin 64), W.cmd 8 0 [] 0 none, (W.cmd 8 0 [] 0 none).a0 17 0, by unfold RingCmd.served; decide +kernel, rfl,
      by decide +kernel, by decide +kernel, by decide +kernel, by decide +kernel, by decide +kernel⟩,
    ⟨W.ctxsPinnedSlot, (0 : Fin 64), W.cmd 8 0 [] 0 none, (W.cmd 8 0 [] 0 none).a0 17 0, (ctxGroup (W.ctxsPinnedSlot.ctxAt
      ((W.cmd 8 0 [] 0 none).a0 17 0))).getD default, by unfold RingCmd.served; decide +kernel, rfl, by decide +kernel,
      by decide +kernel, by decide +kernel, by decide +kernel, by decide +kernel, by decide +kernel, by decide +kernel,
      by decide +kernel⟩,
    ⟨W.ctxs, (0 : Fin 64), W.cmd 8 0 [] 0 none, (W.cmd 8 0 [] 0 none).a0 17 0, by unfold RingCmd.served; decide +kernel, rfl,
      by decide +kernel, by decide +kernel, by decide +kernel⟩⟩

/-- States and operands that meet the premises of `Obligations.ContextInstallSelectAndSciMapComplete`, clause by clause. -/
theorem test_witness_ContextInstallSelectAndSciMapComplete :
    (∃ (s : State) (n : Fin 64) (c : RingCmd) (k : Nat) (img : BitVec 2048), c.served n s ∧ k = c.a0 17 0 ∧ img = BitVec.ofNat
      2048 (leAt c.cont 0 256) ∧ c.a0 63 18 = 0 ∧ ctxKind img = 1 ∧ macImageOk img = true ∧ (∀ a < 4, 4 * (k / 4) + a ≠ k →
      s.ctxValid (4 * (k / 4) + a) = true → ctxKind (s.ctxAt (4 * (k / 4) + a)) = 1) ∧ (s.ctxValid k = true → ctxEnabled
      (s.ctxAt k) = false) ∧ getF img C.cs = s.fld (F.SECY_CFG.CS (getF img C.port)) ∧ isF img C.dir = false ∧ ((List.any
      s.ctx.scm fun e => isF e.2 M.scmValid && getF e.2 M.scmIndex == k / 4 && getF e.2 M.scmPort == getF img C.port) = true)
      ∧ s.ctxRef k = false) ∧
    (∃ (s : State) (n : Fin 64) (c : RingCmd) (p : Nat) (a : Nat) (k : Nat) (t : State), c.served n s ∧ p = c.a0 6 0 ∧ a =
      c.a1 1 0 ∧ k = s.txCtx p a ∧ c.a1 20 20 = 0 ∧ p < 96 ∧ c.a0 63 7 = 0 ∧ s.ctxValid k = true ∧ ctxKind (s.ctxAt k) = 1 ∧
      ctxQuar (s.ctxAt k) = false ∧ isF (s.ctxAt k) C.dir = true ∧ isF (s.ctxAt k) C.txEn = true ∧ (s.setSecyTx p (putF
      (s.secyTx p) M.txAn a)).keepResident k = some t) ∧
    (∃ (s : State) (n : Fin 64) (c : RingCmd), c.served n s ∧ c.a0 63 0 < 96) ∧
    (∃ (s : State) (n : Fin 64) (c : RingCmd) (d : Nat) (port : Nat) (sci : Nat) (i : Nat), c.served n s ∧ d = leAt c.cont 0
      16 ∧ port = natBits d 102 96 ∧ sci = natBits d 63 0 ∧ port < 96 ∧ natBits d 127 127 = 1 ∧ s.scmFind sci port = none ∧
      s.isTxKey sci port = false ∧ (List.find? (fun i => !isF (Tbl.at0 s.ctx.scm i) M.scmValid) (s.scmSlots sci port) = some
      i)) ∧
    (∃ (s : State) (n : Fin 64) (c : RingCmd) (d : Nat) (port : Nat) (sci : Nat) (i : Nat), c.served n s ∧ d = leAt c.cont 0
      16 ∧ port = natBits d 102 96 ∧ sci = natBits d 63 0 ∧ port < 96 ∧ s.scmFind sci port = some i ∧ (∀ a < 4, isF (s.ctxAt
      (4 * getF (Tbl.at0 s.ctx.scm i) M.scmIndex + a)) C.rxEn = false)) :=
  ⟨
    ⟨W.scmOne, (0 : Fin 64), W.cmd 8 0 W.image 0 none, (W.cmd 8 0 W.image 0 none).a0 17 0, BitVec.ofNat 2048 (leAt (W.cmd 8 0
      W.image 0 none).cont 0 256), by unfold RingCmd.served; decide +kernel, rfl, rfl, by decide +kernel, by decide +kernel,
      by decide +kernel, by decide +kernel, by decide +kernel, by decide +kernel, by decide +kernel, by decide +kernel,
      by decide +kernel⟩,
    ⟨W.txState, (0 : Fin 64), W.cmd 8 0 W.image 0 none, (W.cmd 8 0 W.image 0 none).a0 6 0, (W.cmd 8 0 W.image 0 none).a1 1 0,
      W.txState.txCtx ((W.cmd 8 0 W.image 0 none).a0 6 0) ((W.cmd 8 0 W.image 0 none).a1 1 0), ((W.txState.setSecyTx 8 (putF
      (W.txState.secyTx 8) M.txAn 0)).keepResident (W.txState.txCtx 8 0)).getD W.base,
      by unfold RingCmd.served; decide +kernel, rfl, rfl, rfl, by decide +kernel, by decide +kernel, by decide +kernel,
      by decide +kernel, by decide +kernel, by decide +kernel, by decide +kernel, by decide +kernel, by decide +kernel⟩,
    ⟨W.scmOne, (0 : Fin 64), W.cmd 8 0 W.image 0 none, by unfold RingCmd.served; decide +kernel, by decide +kernel⟩,
    ⟨W.scmOne, (0 : Fin 64), W.cmd 0 0 W.scmData 0 none, leAt (W.cmd 0 0 W.scmData 0 none).cont 0 16, natBits (leAt (W.cmd 0 0
      W.scmData 0 none).cont 0 16) 102 96, natBits (leAt (W.cmd 0 0 W.scmData 0 none).cont 0 16) 63 0, (List.find? (fun i =>
      !isF (Tbl.at0 W.scmOne.ctx.scm i) M.scmValid) (W.scmOne.scmSlots (natBits (leAt (W.cmd 0 0 W.scmData 0 none).cont 0 16)
      63 0) (natBits (leAt (W.cmd 0 0 W.scmData 0 none).cont 0 16) 102 96))).getD default,
      by unfold RingCmd.served; decide +kernel, rfl, rfl, rfl, by decide +kernel, by decide +kernel, by decide +kernel,
      by decide +kernel, by decide +kernel⟩,
    ⟨W.scmFound, (0 : Fin 64), W.cmd 0 0 W.scmData 0 none, leAt (W.cmd 0 0 W.scmData 0 none).cont 0 16, natBits (leAt (W.cmd 0
      0 W.scmData 0 none).cont 0 16) 102 96, natBits (leAt (W.cmd 0 0 W.scmData 0 none).cont 0 16) 63 0, (W.scmFound.scmFind
      (natBits (leAt (W.cmd 0 0 W.scmData 0 none).cont 0 16) 63 0) (natBits (leAt (W.cmd 0 0 W.scmData 0 none).cont 0 16) 102
      96)).getD default, by unfold RingCmd.served; decide +kernel, rfl, rfl, rfl, by decide +kernel, by decide +kernel,
      by decide +kernel⟩⟩

/-- States and operands that meet the premises of `Obligations.FlipSetsAndLeapComplete`, clause by clause. -/
theorem test_witness_FlipSetsAndLeapComplete :
    (∃ (s : State) (n : Fin 64) (c : RingCmd) (f : Nat) (p : Nat) (an : Nat), c.served n s ∧ f = c.a0 7 0 ∧ c.a0 63 8 = 0 ∧ p
      = c.a1 17 0 ∧ an = c.a1 19 18 ∧ c.a1 20 20 = 0 ∧ p < 96 ∧ (s.flip f).state = 0 ∧ s.ctxValid (s.txCtx p an) = true ∧
      ctxKind (s.ctxAt (s.txCtx p an)) = 1 ∧ ctxQuar (s.ctxAt (s.txCtx p an)) = false ∧ isF (s.ctxAt (s.txCtx p an)) C.dir =
      true ∧ isF (s.ctxAt (s.txCtx p an)) C.txEn = true ∧ isF (s.secyTx p) M.txPend = false) ∧
    (∃ (s : State) (n : Fin 64) (c : RingCmd) (f : Nat) (u : State), c.served n s ∧ f = c.a0 7 0 ∧ c.a0 63 8 = 0 ∧ leAt c.cont
      6 4 < 1000000000 ∧ (s.flip f).state = 0 ∧ s.keepAll (List.map s.flipTarget (s.flip f).members) = some u) ∧
    (∃ (s : State) (n : Fin 64) (c : RingCmd) (f : Nat), c.served n s ∧ f = c.a0 7 0 ∧ c.a0 63 8 = 0 ∧ (s.flip f).state ≠ 2) ∧
    (∃ (s : State) (n : Fin 64) (c : RingCmd) (f : Nat), c.served n s ∧ f = c.a0 7 0 ∧ c.a0 63 8 = 0) ∧
    (∃ (s : State) (n : Fin 64) (c : RingCmd) (f : Nat) (g : Fin 256), c.served n s ∧ f = c.a0 7 0 ∧ c.a0 63 8 = 0 ∧ (s.flip
      ↑g).state = 2) ∧
    (∃ (s : State), s.op = OpState.setup) ∧
    (∃ (s : State) (v : Word) (w : Word), s.op = OpState.setup ∧ s.ctx.leapHeld = some w ∧ 2 ^ 10 ≤ BitVec.toNat v % 2 * 2 ^
      32 + BitVec.toNat w ∧ BitVec.toNat v % 2 * 2 ^ 32 + BitVec.toNat w ≤ 2 ^ 32) ∧
    (∃ (s : State) (v : Word) (w : Word), s.op = OpState.setup ∧ s.ctx.leapHeld = some w ∧ (BitVec.toNat v % 2 * 2 ^ 32 +
      BitVec.toNat w < 2 ^ 10 ∨ 2 ^ 32 < BitVec.toNat v % 2 * 2 ^ 32 + BitVec.toNat w)) ∧
    (∃ (s : State), s.op = OpState.run) :=
  ⟨
    ⟨W.flipped 0, (0 : Fin 64), W.cmd 0 0 [] 0 none, (W.cmd 0 0 [] 0 none).a0 7 0, (W.cmd 0 0 [] 0 none).a1 17 0, (W.cmd 0 0
      [] 0 none).a1 19 18, by unfold RingCmd.served; decide +kernel, rfl, by decide +kernel, rfl, rfl, by decide +kernel,
      by decide +kernel, by decide +kernel, by decide +kernel, by decide +kernel, by decide +kernel, by decide +kernel,
      by decide +kernel, by decide +kernel⟩,
    ⟨W.flipped 0, (0 : Fin 64), W.cmd 0 0 [] 0 none, (W.cmd 0 0 [] 0 none).a0 7 0, ((W.flipped 0).keepAll (((W.flipped 0).flip
      0).members.map (W.flipped 0).flipTarget)).getD W.base, by unfold RingCmd.served; decide +kernel, rfl, by decide +kernel,
      by decide +kernel, by decide +kernel, by decide +kernel⟩,
    ⟨W.flipped 0, (0 : Fin 64), W.cmd 0 0 [] 0 none, (W.cmd 0 0 [] 0 none).a0 7 0, by unfold RingCmd.served; decide +kernel,
      rfl, by decide +kernel, by decide +kernel⟩,
    ⟨W.flipped 0, (0 : Fin 64), W.cmd 0 0 [] 0 none, (W.cmd 0 0 [] 0 none).a0 7 0, by unfold RingCmd.served; decide +kernel,
      rfl, by decide +kernel⟩,
    ⟨W.flipped 2, (0 : Fin 64), W.cmd 0 0 [] 0 none, (W.cmd 0 0 [] 0 none).a0 7 0, (0 : Fin 256),
      by unfold RingCmd.served; decide +kernel, rfl, by decide +kernel, by decide +kernel⟩,
    ⟨W.setup, by decide +kernel⟩,
    ⟨W.leap 1024, (0 : Word), (1024 : Word), by decide +kernel, by decide +kernel, by decide +kernel, by decide +kernel⟩,
    ⟨W.leap 1023, (0 : Word), (1023 : Word), by decide +kernel, by decide +kernel, by decide +kernel⟩,
    ⟨W.flipped 0, by decide +kernel⟩⟩

/-- States and operands that meet the premises of `Obligations.KeyFillsComplete`, clause by clause. -/
theorem test_witness_KeyFillsComplete :
    (∃ (s : State) (u : State) (n : Fin 64) (c : RingCmd) (k : Nat) (w : Nat) (a : BitVec 128), c.served n s ∧
      s.alarm.stopped.testBit 2 = false ∧ u = s.count 1698 ∧ k = c.a0 18 0 ∧ w = c.a1 18 0 ∧ a = RingCmdAttr c ∧ attrOk a =
      true ∧ c.a1 31 31 = 0 ∧ hostSlot (c.a0 63 0) = true ∧ hostSlot w = true ∧ ((16 + if isF a K.ksize = true then 40 else
      24) ≤ c.cont.length) ∧ u.useCheck w K.wrap true = none ∧ u.fillCheck k true = none) ∧
    (∃ (s : State) (u : State) (n : Fin 64) (c : RingCmd) (k : Nat) (w : Nat) (a : BitVec 128) (b : List Byte), c.served n s ∧
      s.alarm.stopped.testBit 2 = false ∧ u = s.count 1698 ∧ k = c.a0 18 0 ∧ w = c.a1 18 0 ∧ a = RingCmdAttr c ∧ attrOk a =
      true ∧ c.a1 31 31 = 0 ∧ hostSlot (c.a0 63 0) = true ∧ hostSlot w = true ∧ b = List.drop 16 c.cont ∧ attrOk (xwAttr b) =
      true ∧ leAt b 0 1 = 1 ∧ leAt b 2 1 = u.lc ∧ leAt b 2 1 ≤ 5 ∧ ((32 + if leAt b 1 1 % 2 = 1 then 32 else 16) ≤ b.length) ∧
      u.useCheck w K.wrap true = none ∧ u.fillCheck k true = none) ∧
    (∃ (s : State) (u : State) (n : Fin 64) (c : RingCmd) (k : Nat) (w : Nat) (a : BitVec 128) (v : BitVec 256) (t : State),
      c.served n s ∧ s.alarm.stopped.testBit 2 = false ∧ u = s.count 1698 ∧ k = c.a0 18 0 ∧ w = c.a1 18 0 ∧ a = RingCmdAttr c
      ∧ attrOk a = true ∧ c.a1 31 31 = 0 ∧ hostSlot (c.a0 63 0) = true ∧ hostSlot w = true ∧ u.fillCheck k false = none ∧
      u.draw 256 = (v, t)) ∧
    (∃ (s : State) (u : State) (n : Fin 64) (c : RingCmd) (k : Nat) (w : Nat) (a : BitVec 128) (bits : Nat) (ll : Nat) (cl :
      Nat), c.served n s ∧ s.alarm.stopped.testBit 2 = false ∧ u = s.count 1698 ∧ k = c.a0 18 0 ∧ w = c.a1 18 0 ∧ a =
      RingCmdAttr c ∧ attrOk a = true ∧ c.a1 31 31 = 0 ∧ hostSlot (c.a0 63 0) = true ∧ hostSlot w = true ∧ bits = leAt c.cont
      16 2 ∧ ll = leAt c.cont 18 1 ∧ cl = leAt c.cont 19 1 ∧ (bits = 128 ∨ bits = 256) ∧ ll ≤ 64 ∧ cl ≤ 64 ∧ 32 + ll + cl ≤
      c.cont.length ∧ u.useCheck w K.derive true = none ∧ u.fillCheck k true = none) :=
  ⟨
    ⟨W.kek, W.kek.count 1698, (0 : Fin 64), W.kc 6 5 W.kwCont, (W.kc 6 5 W.kwCont).a0 18 0, (W.kc 6 5 W.kwCont).a1 18 0,
      RingCmdAttr (W.kc 6 5 W.kwCont), by unfold RingCmd.served; decide +kernel, by decide +kernel, rfl, rfl, rfl, rfl,
      by decide +kernel, by decide +kernel, by decide +kernel, by decide +kernel, by decide +kernel, by decide +kernel,
      by decide +kernel⟩,
    ⟨W.kek, W.kek.count 1698, (0 : Fin 64), W.kc 6 5 W.xwCont, (W.kc 6 5 W.xwCont).a0 18 0, (W.kc 6 5 W.xwCont).a1 18 0,
      RingCmdAttr (W.kc 6 5 W.xwCont), List.drop 16 (W.kc 6 5 W.xwCont).cont, by unfold RingCmd.served; decide +kernel,
      by decide +kernel, rfl, rfl, rfl, rfl, by decide +kernel, by decide +kernel, by decide +kernel, by decide +kernel, rfl,
      by decide +kernel, by decide +kernel, by decide +kernel, by decide +kernel, by decide +kernel, by decide +kernel,
      by decide +kernel⟩,
    ⟨W.kek, W.kek.count 1698, (0 : Fin 64), W.kc 6 5 W.kwCont, (W.kc 6 5 W.kwCont).a0 18 0, (W.kc 6 5 W.kwCont).a1 18 0,
      RingCmdAttr (W.kc 6 5 W.kwCont), ((W.kek.count 1698).draw 256).1, ((W.kek.count 1698).draw 256).2,
      by unfold RingCmd.served; decide +kernel, by decide +kernel, rfl, rfl, rfl, rfl, by decide +kernel, by decide +kernel,
      by decide +kernel, by decide +kernel, by decide +kernel, rfl⟩,
    ⟨W.kek, W.kek.count 1698, (0 : Fin 64), W.kc 6 5 W.kdfCont, (W.kc 6 5 W.kdfCont).a0 18 0, (W.kc 6 5 W.kdfCont).a1 18 0,
      RingCmdAttr (W.kc 6 5 W.kdfCont), leAt (W.kc 6 5 W.kdfCont).cont 16 2, leAt (W.kc 6 5 W.kdfCont).cont 18 1, leAt (W.kc 6
      5 W.kdfCont).cont 19 1, by unfold RingCmd.served; decide +kernel, by decide +kernel, rfl, rfl, rfl, rfl,
      by decide +kernel, by decide +kernel, by decide +kernel, by decide +kernel, rfl, rfl, rfl, by decide +kernel,
      by decide +kernel, by decide +kernel, by decide +kernel, by decide +kernel, by decide +kernel⟩⟩

/-- States and operands that meet the premises of `Obligations.KeyUsesComplete`, clause by clause. -/
theorem test_witness_KeyUsesComplete :
    (∃ (s : State) (u : State) (n : Fin 64) (c : RingCmd) (k : Nat) (w : Nat), c.served n s ∧ s.alarm.stopped.testBit 2 =
      false ∧ u = s.count 1698 ∧ k = c.a0 18 0 ∧ w = c.a1 18 0 ∧ c.a1 31 31 = 0 ∧ hostSlot w = true ∧ hostSlot (c.a0 63 0) =
      true ∧ u.useCheck w K.wrap true = none ∧ u.useCheck k K.exportBit true = none) ∧
    (∃ (s : State) (u : State) (n : Fin 64) (c : RingCmd) (k : Nat) (w : Nat), c.served n s ∧ s.alarm.stopped.testBit 2 =
      false ∧ u = s.count 1698 ∧ k = c.a0 18 0 ∧ w = c.a1 18 0 ∧ c.a1 31 31 = 0 ∧ hostSlot w = true ∧ hostSlot (c.a0 63 0) =
      true ∧ u.useCheck w K.wrap true = none ∧ u.useCheck k K.exportBit true = none) ∧
    (∃ (s : State) (u : State) (n : Fin 64) (c : RingCmd) (k : Nat) (w : Nat) (d : List Byte), c.served n s ∧
      s.alarm.stopped.testBit 2 = false ∧ u = s.count 1698 ∧ k = c.a0 18 0 ∧ w = c.a1 18 0 ∧ c.a1 31 31 = 0 ∧ hostSlot w =
      true ∧ c.bufIn = some d ∧ 1 ≤ c.bufLen.toNat ∧ c.bufLen.toNat ≤ 2048 ∧ u.useCheck w K.macg true = none) ∧
    (∃ (s : State) (u : State) (n : Fin 64) (c : RingCmd) (k : Nat) (w : Nat) (d : List Byte), c.served n s ∧
      s.alarm.stopped.testBit 2 = false ∧ u = s.count 1698 ∧ k = c.a0 18 0 ∧ w = c.a1 18 0 ∧ c.a1 31 31 = 0 ∧ hostSlot w =
      true ∧ c.bufIn = some d ∧ 1 ≤ c.bufLen.toNat ∧ c.bufLen.toNat ≤ 2048 ∧ u.useCheck w K.macv true = none) ∧
    (∃ (s : State) (k : Nat), isF (s.slot k).attr K.life = false ∧ 0 < getF (s.slot k).attr K.uses) ∧
    (∃ (s : State) (k : Nat), isF (s.slot k).attr K.life = true) ∧
    (∃ (k : Nat) (j : Nat), j ≠ k) :=
  ⟨
    ⟨W.kek, W.kek.count 1698, (0 : Fin 64), W.kc 5 5 [], 5, (W.kc 5 5 []).a1 18 0, by unfold RingCmd.served; decide +kernel,
      by decide +kernel, rfl, rfl, rfl, by decide +kernel, by decide +kernel, by decide +kernel, by decide +kernel,
      by decide +kernel⟩,
    ⟨W.kek, W.kek.count 1698, (0 : Fin 64), W.kc 5 5 [], 5, (W.kc 5 5 []).a1 18 0, by unfold RingCmd.served; decide +kernel,
      by decide +kernel, rfl, rfl, rfl, by decide +kernel, by decide +kernel, by decide +kernel, by decide +kernel,
      by decide +kernel⟩,
    ⟨W.kek, W.kek.count 1698, (0 : Fin 64), W.kc 5 5 [], 5, (W.kc 5 5 []).a1 18 0, (W.kc 5 5 []).bufIn.getD default,
      by unfold RingCmd.served; decide +kernel, by decide +kernel, rfl, rfl, rfl, by decide +kernel, by decide +kernel,
      by decide +kernel, by decide +kernel, by decide +kernel, by decide +kernel⟩,
    ⟨W.kek, W.kek.count 1698, (0 : Fin 64), W.kc 5 5 [], 5, (W.kc 5 5 []).a1 18 0, (W.kc 5 5 []).bufIn.getD default,
      by unfold RingCmd.served; decide +kernel, by decide +kernel, rfl, rfl, rfl, by decide +kernel, by decide +kernel,
      by decide +kernel, by decide +kernel, by decide +kernel, by decide +kernel⟩,
    ⟨W.counted, 5, by decide +kernel, by decide +kernel⟩,
    ⟨W.kek, 5, by decide +kernel⟩,
    ⟨5, 6, by decide +kernel⟩⟩

/-- States and operands that meet the premises of `Obligations.KeySlotsComplete`, clause by clause. -/
theorem test_witness_KeySlotsComplete :
    (∃ (s : State) (n : Fin 64) (c : RingCmd) (k : Nat), c.served n s ∧ s.alarm.stopped.testBit 2 = false ∧ k = c.a0 63 0 ∧ k
      < 262144 ∧ c.a1 31 31 = 0 ∧ s.slotValid k = true ∧ isF (s.slot k).attr M.attrQuar = false) ∧
    (∃ (s : State) (n : Fin 64) (c : RingCmd) (k : Nat) (a : BitVec 128), c.served n s ∧ s.alarm.stopped.testBit 2 = false ∧ k
      = c.a0 63 0 ∧ k < 262144 ∧ c.a1 31 31 = 0 ∧ s.slotValid k = true ∧ isF (s.slot k).attr M.attrQuar = false ∧ a =
      RingCmdAttr c ∧ attrOk a = true ∧ getF a M.usage &&& 63 - getF (s.slot k).attr M.usage = 0 ∧ getF a K.exportBit ≤ getF
      (s.slot k).attr K.exportBit ∧ getF a K.ksize = getF (s.slot k).attr K.ksize ∧ getF a K.life = getF (s.slot k).attr
      K.life ∧ getF a K.lc = getF (s.slot k).attr K.lc ∧ getF a K.uses ≤ getF (s.slot k).attr K.uses) ∧
    (∃ (s : State) (n : Fin 64) (c : RingCmd) (k : Nat), c.served n s ∧ s.alarm.stopped.testBit 2 = false ∧ k = c.a0 63 0 ∧ k
      < 262144 ∧ c.a1 31 31 = 0 ∧ s.slotValid k = true ∧ isF (s.slot k).attr M.attrQuar = false ∧ s.slotResident k = true ∧
      s.slotPinned k = false ∧ s.fld F.KEY_STATUS.PINNED < 6144) ∧
    (∃ (s : State) (n : Fin 64) (c : RingCmd) (k : Nat), c.served n s ∧ s.alarm.stopped.testBit 2 = false ∧ k = c.a0 63 0 ∧ k
      < 262144 ∧ c.a1 31 31 = 0 ∧ s.slotValid k = true ∧ isF (s.slot k).attr M.attrQuar = false ∧ ((List.any s.ctx.ctx fun e
      => isF e.2 C.valid && (ctxSlots e.2).contains k && s.ctxRef e.1) = false)) ∧
    (∃ (s : State) (n : Fin 64) (c : RingCmd) (k : Nat), c.served n s ∧ s.alarm.stopped.testBit 2 = false ∧ k = c.a0 63 0 ∧ k
      < 262144 ∧ c.a1 31 31 = 0 ∧ s.slotValid k = true ∧ isF (s.slot k).attr M.attrQuar = false ∧ s.refs k = 0) ∧
    (∃ (s : State) (n : Fin 64) (c : RingCmd) (k : Nat) (x : Fin 263168), c.served n s ∧ s.alarm.stopped.testBit 2 = false ∧ k
      = c.a0 63 0 ∧ k < 262144 ∧ c.a1 31 31 = 0 ∧ s.slotValid k = true ∧ isF (s.slot k).attr M.attrQuar = false ∧ ↑x = k ∧
      s.slotResident k = true) ∧
    (∃ (s : State) (n : Fin 64) (c : RingCmd), c.served n s ∧ s.alarm.stopped.testBit 2 = false ∧ c.a0 63 0 < 262144 ∧ c.a1 31
      31 = 0 ∧ s.refs (c.a0 18 0) ≠ 0) :=
  ⟨
    ⟨W.slot6, (0 : Fin 64), W.kc 6 0 W.kaCont, (W.kc 6 0 W.kaCont).a0 63 0, by unfold RingCmd.served; decide +kernel,
      by decide +kernel, rfl, by decide +kernel, by decide +kernel, by decide +kernel, by decide +kernel⟩,
    ⟨W.slot6, (0 : Fin 64), W.kc 6 0 W.kaCont, (W.kc 6 0 W.kaCont).a0 63 0, RingCmdAttr (W.kc 6 0 W.kaCont),
      by unfold RingCmd.served; decide +kernel, by decide +kernel, rfl, by decide +kernel, by decide +kernel,
      by decide +kernel, by decide +kernel, rfl, by decide +kernel, by decide +kernel, by decide +kernel, by decide +kernel,
      by decide +kernel, by decide +kernel, by decide +kernel⟩,
    ⟨W.slot6, (0 : Fin 64), W.kc 6 0 W.kaCont, (W.kc 6 0 W.kaCont).a0 63 0, by unfold RingCmd.served; decide +kernel,
      by decide +kernel, rfl, by decide +kernel, by decide +kernel, by decide +kernel, by decide +kernel, by decide +kernel,
      by decide +kernel, by decide +kernel⟩,
    ⟨W.slot6, (0 : Fin 64), W.kc 6 0 W.kaCont, (W.kc 6 0 W.kaCont).a0 63 0, by unfold RingCmd.served; decide +kernel,
      by decide +kernel, rfl, by decide +kernel, by decide +kernel, by decide +kernel, by decide +kernel, by decide +kernel⟩,
    ⟨W.slot6, (0 : Fin 64), W.kc 6 0 W.kaCont, (W.kc 6 0 W.kaCont).a0 63 0, by unfold RingCmd.served; decide +kernel,
      by decide +kernel, rfl, by decide +kernel, by decide +kernel, by decide +kernel, by decide +kernel, by decide +kernel⟩,
    ⟨W.slot6, (0 : Fin 64), W.kc 6 0 W.kaCont, (W.kc 6 0 W.kaCont).a0 63 0, (6 : Fin 263168),
      by unfold RingCmd.served; decide +kernel, by decide +kernel, rfl, by decide +kernel, by decide +kernel,
      by decide +kernel, by decide +kernel, rfl, by decide +kernel⟩,
    ⟨W.slotRef, (0 : Fin 64), W.kc 5 0 [], by unfold RingCmd.served; decide +kernel, by decide +kernel, by decide +kernel,
      by decide +kernel, by decide +kernel⟩⟩

/-- States and operands that meet the premises of `Obligations.RootCommandsComplete`, clause by clause. -/
theorem test_witness_RootCommandsComplete :
    (∃ (s : State) (u : State) (n : Fin 64) (c : RingCmd) (x : Nat), c.served n s ∧ s.alarm.stopped.testBit 2 = false ∧ u =
      s.count 1698 ∧ c.a1 31 31 = 0 ∧ s.op = OpState.setup ∧ rootOf s.lc = some x ∧ Tbl.at0 s.bat.roots x = 0) ∧
    (∃ (s : State) (u : State) (n : Fin 64) (c : RingCmd) (x : Nat), c.served n s ∧ s.alarm.stopped.testBit 2 = false ∧ u =
      s.count 1698 ∧ c.a1 31 31 = 0 ∧ s.op = OpState.setup ∧ rootOf s.lc = some x) ∧
    (∃ (s : State) (u : State) (n : Fin 64) (c : RingCmd), c.served n s ∧ s.alarm.stopped.testBit 2 = false ∧ u = s.count 1698
      ∧ c.a1 31 31 = 0) ∧
    (∃ (s : State) (u : State) (n : Fin 64) (c : RingCmd), c.served n s ∧ s.alarm.stopped.testBit 2 = false ∧ u = s.count 1698
      ∧ c.a1 31 31 = 0 ∧ s.op = OpState.setup ∧ s.config ≠ 2) ∧
    (∃ (s : State) (u : State) (n : Fin 64) (c : RingCmd), c.served n s ∧ s.alarm.stopped.testBit 2 = false ∧ u = s.count 1698
      ∧ c.a1 31 31 = 0) :=
  ⟨
    ⟨W.owned W.setup, (W.owned W.setup).count 1698, (0 : Fin 64), W.kc 5 0 (W.zeros 32), 0,
      by unfold RingCmd.served; decide +kernel, by decide +kernel, rfl, by decide +kernel, by decide +kernel,
      by decide +kernel, by decide +kernel⟩,
    ⟨W.owned W.setup, (W.owned W.setup).count 1698, (0 : Fin 64), W.kc 5 0 (W.zeros 32), 0,
      by unfold RingCmd.served; decide +kernel, by decide +kernel, rfl, by decide +kernel, by decide +kernel,
      by decide +kernel⟩,
    ⟨W.owned W.setup, (W.owned W.setup).count 1698, (0 : Fin 64), W.kc 5 0 (W.zeros 32),
      by unfold RingCmd.served; decide +kernel, by decide +kernel, rfl, by decide +kernel⟩,
    ⟨W.owned W.setup, (W.owned W.setup).count 1698, (0 : Fin 64), W.kc 5 0 (W.zeros 32),
      by unfold RingCmd.served; decide +kernel, by decide +kernel, rfl, by decide +kernel, by decide +kernel,
      by decide +kernel⟩,
    ⟨W.owned W.setup, (W.owned W.setup).count 1698, (0 : Fin 64), W.kc 5 0 (W.zeros 32),
      by unfold RingCmd.served; decide +kernel, by decide +kernel, rfl, by decide +kernel⟩⟩

/-- States and operands that meet the premises of `Obligations.ContractCommandsComplete`, clause by clause. -/
theorem test_witness_ContractCommandsComplete :
    (∃ (s : State) (n : Fin 64) (c : RingCmd) (k : Nat) (w : BitVec 1024) (e : BitVec 256) (ins : List Nat) (egs : List Nat)
      (paths : List (Nat × Option (List Nat × List Nat × Option Nat))) (keys : List Nat) (ctxs : List (Nat × Nat)) (u :
      CtUse), c.served n s ∧ k = c.a0 63 0 ∧ k < 16384 ∧ w = ctFields (BitVec.ofNat 1024 (leAt c.cont 0 128)) ∧ ctImageOk w =
      true ∧ s.accepted k = false ∧ e = s.streamAt (getF w V.stream) ∧ isF e E.strValid = true ∧ isF e E.strContracted = false
      ∧ ins = ctIns w ∧ egs = ctEgs w ∧ (paths = List.map (fun p => (p, s.ctPath e (getF w V.stream) p)) ins) ∧ egs ≠ [] ∧
      (((ins ++ egs).any fun p => s.fld (F.PORT_MODE.LOOPBACK p) != 0) = false) ∧ ((paths.any fun x => match x.2
      with | some (_, l, _) => l != egs | none => true) = false) ∧ (keys = List.foldl addOnce [] (List.flatMap (fun x =>
      match x.2 with | some (k, _, _) => k | none => []) paths)) ∧ (ctxs = s.ctContexts e ins egs (List.map (fun x => (x.1,
      x.2.bind fun y => y.2.2)) paths)) ∧ (u = ⟨keys, List.map (fun x => x.1) ctxs, List.map (fun q => (q, s.ctLen e (getF w
      V.maxLen) ins q)) egs, List.filter (s.ctCut e (getF w V.stream) ins) egs⟩) ∧ s.ctRefusal w e u ctxs = none ∧ s.judge
      (s.planOf k w u.lens u.cut) (List.flatMap s.ctLists egs) = none) ∧
    (∃ (s : State) (n : Fin 64) (c : RingCmd) (k : Nat) (w : BitVec 1024) (e : BitVec 256) (ins : List Nat) (egs : List Nat)
      (paths : List (Nat × Option (List Nat × List Nat × Option Nat))) (keys : List Nat) (ctxs : List (Nat × Nat)) (u : CtUse)
      (code : Nat) (r : Nat), c.served n s ∧ k = c.a0 63 0 ∧ k < 16384 ∧ w = ctFields (BitVec.ofNat 1024 (leAt c.cont 0 128))
      ∧ ctImageOk w = true ∧ s.accepted k = false ∧ e = s.streamAt (getF w V.stream) ∧ isF e E.strValid = true ∧ isF e
      E.strContracted = false ∧ ins = ctIns w ∧ egs = ctEgs w ∧ (paths = List.map (fun p => (p, s.ctPath e (getF w V.stream)
      p)) ins) ∧ egs ≠ [] ∧ (((ins ++ egs).any fun p => s.fld (F.PORT_MODE.LOOPBACK p) != 0) = false) ∧ ((paths.any fun x =>
      match x.2 with | some (_, l, _) => l != egs | none => true) = false) ∧ (keys = List.foldl addOnce [] (List.flatMap (fun
      x => match x.2 with | some (k, _, _) => k | none => []) paths)) ∧ (ctxs = s.ctContexts e ins egs (List.map (fun x =>
      (x.1, x.2.bind fun y => y.2.2)) paths)) ∧ (u = ⟨keys, List.map (fun x => x.1) ctxs, List.map (fun q => (q, s.ctLen e
      (getF w V.maxLen) ins q)) egs, List.filter (s.ctCut e (getF w V.stream) ins) egs⟩) ∧ s.ctRefusal w e u ctxs =
      some (code, r)) ∧
    (∃ (s : State) (n : Fin 64) (c : RingCmd) (k : Nat), c.served n s ∧ k = c.a0 63 0 ∧ k < 16384 ∧ s.accepted k = true) ∧
    (∃ (s : State) (n : Fin 64) (c : RingCmd) (k : Nat), c.served n s ∧ k = c.a0 63 0 ∧ k < 16384 ∧ s.accepted k = true) ∧
    (∃ (s : State) (n : Fin 64) (c : RingCmd) (k : Nat), c.served n s ∧ k = c.a0 63 0 ∧ k < 16384 ∧ s.accepted k = true) :=
  ⟨
    ⟨W.ctReady, (0 : Fin 64), W.ctCmd, 0, W.ctImage 20000, W.ctStr, ctIns (W.ctImage 20000), ctEgs (W.ctImage 20000), List.map
      (fun p => (p, W.ctReady.ctPath W.ctStr (getF (W.ctImage 20000) V.stream) p)) (ctIns (W.ctImage 20000)), List.foldl
      addOnce [] (List.flatMap (fun x => match x.2 with | some (k, _, _) => k | none => []) (List.map (fun p => (p,
      W.ctReady.ctPath W.ctStr (getF (W.ctImage 20000) V.stream) p)) (ctIns (W.ctImage 20000)))), W.ctReady.ctContexts W.ctStr
      (ctIns (W.ctImage 20000)) (ctEgs (W.ctImage 20000)) (List.map (fun x => (x.1, x.2.bind fun y => y.2.2)) (List.map (fun p
      => (p, W.ctReady.ctPath W.ctStr (getF (W.ctImage 20000) V.stream) p)) (ctIns (W.ctImage 20000)))), ⟨List.foldl addOnce
      [] (List.flatMap (fun x => match x.2 with | some (k, _, _) => k | none => []) (List.map (fun p => (p, W.ctReady.ctPath
      W.ctStr (getF (W.ctImage 20000) V.stream) p)) (ctIns (W.ctImage 20000)))), List.map (fun x => x.1) (W.ctReady.ctContexts
      W.ctStr (ctIns (W.ctImage 20000)) (ctEgs (W.ctImage 20000)) (List.map (fun x => (x.1, x.2.bind fun y => y.2.2))
      (List.map (fun p => (p, W.ctReady.ctPath W.ctStr (getF (W.ctImage 20000) V.stream) p)) (ctIns (W.ctImage 20000))))),
      List.map (fun q => (q, W.ctReady.ctLen W.ctStr (getF (W.ctImage 20000) V.maxLen) (ctIns (W.ctImage 20000)) q)) (ctEgs
      (W.ctImage 20000)), List.filter (W.ctReady.ctCut W.ctStr (getF (W.ctImage 20000) V.stream) (ctIns (W.ctImage 20000)))
      (ctEgs (W.ctImage 20000))⟩, by unfold RingCmd.served; decide +kernel, rfl, by decide +kernel, rfl, by decide +kernel,
      by decide +kernel, rfl, by decide +kernel, by decide +kernel, rfl, rfl, rfl, by decide +kernel, by decide +kernel,
      by decide +kernel, rfl, rfl, rfl, by decide +kernel, by decide +kernel⟩,
    ⟨W.ctNoMeter, (0 : Fin 64), W.ctCmd, 0, W.ctImage 20000, W.ctStr, ctIns (W.ctImage 20000), ctEgs (W.ctImage 20000),
      List.map (fun p => (p, W.ctNoMeter.ctPath W.ctStr (getF (W.ctImage 20000) V.stream) p)) (ctIns (W.ctImage 20000)),
      List.foldl addOnce [] (List.flatMap (fun x => match x.2 with | some (k, _, _) => k | none => []) (List.map (fun p => (p,
      W.ctNoMeter.ctPath W.ctStr (getF (W.ctImage 20000) V.stream) p)) (ctIns (W.ctImage 20000)))), W.ctNoMeter.ctContexts
      W.ctStr (ctIns (W.ctImage 20000)) (ctEgs (W.ctImage 20000)) (List.map (fun x => (x.1, x.2.bind fun y => y.2.2))
      (List.map (fun p => (p, W.ctNoMeter.ctPath W.ctStr (getF (W.ctImage 20000) V.stream) p)) (ctIns (W.ctImage 20000)))),
      ⟨List.foldl addOnce [] (List.flatMap (fun x => match x.2 with | some (k, _, _) => k | none => []) (List.map (fun p =>
      (p, W.ctNoMeter.ctPath W.ctStr (getF (W.ctImage 20000) V.stream) p)) (ctIns (W.ctImage 20000)))), List.map (fun x =>
      x.1) (W.ctNoMeter.ctContexts W.ctStr (ctIns (W.ctImage 20000)) (ctEgs (W.ctImage 20000)) (List.map (fun x => (x.1,
      x.2.bind fun y => y.2.2)) (List.map (fun p => (p, W.ctNoMeter.ctPath W.ctStr (getF (W.ctImage 20000) V.stream) p))
      (ctIns (W.ctImage 20000))))), List.map (fun q => (q, W.ctNoMeter.ctLen W.ctStr (getF (W.ctImage 20000) V.maxLen) (ctIns
      (W.ctImage 20000)) q)) (ctEgs (W.ctImage 20000)), List.filter (W.ctNoMeter.ctCut W.ctStr (getF (W.ctImage 20000)
      V.stream) (ctIns (W.ctImage 20000))) (ctEgs (W.ctImage 20000))⟩, 8, 0, by unfold RingCmd.served; decide +kernel, rfl,
      by decide +kernel, rfl, by decide +kernel, by decide +kernel, rfl, by decide +kernel, by decide +kernel, rfl, rfl, rfl,
      by decide +kernel, by decide +kernel, by decide +kernel, rfl, rfl, rfl, by decide +kernel⟩,
    ⟨W.ctDone, (0 : Fin 64), W.ctCmd, 0, by unfold RingCmd.served; decide +kernel, rfl, by decide +kernel, by decide +kernel⟩,
    ⟨W.ctDone, (0 : Fin 64), W.ctCmd, 0, by unfold RingCmd.served; decide +kernel, rfl, by decide +kernel, by decide +kernel⟩,
    ⟨W.ctDone, (0 : Fin 64), W.ctCmd, 0, by unfold RingCmd.served; decide +kernel, rfl, by decide +kernel, by decide +kernel⟩⟩

/-- States and operands that meet the premises of `Obligations.RecoveryComplete`, clause by clause. -/
theorem test_witness_RecoveryComplete :
    (∃ (s : State) (n : Fin 64) (c : RingCmd) (h : Nat) (img : BitVec 512), c.served n s ∧ h = c.a0 63 0 ∧ h < 16384 ∧ img =
      BitVec.ofNat 512 (leAt c.cont 0 64) ∧ 2 ≤ getF img S.histLen ∧ getF img S.histLen ≤ 128 ∧ s.streamContracted h = false)
      ∧
    (∃ (s : State) (n : Fin 64) (c : RingCmd) (h : Nat), c.served n s ∧ h = c.a0 63 0 ∧ h < 16384) ∧
    (∃ (s : State) (n : Fin 64) (c : RingCmd) (h : Nat) (x : Fin 16384), c.served n s ∧ h = c.a0 63 0 ∧ h < 16384 ∧ ↑x = h ∧
      isF (s.srcAt h) S.valid = true ∧ getF (s.srcAt h) S.resetMs ≠ 0 ∧ isF (s.srcAt h) S.takeAny = false) ∧
    (∃ (w : BitVec 512), isF w S.takeAny = true) ∧
    (∃ (w : BitVec 512) (mode : Nat), isF w S.takeAny = false ∧ mode = 1) ∧
    (∃ (w : BitVec 512) (mode : Nat) (q : Nat), isF w S.takeAny = false ∧ mode ≠ 1 ∧ (↑(getF w S.histLen) ≤ srcDiff w q ∨
      srcDiff w q ≤ -↑(getF w S.histLen))) ∧
    (∃ (w : BitVec 512) (mode : Nat) (q : Nat), isF w S.takeAny = false ∧ mode ≠ 1 ∧ -↑(getF w S.histLen) < srcDiff w q ∧
      srcDiff w q ≤ 0) ∧
    (∃ (w : BitVec 512) (mode : Nat) (q : Nat), isF w S.takeAny = false ∧ mode ≠ 1 ∧ 0 < srcDiff w q ∧ srcDiff w q < ↑(getF w
      S.histLen)) ∧
    (∃ (w : BitVec 512) (mode : Nat) (q : Nat), q < 2 ^ 16 ∧ mode ≠ 1 ∧ 2 ≤ getF w S.histLen ∧ getF w S.histLen ≤ 128 ∧
      srcDecide w mode q = SrcDecision.pass) :=
  ⟨
    ⟨W.srcSt, (0 : Fin 64), W.srcCmd, 5, BitVec.ofNat 512 (leAt W.srcCmd.cont 0 64), by unfold RingCmd.served; decide +kernel,
      rfl, by decide +kernel, rfl, by decide +kernel, by decide +kernel, by decide +kernel⟩,
    ⟨W.srcSt, (0 : Fin 64), W.srcCmd, 5, by unfold RingCmd.served; decide +kernel, rfl, by decide +kernel⟩,
    ⟨W.srcSt, (0 : Fin 64), W.srcCmd, 5, (5 : Fin 16384), by unfold RingCmd.served; decide +kernel, rfl, by decide +kernel,
      rfl, by decide +kernel, by decide +kernel, by decide +kernel⟩,
    ⟨W.src 1, by decide +kernel⟩,
    ⟨W.src 0, 1, by decide +kernel, rfl⟩,
    ⟨W.src 0, 0, 2000, by decide +kernel, by decide +kernel, by decide +kernel⟩,
    ⟨W.src 0, 0, 0, by decide +kernel, by decide +kernel, by decide +kernel, by decide +kernel⟩,
    ⟨W.src 0, 0, 1, by decide +kernel, by decide +kernel, by decide +kernel, by decide +kernel⟩,
    ⟨W.src 0, 0, 0, by decide +kernel, by decide +kernel, by decide +kernel, by decide +kernel, by decide +kernel⟩⟩

/-- States and operands that meet the premises of `Obligations.StencilCompletes`, clause by clause. -/
theorem test_witness_StencilCompletes :
    (∃ (s : State) (n : Fin 64) (c : RingCmd) (k : Nat) (a : Asdu) (rest : List Asdu), c.served n s ∧ k = c.a0 63 0 ∧ k < 4096
      ∧ s.rcv.queue = a :: rest ∧ isF (s.stnAt a.stn) T.valid = true ∧ 8 * getF (s.stnAt a.stn) T.chCount ≤ a.data.length ∧
      a.smp < getF (s.stnAt a.stn) T.wrap) ∧
    (∃ (s : State) (n : Fin 64) (c : RingCmd) (k : Nat) (a : Asdu) (rest : List Asdu), c.served n s ∧ k = c.a0 63 0 ∧ k < 4096
      ∧ s.rcv.queue = a :: rest ∧ isF (s.stnAt a.stn) T.valid = true ∧ getF (s.stnAt a.stn) T.wrap ≤ a.smp) ∧
    (∃ (s : State) (n : Fin 64) (c : RingCmd) (k : Nat) (x : Fin 4096) (smp : BitVec 16) (y : Sample), c.served n s ∧ k = c.a0
      63 0 ∧ k < 4096 ∧ (List.find? (fun z => decide (z.smp = smp.toNat)) (s.dyn ↑x).waiting = some y)) ∧
    (∃ (s : State) (n : Fin 64) (c : RingCmd) (k : Nat) (e : BitVec 256), c.served n s ∧ k = c.a0 63 0 ∧ k < 4096 ∧ e = putF
      (putF (BitVec.ofNat 256 (leAt c.cont 0 32)) (⟨243, 240⟩ : BF) 0) (⟨95, 0⟩ : BF) 0 ∧ stnOk e = true ∧ ((List.any
      s.cls.stream fun x => isF x.2 E.strContracted && isF x.2 E.strStnEn && getF x.2 E.strStnIdx == k) = false)) ∧
    (∃ (s : State) (n : Fin 64) (c : RingCmd) (k : Nat), c.served n s ∧ k = c.a0 63 0 ∧ k < 4096) ∧
    (∃ (s : State) (n : Fin 64) (c : RingCmd) (k : Nat), c.served n s ∧ k = c.a0 63 0 ∧ k < 4096) :=
  ⟨
    ⟨W.stnSt 5, (0 : Fin 64), W.stnCmd, W.stnCmd.a0 63 0, (⟨5, 5, 0, W.zeros 8, 0, 0⟩ : Asdu), ([] : List Asdu),
      by unfold RingCmd.served; decide +kernel, rfl, by decide +kernel, by decide +kernel, by decide +kernel,
      by decide +kernel, by decide +kernel⟩,
    ⟨W.stnSt 5000, (0 : Fin 64), W.stnCmd, W.stnCmd.a0 63 0, (⟨5, 5000, 0, W.zeros 8, 0, 0⟩ : Asdu), ([] : List Asdu),
      by unfold RingCmd.served; decide +kernel, rfl, by decide +kernel, by decide +kernel, by decide +kernel,
      by decide +kernel⟩,
    ⟨W.stnSt 5, (0 : Fin 64), W.stnCmd, W.stnCmd.a0 63 0, (5 : Fin 4096), (7 : BitVec 16), (⟨7, [0], 0, 0, 0⟩ : Sample),
      by unfold RingCmd.served; decide +kernel, rfl, by decide +kernel, by decide +kernel⟩,
    ⟨W.stnSt 5, (0 : Fin 64), W.stnCmd, W.stnCmd.a0 63 0, putF (putF (BitVec.ofNat 256 (leAt W.stnCmd.cont 0 32)) (⟨243, 240⟩
      : BF) 0) (⟨95, 0⟩ : BF) 0, by unfold RingCmd.served; decide +kernel, rfl, by decide +kernel, rfl, by decide +kernel,
      by decide +kernel⟩,
    ⟨W.stnSt 5, (0 : Fin 64), W.stnCmd, W.stnCmd.a0 63 0, by unfold RingCmd.served; decide +kernel, rfl, by decide +kernel⟩,
    ⟨W.stnSt 5, (0 : Fin 64), W.stnCmd, W.stnCmd.a0 63 0, by unfold RingCmd.served; decide +kernel, rfl, by decide +kernel⟩⟩

/-- States and operands that meet the premises of `Obligations.PairRolesComplete`, clause by clause. -/
theorem test_witness_PairRolesComplete :
    (∃ (s : State), s.config = 1 ∧ s.op = OpState.run) ∧
    (∃ (s : State) (l : LathLink), s.config = 1 ∧ s.op = OpState.run ∧ s.lathPath l = 0 ∧ s.pair.missA = 2 ∧ s.pair.missB < 3
      ∧ s.pathOk 0 = true) ∧
    (∃ (s : State) (l : LathLink), s.config = 1 ∧ s.op = OpState.run ∧ s.lathPath l = 0 ∧ s.pair.missA = 2 ∧ 3 ≤ s.pair.missB
      ∧ s.role = 2) ∧
    (∃ (s : State) (l : LathLink), s.config = 1 ∧ s.op = OpState.run ∧ s.lathPath l = 0 ∧ s.pair.missA = 2 ∧ 3 ≤ s.pair.missB
      ∧ s.role = 3) ∧
    (∃ (s : State), s.config = 1 ∧ s.op = OpState.run ∧ s.pair.waiting = true ∧ s.role = 0 ∧ s.pair.failed = false) ∧
    (∃ (s : State), s.config = 1 ∧ s.op = OpState.run ∧ s.pair.waiting = true ∧ s.role = 0 ∧ s.pair.failed = true ∧
      s.pair.heard = false) ∧
    (∃ (s : State) (r : LathRec), s.config = 1 ∧ s.op = OpState.run ∧ r.authOk = true ∧ s.role = 2) ∧
    (∃ (s : State) (r : LathRec), s.config = 1 ∧ s.op = OpState.run ∧ r.authOk = true) :=
  ⟨
    ⟨W.missed 3 0 0, by decide +kernel, by decide +kernel⟩,
    ⟨W.missed 3 2 0, LathLink.a, by decide +kernel, by decide +kernel, by decide +kernel, by decide +kernel,
      by decide +kernel, by decide +kernel⟩,
    ⟨W.missed 2 2 3, LathLink.a, by decide +kernel, by decide +kernel, by decide +kernel, by decide +kernel,
      by decide +kernel, by decide +kernel⟩,
    ⟨W.missed 3 2 3, LathLink.a, by decide +kernel, by decide +kernel, by decide +kernel, by decide +kernel,
      by decide +kernel, by decide +kernel⟩,
    ⟨W.started false, by decide +kernel, by decide +kernel, by decide +kernel, by decide +kernel, by decide +kernel⟩,
    ⟨W.started true, by decide +kernel, by decide +kernel, by decide +kernel, by decide +kernel, by decide +kernel,
      by decide +kernel⟩,
    ⟨W.missed 2 2 3, W.hbRec 3, by decide +kernel, by decide +kernel, by decide +kernel, by decide +kernel⟩,
    ⟨W.missed 3 0 0, W.hbRec 3, by decide +kernel, by decide +kernel, by decide +kernel⟩⟩

/-- States and operands that meet the premises of `Obligations.PairCommandsAndHandoverComplete`, clause by clause. -/
theorem test_witness_PairCommandsAndHandoverComplete :
    (∃ (s : State) (n : Fin 64) (c : RingCmd), c.served n s ∧ s.config = 1) ∧
    (∃ (s : State) (n : Fin 64) (c : RingCmd), c.served n s ∧ s.config = 1 ∧ s.op = OpState.setup ∧ s.role ≠ 1 ∧
      s.partnerActive = true) ∧
    (∃ (s : State) (n : Fin 64) (c : RingCmd), c.served n s ∧ s.config = 1 ∧ s.op = OpState.run ∧ s.role = 3 ∧ s.now + 1000000
      ≤ instantOf c.cont ∧ s.pair.handover = none ∧ s.partnerRole = 2) ∧
    (∃ (s : State), s.config = 1 ∧ s.op = OpState.run ∧ s.role = 3) ∧
    (∃ (s : State) (r : LathRec), s.config = 1 ∧ s.op = OpState.run ∧ r.authOk = true ∧ s.role = 2) ∧
    (∃ (s : State) (h : Handover), s.config = 1 ∧ s.op = OpState.run ∧ s.role = 3 ∧ s.pair.handover = some h ∧ h.begun =
      false) ∧
    (∃ (s : State) (h : Handover), s.config = 1 ∧ s.op = OpState.run ∧ s.pair.handover = some h ∧ (∀ (n k : Nat), h.owner =
      some (n, k) → n < 64)) ∧
    (∃ (s : State) (h : Handover), s.config = 1 ∧ s.op = OpState.run ∧ s.pair.handover = some h ∧ s.role = 3) ∧
    (∃ (s : State) (h : Handover), s.config = 1 ∧ s.op = OpState.run ∧ s.pair.handover = some h ∧ s.role = 2) :=
  ⟨
    ⟨W.pair .run 3 [(F.PAIR_STATUS.PARTNER_ROLE, 2)], (0 : Fin 64), W.demote, by unfold RingCmd.served; decide +kernel,
      by decide +kernel⟩,
    ⟨W.pair .setup 0 [(F.PAIR_STATUS.PARTNER_ROLE, 3)], (0 : Fin 64), W.demote, by unfold RingCmd.served; decide +kernel,
      by decide +kernel, by decide +kernel, by decide +kernel, by decide +kernel⟩,
    ⟨W.pair .run 3 [(F.PAIR_STATUS.PARTNER_ROLE, 2)], (0 : Fin 64), W.demote, by unfold RingCmd.served; decide +kernel,
      by decide +kernel, by decide +kernel, by decide +kernel, by decide +kernel, by decide +kernel, by decide +kernel⟩,
    ⟨W.pair .run 3 [(F.PAIR_STATUS.PARTNER_ROLE, 2)], by decide +kernel, by decide +kernel, by decide +kernel⟩,
    ⟨W.pair .run 2 [], W.rec .checkpoint 0 (leBytes 1 1 ++ W.zeros 20), by decide +kernel, by decide +kernel,
      by decide +kernel, by decide +kernel⟩,
    ⟨W.handing 3, (⟨0, false, none⟩ : Handover), by decide +kernel, by decide +kernel, by decide +kernel, by decide +kernel,
      by decide +kernel⟩,
    ⟨W.handing 3, (⟨0, false, none⟩ : Handover), by decide +kernel, by decide +kernel, by decide +kernel,
      fun _ _ h => nomatch h⟩,
    ⟨W.handing 3, (⟨0, false, none⟩ : Handover), by decide +kernel, by decide +kernel, by decide +kernel, by decide +kernel⟩,
    ⟨W.handing 2, (⟨0, false, none⟩ : Handover), by decide +kernel, by decide +kernel, by decide +kernel, by decide +kernel⟩⟩

/-- States and operands that meet the premises of `Obligations.TwinDigestsComplete`, clause by clause. -/
theorem test_witness_TwinDigestsComplete :
    (∃ (s : State) (p : Fin 96), s.config = 1 ∧ s.op = OpState.run ∧ (s.role = 2 ∨ s.role = 3) ∧ s.twinHeld ↑p = true ∧
      s.listRuns ↑p = true ∧ (s.line ↑p).now = none) ∧
    (∃ (s : State) (p : Fin 96) (r : LathRec), s.config = 1 ∧ s.op = OpState.run ∧ (s.role = 2 ∨ s.role = 3) ∧ s.twinHeld ↑p =
      true ∧ r.authOk = true ∧ leAt r.payload 0 1 = ↑p ∧ (s.twin ↑p).cycle ≤ leAt r.payload 1 8) ∧
    (∃ (s : State) (p : Fin 96) (e : Nat × Nat × Nat), s.config = 1 ∧ s.op = OpState.run ∧ (s.role = 2 ∨ s.role = 3) ∧
      s.twinHeld ↑p = true ∧ (s.twin ↑p).own = [e]) ∧
    (∃ (p : Nat) (a : Nat) (b : Nat) (c : Nat) (d : Nat), p < 96 ∧ a = c ∧ b = d) ∧
    (∃ (s : State) (p : Nat) (a : Nat) (b : Nat) (c : Nat) (d : Nat), p < 96 ∧ (a ≠ c ∨ b ≠ d) ∧ (s.twin p).posted ≠ s.sec +
      1) ∧
    (∃ (s : State) (p : Nat) (a : Nat) (b : Nat) (c : Nat) (d : Nat), p < 96 ∧ (a ≠ c ∨ b ≠ d) ∧ (s.twin p).posted ≠ s.sec +
      1) ∧
    (∃ (s : State) (p : Nat) (a : Nat) (b : Nat) (c : Nat) (d : Nat), p < 96 ∧ (a ≠ c ∨ b ≠ d) ∧ (s.twin p).posted = s.sec +
      1) :=
  ⟨
    ⟨W.twinRun, (0 : Fin 96), by decide +kernel, by decide +kernel, by decide +kernel, by decide +kernel, by decide +kernel,
      by decide +kernel⟩,
    ⟨W.twinRun, (0 : Fin 96), W.rec .digest 0 (W.zeros 21), by decide +kernel, by decide +kernel, by decide +kernel,
      by decide +kernel, by decide +kernel, by decide +kernel, by decide +kernel⟩,
    ⟨W.twinOwn, (0 : Fin 96), ((0, 1, 1) : Nat × Nat × Nat), by decide +kernel, by decide +kernel, by decide +kernel,
      by decide +kernel, by decide +kernel⟩,
    ⟨0, 0, 0, 0, 0, by decide +kernel, rfl, rfl⟩,
    ⟨W.twinRun, 0, 0, 0, 1, 0, by decide +kernel, by decide +kernel, by decide +kernel⟩,
    ⟨W.twinRun, 0, 0, 0, 1, 0, by decide +kernel, by decide +kernel, by decide +kernel⟩,
    ⟨W.twinPosted 1, 0, 0, 0, 1, 0, by decide +kernel, by decide +kernel, by decide +kernel⟩⟩

/-- States and operands that meet the premises of `Obligations.PairRefillCompletes`, clause by clause. -/
theorem test_witness_PairRefillCompletes :
    (∃ (s : State) (r : LathRec), s.config = 1 ∧ (s.op = OpState.setup ∨ s.op = OpState.run) ∧ r.authOk = true ∧ (s.role = 3 ∨
      s.role = 4)) ∧
    (∃ (s : State) (r : LathRec), s.config = 1 ∧ (s.op = OpState.setup ∨ s.op = OpState.run) ∧ r.authOk = true ∧ s.role = 1 ∧
      leAt r.payload 0 1 = 4) ∧
    (∃ (s : State) (r : LathRec), s.config = 1 ∧ (s.op = OpState.setup ∨ s.op = OpState.run) ∧ r.authOk = true ∧ s.role = 1 ∧
      leAt r.payload 0 1 = 5) :=
  ⟨
    ⟨W.pair .run 3 [], W.rec .refill 0 (leBytes 1 4 ++ W.zeros 68), by decide +kernel, by decide +kernel, by decide +kernel,
      by decide +kernel⟩,
    ⟨W.pair .setup 1 [], W.rec .refill 0 (leBytes 1 4 ++ W.zeros 68), by decide +kernel, by decide +kernel, by decide +kernel,
      by decide +kernel, by decide +kernel⟩,
    ⟨W.pair .setup 1 [], W.rec .refill 0 (leBytes 1 5 ++ W.zeros 4), by decide +kernel, by decide +kernel, by decide +kernel,
      by decide +kernel, by decide +kernel⟩⟩

/-- States and operands that meet the premises of `Obligations.DomainPresenceAndRingsComplete`, clause by clause. -/
theorem test_witness_DomainPresenceAndRingsComplete :
    (∃ (s : State), s.config = 2 ∧ 3 ≤ s.op.code) ∧
    (∃ (s : State) (l : LathLink) (r : LathRec), s.config = 2 ∧ s.arrives Kind.discover l r = true ∧ s.dom.claiming = false ∧
      (leAt r.payload 2 1 == OpState.load.code && Tbl.atN s.dom.states ↑r.src != leAt r.payload 2 1 + 1) = false) ∧
    (∃ (s : State), s.config = 2 ∧ s.op = OpState.load ∧ s.dom.claiming = true ∧ s.dom.dup = false) ∧
    (∃ (s : State), s.config = 2 ∧ 4 ≤ s.op.code) ∧
    (∃ (s : State) (l : LathLink) (r : LathRec), s.config = 2 ∧ s.acting Kind.hb l r) ∧
    (∃ (s : State) (j : Fin 64), s.config = 2 ∧ 4 ≤ s.op.code ∧ s.isHawk = true ∧ natBit s.presentMap ↑j = true ∧ ↑j ≠
      s.index) ∧
    (∃ (s : State) (j : Fin 64), s.config = 2 ∧ 4 ≤ s.op.code ∧ s.isHawk = false ∧ s.dom.hawk = ↑j + 1 ∧ s.on
      F.DOM_STATUS.HAWK_HEARD = true) ∧
    (∃ (s : State) (l : LathLink), s.config = 2 ∧ s.on (linkFld l) = true) ∧
    (∃ (s : State) (l : LathLink), s.config = 2 ∧ 3 ≤ s.op.code ∧ s.op ≠ OpState.fault ∧ s.on (linkFld l) = false) ∧
    (∃ (s : State) (l : LathLink) (r : LathRec), s.config = 2 ∧ 3 ≤ s.op.code ∧ s.on (linkFld l) = true ∧ (s.on (linkFld (if
      (l == LathLink.a) = true then LathLink.b else LathLink.a)) = true) ∧ ↑r.src ≠ s.index ∧ r.dst ≠ s.index ∧ r.dst ≠ 126 ∧
      r.kind ≠ Kind.discover.num ∧ r.kind ≠ Kind.fwData.num) :=
  ⟨
    ⟨W.hawk .run [], by decide +kernel, by decide +kernel⟩,
    ⟨W.hawk .run [], LathLink.a, W.rec .discover 0x7F [3, 1, 5, 0], by decide +kernel, by decide +kernel, by decide +kernel,
      by decide +kernel⟩,
    ⟨W.claims, by decide +kernel, by decide +kernel, by decide +kernel, by decide +kernel⟩,
    ⟨W.hawk .run [], by decide +kernel, by decide +kernel⟩,
    ⟨W.hawk .run [], LathLink.a, W.rec .hb 0x7F ([3, 5] ++ W.zeros 10), by decide +kernel,
      by unfold State.acting; decide +kernel⟩,
    ⟨W.hawk .run [], (3 : Fin 64), by decide +kernel, by decide +kernel, by decide +kernel, by decide +kernel,
      by decide +kernel⟩,
    ⟨W.memb .run [], (3 : Fin 64), by decide +kernel, by decide +kernel, by decide +kernel, by decide +kernel,
      by decide +kernel⟩,
    ⟨W.hawk .run [], LathLink.a, by decide +kernel, by decide +kernel⟩,
    ⟨W.dom .load [(F.DOM_STATUS.LINK_A_OK, 0), (F.DOM_STATUS.WRAPPED, 1)], LathLink.a, by decide +kernel, by decide +kernel,
      by decide +kernel, by decide +kernel⟩,
    ⟨W.hawk .run [], LathLink.a, W.rec .hb 0x7F ([3, 5] ++ W.zeros 10), by decide +kernel, by decide +kernel,
      by decide +kernel, by decide +kernel, by decide +kernel, by decide +kernel, by decide +kernel, by decide +kernel,
      by decide +kernel⟩⟩

/-- States and operands that meet the premises of `Obligations.DomainRelayComplete`, clause by clause. -/
theorem test_witness_DomainRelayComplete :
    (∃ (s : State) (l : LathLink) (r : LathRec) (x : Relay) (u : State), s.config = 2 ∧ s.acting Kind.ack l r ∧ u = s.heardAs
      Kind.ack l r ∧ (List.find? (fun x => x.seq == leAt r.payload 0 4 && (x.dst == ↑r.src || x.dst == 127)) u.dom.relays =
      some x) ∧ x.dst ≠ 127 ∧ awaits x = false ∧ x.owner = none) ∧
    (∃ (s : State) (q : BitVec 32) (x : Relay), s.config = 2 ∧ (List.find? (fun x => x.seq == q.toNat && !x.acked)
      s.dom.relays = some x) ∧ x.tries < 3) ∧
    (∃ (s : State) (q : BitVec 32) (x : Relay), s.config = 2 ∧ (List.find? (fun x => x.seq == q.toNat && !x.acked)
      s.dom.relays = some x) ∧ 3 ≤ x.tries) ∧
    (∃ (s : State) (x : BitVec 23), s.config = 2 ∧ s.isHawk = true ∧ s.regsOpen = true ∧ x.toNat % 4 = 0 ∧ s.relayTarget ≠
      s.index ∧ natBit s.presentMap s.relayTarget = true) ∧
    (∃ (s : State) (x : BitVec 23), s.config = 2 ∧ s.isHawk = true ∧ x.toNat % 4 = 0 ∧ s.relayTarget ≠ s.index ∧ natBit
      s.presentMap s.relayTarget = true) ∧
    (∃ (s : State) (l : LathLink) (r : LathRec), s.config = 2 ∧ s.acting Kind.reg l r ∧ leAt r.payload 0 1 = 2 ∧
      s.dom.reads.contains (leAt r.payload 1 4, ↑r.src) = true) ∧
    (∃ (s : State) (q : BitVec 32) (e : Nat × Nat), s.config = 2 ∧ s.isHawk = true ∧ (List.find? (fun e => e.1 == q.toNat)
      s.dom.reads = some e)) ∧
    (∃ (s : State) (l : LathLink) (r : LathRec) (u : State), s.config = 2 ∧ s.acting Kind.reg l r ∧ u = s.heardAs Kind.reg l r
      ∧ s.dom.hawk = ↑r.src + 1 ∧ leAt r.payload 0 1 = 1 ∧ leAt r.payload 1 4 < 8388608) ∧
    (∃ (s : State) (l : LathLink) (r : LathRec) (u : State), s.config = 2 ∧ s.acting Kind.reg l r ∧ u = s.heardAs Kind.reg l r
      ∧ s.dom.hawk = ↑r.src + 1 ∧ leAt r.payload 0 1 = 0) :=
  ⟨
    ⟨W.relays (W.hawk .run []) [W.relayReg 0], LathLink.a, W.toMe .ack (leBytes 4 7), W.relayReg 0, (W.relays (W.hawk .run [])
      [W.relayReg 0]).heardAs .ack .a (W.toMe .ack (leBytes 4 7)), by decide +kernel, by unfold State.acting; decide +kernel,
      rfl, by decide +kernel, by decide +kernel, by decide +kernel, by decide +kernel⟩,
    ⟨W.relays (W.hawk .run []) [W.relayReg 0], (7 : BitVec 32), W.relayReg 0, by decide +kernel, by decide +kernel,
      by decide +kernel⟩,
    ⟨W.relays (W.hawk .run []) [W.relayReg 3], (7 : BitVec 32), W.relayReg 3, by decide +kernel, by decide +kernel,
      by decide +kernel⟩,
    ⟨W.relays (W.hawk .run []) [W.relayReg 0], (8 : BitVec 23), by decide +kernel, by decide +kernel, by decide +kernel,
      by decide +kernel, by decide +kernel, by decide +kernel⟩,
    ⟨W.relays (W.hawk .run []) [W.relayReg 0], (8 : BitVec 23), by decide +kernel, by decide +kernel, by decide +kernel,
      by decide +kernel, by decide +kernel⟩,
    ⟨W.reading, LathLink.a, W.toMe .reg ([2] ++ leBytes 4 7 ++ leBytes 4 0), by decide +kernel,
      by unfold State.acting; decide +kernel, by decide +kernel, by decide +kernel⟩,
    ⟨W.reading, (7 : BitVec 32), ((7, 3) : Nat × Nat), by decide +kernel, by decide +kernel, by decide +kernel⟩,
    ⟨W.memb .run [], LathLink.a, W.toMe .reg ([1] ++ leBytes 4 8 ++ leBytes 4 0), (W.memb .run []).heardAs .reg .a (W.toMe
      .reg ([1] ++ leBytes 4 8 ++ leBytes 4 0)), by decide +kernel, by unfold State.acting; decide +kernel, rfl,
      by decide +kernel, by decide +kernel, by decide +kernel⟩,
    ⟨W.memb .run [], LathLink.a, W.toMe .reg ([0] ++ leBytes 4 8), (W.memb .run []).heardAs .reg .a (W.toMe .reg ([0] ++
      leBytes 4 8)), by decide +kernel, by unfold State.acting; decide +kernel, rfl, by decide +kernel, by decide +kernel⟩⟩

/-- States and operands that meet the premises of `Obligations.DomainRecordsComplete`, clause by clause. -/
theorem test_witness_DomainRecordsComplete :
    (∃ (s : State) (u : State) (l : LathLink) (r : LathRec) (g : Nat) (op : Nat) (c : RingCmd) (v : State) (d : Reply),
      s.config = 2 ∧ s.acting Kind.cmd l r ∧ u = s.heardAs Kind.cmd l r ∧ s.isHawk = false ∧ cmdOf r.payload = (g, op, c) ∧
      u.runRelayed g op c = (v, d) ∧ d.bufOut = []) ∧
    (∃ (s : State) (u : State) (l : LathLink) (r : LathRec), s.config = 2 ∧ r.kind = Kind.dma.num ∧ s.acting Kind.dma l r ∧ u
      = s.heardAs Kind.dma l r ∧ s.isHawk = true) ∧
    (∃ (s : State) (u : State) (l : LathLink) (r : LathRec), s.config = 2 ∧ r.kind = Kind.evt.num ∧ s.acting Kind.evt l r ∧ u
      = s.heardAs Kind.evt l r ∧ s.isHawk = true ∧ (evRecOf r.payload ↑r.src).block ≠ 12) ∧
    (∃ (s : State) (u : State) (l : LathLink) (r : LathRec) (q : Nat), s.config = 2 ∧ s.acting Kind.exc l r ∧ u = s.heardAs
      Kind.exc l r ∧ s.isHawk = false ∧ q = leAt r.payload 0 1 ∧ q < 96 ∧ natBit (leAt r.payload 1 1) 4 = false) ∧
    (∃ (s : State) (l : LathLink) (r : LathRec), s.config = 2 ∧ s.arrives Kind.fwStart l r = true ∧ s.isMember = true ∧ s.op =
      OpState.load ∧ s.fld F.HOST_STATUS.LINK ≠ 2 ∧ s.dom.dup = false ∧ s.boot.loadBlocked = false ∧ s.fwStatus ≠ 15 ∧
      s.heardIt r = false) ∧
    (∃ (s : State) (l : LathLink) (r : LathRec), s.config = 2 ∧ s.arrives Kind.fwData l r = true ∧ s.isMember = true ∧ s.op =
      OpState.load ∧ s.heardIt r = false ∧ s.fwStatus = 1 ∧ leAt r.payload 0 4 = s.boot.image.length) ∧
    (∃ (s : State) (l : LathLink) (r : LathRec), s.config = 2 ∧ s.arrives Kind.loadStatus l r = true ∧ s.isHawk = true ∧
      s.heardIt r = false) ∧
    (∃ (s : State) (u : State) (l : LathLink) (r : LathRec), s.config = 2 ∧ s.acting Kind.domReset l r ∧ u = s.heardAs
      Kind.domReset l r ∧ s.isHawk = false) :=
  ⟨
    ⟨W.memb .run [], (W.memb .run []).heardAs .cmd .a (W.toMe .cmd W.cmdPayload), LathLink.a, W.toMe .cmd W.cmdPayload, 3, 0,
      (cmdOf W.cmdPayload).2.2, (((W.memb OpState.run []).heardAs Kind.cmd LathLink.a (W.toMe Kind.cmd
      W.cmdPayload)).runRelayed 3 0 (cmdOf W.cmdPayload).2.2).1, (((W.memb OpState.run []).heardAs Kind.cmd LathLink.a (W.toMe
      Kind.cmd W.cmdPayload)).runRelayed 3 0 (cmdOf W.cmdPayload).2.2).2, by decide +kernel,
      by unfold State.acting; decide +kernel, rfl, by decide +kernel, by decide +kernel, rfl, by decide +kernel⟩,
    ⟨W.hawk .run [], (W.hawk .run []).heardAs .dma .a (W.toMe .dma (W.zeros 16)), LathLink.a, W.toMe .dma (W.zeros 16),
      by decide +kernel, by decide +kernel, by unfold State.acting; decide +kernel, rfl, by decide +kernel⟩,
    ⟨W.hawk .run [], (W.hawk .run []).heardAs .evt .a (W.toMe .evt (W.zeros 32)), LathLink.a, W.toMe .evt (W.zeros 32),
      by decide +kernel, by decide +kernel, by unfold State.acting; decide +kernel, rfl, by decide +kernel,
      by decide +kernel⟩,
    ⟨W.memb .run [], (W.memb .run []).heardAs .exc .a (W.toMe .exc (W.zeros 62)), LathLink.a, W.toMe .exc (W.zeros 62), 0,
      by decide +kernel, by unfold State.acting; decide +kernel, rfl, by decide +kernel, rfl, by decide +kernel,
      by decide +kernel⟩,
    ⟨W.memb .load [], LathLink.a, W.toMe .fwStart (W.zeros 16), by decide +kernel, by decide +kernel, by decide +kernel,
      by decide +kernel, by decide +kernel, by decide +kernel, by decide +kernel, by decide +kernel, by decide +kernel⟩,
    ⟨W.fwLoading, LathLink.a, W.toMe .fwData (W.zeros 8), by decide +kernel, by decide +kernel, by decide +kernel,
      by decide +kernel, by decide +kernel, by decide +kernel, by decide +kernel⟩,
    ⟨W.hawk .load [], LathLink.a, W.toMe .loadStatus (W.zeros 4), by decide +kernel, by decide +kernel, by decide +kernel,
      by decide +kernel⟩,
    ⟨W.memb .run [], (W.memb .run []).heardAs .domReset .a (W.toMe .domReset [5]), LathLink.a, W.toMe .domReset [5],
      by decide +kernel, by unfold State.acting; decide +kernel, rfl, by decide +kernel⟩⟩

/-- States and operands that meet the premises of `Obligations.ActivationCompletes`, clause by clause. -/
theorem test_witness_ActivationCompletes :
    (∃ (s : State), s.config = 2 ∧ 4 ≤ s.op.code ∧ s.isHawk = false) ∧
    (∃ (s : State) (l : LathLink) (r : LathRec), s.config = 2 ∧ s.acting Kind.screed l r ∧ s.isHawk = false) ∧
    (∃ (s : State) (l : LathLink) (r : LathRec), s.config = 2 ∧ s.acting Kind.prepare l r ∧ s.hawkHeard = true) ∧
    (∃ (s : State) (u : State) (l : LathLink) (r : LathRec), s.config = 2 ∧ s.acting Kind.report l r ∧ u = s.heardAs
      Kind.report l r ∧ s.isHawk = true) ∧
    (∃ (s : State) (x : Prep), s.config = 2 ∧ s.dom.prep = some x ∧ s.isHawk = true ∧ x.sent = none ∧ (∀ (n k : Nat), x.owner
      = some (n, k) → n < 64)) ∧
    (∃ (s : State) (l : LathLink) (r : LathRec), s.config = 2 ∧ s.acting Kind.abort l r ∧ s.hawkHeard = true ∧ s.dom.frozen =
      true ∧ s.dom.armed = none) ∧
    (∃ (s : State) (l : LathLink) (r : LathRec), s.config = 2 ∧ s.acting Kind.activate l r ∧ s.hawkHeard = true ∧
      s.dom.prepared = some (instantOf r.payload) ∧ s.now + 10000 ≤ instantOf r.payload) ∧
    (∃ (s : State) (at_ : Nat), s.config = 2 ∧ s.dom.armed = some at_ ∧ at_ ≤ s.now) ∧
    (∃ (s : State) (d : Fin 15), s.config = 2 ∧ 2 ≤ s.op.code ∧ ↑d ≠ 2 ∧ ↑d < 11) :=
  ⟨
    ⟨W.memb .run [], by decide +kernel, by decide +kernel, by decide +kernel⟩,
    ⟨W.memb .run [], LathLink.a, W.toMe .screed (W.zeros 39), by decide +kernel, by unfold State.acting; decide +kernel,
      by decide +kernel⟩,
    ⟨W.memb .run [], LathLink.a, W.toMe .prepare (W.zeros 10), by decide +kernel, by unfold State.acting; decide +kernel,
      by decide +kernel⟩,
    ⟨W.preparing, (W.preparing).heardAs .report .a (W.toMe .report (W.zeros 20)), LathLink.a, W.toMe .report (W.zeros 20),
      by decide +kernel, by unfold State.acting; decide +kernel, rfl, by decide +kernel⟩,
    ⟨W.preparing, W.prep, by decide +kernel, by decide +kernel, by decide +kernel, by decide +kernel, fun _ _ h => nomatch h⟩,
    ⟨W.prepared 0, LathLink.a, W.toMe .abort [], by decide +kernel, by unfold State.acting; decide +kernel, by decide +kernel,
      by decide +kernel, by decide +kernel⟩,
    ⟨W.prepared 1000000000, LathLink.a, W.toMe .activate (leBytes 6 1 ++ leBytes 4 0), by decide +kernel,
      by unfold State.acting; decide +kernel, by decide +kernel, by decide +kernel, by decide +kernel⟩,
    ⟨W.armed 0, 0, by decide +kernel, by decide +kernel, by decide +kernel⟩,
    ⟨W.preparing, (3 : Fin 15), by decide +kernel, by decide +kernel, by decide +kernel, by decide +kernel⟩⟩

/-- States and operands that meet the premises of `Obligations.DomainCommandsComplete`, clause by clause. -/
theorem test_witness_DomainCommandsComplete :
    (∃ (s : State) (n : Nat) (c : RingCmd), s.domRing c = some n ∧ 2576 ≤ c.bufLen.toNat) ∧
    (∃ (s : State) (n : Nat) (c : RingCmd) (bs : List Byte), s.domRing c = some n ∧ c.bufIn = some bs ∧ 16 * (devicesOf
      c.arg0.toNat).length ≤ c.bufLen.toNat) ∧
    (∃ (s : State) (n : Nat) (c : RingCmd) (t : State) (k : Nat), s.domRing c = some n ∧ s.prepareRefusal c = none ∧ s.owe n
      c.tag 9 2 = (t, k)) ∧
    (∃ (s : State) (n : Nat) (c : RingCmd), s.domRing c = some n ∧ s.dom.prep = none) ∧
    (∃ (s : State) (n : Nat) (c : RingCmd) (x : Prep) (v : BitVec 4) (t : State), s.domRing c = some n ∧ s.dom.prep = some x ∧
      x.sent = none ∧ s.draw 4 = (v, t)) ∧
    (∃ (s : State) (n : Nat) (c : RingCmd), s.domRing c = some n ∧ c.arg0 = BitVec.ofNat 64 (2 ^ s.index) ∧ s.on
      F.DOM_STATUS.PREPARING = false) ∧
    (∃ (s : State) (n : Nat) (c : RingCmd), s.domRing c = some n ∧ 2 ≤ s.dom.clean) ∧
    (∃ (s : State) (n : Nat) (c : RingCmd), s.domRing c = some n ∧ c.a0 6 0 = 127) :=
  ⟨
    ⟨W.hawk .run [], 0, W.domCmd 0x7F [], by decide +kernel, by decide +kernel⟩,
    ⟨W.hawk .run [], 0, W.domCmd 0x7F [], W.zeros 64, by decide +kernel, by decide +kernel, by decide +kernel⟩,
    ⟨W.ready2, 0, W.domCmd 0x20 (leBytes 6 1 ++ leBytes 4 0 ++ leBytes 8 0x20), (W.ready2.owe 0 (W.domCmd 32 (leBytes 6 1 ++
      leBytes 4 0 ++ leBytes 8 32)).tag 9 2).1, (W.ready2.owe 0 (W.domCmd 32 (leBytes 6 1 ++ leBytes 4 0 ++ leBytes 8 32)).tag
      9 2).2, by decide +kernel, by decide +kernel, rfl⟩,
    ⟨W.hawk .run [], 0, W.domCmd 0x7F [], by decide +kernel, by decide +kernel⟩,
    ⟨W.preparing, 0, W.domCmd 0x20 [], W.prep, (W.preparing.draw 4).1, (W.preparing.draw 4).2, by decide +kernel,
      by decide +kernel, by decide +kernel, rfl⟩,
    ⟨W.hawk .run [], 0, W.domCmd 0x20 [], by decide +kernel, by decide +kernel, by decide +kernel⟩,
    ⟨W.cleanDom, 0, W.domCmd 0x20 [], by decide +kernel, by decide +kernel⟩,
    ⟨W.hawk .run [], 0, W.domCmd 0x7F [], by decide +kernel, by decide +kernel⟩⟩

/-- States and operands that meet the premises of `Obligations.MemoryReadsAndWritesComplete`, clause by clause. -/
theorem test_witness_MemoryReadsAndWritesComplete :
    (∃ (s : State) (m : MemRead) (k : Nat), s.region m.line = some k ∧ k ≠ 4 ∧ k ≠ 5 ∧ s.reaches m.requester k false = true ∧
      s.accessWaits k m.line = false ∧ (s.mem.raw && s.on (F.MEM_RGN_ATTR.PRIV k)) = false ∧ s.poisoned m.line = false ∧
      m.outcome = LineOutcome.clean) ∧
    (∃ (s : State) (m : MemRead) (k : Nat), s.region m.line = some k ∧ k ≠ 4 ∧ k ≠ 5 ∧ s.reaches m.requester k false = true ∧
      s.accessWaits k m.line = false ∧ (s.mem.raw && s.on (F.MEM_RGN_ATTR.PRIV k)) = false ∧ s.poisoned m.line = true) ∧
    (∃ (s : State) (m : MemRead) (k : Nat), s.region m.line = some k ∧ k ≠ 4 ∧ k ≠ 5 ∧ s.reaches m.requester k false = false)
      ∧
    (∃ (s : State) (m : MemRead) (k : Nat), s.region m.line = some k ∧ k ≠ 4 ∧ k ≠ 5 ∧ s.accessWaits k m.line = false) ∧
    (∃ (s : State) (w : MemWrite) (k : Nat), s.region w.line = some k ∧ (k = 0 ∨ k = 3 ∨ k = 7 ∨ k = 8) ∧ s.rgnClass k ≠ 2 ∧
      s.reaches w.requester k true = true ∧ s.accessWaits k w.line = false ∧ (s.mem.raw && s.on (F.MEM_RGN_ATTR.PRIV k)) =
      false ∧ w.off = 0 ∧ w.data.length = 64) :=
  ⟨
    ⟨W.calm, W.mread 4849664 .clean .gheor, 7, by decide +kernel, by decide +kernel, by decide +kernel, by decide +kernel,
      by decide +kernel, by decide +kernel, by decide +kernel, by decide +kernel⟩,
    ⟨W.calmPoisoned, W.mread 4849664 .clean .gheor, 7, by decide +kernel, by decide +kernel, by decide +kernel,
      by decide +kernel, by decide +kernel, by decide +kernel, by decide +kernel⟩,
    ⟨W.calm, W.mread 4849664 .clean .hostOther, 7, by decide +kernel, by decide +kernel, by decide +kernel,
      by decide +kernel⟩,
    ⟨W.calm, W.mread 4849664 .clean .gheor, 7, by decide +kernel, by decide +kernel, by decide +kernel, by decide +kernel⟩,
    ⟨W.calm, (⟨4849664, 0, W.zeros 64, .clean, .gheor⟩ : MemWrite), 7, by decide +kernel, by decide +kernel,
      by decide +kernel, by decide +kernel, by decide +kernel, by decide +kernel, by decide +kernel, by decide +kernel⟩⟩

/-- States and operands that meet the premises of `Obligations.MemoryEventsComplete`, clause by clause. -/
theorem test_witness_MemoryEventsComplete :
    (∃ (s : State) (n : Nat), s.mem.lost.contains n = true ∧ s.mem.majorHigh < 2 ^ 48 - 1) ∧
    (∃ (s : State) (hot : Bool), s.on F.MEM_STATUS.HOT ≠ hot) ∧
    (∃ (s : State), s.on F.MEM_STATUS.STRIP_BUSY = true) :=
  ⟨
    ⟨W.lostNode, 3, by decide +kernel, by decide +kernel⟩,
    ⟨W.lostNode, true, by decide +kernel⟩,
    ⟨W.lostNode, by decide +kernel⟩⟩

/-- States and operands that meet the premises of `Obligations.MemoryPassesComplete`, clause by clause. -/
theorem test_witness_MemoryPassesComplete :
    (∃ (s : State) (v : Word) (regions : List Nat), (regions = allBelow (fun k => (natBits (BitVec.toNat v) 8 0).testBit k) 9)
      ∧ s.regsOpen = true ∧ natBit (BitVec.toNat v) 31 = true ∧ natBit (BitVec.toNat v) 5 = false ∧ regions ≠ [] ∧ s.on
      F.MEM_STATUS.SKIM_BUSY = false ∧ s.on F.MEM_STATUS.STRIP_BUSY = false ∧ regions.length ≤ s.freeIds.length ∧
      s.alarm.stopped.testBit 4 = false) ∧
    (∃ (s : State) (x : Skim) (l : Nat) (k : Nat) (i : Nat), s.mem.skim = some x ∧ x.stopped = false ∧ s.alarm.stopped.testBit
      4 = false ∧ s.skimNext x.ids (s.fld F.MEM_SKIM_LINE.LINE) = some (l, k, i) ∧ s.accessWaits k l = false ∧ l + 32 <
      s.rgnBase k + s.rgnSize k ∧ l + 32 < 2 ^ 28) ∧
    (∃ (s : State) (v : Word), s.op = OpState.setup ∧ natBit (BitVec.toNat v) 31 ≠ s.on F.MEM_CFG.DBUF_T ∧ (natBit
      (BitVec.toNat v) 31 = true ∨ s.fuse 136 136 = 0)) ∧
    (∃ (s : State) (a : RawAccess) (k : Nat), s.region a.line = some k ∧ a.write = none ∧ s.on F.BOOT_STATUS.DEBUG_OPEN = true
      ∧ natBit s.debugRights 3 = true ∧ s.mem.raw = false ∧ s.op = OpState.run) ∧
    (∃ (s : State) (a : RawAccess) (k : Nat), s.region a.line = some k ∧ a.write = none ∧ s.on F.BOOT_STATUS.DEBUG_OPEN = true
      ∧ natBit s.debugRights 3 = true ∧ s.mem.raw = true) :=
  ⟨
    ⟨W.calm, (0x80000001 : Word), allBelow (fun k => (natBits (BitVec.toNat 2147483649) 8 0).testBit k) 9, rfl,
      by decide +kernel, by decide +kernel, by decide +kernel, by decide +kernel, by decide +kernel, by decide +kernel,
      by decide +kernel, by decide +kernel⟩,
    ⟨W.skimming, (⟨[(0, 8)], false⟩ : Skim), 0, 0, 8, by decide +kernel, by decide +kernel, by decide +kernel,
      by decide +kernel, by decide +kernel, by decide +kernel, by decide +kernel⟩,
    ⟨W.setup, (0x80000001 : Word), by decide +kernel, by decide +kernel, by decide +kernel⟩,
    ⟨W.debug false, (⟨0, none⟩ : RawAccess), 0, by decide +kernel, by decide +kernel, by decide +kernel, by decide +kernel,
      by decide +kernel, by decide +kernel⟩,
    ⟨W.debug true, (⟨0, none⟩ : RawAccess), 0, by decide +kernel, by decide +kernel, by decide +kernel, by decide +kernel,
      by decide +kernel⟩⟩

/-- States and operands that meet the premises of `Obligations.HostLinkCompletes`, clause by clause. -/
theorem test_witness_HostLinkCompletes :
    (∃ (s : State) (x : UcieTrain), s.corePowered = true ∧ s.boot.inReset = none ∧ s.fld F.HOST_STATUS.LINK ≠ 2 ∧ s.config ≠ 2
      ∧ (if s.straps.uciePkg = true then ↑x.width ≠ 0 else ↑x.width = 0)) ∧
    (∃ (s : State), s.corePowered = true ∧ s.boot.inReset = none ∧ s.fld F.HOST_STATUS.LINK ≠ 2) ∧
    (∃ (s : State), s.corePowered = true ∧ s.boot.inReset = none ∧ s.fld F.HOST_STATUS.LINK = 2 ∧ s.op = OpState.run) ∧
    (∃ (s : State) (n : Fin 64), s.corePowered = true ∧ s.boot.inReset = none ∧ s.running ↑n = true) ∧
    (∃ (s : State) (fn : Fin 3), s.corePowered = true ∧ s.boot.inReset = none ∧ ↑fn ≠ 0 ∧ s.op ≠ OpState.rom) ∧
    (∃ (s : State), s.corePowered = true ∧ s.boot.inReset = none) :=
  ⟨
    ⟨W.run, (⟨1, 0⟩ : UcieTrain), by decide +kernel, by decide +kernel, by decide +kernel, by decide +kernel,
      by decide +kernel⟩,
    ⟨W.run, by decide +kernel, by decide +kernel, by decide +kernel⟩,
    ⟨W.linked [], by decide +kernel, by decide +kernel, by decide +kernel, by decide +kernel⟩,
    ⟨W.ringOn 0 0 W.posted, (0 : Fin 64), by decide +kernel, by decide +kernel, by decide +kernel⟩,
    ⟨W.run, (1 : Fin 3), by decide +kernel, by decide +kernel, by decide +kernel, by decide +kernel⟩,
    ⟨W.run, by decide +kernel, by decide +kernel⟩⟩

/-- States and operands that meet the premises of `Obligations.RingControlAndFetchComplete`, clause by clause. -/
theorem test_witness_RingControlAndFetchComplete :
    (∃ (s : State) (n : Fin 64), s.regsOpen = true ∧ s.running ↑n = false ∧ (s.ring ↑n).fresh = true ∧ s.kindOk ↑n = true ∧
      s.kind ↑n ≠ 1) ∧
    (∃ (s : State), s.regsOpen = true) ∧
    (∃ (s : State) (n : Fin 64), s.running ↑n = true ∧ s.on (F.RING_CTL.EN ↑n) = false ∧ (s.ring ↑n).owed = []) ∧
    (∃ (s : State) (n : Fin 64), s.regsOpen = true ∧ s.running ↑n = false) ∧
    (∃ (s : State) (n : Fin 64) (fn : Fin 3), s.doorbell fn ↑n = true) ∧
    (∃ (s : State) (n : Fin 64) (fn : Fin 3) (v : Word) (h : Nat) (u : Nat), s.doorbell fn ↑n = true ∧ natBit (BitVec.toNat v)
      31 = false ∧ h = natBits (BitVec.toNat v) 14 0 % s.cqSize ↑n ∧ u = (s.fld (F.RING_HEADS.CQ_WRITE ↑n) + s.cqSize ↑n - h)
      % s.cqSize ↑n) ∧
    (∃ (s : State) (n : Fin 64), (s.ring ↑n).armed = true ∧ 0 < (s.ring ↑n).unsignalled ∧ s.fld (F.RING_COAL.COAL_TIME ↑n) ≠
      0) ∧
    (∃ (s : State) (n : Fin 64) (d : List Byte) (k : Nat) (g : Nat) (op : Nat), s.fetchesNow ↑n = true ∧ s.kind ↑n = 0 ∧ k =
      natBits (leAt d 0 4) 15 12 ∧ g = natBits (leAt d 0 4) 31 28 ∧ op = natBits (leAt d 0 4) 27 24 ∧ op < groupOps g ∧ 1 + k
      ≤ s.sqPosted ↑n ∧ (s.ring ↑n).owed.length < 64 ∧ ((List.map (fun x => x.maxSlots) (s.ring ↑n).owed).sum + 16 ≤ s.cqFree
      ↑n)) :=
  ⟨
    ⟨W.linked [], (0 : Fin 64), by decide +kernel, by decide +kernel, by decide +kernel, by decide +kernel,
      by decide +kernel⟩,
    ⟨W.linked [], by decide +kernel⟩,
    ⟨W.stopping, (0 : Fin 64), by decide +kernel, by decide +kernel, by decide +kernel⟩,
    ⟨W.linked [], (0 : Fin 64), by decide +kernel, by decide +kernel⟩,
    ⟨W.linked [], (0 : Fin 64), (0 : Fin 3), by decide +kernel⟩,
    ⟨W.linked [], (0 : Fin 64), (0 : Fin 3), (0 : Word), natBits (BitVec.toNat 0) 14 0 % (W.linked []).cqSize ↑0, ((W.linked
      []).fld (F.RING_HEADS.CQ_WRITE ↑0) + (W.linked []).cqSize ↑0 - natBits (BitVec.toNat 0) 14 0 % (W.linked []).cqSize ↑0)
      % (W.linked []).cqSize ↑0, by decide +kernel, by decide +kernel, rfl, rfl⟩,
    ⟨W.ringOn 0 0 W.posted, (0 : Fin 64), by decide +kernel, by decide +kernel, by decide +kernel⟩,
    ⟨W.ringOn 0 0 W.posted, (0 : Fin 64), W.nopSlot, natBits (leAt W.nopSlot 0 4) 15 12, natBits (leAt W.nopSlot 0 4) 31 28,
      natBits (leAt W.nopSlot 0 4) 27 24, by decide +kernel, by decide +kernel, rfl, rfl, rfl, by decide +kernel,
      by decide +kernel, by decide +kernel, by decide +kernel⟩⟩

/-- States and operands that meet the premises of `Obligations.SlowPathAndSysComplete`, clause by clause. -/
theorem test_witness_SlowPathAndSysComplete :
    (∃ (s : State) (n : Fin 64) (d : List Byte), s.fetchesNow ↑n = true ∧ s.kind ↑n = 2 ∧ s.sqPosted ↑n ≠ 0 ∧ natBits (leAt d
      12 1) 6 0 < 96 ∧ 60 ≤ leAt d 10 2 ∧ leAt d 10 2 ≤ 9216 ∧ natBits (leAt d 13 1) 6 0 = 126 ∧ natBit (leAt d 12 1) 7 =
      false) ∧
    (∃ (s : State), s.regsOpen = true) ∧
    (∃ (s : State) (n : Fin 64) (c : RingCmd), c.served n s) ∧
    (∃ (s : State) (n : Fin 64) (c : RingCmd), c.served n s ∧ s.host.fences = [] ∧ (∀ (m : Nat), (s.ring m).owed = []) ∧ (∀ e
      ∈ s.host.rings, e.2.owed = [])) ∧
    (∃ (s : State) (n : Fin 64) (c : RingCmd) (m : Fin 64) (o : Owed), c.served n s ∧ s.host.fences = [] ∧ Machine.orderOf s
      ↑n c.tag 12 1 = none ∧ o ∈ (s.ring ↑m).owed ∧ o.done = none ∧ o.order < s.host.order) :=
  ⟨
    ⟨W.ringOn 2 2 W.posted, (0 : Fin 64), W.txSlot, by decide +kernel, by decide +kernel, by decide +kernel,
      by decide +kernel, by decide +kernel, by decide +kernel, by decide +kernel, by decide +kernel⟩,
    ⟨W.run, by decide +kernel⟩,
    ⟨W.run, (0 : Fin 64), W.cmd 0 0 [] 0 none, by unfold RingCmd.served; decide +kernel⟩,
    ⟨W.run, (0 : Fin 64), W.cmd 0 0 [] 0 none, by unfold RingCmd.served; decide +kernel, by decide +kernel, fun _ => rfl,
      by decide +kernel⟩,
    ⟨W.owedFence, (0 : Fin 64), W.cmd 0 0 [] 0 none, (1 : Fin 64), (⟨0, 7, 1, 0, 1, 0, none⟩ : Owed),
      by unfold RingCmd.served; decide +kernel, by decide +kernel, by decide +kernel, by decide +kernel, by decide +kernel,
      by decide +kernel⟩⟩

/-- States and operands that meet the premises of `Obligations.RegisterWriteCompletes`, clause by clause. -/
theorem test_witness_RegisterWriteCompletes :
    (∃ (s : State) (x : BitVec 64) (v : Word), v = BitVec.ofNat 32 x.toNat ∧ s.op.code < 3) ∧
    (∃ (s : State) (x : BitVec 64) (v : Word), v = BitVec.ofNat 32 x.toNat ∧ 3 ≤ s.op.code) ∧
    (∃ (s : State) (x : BitVec 64) (v : Word) (size : Nat), v = BitVec.ofNat 32 x.toNat ∧ 3 ≤ s.op.code ∧ size ≠ 4) ∧
    (∃ (s : State) (x : BitVec 64) (v : Word), v = BitVec.ofNat 32 x.toNat ∧ 3 ≤ s.op.code) ∧
    (∃ (s : State) (x : BitVec 64) (v : Word), v = BitVec.ofNat 32 x.toNat ∧ 3 ≤ s.op.code) ∧
    (∃ (x : BitVec 64) (v : Word), v = BitVec.ofNat 32 x.toNat) :=
  ⟨
    ⟨W.op .rom, (0x05EE05EE : BitVec 64), BitVec.ofNat 32 (BitVec.toNat 99485166), rfl, by decide +kernel⟩,
    ⟨W.setup, (0x05EE05EE : BitVec 64), BitVec.ofNat 32 (BitVec.toNat 99485166), rfl, by decide +kernel⟩,
    ⟨W.setup, (0x05EE05EE : BitVec 64), BitVec.ofNat 32 (BitVec.toNat 99485166), 8, rfl, by decide +kernel,
      by decide +kernel⟩,
    ⟨W.setup, (0x05EE05EE : BitVec 64), BitVec.ofNat 32 (BitVec.toNat 99485166), rfl, by decide +kernel⟩,
    ⟨W.setup, (0x05EE05EE : BitVec 64), BitVec.ofNat 32 (BitVec.toNat 99485166), rfl, by decide +kernel⟩,
    ⟨(0x05EE05EE : BitVec 64), BitVec.ofNat 32 (BitVec.toNat 99485166), rfl⟩⟩

/-- States and operands that meet the premises of `Obligations.PowerAndResetComplete`, clause by clause. -/
theorem test_witness_PowerAndResetComplete :
    (∃ (s : State), s.corePowered = false) ∧
    (∃ (s : State), s.corePowered = true ∧ s.boot.burn = none) ∧
    (∃ (s : State), s.corePowered = true ∧ s.boot.inReset = none ∧ s.on F.FUSE_STATUS.BUSY = false ∧ s.boot.burn = none) ∧
    (∃ (s : State), s.corePowered = true ∧ s.boot.inReset = none ∧ s.on F.FUSE_STATUS.BUSY = false ∧ s.boot.burn = none) ∧
    (∃ (s : State) (k : ResetKind) (b : Bool), s.corePowered = true ∧ s.boot.inReset = some (k, b)) ∧
    (∃ (s : State), s.corePowered = true ∧ s.boot.inReset = none ∧ s.on F.FUSE_STATUS.BUSY = true ∧ s.boot.deferred = none) :=
  ⟨
    ⟨W.op .off, by decide +kernel⟩,
    ⟨W.run, by decide +kernel, by decide +kernel⟩,
    ⟨W.run, by decide +kernel, by decide +kernel, by decide +kernel, by decide +kernel⟩,
    ⟨W.run, by decide +kernel, by decide +kernel, by decide +kernel, by decide +kernel⟩,
    ⟨W.inReset, ResetKind.warm, true, by decide +kernel, by decide +kernel⟩,
    ⟨W.busyFuse, by decide +kernel, by decide +kernel, by decide +kernel, by decide +kernel⟩⟩

/-- States and operands that meet the premises of `Obligations.BootCompletes`, clause by clause. -/
theorem test_witness_BootCompletes :
    (∃ (s : State) (k : ResetKind) (smp : Bool), s.boot.inReset = some (k, smp)) ∧
    (∃ (s : State), s.op = OpState.rom ∧ s.boot.inReset = none ∧ s.on F.MEM_STATUS.STRIP_BUSY = false ∧ s.boot.romRun = true)
      ∧
    (∃ (s : State), s.op = OpState.load ∧ s.fwStatus ≠ 1 ∧ s.fwStatus ≠ 15 ∧ s.boot.loadBlocked = false ∧ s.isMember = false)
      ∧
    (∃ (s : State), s.op = OpState.load ∧ s.fwStatus ≠ 1 ∧ s.fwStatus ≠ 15 ∧ s.boot.loadBlocked = false ∧ s.isMember = false)
      ∧
    (∃ (s : State), s.op = OpState.load ∧ s.fwStatus = 1 ∧ s.isMember = false) ∧
    (∃ (s : State), s.op = OpState.load ∧ s.fwStatus = 15 ∧ s.config ≠ 2) ∧
    (∃ (s : State), s.op = OpState.setup ∧ s.on F.MEM_STATUS.STRIP_BUSY = false) ∧
    (∃ (s : State), (s.op = OpState.setup ∨ s.op = OpState.run)) :=
  ⟨
    ⟨W.inReset, ResetKind.warm, true, by decide +kernel⟩,
    ⟨W.romEnds, by decide +kernel, by decide +kernel, by decide +kernel, by decide +kernel⟩,
    ⟨W.load 0, by decide +kernel, by decide +kernel, by decide +kernel, by decide +kernel, by decide +kernel⟩,
    ⟨W.load 0, by decide +kernel, by decide +kernel, by decide +kernel, by decide +kernel, by decide +kernel⟩,
    ⟨W.load 1, by decide +kernel, by decide +kernel, by decide +kernel⟩,
    ⟨W.load 15, by decide +kernel, by decide +kernel, by decide +kernel⟩,
    ⟨W.calmSetup, by decide +kernel, by decide +kernel⟩,
    ⟨W.calmSetup, by decide +kernel⟩⟩

/-- States and operands that meet the premises of `Obligations.FusesAndAttestationComplete`, clause by clause. -/
theorem test_witness_FusesAndAttestationComplete :
    (∃ (s : State), s.op = OpState.setup ∧ s.boot.burn = none ∧ s.fusedArb < leAt s.boot.header 8 1) ∧
    (∃ (s : State), s.op = OpState.setup ∧ s.boot.burn = none ∧ leAt s.boot.header 8 1 ≤ s.fusedArb) ∧
    (∃ (s : State) (bs : List Byte), s.op = OpState.setup ∧ s.boot.burn = none ∧ 1 ≤ s.lc ∧ s.lc ≤ 3 ∧ s.ownerFused = false ∧
      leAt bs 0 32 ≠ 0 ∧ leAt bs 32 32 ≠ 0) ∧
    (∃ (s : State) (obj : List Byte) (hdr : List Byte) (who : Bool × Bool), s.op = OpState.setup ∧ s.boot.burn = none ∧ hdr =
      slice obj 0 256 ∧ slice hdr 0 4 = ascii "XCLC" ∧ leAt hdr 4 2 = 1 ∧ leAt hdr 16 240 = 0 ∧ leAt hdr 6 1 = s.lc ∧ leAt hdr
      8 8 = s.fuse 255 192 ∧ transition s.lc (leAt hdr 7 1) = some who) ∧
    (∃ (s : State), s.op = OpState.setup ∧ s.boot.burn = none) ∧
    (∃ (s : State), s.op = OpState.setup ∧ s.boot.burn = none ∧ s.lc ≠ 0 ∧ s.lc ≠ 5) ∧
    (∃ (s : State) (op : Nat) (m : BitVec 1600), s.boot.burn = some (op, m) ∧ s.boot.deferred = none ∧ s.boot.inReset = none)
      ∧
    (∃ (s : State), s.op = OpState.run) ∧
    (∃ (s : State), s.op = OpState.run) ∧
    (∃ (s : State), (s.op = OpState.setup ∨ s.op = OpState.run ∨ s.op = OpState.hold) ∧ s.on F.ATT_STATUS.BUSY = false ∧
      s.key.rootUp = true) ∧
    (∃ (s : State), (s.op = OpState.setup ∨ s.op = OpState.run ∨ s.op = OpState.hold) ∧ s.on F.ATT_STATUS.BUSY = false ∧
      s.key.rootUp = false) ∧
    (∃ (s : State), s.on F.ATT_STATUS.BUSY = true ∧ s.isMember = false) :=
  ⟨
    ⟨W.arb, by decide +kernel, by decide +kernel, by decide +kernel⟩,
    ⟨W.setup, by decide +kernel, by decide +kernel, by decide +kernel⟩,
    ⟨W.owned W.setup, (List.replicate 64 1 : List Byte), by decide +kernel, by decide +kernel, by decide +kernel,
      by decide +kernel, by decide +kernel, by decide +kernel, by decide +kernel⟩,
    ⟨W.owned W.setup, W.lcObj, W.lcObj, (true, false), by decide +kernel, by decide +kernel, rfl, by decide +kernel,
      by decide +kernel, by decide +kernel, by decide +kernel, by decide +kernel, by decide +kernel⟩,
    ⟨W.setup, by decide +kernel, by decide +kernel⟩,
    ⟨W.owned W.setup, by decide +kernel, by decide +kernel, by decide +kernel, by decide +kernel⟩,
    ⟨W.burning 1, 1, (1 : BitVec 1600), by decide +kernel, by decide +kernel, by decide +kernel⟩,
    ⟨W.run, by decide +kernel⟩,
    ⟨W.run, by decide +kernel⟩,
    ⟨W.rootUp, by decide +kernel, by decide +kernel, by decide +kernel⟩,
    ⟨W.setup, by decide +kernel, by decide +kernel, by decide +kernel⟩,
    ⟨W.att, by decide +kernel, by decide +kernel⟩⟩

/-- States and operands that meet the premises of `Obligations.MonitorsComplete`, clause by clause. -/
theorem test_witness_MonitorsComplete :
    (∃ (s : State) (x : Trip), s.monitorRuns ↑x.cause = true ∧ s.alarm.testing = none ∧ s.alarm.present.testBit ↑x.cause =
      false ∧ s.alarmRuns = none) ∧
    (∃ (s : State), s.bat.vbat = true) ∧
    (∃ (s : State), 3 ≤ s.op.code ∧ s.op.code ≤ 6 ∧ s.on F.ALARM_TEST_CFG.TEST_EN = true ∧ s.alarm.testing = none) ∧
    (∃ (s : State) (d : Fin 15), s.alarm.testing = some ↑d ∧ s.op ≠ OpState.off) ∧
    (∃ (s : State) (d : Fin 15), s.alarm.testing = some ↑d ∧ s.op ≠ OpState.off) ∧
    (∃ (s : State), s.regsOpen = true) ∧
    (∃ (s : State), 2 ≤ s.op.code) :=
  ⟨
    ⟨W.run, (⟨0, 0⟩ : Trip), by decide +kernel, by decide +kernel, by decide +kernel, by decide +kernel⟩,
    ⟨W.run, by decide +kernel⟩,
    ⟨W.run, by decide +kernel, by decide +kernel, by decide +kernel, by decide +kernel⟩,
    ⟨W.testWin, (3 : Fin 15), by decide +kernel, by decide +kernel⟩,
    ⟨W.testWin, (3 : Fin 15), by decide +kernel, by decide +kernel⟩,
    ⟨W.run, by decide +kernel⟩,
    ⟨W.run, by decide +kernel⟩⟩

/-- States and operands that meet the premises of `Obligations.ConditionRaisesOneAlarm`, clause by clause. -/
theorem test_witness_ConditionRaisesOneAlarm :
    (∃ (s : State) (x : Trip), s.monitorRuns ↑x.cause = true ∧ s.alarm.testing = none ∧ s.alarm.present.testBit ↑x.cause =
      false ∧ s.alarmRuns = none) ∧
    (∃ (s : State) (x : Trip) (a : AlarmRun) (r : LogRec), s.monitorRuns ↑x.cause = true ∧ s.alarm.testing = none ∧
      s.alarm.present.testBit ↑x.cause = false ∧ s.alarmRuns = some a ∧ s.tlogAt a.entry = some r) ∧
    (∃ (s : State) (x : Trip), s.monitorRuns ↑x.cause = true ∧ s.alarm.testing = none ∧ s.alarm.present.testBit ↑x.cause =
      true) ∧
    (∃ (s : State) (x : Trip), s.monitorRuns ↑x.cause = true ∧ s.alarm.testing = none) :=
  ⟨
    ⟨W.run, (⟨0, 0⟩ : Trip), by decide +kernel, by decide +kernel, by decide +kernel, by decide +kernel⟩,
    ⟨W.alarming, (⟨1, 0⟩ : Trip), (⟨0, 0, 0, 0, 5⟩ : AlarmRun), W.logRec, by decide +kernel, by decide +kernel,
      by decide +kernel, by decide +kernel, by decide +kernel⟩,
    ⟨W.present W.run 1, (⟨0, 0⟩ : Trip), by decide +kernel, by decide +kernel, by decide +kernel⟩,
    ⟨W.run, (⟨0, 0⟩ : Trip), by decide +kernel, by decide +kernel⟩⟩

/-- States and operands that meet the premises of `Obligations.RubPassGoesOut`, clause by clause. -/
theorem test_witness_RubPassGoesOut :
    (∃ (s : State) (temp : ℤ), s.op = OpState.run ∧ s.rub.halted = false ∧ s.rubPhase = 0 ∧ s.on F.RUB_STATUS.FLOAT_FAILED =
      false ∧ temp < ↑(s.fld F.RUB_CFG.TEMP_MAX)) ∧
    (∃ (s : State) (temp : ℤ), s.op = OpState.run ∧ s.rub.halted = false ∧ s.rubPhase = 0 ∧ s.on F.RUB_STATUS.FLOAT_FAILED =
      false ∧ temp < ↑(s.fld F.RUB_CFG.TEMP_MAX) ∧ s.on F.RUB_CFG.RUB_EN = true) ∧
    (∃ (s : State) (temp : ℤ), s.op = OpState.run ∧ s.rub.halted = false ∧ s.rubPhase = 0 ∧ s.on F.RUB_STATUS.FLOAT_FAILED =
      false ∧ temp < ↑(s.fld F.RUB_CFG.TEMP_MAX) ∧ s.on F.RUB_CFG.RUB_EN = true ∧ s.fld (F.RUB_RESULT.LAST s.rubNext) = 6) ∧
    (∃ (s : State) (temp : ℤ), s.op = OpState.run ∧ s.rub.halted = false ∧ s.rubPhase = 0 ∧ s.on F.RUB_STATUS.FLOAT_FAILED =
      false ∧ ↑(s.fld F.RUB_CFG.TEMP_MAX) ≤ temp) ∧
    (∃ (s : State), s.rubRuns = true ∧ s.rubPhase = 1) ∧
    (∃ (s : State), s.rubRuns = true ∧ s.rub.copy = 1 ∧ (s.rubPhase = 2 ∨ s.rubPhase = 5) ∧ s.rubSlice ≤ 12) ∧
    (∃ (s : State), s.rubRuns = true ∧ s.rubPhase = 2 ∧ s.rubSlice < 12 ∧ s.mayHand s.rubSlice = true) ∧
    (∃ (s : State), s.rubRuns = true ∧ s.rubPhase = 2 ∧ s.rub.copy = 2 ∧ s.rub.retiring = none) :=
  ⟨
    ⟨W.noPass, (20 : Int), by decide +kernel, by decide +kernel, by decide +kernel, by decide +kernel, by decide +kernel⟩,
    ⟨W.noPass, (20 : Int), by decide +kernel, by decide +kernel, by decide +kernel, by decide +kernel, by decide +kernel,
      by decide +kernel⟩,
    ⟨W.noPass, (20 : Int), by decide +kernel, by decide +kernel, by decide +kernel, by decide +kernel, by decide +kernel,
      by decide +kernel, by decide +kernel⟩,
    ⟨W.noPass, (100 : Int), by decide +kernel, by decide +kernel, by decide +kernel, by decide +kernel, by decide +kernel⟩,
    ⟨W.rub 1 RubSt.idle, by decide +kernel, by decide +kernel⟩,
    ⟨W.rub 2 { RubSt.idle with copy := 1 }, by decide +kernel, by decide +kernel, by decide +kernel, by decide +kernel⟩,
    ⟨W.rubLate 2 { RubSt.idle with copy := 2 }, by decide +kernel, by decide +kernel, by decide +kernel, by decide +kernel⟩,
    ⟨W.rubLate 2 { RubSt.idle with copy := 2 }, by decide +kernel, by decide +kernel, by decide +kernel, by decide +kernel⟩⟩

/-- States and operands that meet the premises of `Obligations.RubPassReturns`, clause by clause. -/
theorem test_witness_RubPassReturns :
    (∃ (s : State), s.rubRuns = true ∧ s.rubPhase = 3 ∧ ((s.path.frames.any fun f => f.port / 8 == s.rubSlice &&
      f.verdict.isNone) = false) ∧ s.rub.retiring = none) ∧
    (∃ (s : State) (k : Nat), s.rubRuns = true ∧ s.rubPhase = 3 ∧ ((s.path.frames.any fun f => f.port / 8 == s.rubSlice &&
      f.verdict.isNone) = false) ∧ s.rub.retiring = some k ∧ k < 12) ∧
    (∃ (s : State) (r : RubResult), s.rubRuns = true ∧ s.rubPhase = 4 ∧ s.testing < 12 ∧ (r.sliceFail = true ∨ r.sramFail =
      true)) ∧
    (∃ (s : State) (r : RubResult), s.rubRuns = true ∧ s.rubPhase = 4 ∧ s.testing < 12 ∧ r.sliceFail = false ∧ r.sramFail =
      false ∧ r.coreFail = 0) ∧
    (∃ (s : State) (r : RubResult) (left : Nat), s.rubRuns = true ∧ s.rubPhase = 4 ∧ s.testing < 12 ∧ left = s.fld
      (F.CIPHER_STATUS.CORE_OK s.testing) &&& (63 ^^^ r.coreFail.toNat) ∧ r.sliceFail = false ∧ r.sramFail = false ∧
      r.coreFail ≠ 0 ∧ 5 ≤ popCount left 6) ∧
    (∃ (s : State), s.rubRuns = true ∧ s.rubPhase = 5 ∧ s.rub.copy = 0 ∧ s.rub.inPlace = false) ∧
    (∃ (s : State), s.rubRuns = true ∧ s.rubPhase = 5 ∧ s.rub.copy = 0 ∧ s.rub.inPlace = true) ∧
    (∃ (s : State), s.rubRuns = true ∧ s.rubPhase = 5 ∧ s.testing < 12 ∧ (s.rub.result = 1 ∨ s.rub.result = 2) ∧ s.rub.other =
      none ∧ s.power.held = none ∧ s.mayHand s.testing = true) :=
  ⟨
    ⟨W.rub 3 RubSt.idle, by decide +kernel, by decide +kernel, by decide +kernel, by decide +kernel⟩,
    ⟨W.rub 3 { RubSt.idle with retiring := some 0 }, 0, by decide +kernel, by decide +kernel, by decide +kernel,
      by decide +kernel, by decide +kernel⟩,
    ⟨W.rub 4 RubSt.idle, { W.good with sliceFail := true }, by decide +kernel, by decide +kernel, by decide +kernel,
      by decide +kernel⟩,
    ⟨W.rub 4 RubSt.idle, W.good, by decide +kernel, by decide +kernel, by decide +kernel, by decide +kernel,
      by decide +kernel, by decide +kernel⟩,
    ⟨W.rub 4 RubSt.idle, { W.good with coreFail := 1 }, (W.rub 4 RubSt.idle).fld (F.CIPHER_STATUS.CORE_OK (W.rub 4
      RubSt.idle).testing) &&& 62, by decide +kernel, by decide +kernel, by decide +kernel, rfl, by decide +kernel,
      by decide +kernel, by decide +kernel, by decide +kernel⟩,
    ⟨W.rub 5 RubSt.idle, by decide +kernel, by decide +kernel, by decide +kernel, by decide +kernel⟩,
    ⟨W.rub 5 { RubSt.idle with inPlace := true }, by decide +kernel, by decide +kernel, by decide +kernel, by decide +kernel⟩,
    ⟨W.rubLate 5 { RubSt.idle with copy := 2, result := 1 }, by decide +kernel, by decide +kernel, by decide +kernel,
      by decide +kernel, by decide +kernel, by decide +kernel, by decide +kernel⟩⟩

/-- States and operands that meet the premises of `Obligations.SlicesComplete`, clause by clause. -/
theorem test_witness_SlicesComplete :
    (∃ (s : State) (sl : Fin 13), 4 ≤ s.op.code ∧ s.op.code ≤ 6 ∧ s.sliceWants ↑sl = 3 ∧ s.sliceState ↑sl ≠ 3) ∧
    (∃ (s : State) (sl : Fin 13), s.power.waking.contains ↑sl = true) ∧
    (∃ (s : State) (sl : Fin 13), s.sliceWants ↑sl ≠ 3 ∧ s.sliceWants ↑sl ≠ s.sliceState ↑sl) ∧
    (∃ (s : State) (sl : Fin 13) (v : Word), (s.op = OpState.setup ∨ s.op = OpState.run ∨ s.op = OpState.hold) ∧ natBit
      (BitVec.toNat v) 30 = true ∧ natBits (BitVec.toNat v) 3 0 = ↑sl ∧ s.sliceDead ↑sl = false ∧ s.on F.RST_STATUS.SLICE_BUSY
      = false ∧ s.rubPhase = 0) ∧
    (∃ (s : State) (sl : Fin 13) (v : Word), (s.op = OpState.setup ∨ s.op = OpState.run ∨ s.op = OpState.hold) ∧ natBit
      (BitVec.toNat v) 30 = true ∧ natBits (BitVec.toNat v) 3 0 = ↑sl ∧ s.sliceDead ↑sl = false ∧ s.on F.RST_STATUS.SLICE_BUSY
      = false ∧ 1 ≤ s.rubPhase ∧ s.rubPhase ≤ 5 ∧ s.testing = ↑sl) ∧
    (∃ (s : State) (v : Word), (s.op = OpState.setup ∨ s.op = OpState.run ∨ s.op = OpState.hold) ∧ natBit (BitVec.toNat v) 30
      = true ∧ 12 < natBits (BitVec.toNat v) 3 0) ∧
    (∃ (s : State), s.on F.RST_STATUS.SLICE_BUSY = true ∧ s.on F.RST_STATUS.SLICE_HELD = false) ∧
    (∃ (s : State) (sl : Fin 13), s.sliceState ↑sl = 3) ∧
    (∃ (s : State) (k : Fin 4), 2 ≤ s.op.code ∧ (↑k = 3 → s.config ≠ 0) ∧ s.alarm.present.testBit 16 = false ∧ s.alarmRuns =
      none) ∧
    (∃ (s : State) (sl : Fin 13) (k : Fin 6) (left : Nat), natBit (s.fld (F.CIPHER_STATUS.CORE_OK ↑sl)) ↑k = true ∧
      s.sliceState ↑sl = 3 ∧ left = natClr (s.fld (F.CIPHER_STATUS.CORE_OK ↑sl)) ↑k ∧ 5 ≤ popCount left 6) :=
  ⟨
    ⟨W.sliced 0 [], (0 : Fin 13), by decide +kernel, by decide +kernel, by decide +kernel, by decide +kernel⟩,
    ⟨{ W.sliced 0 [] with power := ⟨none, [0]⟩ }, (0 : Fin 13), by decide +kernel⟩,
    ⟨W.setup.setSliceState 0 3, (0 : Fin 13), by decide +kernel, by decide +kernel⟩,
    ⟨W.sliced 0 [], (0 : Fin 13), (0x40000000 : Word), by decide +kernel, by decide +kernel, by decide +kernel,
      by decide +kernel, by decide +kernel, by decide +kernel⟩,
    ⟨W.rub 2 RubSt.idle, (0 : Fin 13), (0x40000000 : Word), by decide +kernel, by decide +kernel, by decide +kernel,
      by decide +kernel, by decide +kernel, by decide +kernel, by decide +kernel, by decide +kernel⟩,
    ⟨W.sliced 0 [], (0x4000000D : Word), by decide +kernel, by decide +kernel, by decide +kernel⟩,
    ⟨W.sliced 3 [(F.RST_STATUS.SLICE_BUSY, 1)], by decide +kernel, by decide +kernel⟩,
    ⟨W.setup.setSliceState 0 3, (0 : Fin 13), by decide +kernel⟩,
    ⟨W.sliced 0 [], (0 : Fin 4), by decide +kernel, by decide +kernel, by decide +kernel, by decide +kernel⟩,
    ⟨W.setup.setSliceState 0 3, (0 : Fin 13), (0 : Fin 6), natClr ((W.setup.setSliceState 0 3).fld (F.CIPHER_STATUS.CORE_OK
      ↑0)) ↑0, by decide +kernel, by decide +kernel, rfl, by decide +kernel⟩⟩

/-- States and operands that meet the premises of `Obligations.CountersComplete`, clause by clause. -/
theorem test_witness_CountersComplete :
    (∃ (s : State) (b : Nat) (v : State), v = s.showSnapshot ∧ (b = match v.perf.view with | some w => 1 - w | none => 0) ∧ (∀
      (x : Snapshot), v.bank b = some x → x.dumped = true)) ∧
    (∃ (s : State) (b : Nat) (x : Snapshot), s.perf.writing = some b ∧ s.bank b = some x ∧ x.seq < 2 ^ 32) ∧
    (∃ (s : State) (t0 : Nat × Nat), s.perf.snapAt = some t0 ∧ t0.1 * 1000000000 + t0.2 ≤ s.now) ∧
    (∃ (s : State) (b : Nat) (x : Snapshot), s.on F.PERF_CTL.DUMP_EN = true ∧ s.nextDump = some b ∧ s.bank b = some x) ∧
    (∃ (s : State) (n : Fin 64) (c : RingCmd), c.served n s ∧ s.perf.snapAt = none ∧ leAt c.cont 6 4 < 1000000000 ∧ s.now +
      10000 ≤ instantOf c.cont) ∧
    (∃ (s : State) (n : Fin 64) (c : RingCmd) (b : Nat), c.served n s ∧ s.perf.view = some b) ∧
    (∃ (s : State) (n : Fin 64) (c : RingCmd), c.served n s ∧ c.a0 30 16 + c.arg1.toNat ≤ areaSize (c.a0 1 0) ∧ 8 *
      c.arg1.toNat ≤ c.bufLen.toNat) ∧
    (∃ (s : State) (j : Fin 2) (e : Nat), e = s.fld (F.PERF_SAMPLE_CFG.EVENT ↑j) ∧ s.on (F.PERF_SAMPLE_CFG.EN ↑j) = true ∧
      sampleEventOk ↑j e = true ∧ Tbl.atN s.perf.rate ↑j < 100000 ∧ s.cyc < Tbl.atN s.perf.rateFrom ↑j + 1500000000) :=
  ⟨
    ⟨W.snaps (W.snap true) none none, 0, (W.snaps (W.snap true) none none).showSnapshot, rfl, rfl, by decide +kernel⟩,
    ⟨W.snaps (W.snap false) (some 0) none, 0, W.snap false, by decide +kernel, by decide +kernel, by decide +kernel⟩,
    ⟨W.snapDue, ((0, 0) : Nat × Nat), by decide +kernel, by decide +kernel⟩,
    ⟨W.snaps (W.snap false) none (some 0), 0, W.snap false, by decide +kernel, by decide +kernel, by decide +kernel⟩,
    ⟨W.snaps (W.snap true) none none, (0 : Fin 64), W.perfCmd, by unfold RingCmd.served; decide +kernel, by decide +kernel,
      by decide +kernel, by decide +kernel⟩,
    ⟨W.snaps (W.snap false) none (some 0), (0 : Fin 64), W.perfCmd, 0, by unfold RingCmd.served; decide +kernel,
      by decide +kernel⟩,
    ⟨W.snaps (W.snap true) none none, (0 : Fin 64), W.perfCmd, by unfold RingCmd.served; decide +kernel, by decide +kernel,
      by decide +kernel⟩,
    ⟨W.sampling, (0 : Fin 2), W.sampling.fld (F.PERF_SAMPLE_CFG.EVENT ↑0), rfl, by decide +kernel, by decide +kernel,
      by decide +kernel, by decide +kernel⟩⟩

/-- States and operands that meet the premises of `Obligations.StepRunsTheFrontCommand`, clause by clause. -/
theorem test_witness_StepRunsTheFrontCommand :
    (∃ (s : State) (c : Instr) (rest : List Instr), s.pending = c :: rest) ∧
    (∃ (s : State), s.pending = []) :=
  ⟨
    ⟨{ W.run with pending := [Instr.powerGood] }, Instr.powerGood, ([] : List Instr), by decide +kernel⟩,
    ⟨W.run, by decide +kernel⟩⟩

/-- A canonical state whose step answers a next state: the premises of `Obligations.RegistersStayCanonical`. -/
theorem test_witness_RegistersStayCanonical :
    W.base.regsWf ∧ ∃ t, step W.base = .next t := ⟨by unfold State.regsWf; decide +kernel, ⟨_, rfl⟩⟩

/-- A canonical state whose step answers a next state: the premises of `Obligations.FusesOnlyGainBits`. -/
theorem test_witness_FusesOnlyGainBits :
    W.base.regsWf ∧ ∃ t, step W.base = .next t := ⟨by unfold State.regsWf; decide +kernel, ⟨_, rfl⟩⟩

end Sys2Proof.Tests
end

section
/-!
The register file keeps its canonical form (R7, R513). A state's register file is written by `State.setReg` and `State.put`
and, where memory is laid out anew, by `memLayout`; whatever else a function of the model does stands beside it. So every
function has one lemma, in the order of the model and along the branches of its definition: `State.regsWf.f` says that `s.f`
is canonical where `s` is, and `f_wf` says so of a result, an answer or a treatment `f`. The last ones are those of the
dispatch and of `step`.
-/
namespace Sys2Proof.Machine

/-! ### What a result holds -/

/-- The state that comes first in a result is canonical. -/
def FstWf {α : Type} (p : State × α) : Prop := p.1.regsWf

/-- The state of a result that may fail is canonical. -/
def OptWf (o : Option State) : Prop := ∀ t, o = some t → t.regsWf

/-- The state of a result that may be an error code is canonical. -/
def ExcWf (e : Except Nat State) : Prop := ∀ t, e = .ok t → t.regsWf

/-- The state that an outcome goes on in is canonical. -/
def ResWf (r : Res) : Prop := ∀ t, r = .next t → t.regsWf

/-- A block engine's treatment of a command keeps the canonical form. -/
def BodyWf (b : Body) : Prop := ∀ c s, s.regsWf → FstWf (b c s)

section
variable {s t : State} {α β : Type} {c : Prop} [Decidable c]

theorem State.regsWf.ite {a b : State} (ha : a.regsWf) (hb : b.regsWf) : (if c then a else b).regsWf :=
  iteInduction (motive := State.regsWf) (fun _ => ha) (fun _ => hb)

/-- Only the register file counts: a change beside it keeps the form. -/
theorem State.regsWf.beside {op : OpState} {straps : Straps} {boot : Boot} {bat : Battery} {alarm : Alarm} {host : HostIf}
    {perf : Perf} {power : Power} {ports : Tbl PortSt} {cls : ClassSt} {ctx : CtxSt} {key : KeySt} {dom : DomSt}
    {pair : PairSt} {mem : MemSt} {rub : RubSt} {time : TimeSt} {sched : Tbl SchedSt} {flt : FilterSt} {ct : ContractSt}
    {rcv : RecoverySt} {path : PathSt} {cyc sec ns frac res free : Nat} {out : List Out} {pending : List Instr} (h : s.regsWf) :
    State.regsWf ⟨op, straps, s.regs, boot, bat, alarm, host, perf, power, ports, cls, ctx, key, dom, pair, mem, rub, time,
        sched, flt, ct, rcv, path, cyc, sec, ns, frac, res, free, out, pending⟩ := h

theorem State.regsWf.setReg {a : Nat} {w : Word} (h : s.regsWf) : (s.setReg a w).regsWf := State.setReg_regsWf a w h

theorem State.regsWf.put {f : Fld} {v : Nat} (h : s.regsWf) : (s.put f v).regsWf := State.put_regsWf f v h

theorem State.regsWf.foldl {f : State → β → State} {l : List β} (h : s.regsWf) (hf : ∀ t x, t.regsWf → (f t x).regsWf) :
    (l.foldl f s).regsWf :=
  List.foldlRecOn (motive := State.regsWf) l f h fun t ht x _ => hf t x ht

theorem State.regsWf.each {f : β → State → State} {l : List β} (h : s.regsWf) (hf : ∀ x t, t.regsWf → (f x t).regsWf) :
    (s.each l f).regsWf := State.regsWf.foldl h fun t x => hf x t

theorem FstWf.mk {x : α} (h : s.regsWf) : FstWf (s, x) := h

theorem FstWf.fst {p : State × α} (h : FstWf p) : p.1.regsWf := h

theorem FstWf.fst_of {p : State × α} {x : α} (h : FstWf p) (e : p = (t, x)) : t.regsWf := by
  subst e
  exact h

theorem FstWf.ite {p q : State × α} (hp : FstWf p) (hq : FstWf q) : FstWf (if c then p else q) :=
  iteInduction (motive := FstWf) (fun _ => hp) (fun _ => hq)

theorem FstWf.foldl {f : State × α → β → State × α} {l : List β} {p : State × α} (h : FstWf p)
    (hf : ∀ p x, FstWf p → FstWf (f p x)) : FstWf (l.foldl f p) :=
  List.foldlRecOn (motive := FstWf) l f h fun q hq x _ => hf q x hq

theorem OptWf.none : OptWf none := fun _ e => nomatch e

theorem OptWf.some (h : s.regsWf) : OptWf (some s) := fun _ e => Option.some.inj e ▸ h

theorem OptWf.of {o : Option State} (h : OptWf o) (e : o = Option.some t) : t.regsWf := h t e

theorem OptWf.ite {o o' : Option State} (h : OptWf o) (h' : OptWf o') : OptWf (if c then o else o') :=
  iteInduction (motive := OptWf) (fun _ => h) (fun _ => h')

theorem ExcWf.error {n : Nat} : ExcWf (.error n) := fun _ e => nomatch e

theorem ExcWf.ok (h : s.regsWf) : ExcWf (.ok s) := fun _ e => Except.ok.inj e ▸ h

theorem ExcWf.of {r : Except Nat State} (h : ExcWf r) (e : r = .ok t) : t.regsWf := h t e

theorem ExcWf.ite {r r' : Except Nat State} (h : ExcWf r) (h' : ExcWf r') : ExcWf (if c then r else r') :=
  iteInduction (motive := ExcWf) (fun _ => h) (fun _ => h')

theorem ResWf.next (h : s.regsWf) : ResWf (.next s) := fun _ e => Host.Outcome.next.inj e ▸ h

theorem ResWf.fault {f : Fault} : ResWf (.fault f) := fun _ e => nomatch e

theorem ResWf.of {r : Res} (h : ResWf r) (e : r = .next t) : t.regsWf := h t e

theorem ResWf.ite {r r' : Res} (h : ResWf r) (h' : ResWf r') : ResWf (if c then r else r') :=
  iteInduction (motive := ResWf) (fun _ => h) (fun _ => h')

/-- The region registers of a layout, stored over a canonical register file, leave it canonical. -/
theorem memLayout_wf (b : Bool) {r : Tbl Word} (h : Tbl.wf regReset r = true) : Tbl.wf regReset (memLayout b r) = true :=
  List.foldlRecOn (motive := fun r => Tbl.wf regReset r = true) _ _ h
    (fun _ hr _ _ => Tbl.setD_wf _ _ (Tbl.setD_wf _ _ hr))

theorem State.reset_regsWf : State.reset.regsWf := by
  have h : State.reset.regs = memLayout false [] := rfl
  unfold State.regsWf
  rw [h]
  exact memLayout_wf false Tbl.wf_nil

end

variable {s : State}

/-! ### The functions of Machine/Ops -/

theorem State.regsWf.when {c : Bool} {f : State → State} (h : s.regsWf) (hf : ∀ t, t.regsWf → (f t).regsWf) :
    (s.when c f).regsWf :=
  .ite (hf _ h) h

theorem State.regsWf.emit {o : Out} (h : s.regsWf) : (s.emit o).regsWf := h.beside

theorem State.regsWf.setRing {n : Nat} {r : Ring} (h : s.regsWf) : (s.setRing n r).regsWf := h.beside

theorem State.regsWf.message {fn v : Nat} (h : s.regsWf) : (s.message fn v).regsWf := .ite h.beside h.emit

theorem State.regsWf.signal {n : Nat} (h : s.regsWf) : (s.signal n).regsWf := .ite h.setRing.message h

theorem State.regsWf.bitOnly {r b : Nat} (h : s.regsWf) : (s.bitOnly r b).regsWf := h.setReg

theorem State.regsWf.countWith {ovf : State → Nat → Nat → State} {e : Nat}
    (hovf : ∀ t r b, t.regsWf → (ovf t r b).regsWf) (h : s.regsWf) : (s.countWith ovf e).regsWf :=
  .ite h.beside (.ite (hovf _ _ _ h.beside.beside) h.beside.beside)

theorem State.regsWf.blkAddWith {ovf : State → Nat → Nat → State} {i n : Nat}
    (hovf : ∀ t r b, t.regsWf → (ovf t r b).regsWf) (h : s.regsWf) : (s.blkAddWith ovf i n).regsWf :=
  .ite (hovf _ _ _ h.beside) h.beside

theorem State.regsWf.cqWriteWith {ovf : State → Nat → Nat → State} {n : Nat} {head conts : List Byte}
    (hovf : ∀ t r b, t.regsWf → (ovf t r b).regsWf) (h : s.regsWf) : (s.cqWriteWith ovf n head conts).regsWf := by
  unfold State.cqWriteWith
  extract_lets _ _ _ _ _ _ s1
  have h1 : s1.regsWf := h.each (fun _ _ h1 => h1.emit)
  exact (h1.emit.put.put.setRing.countWith hovf).signal

theorem State.regsWf.onRing {ovf : State → Nat → Nat → State} {ring kind dst seq : Nat} {payload : List Byte}
    (hovf : ∀ t r b, t.regsWf → (ovf t r b).regsWf) (h : s.regsWf) : (s.onRing ovf ring kind dst seq payload).regsWf :=
  .ite (.ite (h.emit.countWith hovf) h) (.ite (h.emit.countWith hovf) h)

theorem State.regsWf.lathAgain {ovf : State → Nat → Nat → State} {kind dst seq : Nat} {payload : List Byte}
    (hovf : ∀ t r b, t.regsWf → (ovf t r b).regsWf) (h : s.regsWf) : (s.lathAgain ovf kind dst seq payload).regsWf :=
  .ite ((h.onRing hovf).onRing hovf) (h.onRing hovf)

theorem State.regsWf.lathSendWith {ovf : State → Nat → Nat → State} {kind dst : Nat} {payload : List Byte}
    (hovf : ∀ t r b, t.regsWf → (ovf t r b).regsWf) (h : s.regsWf) : (s.lathSendWith ovf kind dst payload).regsWf :=
  h.beside.lathAgain hovf

theorem State.regsWf.unicastWith {ovf : State → Nat → Nat → State} {kind dst : Nat} {payload : List Byte}
    {owner : Option (Nat × Nat)} (hovf : ∀ t r b, t.regsWf → (ovf t r b).regsWf) (h : s.regsWf) :
    (s.unicastWith ovf kind dst payload owner).regsWf :=
  (h.lathSendWith hovf).beside

theorem State.regsWf.postTo {ovf : State → Nat → Nat → State} {r : EvRec} {n : Nat}
    (hovf : ∀ t r b, t.regsWf → (ovf t r b).regsWf) (h : s.regsWf) : (s.postTo ovf r n).regsWf :=
  .ite h (.ite (h.blkAddWith hovf).setRing ((h.setRing.cqWriteWith hovf).countWith hovf))

theorem State.regsWf.postWith {ovf : State → Nat → Nat → State} {r : EvRec}
    (hovf : ∀ t r b, t.regsWf → (ovf t r b).regsWf) (h : s.regsWf) : (s.postWith ovf r).regsWf := by
  refine .ite (h.unicastWith hovf) ?_
  split
  · exact .ite h.beside h.beside
  · exact h.each (fun _ _ h1 => h1.postTo hovf)

theorem State.regsWf.overflow {r b : Nat} (h : s.regsWf) : (s.overflow r b).regsWf :=
  .ite h.bitOnly (.ite (h.bitOnly.bitOnly.postWith (fun _ _ _ h1 => h1.bitOnly)) h.bitOnly.bitOnly)

theorem State.regsWf.count {e : Nat} (h : s.regsWf) : (s.count e).regsWf := h.countWith (fun _ _ _ h1 => h1.overflow)

theorem State.regsWf.blkAdd {i n : Nat} (h : s.regsWf) : (s.blkAdd i n).regsWf := h.blkAddWith (fun _ _ _ h1 => h1.overflow)

theorem State.regsWf.blk {i : Nat} (h : s.regsWf) : (s.blk i).regsWf := h.blkAdd

theorem State.regsWf.cqWrite {n : Nat} {head conts : List Byte} (h : s.regsWf) : (s.cqWrite n head conts).regsWf :=
  h.cqWriteWith (fun _ _ _ h1 => h1.overflow)

theorem State.regsWf.post {r : EvRec} (h : s.regsWf) : (s.post r).regsWf := h.postWith (fun _ _ _ h1 => h1.overflow)

theorem State.regsWf.lathSend {kind dst : Nat} {payload : List Byte} (h : s.regsWf) : (s.lathSend kind dst payload).regsWf :=
  h.lathSendWith (fun _ _ _ h1 => h1.overflow)

theorem State.regsWf.unicast {kind dst : Nat} {payload : List Byte} {owner : Option (Nat × Nat)} (h : s.regsWf) :
    (s.unicast kind dst payload owner).regsWf :=
  h.unicastWith (fun _ _ _ h1 => h1.overflow)

theorem State.regsWf.dma {addr : Nat} {bytes : List Byte} (h : s.regsWf) : (s.dma addr bytes).regsWf := .ite h.unicast h.emit

theorem State.regsWf.record {block code object v0 v1 v2 : Nat} (h : s.regsWf) : (s.record block code object v0 v1 v2).regsWf :=
  h.post

theorem State.regsWf.event {ev en b block code object v0 v1 v2 : Nat} (h : s.regsWf) :
    (s.event ev en b block code object v0 v1 v2).regsWf :=
  .ite h.setReg.record h.setReg

theorem State.regsWf.perfEvent {b : Nat} (h : s.regsWf) : (s.perfEvent b).regsWf := h.event

theorem State.regsWf.portEvent {p b : Nat} (h : s.regsWf) : (s.portEvent p b).regsWf := h.event

theorem State.regsWf.secyEvent {p b : Nat} (h : s.regsWf) : (s.secyEvent p b).regsWf := h.event

theorem State.regsWf.statAdd {p i n : Nat} (h : s.regsWf) : (s.statAdd p i n).regsWf :=
  .ite (.ite h.beside.setReg.portEvent (.ite h.beside.setReg.portEvent h.beside.setReg.secyEvent)) h.beside

theorem State.regsWf.stat {p i : Nat} (h : s.regsWf) : (s.stat p i).regsWf := h.statAdd

theorem State.regsWf.clsEvent {b object : Nat} (h : s.regsWf) : (s.clsEvent b object).regsWf := h.event

theorem State.regsWf.ctxEvent {code object v0 : Nat} (h : s.regsWf) : (s.ctxEvent code object v0).regsWf := h.record

theorem State.regsWf.keyEvent {b object v0 : Nat} (h : s.regsWf) : (s.keyEvent b object v0).regsWf := h.event

theorem State.regsWf.wetEvent {b : Nat} (h : s.regsWf) : (s.wetEvent b).regsWf := h.event

theorem State.regsWf.timeEvent {b v0 : Nat} (h : s.regsWf) : (s.timeEvent b v0).regsWf := h.event

theorem State.regsWf.schedEvent {p b v0 : Nat} (h : s.regsWf) : (s.schedEvent p b v0).regsWf := h.event

theorem State.regsWf.ctEvent {b object v0 : Nat} (h : s.regsWf) : (s.ctEvent b object v0).regsWf := h.event

theorem State.regsWf.pairEvent {b object v0 : Nat} (h : s.regsWf) : (s.pairEvent b object v0).regsWf := h.event

theorem State.regsWf.domEvent {b object v0 : Nat} (h : s.regsWf) : (s.domEvent b object v0).regsWf := h.event

theorem State.regsWf.memEvent {b v0 : Nat} (h : s.regsWf) : (s.memEvent b v0).regsWf := h.event

theorem State.regsWf.hostEvent {b object : Nat} (h : s.regsWf) : (s.hostEvent b object).regsWf := h.event

theorem State.regsWf.pwrEvent {b object : Nat} (h : s.regsWf) : (s.pwrEvent b object).regsWf := h.event

theorem State.regsWf.rubEvent {b object : Nat} (h : s.regsWf) : (s.rubEvent b object).regsWf := h.event

theorem State.regsWf.bootEvent {b : Nat} (h : s.regsWf) : (s.bootEvent b).regsWf := h.event

theorem State.regsWf.stnEvent {b : Nat} (h : s.regsWf) : (s.stnEvent b).regsWf := .ite h.setReg.record h.setReg

theorem State.regsWf.setMem {m : MemSt} (h : s.regsWf) : (s.setMem m).regsWf := h.beside

theorem State.regsWf.unpoison {lo hi : Nat} (h : s.regsWf) : (s.unpoison lo hi).regsWf := h.setMem

/-! ### The functions of Machine/Rings -/

theorem refuse_wf {code : Nat} (h : s.regsWf) : FstWf (refuse s code) := .mk h

theorem refuseAt_wf {code r0 : Nat} (h : s.regsWf) : FstWf (refuseAt s code r0) := .mk h

theorem dmaError_wf (h : s.regsWf) : FstWf (dmaError s) := .mk h

theorem State.regsWf.flush {n : Nat} : ∀ {k : Nat} {s : State}, s.regsWf → (s.flush n k).regsWf
  | 0, _, h => h
  | k + 1, s, h => by
    unfold State.flush
    split
    · split
      · exact .flush (.ite h.setRing.cqWrite h.setRing)
      · exact h
    · exact h

theorem State.regsWf.completeOrder1 {n order : Nat} {d : Completion} (h : s.regsWf) : (s.completeOrder1 n order d).regsWf := by
  unfold State.completeOrder1
  dsimp only
  split
  · exact h.setRing.flush
  · exact h

theorem State.regsWf.settle : ∀ {k : Nat} {s : State}, s.regsWf → (s.settle k).regsWf
  | 0, _, h => h
  | k + 1, s, h => by
    unfold State.settle
    split
    · exact h.beside.completeOrder1.settle
    · exact h

theorem State.regsWf.complete {n : Nat} {tag : BitVec 16} {d : Completion} (h : s.regsWf) : (s.complete n tag d).regsWf := by
  unfold State.complete
  extract_lets _ _ _ _ s1
  have h1 : s1.regsWf := .ite h.beside h
  exact h1.setRing.flush.settle

theorem State.regsWf.completeOrder {n order : Nat} {d : Completion} (h : s.regsWf) : (s.completeOrder n order d).regsWf :=
  h.completeOrder1.settle

theorem runLocal_wf {group op : Nat} {body : Body} {c : RingCmd} (hbody : BodyWf body) (h : s.regsWf) :
    FstWf (runLocal group op body c s) :=
  .ite (refuse_wf h) (.ite (refuse_wf h) (.ite (.ite (refuse_wf h) (.ite (refuse_wf h) (.mk h.beside.put)))
      (.ite (refuse_wf h) (hbody _ _ h))))

theorem State.regsWf.owe {n group op : Nat} {tag : BitVec 16} (h : s.regsWf) : FstWf (s.owe n tag group op) := by
  unfold State.owe
  split
  · exact .mk h
  · exact .mk h.beside.setRing

theorem State.regsWf.broadcastAnswer {ring order j : Nat} {d : Completion} (h : s.regsWf) :
    (s.broadcastAnswer ring order j d).regsWf := by
  unfold State.broadcastAnswer
  split
  · exact h
  · exact .ite h.beside.completeOrder h.beside

theorem State.regsWf.finish {n group op : Nat} {c : RingCmd} {r : Reply} (h : s.regsWf) : (s.finish n group op c r).regsWf := by
  unfold State.finish
  extract_lets s1
  have h1 : s1.regsWf := .ite h h.dma
  exact h1.complete

/-- Through this lemma the kernel sees a variable where the goal held a value, and does not evaluate the value when it takes
a result apart. -/
theorem forall_abstracted {α : Sort*} {P : α → Prop} (h : ∀ a, P a) : ∀ a, P a := h

theorem State.regsWf.broadcastCmd {n group op : Nat} {body : Body} {c : RingCmd} (h : s.regsWf) (hbody : BodyWf body) :
    (s.broadcastCmd n group op body c).regsWf := by
  have howe : FstWf (s.owe n c.tag group op) := h.owe
  have hrun : ∀ t, t.regsWf → FstWf (runLocal group op body c t) := fun _ => runLocal_wf hbody
  -- Unfolded as a constant, before its arguments: otherwise the kernel would evaluate the matches to compare them.
  generalize hf : State.broadcastCmd = f
  delta State.broadcastCmd at hf
  subst hf
  beta_reduce
  revert hrun
  generalize runLocal group op body c = run
  revert run
  refine forall_abstracted fun run hrun => ?_
  revert howe
  generalize s.owe n c.tag group op = q
  revert q
  refine forall_abstracted fun q hq => ?_
  split
  extract_lets _ _ s2 s3
  have h2 : s2.regsWf := (hq.fst_of rfl).beside
  have h3 : s3.regsWf := h2.each fun _ _ h1 => h1.unicast
  split
  rename_i s4 _ e
  have h4 : s4.regsWf := (hrun _ h3).fst_of e
  exact State.regsWf.broadcastAnswer (.ite h4 h4.dma)

theorem State.regsWf.relayCmd {n group op target : Nat} {c : RingCmd} (h : s.regsWf) : (s.relayCmd n group op target c).regsWf :=
  h.owe.fst.unicast

theorem ringRun_wf {group op : Nat} {body : Body} {c : RingCmd} (hbody : BodyWf body) (h : s.regsWf) :
    (ringRun group op body c s).regsWf := by
  unfold ringRun
  split
  · exact .ite h.complete (.ite h (.ite h (.ite h.complete (.ite (runLocal_wf hbody h).fst.finish
        (.ite (h.broadcastCmd hbody) (.ite h.relayCmd h.complete))))))
  · exact (runLocal_wf hbody h).fst

theorem ringExec_wf {group op : Nat} {body : Body} {c : RingCmd} (hbody : BodyWf body) (h : s.regsWf) :
    ResWf (ringExec group op body c s) :=
  .next (ringRun_wf hbody h)

/-! ### The functions of Machine/Tables -/

theorem State.regsWf.setCls {c : ClassSt} (h : s.regsWf) : (s.setCls c).regsWf := h.beside

theorem State.regsWf.fdbPut {pos : Nat} {e : BitVec 128} (h : s.regsWf) : (s.fdbPut pos e).regsWf := h.setCls

theorem State.regsWf.setHits {pos map : Nat} (h : s.regsWf) : (s.setHits pos map).regsWf := h.setCls

theorem State.regsWf.logRecord {kind : Nat} {e : BitVec 128} (h : s.regsWf) : (s.logRecord kind e).regsWf := .ite h.dma.put h

theorem State.regsWf.logAt {kind pos : Nat} (h : s.regsWf) : (s.logAt kind pos).regsWf := .ite h.fdbPut.logRecord h

theorem State.regsWf.fdbRemove {pos kind : Nat} (h : s.regsWf) : (s.fdbRemove pos kind).regsWf :=
  .ite h.setCls h.setCls.logRecord

theorem State.regsWf.moveEntry {src dst : Nat} (h : s.regsWf) : (s.moveEntry src dst).regsWf :=
  h.fdbPut.setHits.fdbPut.setHits.setCls.blk.count

theorem State.regsWf.runPath : ∀ {l : List Nat} {s : State}, s.regsWf → (s.runPath l).regsWf
  | [], _, h => h
  | [_], _, h => h
  | _ :: _ :: _, _, h => by
    unfold State.runPath
    exact h.moveEntry.runPath

theorem State.regsWf.fdbInsert {e : BitVec 128} (h : s.regsWf) : FstWf (s.fdbInsert e) := by
  unfold State.fdbInsert
  dsimp only
  split
  · exact .mk h.fdbPut.setHits
  · exact .mk h.runPath.fdbPut.setHits
  · exact .mk h

theorem State.regsWf.stashMove {pos : Nat} (h : s.regsWf) : (s.stashMove pos).regsWf := by
  refine .ite ?_ h
  split
  · exact h.moveEntry
  · exact h

theorem tceDone_wf {pos : Nat} (h : s.regsWf) : FstWf (tceDone s pos) := .mk h

theorem tceReadPos_wf : BodyWf tceReadPos := fun _ _ h => .ite (refuse_wf h) (.mk h)

theorem tceSearch_wf : BodyWf tceSearch := by
  intro _ s h
  refine .ite (refuse_wf h) ?_
  split
  · exact .mk h
  · exact refuse_wf h

theorem tceInsert_wf : BodyWf tceInsert := by
  intro _ s h
  refine .ite (refuse_wf h) ?_
  split
  · exact refuseAt_wf h
  · refine .ite ?_ ?_
    · dsimp only
      split
      · exact tceDone_wf (.ite (h.fdbInsert.fst_of ‹_›) (h.fdbInsert.fst_of ‹_›).logAt)
      · exact refuse_wf h
    · split
      · exact tceDone_wf h.setCls
      · exact refuse_wf h

theorem tceUpdate_wf : BodyWf tceUpdate := by
  intro _ s h
  refine .ite (refuse_wf h) ?_
  split
  · exact refuse_wf h
  · exact .ite (.ite (refuse_wf h) (tceDone_wf (.ite h.fdbPut h.fdbPut.logAt))) (tceDone_wf h.setCls)

theorem tceDelete_wf : BodyWf tceDelete := by
  intro _ s h
  refine .ite (refuse_wf h) ?_
  split
  · exact refuse_wf h
  · exact .ite (.ite (refuse_wf h) (tceDone_wf h.fdbRemove)) (tceDone_wf h.setCls)

theorem State.regsWf.fdbFlush {kind : Nat} {hit : BitVec 128 → Bool} (h : s.regsWf) : (s.fdbFlush kind hit).regsWf :=
  h.each (fun _ _ h1 => h1.fdbRemove)

theorem tceFlush_wf : BodyWf tceFlush := fun _ _ h => .ite (refuse_wf h) (.mk h.fdbFlush)

theorem tceWritePos_wf : BodyWf tceWritePos :=
  fun _ _ h => .ite (refuse_wf h) (.ite (.ite (refuse_wf h) (tceDone_wf h.setCls))
      (.ite (tceDone_wf h.setCls) (tceDone_wf h.setCls)))

theorem State.regsWf.faceAnswer {r : Reply} (h : s.regsWf) : (s.faceAnswer r).regsWf :=
  .ite h.setCls.put.put.put (h.setCls.put.put.put.each (fun _ _ h1 => h1.setReg))

theorem tceRun_wf {op : Nat} {body : Body} {c : RingCmd} (hbody : BodyWf body) (h : s.regsWf) : (tceRun op body c s).regsWf := by
  unfold tceRun
  split
  · split
    · exact .ite (hbody _ _ h.count).fst.faceAnswer h
    · exact h
  · exact ringRun_wf (fun _ _ h1 => hbody _ _ h1.count) h

theorem execReadPos_wf {c : RingCmd} (h : s.regsWf) : ResWf (execReadPos c s) := .next (tceRun_wf tceReadPos_wf h)

theorem execSearch_wf {c : RingCmd} (h : s.regsWf) : ResWf (execSearch c s) := .next (tceRun_wf tceSearch_wf h)

theorem execInsert_wf {c : RingCmd} (h : s.regsWf) : ResWf (execInsert c s) :=
  .ite (.next h.setCls) (.next (tceRun_wf tceInsert_wf h))

theorem execUpdate_wf {c : RingCmd} (h : s.regsWf) : ResWf (execUpdate c s) := .next (tceRun_wf tceUpdate_wf h)

theorem execDelete_wf {c : RingCmd} (h : s.regsWf) : ResWf (execDelete c s) := .next (tceRun_wf tceDelete_wf h)

theorem execFlush_wf {c : RingCmd} (h : s.regsWf) : ResWf (execFlush c s) := .next (tceRun_wf tceFlush_wf h)

theorem execWritePos_wf {c : RingCmd} (h : s.regsWf) : ResWf (execWritePos c s) := .next (tceRun_wf tceWritePos_wf h)

theorem execMoveRegisterClear_wf (h : s.regsWf) : ResWf (execMoveRegisterClear s) := by
  unfold execMoveRegisterClear
  dsimp only
  split
  · exact .next (tceRun_wf tceInsert_wf h.setCls.setCls)
  · exact .next h.setCls

theorem State.regsWf.learnRequest {r : LearnReq} (h : s.regsWf) : (s.learnRequest r).regsWf :=
  .ite h.count.setCls (.ite h.count.setCls h.count.blk.clsEvent)

theorem execLearnQueueServe_wf (h : s.regsWf) : ResWf (execLearnQueueServe s) := by
  unfold execLearnQueueServe
  split
  · exact .next h
  · dsimp only
    split
    · exact .ite (.next h.setCls.count) (.ite (.next h.setCls.count.setHits) (.next h.setCls.count.fdbPut.setHits.logAt.blk))
    · split
      · exact .next h
      · split
        · exact .next (h.setCls.count.fdbInsert.fst_of ‹_›).logAt.blk
        · exact .next (h.setCls.count.fdbInsert.fst_of ‹_›).blk.clsEvent

theorem execAgeSweepVisit_wf {pos : Fin 65568} (h : s.regsWf) : ResWf (execAgeSweepVisit pos s) := by
  refine .ite (.next (.ite h.stashMove h)) ?_
  suffices h1 : State.regsWf _ by
    exact .next (.ite h1.stashMove h1)
  exact .ite h.setHits.fdbPut (.ite h.fdbPut h.fdbRemove.blk)

theorem execBgcPass_wf {b : BgcShadow} (h : s.regsWf) : ResWf (execBgcPass b s) := .ite (.next h.setCls.blkAdd) (.next h)

theorem State.regsWf.bgcRepair {d : Diff} (h : s.regsWf) : (s.bgcRepair d).regsWf := by
  unfold State.bgcRepair
  dsimp only
  split
  · split
    · exact (h.fdbInsert.fst_of ‹_›).blk
    · exact (h.fdbInsert.fst_of ‹_›)
  · exact h.fdbPut.blk
  · exact h.fdbRemove.blk
  · split
    · exact h.setCls.blk
    · exact h
  · exact h.setCls.blk
  · exact h.setCls.blk
  · exact h.setCls.blk
  · exact h.setCls.blk
  · exact h

theorem State.regsWf.bgcPost {d : Diff} (h : s.regsWf) : (s.bgcPost d).regsWf :=
  .ite (.ite h.setReg.blk.post h.setReg.blk.record) h.setReg.blk

theorem execBgcConfirm_wf {b : BgcShadow} (h : s.regsWf) : ResWf (execBgcConfirm b s) :=
  .next (h.setCls.each (fun _ _ h1 => .ite h1.bgcPost.bgcRepair h1.bgcPost))

/-! ### The functions of Machine/Contexts -/

theorem State.regsWf.setCtx {c : CtxSt} (h : s.regsWf) : (s.setCtx c).regsWf := h.beside

theorem State.regsWf.ctxPut {n : Nat} {w : BitVec 2048} (h : s.regsWf) : (s.ctxPut n w).regsWf := h.setCtx

theorem State.regsWf.setSecyTx {p : Nat} {w : BitVec 32} (h : s.regsWf) : (s.setSecyTx p w).regsWf := h.setCtx

theorem State.regsWf.setKey {k : KeySt} (h : s.regsWf) : (s.setKey k).regsWf := h.beside

theorem State.regsWf.keyGauges (h : s.regsWf) : s.keyGauges.regsWf := h.put.put

theorem State.regsWf.slotPlace {k : Nat} (h : s.regsWf) : OptWf (s.slotPlace k) := by
  refine .ite (.some h) (.ite (.some h.setKey.keyGauges) ?_)
  split
  · exact .some h.setKey.count.keyGauges
  · exact .none

theorem State.regsWf.slotsPlace : ∀ {l : List Nat} {s : State}, s.regsWf → OptWf (s.slotsPlace l)
  | [], _, h => .some h
  | k :: rest, s, h => by
    unfold State.slotsPlace
    refine .ite ?_ h.slotsPlace
    split
    · exact (h.slotPlace.of ‹_›).slotsPlace
    · exact .none

theorem State.regsWf.setCached {g : Nat} {l : List Nat} (h : s.regsWf) : (s.setCached g l).regsWf := h.setCtx.put.put

theorem State.regsWf.ctxPlace {g n : Nat} (h : s.regsWf) : (s.ctxPlace g n).regsWf := by
  refine .ite h.setCached (.ite h.setCached ?_)
  split
  · exact h.setCached.count
  · exact h

theorem State.regsWf.keepResident {n : Nat} (h : s.regsWf) : OptWf (s.keepResident n) := by
  unfold State.keepResident
  split
  · split
    · exact .some (h.slotsPlace.of ‹_›).ctxPlace
    · exact .some (h.slotsPlace.of ‹_›)
  · exact .none

theorem State.regsWf.ctxUncache {n : Nat} (h : s.regsWf) : (s.ctxUncache n).regsWf :=
  h.each (fun _ _ h1 => .ite h1.setCached h1)

theorem State.regsWf.ctxCount {n j : Nat} (h : s.regsWf) : (s.ctxCount n j).regsWf := h.ctxPut

theorem State.regsWf.quarantine {n cause : Nat} (h : s.regsWf) : (s.quarantine n cause).regsWf := .ite h h.ctxPut.ctxEvent

theorem State.regsWf.setTxGen {n g : Nat} (h : s.regsWf) : (s.setTxGen n g).regsWf := .ite h h.ctxPut

theorem State.regsWf.setFlip {f : Nat} {x : FlipSet} (h : s.regsWf) : (s.setFlip f x).regsWf := h.setCtx.put

theorem State.regsWf.setPend {m : FlipMember} {f : Nat} {on : Bool} (h : s.regsWf) : (s.setPend m f on).regsWf := by
  unfold State.setPend
  split
  · exact h.setSecyTx
  · exact h.ctxPut

theorem State.regsWf.flipMember {x : FlipMember} (h : s.regsWf) : (s.flipMember x).regsWf := by
  unfold State.flipMember
  split
  · exact h.setSecyTx
  · exact h.setTxGen

theorem State.regsWf.fireFlip {f t : Nat} (h : s.regsWf) : (s.fireFlip f t).regsWf :=
  (h.each (fun _ _ h1 => h1.flipMember)).setFlip

theorem execFlipDone_wf {f : Fin 256} (h : s.regsWf) : ResWf (execFlipDone f s) :=
  .ite (.next (h.each (fun _ _ h1 => h1.setPend)).setFlip.ctxEvent) (.next h)

theorem State.regsWf.scmGauge (h : s.regsWf) : s.scmGauge.regsWf := h.put

theorem ctxInstall_wf : BodyWf ctxInstall := by
  intro _ s h
  refine .ite (refuse_wf h) (.ite (refuse_wf h) (.ite (refuse_wf h)
      (.ite (refuse_wf h) (.ite (refuse_wf h) (.ite (refuse_wf h)
      (.ite (refuse_wf h) (.ite (refuse_wf h) (.ite (refuse_wf h) (.ite (refuse_wf h) ?_)))))))))
  extract_lets _ s1
  have h1 : s1.regsWf := .unpoison (.ctxPut (.ite h.ctxUncache h))
  refine .ite ?_ (.mk h1)
  split
  · exact .mk (h1.keepResident.of ‹_›)
  · exact refuse_wf h

theorem ctxRead_wf : BodyWf ctxRead := fun _ _ h => .ite (refuse_wf h) (.ite (refuse_wf h) (.ite (.mk h) (.mk h)))

theorem ctxEnable_wf : BodyWf ctxEnable := by
  intro _ s h
  refine .ite (refuse_wf h) (.ite (refuse_wf h) (.ite (refuse_wf h)
      (.ite (refuse_wf h) (.ite (.ite ?_ (.mk h.ctxPut)) (.mk h.ctxPut)))))
  split
  · exact .mk (h.ctxPut.keepResident.of ‹_›)
  · exact refuse_wf h

theorem ctxRetire_wf : BodyWf ctxRetire :=
  fun _ _ h => .ite (refuse_wf h) (.ite (refuse_wf h) (.ite (.ite (refuse_wf h) (.mk h.ctxPut))
      (.ite (refuse_wf h) (.mk h.ctxPut))))

theorem ctxSelect_wf : BodyWf ctxSelect := by
  intro _ s h
  refine .ite (.ite (refuse_wf h) (.ite (refuse_wf h) (.ite (refuse_wf h) ?_)))
      (.ite (refuse_wf h) (.ite (refuse_wf h) (.ite (refuse_wf h) (.mk h.setTxGen))))
  split
  · exact .mk (h.setSecyTx.keepResident.of ‹_›)
  · exact refuse_wf h

theorem ctxFree_wf : BodyWf ctxFree :=
  fun _ _ h => .ite (refuse_wf h) (.ite (.mk h) (.ite (refuse_wf h) (.ite (refuse_wf h) (.mk h.ctxPut.ctxUncache))))

theorem State.regsWf.pinCtx {n g : Nat} {ref : Bool} (h : s.regsWf) : (s.pinCtx n g ref).regsWf := by
  unfold State.pinCtx
  extract_lets _ s1
  have h1 : s1.regsWf := .ite h.ctxPut h
  exact h1.setCtx.ctxPlace

theorem State.regsWf.unrefCtx {n : Nat} (h : s.regsWf) : (s.unrefCtx n).regsWf := .ite h.setCtx h.setCtx.ctxUncache

theorem ctxPin_wf : BodyWf ctxPin :=
  fun _ _ h => .ite (refuse_wf h) (.ite (refuse_wf h) (.ite (refuse_wf h)
      (.ite (refuse_wf h) (.ite (.mk h) (.ite (refuse_wf h) (.ite (refuse_wf h) (.mk h.pinCtx)))))))

theorem ctxUnpin_wf : BodyWf ctxUnpin :=
  fun _ _ h => .ite (refuse_wf h) (.ite (refuse_wf h) (.ite (refuse_wf h) (.mk h.setCtx.setCached)))

theorem ctxClearCnt_wf : BodyWf ctxClearCnt := fun _ _ h => .ite (refuse_wf h) (.ite (refuse_wf h) (.mk h.ctxPut))

theorem scmAdd_wf : BodyWf scmAdd := by
  intro _ s h
  refine .ite (refuse_wf h) (.ite (refuse_wf h) ?_)
  split
  · exact .mk h.setCtx.scmGauge
  · exact refuse_wf h

theorem scmDelete_wf : BodyWf scmDelete := by
  intro _ s h
  refine .ite (refuse_wf h) ?_
  split
  · exact refuse_wf h
  · exact .ite (refuse_wf h) (.mk h.setCtx.scmGauge)

theorem flipAdd_wf : BodyWf flipAdd :=
  fun _ _ h => .ite (refuse_wf h) (.ite (.ite (refuse_wf h) (.ite (refuse_wf h)
      (.ite (refuse_wf h) (.ite (refuse_wf h) (.mk h.setPend.setFlip)))))
      (.ite (refuse_wf h) (.ite (refuse_wf h) (.ite (refuse_wf h) (.ite (refuse_wf h) (.mk h.setPend.setFlip))))))

theorem State.regsWf.keepAll : ∀ {l : List Nat} {s : State}, s.regsWf → OptWf (s.keepAll l)
  | [], _, h => .some h
  | n :: rest, s, h => by
    unfold State.keepAll
    split
    · exact (h.keepResident.of ‹_›).keepAll
    · exact .none

theorem flipArm_wf : BodyWf flipArm := by
  intro _ s h
  refine .ite (refuse_wf h) (.ite (refuse_wf h) ?_)
  dsimp only
  split
  · exact refuse_wf h
  · exact .mk (h.keepAll.of ‹_›).setFlip

theorem flipCancel_wf : BodyWf flipCancel :=
  fun _ _ h => .ite (refuse_wf h) (.ite (refuse_wf h) (.mk (h.each (fun _ _ h1 => h1.setPend)).setFlip))

theorem flipStatus_wf : BodyWf flipStatus := fun _ _ h => .ite (refuse_wf h) (.mk h)

theorem secyTxRead_wf : BodyWf secyTxRead := fun _ _ h => .ite (refuse_wf h) (.mk h)

theorem execCtxRead_wf {c : RingCmd} (h : s.regsWf) : ResWf (execCtxRead c s) := ringExec_wf ctxRead_wf h

theorem execCtxInstall_wf {c : RingCmd} (h : s.regsWf) : ResWf (execCtxInstall c s) := ringExec_wf ctxInstall_wf h

theorem execCtxEnable_wf {c : RingCmd} (h : s.regsWf) : ResWf (execCtxEnable c s) := ringExec_wf ctxEnable_wf h

theorem execCtxRetire_wf {c : RingCmd} (h : s.regsWf) : ResWf (execCtxRetire c s) := ringExec_wf ctxRetire_wf h

theorem execCtxSelect_wf {c : RingCmd} (h : s.regsWf) : ResWf (execCtxSelect c s) := ringExec_wf ctxSelect_wf h

theorem execCtxFree_wf {c : RingCmd} (h : s.regsWf) : ResWf (execCtxFree c s) := ringExec_wf ctxFree_wf h

theorem execCtxPin_wf {c : RingCmd} (h : s.regsWf) : ResWf (execCtxPin c s) := ringExec_wf ctxPin_wf h

theorem execCtxUnpin_wf {c : RingCmd} (h : s.regsWf) : ResWf (execCtxUnpin c s) := ringExec_wf ctxUnpin_wf h

theorem execCtxClearCnt_wf {c : RingCmd} (h : s.regsWf) : ResWf (execCtxClearCnt c s) := ringExec_wf ctxClearCnt_wf h

theorem execScmAdd_wf {c : RingCmd} (h : s.regsWf) : ResWf (execScmAdd c s) := ringExec_wf scmAdd_wf h

theorem execScmDelete_wf {c : RingCmd} (h : s.regsWf) : ResWf (execScmDelete c s) := ringExec_wf scmDelete_wf h

theorem execFlipAdd_wf {c : RingCmd} (h : s.regsWf) : ResWf (execFlipAdd c s) := ringExec_wf flipAdd_wf h

theorem execFlipArm_wf {c : RingCmd} (h : s.regsWf) : ResWf (execFlipArm c s) := ringExec_wf flipArm_wf h

theorem execFlipCancel_wf {c : RingCmd} (h : s.regsWf) : ResWf (execFlipCancel c s) := ringExec_wf flipCancel_wf h

theorem execFlipStatus_wf {c : RingCmd} (h : s.regsWf) : ResWf (execFlipStatus c s) := ringExec_wf flipStatus_wf h

theorem execSecyTxRead_wf {c : RingCmd} (h : s.regsWf) : ResWf (execSecyTxRead c s) := ringExec_wf secyTxRead_wf h

theorem State.regsWf.lockWrite {differs : Bool} (h : s.regsWf) : (s.lockWrite differs).regsWf := .ite h.hostEvent h

theorem execCtxLeapLoWrite_wf {v : Word} (h : s.regsWf) : ResWf (execCtxLeapLoWrite v s) :=
  .ite (.next h.setCtx) (.next h.lockWrite)

theorem execCtxLeapHiWrite_wf {v : Word} (h : s.regsWf) : ResWf (execCtxLeapHiWrite v s) :=
  .ite (.ite (.next h.setCtx.put.put) (.next h.setCtx.record)) (.next h.lockWrite)

/-! ### The functions of Machine/Keys -/

theorem State.regsWf.setSlot {k : Nat} {x : Slot} (h : s.regsWf) : (s.setSlot k x).regsWf := h.setKey

theorem State.regsWf.usesEvents {k old new : Nat} (h : s.regsWf) : (s.usesEvents k old new).regsWf := by
  unfold State.usesEvents
  extract_lets _ s1
  have h1 : s1.regsWf := h.when (fun _ h1 => h1.keyEvent)
  exact h1.when (fun _ h2 => h2.keyEvent)

theorem State.regsWf.spend {k : Nat} (h : s.regsWf) : (s.spend k).regsWf := .ite h h.setSlot.usesEvents

theorem State.regsWf.touch {k : Nat} (h : s.regsWf) : (s.touch k).regsWf := by
  refine .ite (.ite h.setKey h) ?_
  dsimp only
  split
  · exact (h.count.slotPlace.of ‹_›)
  · exact h.count

theorem State.regsWf.fill {k : Nat} {attr : BitVec 128} {key : BitVec 256} {fromRoot : Bool} (h : s.regsWf) :
    (s.fill k attr key fromRoot).regsWf := by
  unfold State.fill
  extract_lets _ _ _ s1
  have h1 : s1.regsWf := .ite h.setSlot.unpoison h.setSlot
  split
  · exact (h1.slotPlace.of ‹_›)
  · exact h1

theorem State.regsWf.formSlot {d usage id : Nat} {label : String} (h : s.regsWf) : (s.formSlot d usage label id).regsWf :=
  .ite h.setSlot h.setSlot

theorem State.regsWf.formPair (h : s.regsWf) : s.formPair.regsWf := h.formSlot.formSlot

theorem State.regsWf.formDomain (h : s.regsWf) : s.formDomain.regsWf := h.formSlot

theorem State.regsWf.formRootKeys (h : s.regsWf) : s.formRootKeys.regsWf := h.setKey.formPair.formDomain

theorem State.regsWf.dropRootKeys (h : s.regsWf) : s.dropRootKeys.regsWf := h.setKey

theorem State.regsWf.zeroRoot {n : Nat} (h : s.regsWf) : (s.zeroRoot n).regsWf := h.beside

theorem State.regsWf.quarSlot {k : Nat} (h : s.regsWf) : (s.quarSlot k).regsWf := .ite h h.setSlot.keyEvent

theorem execKeySlotUncorr_wf {k : Fin 263168} (h : s.regsWf) : ResWf (execKeySlotUncorr k s) := .next (.ite h.quarSlot h)

theorem orElse_wf {o : Option Nat} {k : State × Reply} (h : s.regsWf) (h0 : FstWf k) : FstWf (orElse o s k) := by
  unfold orElse
  split
  · exact refuse_wf h
  · exact h0

theorem keyImportKw_wf : BodyWf keyImportKw := by
  intro _ s h
  refine .ite (refuse_wf h) (orElse_wf h (orElse_wf h ?_))
  dsimp only
  split
  · exact .mk h.touch.spend.fill
  · exact .mk h.touch.spend

theorem keyImportXw_wf : BodyWf keyImportXw := by
  intro _ s h
  refine .ite (refuse_wf h) (orElse_wf h (orElse_wf h (.ite (refuse_wf h) ?_)))
  dsimp only
  split
  · exact .mk h.touch.spend.fill
  · exact .mk h.touch.spend

theorem keyGenerate_wf : BodyWf keyGenerate := fun _ _ h => .ite (refuse_wf h) (orElse_wf h (.mk h.beside.fill))

theorem keyDerive_wf : BodyWf keyDerive :=
  fun _ _ h => .ite (refuse_wf h) (.ite (.ite (refuse_wf h) (.ite (refuse_wf h) (orElse_wf h (.mk h.fill))))
      (orElse_wf h (orElse_wf h (.mk h.touch.spend.fill))))

theorem keyExport_wf {form : State → Nat → Nat → List Byte} : BodyWf (keyExport form) :=
  fun _ _ h => .ite (refuse_wf h) (orElse_wf h (orElse_wf h (.mk h.touch.spend.touch)))

theorem keyExportKw_wf : BodyWf keyExportKw := fun _ _ h => keyExport_wf _ _ h

theorem keyExportXw_wf : BodyWf keyExportXw := fun _ _ h => keyExport_wf _ _ h

theorem keyCmac_wf {bit : BF} {answer : List Byte → RingCmd → Reply} : BodyWf (keyCmac bit answer) := by
  intro _ s h
  refine .ite (refuse_wf h) ?_
  split
  · exact dmaError_wf h
  · exact orElse_wf h (.mk h.touch.spend)

theorem keyCmacGen_wf : BodyWf keyCmacGen := fun _ _ h => keyCmac_wf _ _ h

theorem keyCmacVerify_wf : BodyWf keyCmacVerify := fun _ _ h => keyCmac_wf _ _ h

theorem keyAttrRead_wf : BodyWf keyAttrRead := fun _ _ h => .ite (refuse_wf h) (.mk h)

theorem keyAttrReduce_wf : BodyWf keyAttrReduce := fun _ _ h => .ite (refuse_wf h) (orElse_wf h (.mk h.setSlot.usesEvents))

theorem keyPin_wf : BodyWf keyPin := by
  intro _ s h
  refine .ite (refuse_wf h) (orElse_wf h (.ite (.mk h) (.ite (refuse_wf h) ?_)))
  split
  · exact .mk ((h.when (fun _ h1 => h1.count)).slotPlace.of ‹_›).setSlot.keyGauges
  · exact refuse_wf h

theorem keyUnpin_wf : BodyWf keyUnpin :=
  fun _ _ h => .ite (refuse_wf h) (orElse_wf h (.ite (refuse_wf h) (.mk h.setSlot.keyGauges)))

theorem keyFree_wf : BodyWf keyFree := fun _ _ h => .ite (refuse_wf h) (.ite (refuse_wf h) (.mk h.setSlot.setKey.keyGauges))

theorem rootInject_wf : BodyWf rootInject := by
  intro _ s h
  refine .ite (refuse_wf h) ?_
  split
  · exact refuse_wf h
  · exact .ite (refuse_wf h) (.mk h.beside.formRootKeys.keyEvent)

theorem rootErase_wf : BodyWf rootErase := by
  intro _ s h
  refine .ite (refuse_wf h) ?_
  split
  · exact refuse_wf h
  · exact .mk h.zeroRoot.dropRootKeys

theorem rootStatus_wf : BodyWf rootStatus := fun _ _ h => .ite (refuse_wf h) (.mk h)

theorem keyExec_wf {op : Nat} {body : Body} {c : RingCmd} (hbody : BodyWf body) (h : s.regsWf) : ResWf (keyExec op body c s) :=
  .ite (.next h) (ringExec_wf (fun _ _ h1 => hbody _ _ h1.count) h)

theorem execKeyImportKw_wf {c : RingCmd} (h : s.regsWf) : ResWf (execKeyImportKw c s) := keyExec_wf keyImportKw_wf h

theorem execKeyImportXw_wf {c : RingCmd} (h : s.regsWf) : ResWf (execKeyImportXw c s) := keyExec_wf keyImportXw_wf h

theorem execKeyGenerate_wf {c : RingCmd} {healthy : Bool} (h : s.regsWf) : ResWf (execKeyGenerate c healthy s) :=
  .ite (keyExec_wf keyGenerate_wf h) (.next h.setKey)

theorem execTrngHealthRestored_wf (h : s.regsWf) : ResWf (execTrngHealthRestored s) :=
  .next (h.setKey.each (fun _ _ h1 => ringRun_wf (fun _ _ h2 => keyGenerate_wf _ _ h2.count) h1))

theorem execKeyDerive_wf {c : RingCmd} (h : s.regsWf) : ResWf (execKeyDerive c s) := keyExec_wf keyDerive_wf h

theorem execKeyExportKw_wf {c : RingCmd} (h : s.regsWf) : ResWf (execKeyExportKw c s) := keyExec_wf keyExportKw_wf h

theorem execKeyExportXw_wf {c : RingCmd} (h : s.regsWf) : ResWf (execKeyExportXw c s) := keyExec_wf keyExportXw_wf h

theorem execKeyCmacGen_wf {c : RingCmd} (h : s.regsWf) : ResWf (execKeyCmacGen c s) := keyExec_wf keyCmacGen_wf h

theorem execKeyCmacVerify_wf {c : RingCmd} (h : s.regsWf) : ResWf (execKeyCmacVerify c s) := keyExec_wf keyCmacVerify_wf h

theorem execKeyAttrRead_wf {c : RingCmd} (h : s.regsWf) : ResWf (execKeyAttrRead c s) := keyExec_wf keyAttrRead_wf h

theorem execKeyAttrReduce_wf {c : RingCmd} (h : s.regsWf) : ResWf (execKeyAttrReduce c s) := keyExec_wf keyAttrReduce_wf h

theorem execKeyPin_wf {c : RingCmd} (h : s.regsWf) : ResWf (execKeyPin c s) := keyExec_wf keyPin_wf h

theorem execKeyUnpin_wf {c : RingCmd} (h : s.regsWf) : ResWf (execKeyUnpin c s) := keyExec_wf keyUnpin_wf h

theorem execKeyFree_wf {c : RingCmd} (h : s.regsWf) : ResWf (execKeyFree c s) := keyExec_wf keyFree_wf h

theorem execRootInject_wf {c : RingCmd} (h : s.regsWf) : ResWf (execRootInject c s) := keyExec_wf rootInject_wf h

theorem execRootErase_wf {c : RingCmd} (h : s.regsWf) : ResWf (execRootErase c s) := keyExec_wf rootErase_wf h

theorem execRootStatus_wf {c : RingCmd} (h : s.regsWf) : ResWf (execRootStatus c s) := keyExec_wf rootStatus_wf h

theorem execKeyGroupIdWrite_wf {v : Word} (h : s.regsWf) : ResWf (execKeyGroupIdWrite v s) :=
  .ite (.next ((h.put.put.when (fun _ h1 => h1.formPair)).when (fun _ h1 => h1.formDomain))) (.next h.lockWrite)

/-! ### The functions of Machine/GateOps -/

theorem State.regsWf.setSch {p : Nat} {x : SchedSt} (h : s.regsWf) : (s.setSch p x).regsWf := h.beside

theorem State.regsWf.setAdmin {p : Nat} {b : GateBank} (h : s.regsWf) : (s.setAdmin p b).regsWf := h.setSch

theorem State.regsWf.setStart {p : Nat} {g : Start} (h : s.regsWf) : (s.setStart p g).regsWf := h.setSch

theorem State.regsWf.dropStart {p mac : Nat} (h : s.regsWf) : (s.dropStart p mac).regsWf := h.setSch

/-! ### The functions of Machine/Recovery -/

theorem State.regsWf.srcPut {i : Nat} {w : BitVec 512} (h : s.regsWf) : (s.srcPut i w).regsWf := h.beside

theorem execTakeAnyReset_wf {i : Fin 16384} (h : s.regsWf) : ResWf (execTakeAnyReset i s) := .ite (.next h.srcPut) (.next h)

theorem srcRead_wf : BodyWf srcRead := fun _ _ h => .ite (refuse_wf h) (.mk h)

theorem srcWrite_wf : BodyWf srcWrite := fun _ _ h => .ite (refuse_wf h) (.ite (refuse_wf h) (.mk h.srcPut))

theorem execSrcRead_wf {c : RingCmd} (h : s.regsWf) : ResWf (execSrcRead c s) := ringExec_wf srcRead_wf h

theorem execSrcWrite_wf {c : RingCmd} (h : s.regsWf) : ResWf (execSrcWrite c s) := ringExec_wf srcWrite_wf h

theorem State.regsWf.setDyn {k : Nat} {d : StnDyn} (h : s.regsWf) : (s.setDyn k d).regsWf := h.beside

theorem State.regsWf.stnAdd {k j n : Nat} (h : s.regsWf) : (s.stnAdd k j n).regsWf := h.setDyn

theorem State.regsWf.stnPost {k kind ch smp detail sec ns tail : Nat} (h : s.regsWf) :
    (s.stnPost k kind ch smp detail sec ns tail).regsWf :=
  .ite h.record h

theorem State.regsWf.stnOnce {k slot : Nat} {f : State → State} (h : s.regsWf) (hf : ∀ t, t.regsWf → (f t).regsWf) :
    (s.stnOnce k slot f).regsWf :=
  .ite h (hf _ h.setDyn)

theorem State.regsWf.stnQueue {a : Asdu} (h : s.regsWf) : (s.stnQueue a).regsWf := .ite h.blk.stnEvent h.beside.put

theorem State.regsWf.stnContinuity {a : Asdu} (h : s.regsWf) : (s.stnContinuity a).regsWf := by
  unfold State.stnContinuity
  dsimp only
  split
  · exact h.setDyn
  · exact .ite h.setDyn (.ite h.setDyn.stnAdd.stnPost h.stnAdd.stnPost)

theorem State.regsWf.stnTiming {a : Asdu} (h : s.regsWf) : (s.stnTiming a).regsWf :=
  .ite (.ite (h.stnAdd.stnOnce (fun _ h1 => h1.stnPost)) (.ite (h.stnAdd.stnOnce (fun _ h1 => h1.stnPost)) h)) h

theorem State.regsWf.stnQuality {a : Asdu} (h : s.regsWf) : (s.stnQuality a).regsWf := by
  unfold State.stnQuality
  extract_lets _ _ _ s1
  have h1 : s1.regsWf := h.setDyn.when (fun _ h1 => h1.stnAdd)
  exact h1.each (fun _ _ h2 => .ite h2.stnPost (.ite h2.stnPost h2))

theorem State.regsWf.stnCompare {lo sec ns : Nat} {x y : Sample} (h : s.regsWf) : (s.stnCompare lo x y sec ns).regsWf :=
  h.each (fun _ _ h1 => .ite h1 (.ite h1.setDyn.stnPost (.ite h1.setDyn.stnPost h1.setDyn)))

theorem State.regsWf.stnMiss {k : Nat} {x : Sample} (h : s.regsWf) : (s.stnMiss k x).regsWf := by
  unfold State.stnMiss
  exact h.stnAdd.stnOnce (fun _ h1 => h1.stnPost)

theorem State.regsWf.stnPair {a : Asdu} {values : List ℤ} {bad : Nat} (h : s.regsWf) : (s.stnPair a values bad).regsWf := by
  unfold State.stnPair
  split
  · exact h
  · extract_lets x dj
    split
    · exact .ite h.setDyn.stnCompare h.setDyn.stnCompare
    · refine .ite ?_ h.setDyn
      split
      · exact h.setDyn.stnMiss
      · exact h.setDyn

theorem execStnAsduExamine_wf (h : s.regsWf) : ResWf (execStnAsduExamine s) := by
  unfold execStnAsduExamine
  split
  · exact .next h
  · exact .ite (.next h.beside.put) (.ite (.next h.beside.put.blk.stnPost)
        (.next h.beside.put.stnAdd.stnAdd.stnContinuity.stnTiming.stnQuality.stnPair))

theorem execStnPairWaitExpire_wf {k : Fin 4096} {smp : BitVec 16} (h : s.regsWf) : ResWf (execStnPairWaitExpire k smp s) := by
  unfold execStnPairWaitExpire
  dsimp only
  split
  · exact .next h
  · exact .next h.setDyn.stnMiss

theorem stnRead_wf : BodyWf stnRead := fun _ _ h => .ite (refuse_wf h) (.mk h)

theorem stnWrite_wf : BodyWf stnWrite := fun _ _ h => .ite (refuse_wf h) (.ite (refuse_wf h) (.mk h.beside.setDyn))

theorem stnClearCnt_wf : BodyWf stnClearCnt := fun _ _ h => .ite (refuse_wf h) (.mk h.setDyn)

theorem execStnRead_wf {c : RingCmd} (h : s.regsWf) : ResWf (execStnRead c s) := ringExec_wf stnRead_wf h

theorem execStnWrite_wf {c : RingCmd} (h : s.regsWf) : ResWf (execStnWrite c s) := ringExec_wf stnWrite_wf h

theorem execStnClearCnt_wf {c : RingCmd} (h : s.regsWf) : ResWf (execStnClearCnt c s) := ringExec_wf stnClearCnt_wf h

/-! ### The functions of Machine/Filters -/

theorem State.regsWf.setFlt {f : FilterSt} (h : s.regsWf) : (s.setFlt f).regsWf := h.beside

theorem State.regsWf.fltCount {k j : Nat} (h : s.regsWf) : (s.fltCount k j).regsWf := h.setFlt

theorem State.regsWf.setFills {k c x : Nat} (h : s.regsWf) : (s.setFills k c x).regsWf := h.setFlt

theorem State.regsWf.colour {k len : Nat} (h : s.regsWf) : FstWf (s.colour k len) :=
  .ite (.mk h.setFills) (.ite (.mk h.setFills) (.ite (.mk h.setFills) (.mk (.ite h.setFills.setFlt h.setFills))))

theorem State.regsWf.refund {k len : Nat} {c : Colour} (h : s.regsWf) : (s.refund k len c).regsWf := by
  unfold State.refund
  extract_lets _
  split
  split
  · exact h.setFills
  · exact h.setFills
  · exact h

theorem fltWrite_wf : BodyWf fltWrite := fun _ _ h => .ite (refuse_wf h) (.ite (refuse_wf h) (.mk h.setFlt))

theorem fltRead_wf : BodyWf fltRead := fun _ _ h => .ite (refuse_wf h) (.mk h)

theorem mtrWrite_wf : BodyWf mtrWrite := fun _ _ h => .ite (refuse_wf h) (.ite (refuse_wf h) (.mk h.setFlt.setFills))

theorem mtrRead_wf : BodyWf mtrRead := fun _ _ h => .ite (refuse_wf h) (.mk h)

theorem fltUnblock_wf : BodyWf fltUnblock := fun _ _ h => .ite (refuse_wf h) (.ite (refuse_wf h) (.mk h.setFlt))

theorem mtrUnmark_wf : BodyWf mtrUnmark := fun _ _ h => .ite (refuse_wf h) (.ite (refuse_wf h) (.mk h.setFlt))

theorem fltClearCnt_wf : BodyWf fltClearCnt := fun _ _ h => .ite (refuse_wf h) (.ite (refuse_wf h) (.mk h.setFlt))

theorem execFltWrite_wf {c : RingCmd} (h : s.regsWf) : ResWf (execFltWrite c s) := ringExec_wf fltWrite_wf h

theorem execFltRead_wf {c : RingCmd} (h : s.regsWf) : ResWf (execFltRead c s) := ringExec_wf fltRead_wf h

theorem execMtrWrite_wf {c : RingCmd} (h : s.regsWf) : ResWf (execMtrWrite c s) := ringExec_wf mtrWrite_wf h

theorem execMtrRead_wf {c : RingCmd} (h : s.regsWf) : ResWf (execMtrRead c s) := ringExec_wf mtrRead_wf h

theorem execFltUnblock_wf {c : RingCmd} (h : s.regsWf) : ResWf (execFltUnblock c s) := ringExec_wf fltUnblock_wf h

theorem execMtrUnmark_wf {c : RingCmd} (h : s.regsWf) : ResWf (execMtrUnmark c s) := ringExec_wf mtrUnmark_wf h

theorem execFltClearCnt_wf {c : RingCmd} (h : s.regsWf) : ResWf (execFltClearCnt c s) := ringExec_wf fltClearCnt_wf h

/-! ### The functions of Machine/Path -/

theorem State.regsWf.setPath {x : PathSt} (h : s.regsWf) : (s.setPath x).regsWf := h.beside

theorem State.regsWf.setPort {p : Nat} {x : PortSt} (h : s.regsWf) : (s.setPort p x).regsWf := h.beside

theorem State.regsWf.setFrame {f : FrameRec} (h : s.regsWf) : (s.setFrame f).regsWf := h.setPath

theorem State.regsWf.dropFrame {id : Nat} (h : s.regsWf) : (s.dropFrame id).regsWf := h.setPath

theorem State.regsWf.setQueue {p c : Nat} {q : List Copy} (h : s.regsWf) : (s.setQueue p c q).regsWf := h.setPath

theorem State.regsWf.setLine {p : Nat} {l : LineSt} (h : s.regsWf) : (s.setLine p l).regsWf := h.setPath

theorem State.regsWf.reap {id : Nat} (h : s.regsWf) : (s.reap id).regsWf := .ite h h.dropFrame

theorem State.regsWf.tally {x : Tally} (h : s.regsWf) : (s.tally x).regsWf := by
  unfold State.tally
  split
  · exact h
  · exact h.blk
  · exact h.stat
  · exact h.ctxCount
  · exact h.fltCount

theorem State.regsWf.settleLater {f : FrameRec} (h : s.regsWf) : (s.settleLater f).regsWf :=
  (h.each (fun _ _ h1 => h1.tally)).each (fun _ _ h1 => h1.count)

theorem State.regsWf.ctPut {n : Nat} {w : BitVec 1024} (h : s.regsWf) : (s.ctPut n w).regsWf := h.beside

theorem State.regsWf.ctCount {n j : Nat} (h : s.regsWf) : (s.ctCount n j).regsWf := h.ctPut

theorem State.regsWf.ctLost {x : Option Nat} (h : s.regsWf) : (s.ctLost x).regsWf := by
  unfold State.ctLost
  split
  · exact h
  · exact h.ctCount.ctEvent

theorem State.regsWf.ctNonconf {x : Option Nat} (h : s.regsWf) : (s.ctNonconf x).regsWf := by
  unfold State.ctNonconf
  split
  · exact h
  · exact h.ctCount

theorem State.regsWf.ctDelivered {n res : Nat} (h : s.regsWf) : (s.ctDelivered n res).regsWf :=
  .ite h.ctPut.ctCount h.ctPut.ctCount.ctEvent

theorem State.regsWf.txDone {ring tag result : Nat} (h : s.regsWf) : (s.txDone ring tag result).regsWf := by
  unfold State.txDone
  extract_lets s1
  have h1 : s1.regsWf := h.when (fun _ h1 => h1.blk.hostEvent)
  exact .ite h1.cqWrite h1

theorem State.regsWf.hostDone {c : Copy} {result : Nat} (h : s.regsWf) : (s.hostDone c result).regsWf := by
  unfold State.hostDone
  split
  · exact h.txDone
  · exact h

theorem State.regsWf.takeToken {r : Nat} (h : s.regsWf) : OptWf (s.takeToken r) :=
  .ite (.some h) (.ite .none (.some h.beside))

theorem State.regsWf.pf2Write {frame : List Byte} {i : RxInfo} (h : s.regsWf) : (s.pf2Write frame i).regsWf := by
  refine .ite h.blk.hostEvent ?_
  split
  · exact h.blk.hostEvent
  · refine .ite h.blk.hostEvent ?_
    split
    · exact h.blk.hostEvent
    · exact .count (FstWf.fst (.foldl (.mk (h.takeToken.of ‹_›).setRing) (fun _ _ h1 => .mk h1.fst.emit.cqWrite)))

theorem State.regsWf.pf2Deliver {frame : List Byte} {i : RxInfo} (h : s.regsWf) : (s.pf2Deliver frame i).regsWf :=
  .ite h.lathSend h.pf2Write

theorem State.regsWf.setTwin {p : Nat} {x : TwinSt} (h : s.regsWf) : (s.setTwin p x).regsWf := h.setPath

theorem State.regsWf.twinStart {p m : Nat} {c : Copy} {spoiled : Bool} (h : s.regsWf) : (s.twinStart p m c spoiled).regsWf := by
  refine .ite h ?_
  dsimp only
  split
  · exact .ite h.setTwin h.setTwin
  · exact h.setTwin

theorem State.regsWf.txGauge {sl : Nat} {up : Bool} (h : s.regsWf) : (s.txGauge sl up).regsWf := h.put

theorem State.regsWf.rxGauge {sl : Nat} {up : Bool} (h : s.regsWf) : (s.rxGauge sl up).regsWf := h.put

theorem State.regsWf.setExtra {sl : Nat} {l : List Extra} (h : s.regsWf) : (s.setExtra sl l).regsWf := h.setPath.put

theorem State.regsWf.copyGone {p : Nat} {c : Copy} (h : s.regsWf) : (s.copyGone p c).regsWf := by
  unfold State.copyGone
  extract_lets _ s2 s3
  have h1 : s2.regsWf := by
    unfold s2
    split
    · exact h.ctLost.hostDone.dropStart
    · exact h.ctLost.hostDone
  have h2 : s3.regsWf := by
    refine .ite ?_ h1
    split
    · exact .ite h1.txGauge h1
    · exact h1
  exact .ite h2.setExtra h2

theorem State.regsWf.purge {p : Nat} {test : Copy → Bool} {gone : Nat → Copy → State → State} (h : s.regsWf)
    (hgone : ∀ q c t, t.regsWf → (gone q c t).regsWf) : (s.purge p test gone).regsWf :=
  h.each (fun _ _ h1 => h1.setQueue.foldl (fun _ _ h2 => hgone _ _ _ h2.copyGone))

theorem State.regsWf.discardStored {id : Nat} (h : s.regsWf) : (s.discardStored id).regsWf :=
  h.each (fun _ _ h1 => h1.purge (fun _ _ _ h2 => h2))

theorem State.regsWf.abortLine {p : Nat} (h : s.regsWf) : (s.abortLine p).regsWf := by
  unfold State.abortLine
  dsimp only
  split
  · refine .emit (.stat (.when (.copyGone ?_) (fun _ h1 => h1.twinStart)))
    split
    · exact (h.setLine.copyGone.when (fun _ h1 => h1.twinStart)).stat.emit
    · exact h.setLine
  · split
    · exact (h.setLine.copyGone.when (fun _ h1 => h1.twinStart)).stat.emit
    · exact h.setLine

theorem State.regsWf.dropQueues {p : Nat} (h : s.regsWf) : (s.dropQueues p).regsWf := h.purge (fun _ _ _ h1 => h1.stat)

theorem State.regsWf.frameGone {f : FrameRec} {r : Nat} (h : s.regsWf) : (s.frameGone f r).regsWf := by
  unfold State.frameGone
  extract_lets _ s2 s3
  have h1 : s2.regsWf := h.discardStored.setFrame
  have h2 : s3.regsWf := by
    unfold s3
    split
    · exact h1.refund
    · exact h1
  exact h2.reap

/-! ### The functions of Machine/Perf -/

theorem State.regsWf.setPerf {x : Perf} (h : s.regsWf) : (s.setPerf x).regsWf := h.beside

theorem State.regsWf.setBank {b : Nat} {x : Option Snapshot} (h : s.regsWf) : (s.setBank b x).regsWf := h.setPerf

theorem State.regsWf.showSnapshot (h : s.regsWf) : s.showSnapshot.regsWf := by
  unfold State.showSnapshot
  split
  · exact h
  · split
    · exact h.setPerf.put
    · exact h.setPerf

theorem State.regsWf.dumpLoss (h : s.regsWf) : s.dumpLoss.regsWf := h.setPerf.blk.perfEvent

theorem State.regsWf.snapshot {periodic : Bool} (h : s.regsWf) : (s.snapshot periodic).regsWf :=
  .ite h.showSnapshot.dumpLoss h.showSnapshot.setBank.setPerf

theorem execPeriodicSnapshot_wf (h : s.regsWf) : ResWf (execPeriodicSnapshot s) := .ite (.next h.snapshot) (.next h)

theorem execSnapAtFire_wf (h : s.regsWf) : ResWf (execSnapAtFire s) := by
  unfold execSnapAtFire
  split
  · exact .ite (.next h.setPerf.snapshot) (.next h)
  · exact .next h

theorem execSnapshotDone_wf (h : s.regsWf) : ResWf (execSnapshotDone s) := .next h.showSnapshot

theorem State.regsWf.dumpRecord {b : Nat} (h : s.regsWf) : (s.dumpRecord b).regsWf := by
  unfold State.dumpRecord
  split
  · exact h
  · refine .ite h.setBank.dumpLoss ?_
    extract_lets _ _ _ s2
    have h1 : s2.regsWf := h.setBank.when (fun _ h1 => h1.dma)
    exact (h1.dma.put.setPerf.when (fun _ h2 => h2.perfEvent)).perfEvent

theorem execDumpRecordWrite_wf (h : s.regsWf) : ResWf (execDumpRecordWrite s) := by
  refine .ite (.next h) ?_
  split
  · exact .next h.dumpRecord
  · exact .next h

theorem execPerfSample_wf {j : Fin 2} {x : SampleInfo} (h : s.regsWf) : ResWf (execPerfSample j x s) :=
  .ite (.next h) (.ite (.next h.blk.perfEvent) (.ite (.next h.setPerf.record) (.next h.setPerf.record)))

theorem perfSnapshot_wf : BodyWf perfSnapshot := fun _ _ h => .mk h.snapshot

theorem perfSnapAt_wf : BodyWf perfSnapAt := fun _ _ h => .ite (refuse_wf h) (.ite (refuse_wf h) (.mk h.setPerf))

theorem perfDump_wf : BodyWf perfDump := by
  intro _ s h
  unfold perfDump
  split
  · exact .mk h.dumpRecord
  · exact refuse_wf h

theorem perfRead_wf : BodyWf perfRead := fun _ _ h => .ite (refuse_wf h) (.mk h)

theorem execPerfSnapshot_wf {c : RingCmd} (h : s.regsWf) : ResWf (execPerfSnapshot c s) := ringExec_wf perfSnapshot_wf h

theorem execPerfSnapAt_wf {c : RingCmd} (h : s.regsWf) : ResWf (execPerfSnapAt c s) := ringExec_wf perfSnapAt_wf h

theorem execPerfDump_wf {c : RingCmd} (h : s.regsWf) : ResWf (execPerfDump c s) := ringExec_wf perfDump_wf h

theorem execPerfRead_wf {c : RingCmd} (h : s.regsWf) : ResWf (execPerfRead c s) := ringExec_wf perfRead_wf h

/-! ### The functions of Machine/Ports -/

theorem State.regsWf.twApplied {p : Nat} (h : s.regsWf) : (s.twApplied p).regsWf := h.put

theorem State.regsWf.applyTw {p : Nat} (h : s.regsWf) : (s.applyTw p).regsWf := .ite h h.setPort.twApplied.portEvent

theorem State.regsWf.sleepTx {p : Nat} (h : s.regsWf) : (s.sleepTx p).regsWf := h.setPort.put.stat.emit

theorem State.regsWf.endQuiet {p : Nat} (h : s.regsWf) : (s.endQuiet p).regsWf := by
  unfold State.endQuiet
  split
  · exact h.statAdd.setPort
  · exact h

theorem State.regsWf.wakeTx {p : Nat} (h : s.regsWf) : (s.wakeTx p).regsWf := .ite h.endQuiet.setPort.emit h

theorem State.regsWf.wakeOnQueue {p : Nat} (h : s.regsWf) : (s.wakeOnQueue p).regsWf := .ite h h.wakeTx

theorem State.regsWf.startVerify {p : Nat} (h : s.regsWf) : (s.startVerify p).regsWf := h.setPort.put

theorem State.regsWf.enterUp {p : Nat} (h : s.regsWf) : (s.enterUp p).regsWf := by
  unfold State.enterUp
  extract_lets _ _ s2
  have h1 : s2.regsWf := .ite h.put.setPort h.put.setPort.startVerify
  exact h1.put.portEvent

theorem State.regsWf.flushOnDown {p : Nat} (h : s.regsWf) : (s.flushOnDown p).regsWf := .ite h.fdbFlush h

theorem State.regsWf.dropPartial {p : Nat} (h : s.regsWf) : (s.dropPartial p).regsWf := h.each (fun _ _ h1 => h1.frameGone)

theorem State.regsWf.leaveUp {p next : Nat} (h : s.regsWf) : (s.leaveUp p next).regsWf :=
  h.put.stat.abortLine.dropQueues.dropPartial.endQuiet.flushOnDown.setPort.put.put.put.portEvent

theorem State.regsWf.toLink {p next : Nat} (h : s.regsWf) : (s.toLink p next).regsWf := .ite h.leaveUp h.setPort.put

theorem State.regsWf.modeRefused {p code : Nat} (h : s.regsWf) : (s.modeRefused p code).regsWf := h.put.portEvent

theorem execPortModeWrite_wf {p : Fin 96} {v : Word} (h : s.regsWf) : ResWf (execPortModeWrite p v s) :=
  .ite (.ite (.next h.modeRefused) (.next h.setReg.toLink.put.put.twApplied)) (.next h.lockWrite)

theorem execPortStatusRead_wf {p : Fin 96} (h : s.regsWf) : ResWf (execPortStatusRead p s) := .next h.emit.put

theorem State.regsWf.seekOn {p : Nat} (h : s.regsWf) : (s.seekOn p).regsWf := .ite h.put h

theorem execNegotiationResolved_wf {p : Fin 96} (h : s.regsWf) : ResWf (execNegotiationResolved p s) :=
  .ite (.next h.setPort.seekOn) (.next h)

theorem execAnFail_wf {p : Fin 96} (h : s.regsWf) : ResWf (execAnFail p s) := .ite (.next h.portEvent) (.next h)

theorem execSignalLock_wf {p : Fin 96} (h : s.regsWf) : ResWf (execSignalLock p s) := .ite (.next h.setPort.seekOn) (.next h)

theorem execTrainingDone_wf {p : Fin 96} (h : s.regsWf) : ResWf (execTrainingDone p s) := .ite (.next h.setPort) (.next h)

theorem execTrainingFail_wf {p : Fin 96} (h : s.regsWf) : ResWf (execTrainingFail p s) := .ite (.next h.toLink) (.next h)

theorem execLinkUp_wf {p : Fin 96} (h : s.regsWf) : ResWf (execLinkUp p s) := .ite (.next h.enterUp) (.next h)

theorem execLockLoss_wf {p : Fin 96} (h : s.regsWf) : ResWf (execLockLoss p s) := .ite (.next h.setPort) (.next h)

theorem execLinkDown_wf {p : Fin 96} (h : s.regsWf) : ResWf (execLinkDown p s) := .ite (.next h.leaveUp) (.next h)

theorem execFaultLocalEnter_wf {p : Fin 96} (h : s.regsWf) : ResWf (execFaultLocalEnter p s) :=
  .ite (.next h.toLink.portEvent) (.next h)

theorem execFaultLocalClear_wf {p : Fin 96} (h : s.regsWf) : ResWf (execFaultLocalClear p s) :=
  .ite (.next h.toLink) (.next h)

theorem execFaultRemoteEnter_wf {p : Fin 96} (h : s.regsWf) : ResWf (execFaultRemoteEnter p s) :=
  .ite (.next h.toLink.portEvent) (.next h)

theorem execFaultRemoteClear_wf {p : Fin 96} (h : s.regsWf) : ResWf (execFaultRemoteClear p s) :=
  .ite (.next h.enterUp) (.next h)

theorem execVerifyMpacketSend_wf {p : Fin 96} (h : s.regsWf) : ResWf (execVerifyMpacketSend p s) :=
  .ite (.next h.setPort.emit) (.next h)

theorem execRespondMpacketReceive_wf {p : Fin 96} (h : s.regsWf) : ResWf (execRespondMpacketReceive p s) :=
  .ite (.next h.put.portEvent) (.next h)

theorem execMmVerifyFail_wf {p : Fin 96} (h : s.regsWf) : ResWf (execMmVerifyFail p s) :=
  .ite (.next h.put.portEvent) (.next h)

theorem State.regsWf.failAssembly {p i : Nat} (h : s.regsWf) : (s.failAssembly p i).regsWf := by
  unfold State.failAssembly
  dsimp only
  split
  · exact .ite h.setPort.setFrame h.setPort.stat.frameGone
  · exact h.setPort.stat

theorem State.regsWf.firstFragment {p : Nat} {f : Fragment} (h : s.regsWf) : (s.firstFragment p f).regsWf := by
  unfold State.firstFragment
  extract_lets s1
  have h1 : s1.regsWf := .ite h.failAssembly h
  exact .ite h1.setPort.stat h1.failAssembly

theorem execMmFragmentReceive_wf {p : Fin 96} {f : Fragment} (h : s.regsWf) : ResWf (execMmFragmentReceive p f s) := by
  refine .ite (.next h) ?_
  split
  · exact .next h.firstFragment
  · exact .next h.failAssembly
  · exact .next h.failAssembly
  · exact .ite (.next h.failAssembly) (.ite (.next h.setPort.stat) (.next h.setPort.stat))

theorem execSpoilMarkerReceive_wf {p : Fin 96} (h : s.regsWf) : ResWf (execSpoilMarkerReceive p s) := by
  unfold execSpoilMarkerReceive
  extract_lets _
  split
  · exact .next h
  · split
    · exact .next h.setPort.setFrame
    · exact .next h.setPort.beside.stat

theorem execLpiEnter_wf {p : Fin 96} (h : s.regsWf) : ResWf (execLpiEnter p s) := .ite (.next h.sleepTx) (.next h)

theorem execLpiWake_wf {p : Fin 96} (h : s.regsWf) : ResWf (execLpiWake p s) := .next h.wakeTx

theorem execLpiIdleExpiry_wf {p : Fin 96} (h : s.regsWf) : ResWf (execLpiIdleExpiry p s) := .ite (.next h.sleepTx) (.next h)

theorem execRxLpiEntry_wf {p : Fin 96} (h : s.regsWf) : ResWf (execRxLpiEntry p s) := .ite (.next h.put.stat) (.next h)

theorem execRxLpiExit_wf {p : Fin 96} (h : s.regsWf) : ResWf (execRxLpiExit p s) := .next h.put

theorem execTwReqWrite_wf {p : Fin 96} {v : Word} (h : s.regsWf) : ResWf (execTwReqWrite p v s) := by
  refine .ite (.next h.modeRefused) (.ite ?_ (.next h))
  extract_lets s1
  have h1 : s1.regsWf := .ite h.setReg h.lockWrite.put
  exact .next (.ite h1 h1.applyTw)

theorem execTwApply_wf {p : Fin 96} (h : s.regsWf) : ResWf (execTwApply p s) := .next h.applyTw

theorem execErroredBlockReceive_wf {p : Fin 96} {k : LineError} (h : s.regsWf) : ResWf (execErroredBlockReceive p k s) := by
  refine .ite (.next h) ?_
  split
  · exact .next h.stat
  · exact .next h.stat
  · exact .next h.stat.portEvent

/-! ### The functions of Machine/Protect -/

theorem State.regsWf.warnCtx {n : Nat} (h : s.regsWf) : (s.warnCtx n).regsWf := h.ctxPut.ctxEvent

theorem State.regsWf.exhaustCtx {n : Nat} (h : s.regsWf) : (s.exhaustCtx n).regsWf := h.ctxPut.ctxEvent

theorem State.regsWf.replaySet {n pn : Nat} (h : s.regsWf) : (s.replaySet n pn).regsWf :=
  (h.ctxPut.when (fun _ h1 => h1.warnCtx)).when (fun _ h1 => h1.exhaustCtx)

theorem State.regsWf.leap {n : Nat} (h : s.regsWf) : (s.leap n).regsWf := by
  refine .ite h ?_
  extract_lets _ _ _ _ _ _ _ s3
  have h1 : s3.regsWf := h.setCtx.ctxPut.when (fun _ h1 => h1.warnCtx)
  exact h1.when (fun _ h2 => h2.exhaustCtx)

theorem State.regsWf.take {n : Nat} (h : s.regsWf) : FstWf (s.take n) :=
  .ite (.mk h.exhaustCtx) (.mk (h.ctxPut.when (fun _ h1 => h1.warnCtx)))

theorem State.regsWf.keyRefused {sl : Nat} (h : s.regsWf) : (s.keyRefused sl).regsWf := h.blk.count

theorem State.regsWf.deliver {sl : Nat} {us : List KeyUse} (h : s.regsWf) : (s.deliver sl us).regsWf :=
  h.each (fun _ _ h1 => h1.spend.touch.count)

/-! ### The functions of Machine/Queue -/

theorem State.regsWf.setFetches {g : Nat} {l : List CtxFetch} (h : s.regsWf) : (s.setFetches g l).regsWf := h.setCtx

theorem State.regsWf.lookCtx {g n : Nat} (h : s.regsWf) : FstWf (s.lookCtx g n) := .ite (.mk h.ctxPlace.count) (.mk h.count)

theorem State.regsWf.fetchCtx {g n : Nat} {id : Option Nat} (h : s.regsWf) : OptWf (s.fetchCtx g n id) :=
  .ite .none (.ite (.some h.setFetches) (.ite .none (.some h.setFetches.blk)))

theorem State.regsWf.startUnwrap {sl k : Nat} {id : Option Nat} (h : s.regsWf) : (s.startUnwrap sl k id).regsWf :=
  .ite h.setKey h.setKey.blk.count

theorem State.regsWf.genAdmit {p prof n : Nat} {c : Copy} (h : s.regsWf) : FstWf (s.genAdmit p prof n c) := by
  refine .ite (.mk h) (.ite (.mk h) (.ite (.mk h.ctxPut) (.ite (.mk h.ctxPut) (.ite (.mk h.ctxPut) (.ite ?_ ?_)))))
  · split
    · exact .mk (.ite h.ctxPut.lookCtx.fst.startUnwrap h.ctxPut.lookCtx.fst.startUnwrap.setExtra)
    · exact .mk (.ite h.ctxPut.lookCtx.fst h.ctxPut.lookCtx.fst.setExtra)
  · split
    · exact .mk (.ite (h.ctxPut.lookCtx.fst.fetchCtx.of ‹_›) (h.ctxPut.lookCtx.fst.fetchCtx.of ‹_›).setExtra)
    · exact .mk h.ctxPut.lookCtx.fst

theorem State.regsWf.wakeCopies {g : Nat} (h : s.regsWf) : (s.wakeCopies g).regsWf := by
  refine h.each (fun _ _ h1 => h1.foldl (fun _ _ h2 => ?_))
  split
  · refine .ite h2.setQueue.copyGone.blk (.ite h2 ?_)
    split
    · exact h2.startUnwrap
    · exact h2.setQueue
  · exact h2

theorem execExtraWorkDone_wf {sl : Fin 13} (h : s.regsWf) : ResWf (execExtraWorkDone sl s) := by
  unfold execExtraWorkDone
  split
  · exact .next h
  · exact .next h.setExtra
  · exact .ite (.next h.setExtra) (.next (h.setExtra.each (fun _ _ h1 => h1.setQueue)))

theorem State.regsWf.credits {p : Nat} (h : s.regsWf) : (s.credits p).regsWf := h.setSch

theorem State.regsWf.enqueue {s0 : State} {p k vid : Nat} {c : Copy} (h : s0.regsWf) : (s0.enqueue p k vid c).regsWf :=
  .ite h.credits.setSch.setQueue.wakeOnQueue h.credits.setQueue.wakeOnQueue

theorem State.regsWf.serial (h : s.regsWf) : FstWf (s.serial) := .mk h.setPath

theorem State.regsWf.redBox {id : Nat} {handle : Option Nat} {inPort j : Nat} (h : s.regsWf) :
    (s.redBox id handle inPort j).regsWf := by
  refine .ite h (State.regsWf.each ?_ fun _ _ h1 => h1.setQueue)
  split
  · exact h.srcPut
  · exact h.put

theorem State.regsWf.release {f : FrameRec} (h : s.regsWf) : (s.release f).regsWf := by
  unfold State.release
  extract_lets s1
  have h1 : s1.regsWf := h.each (fun _ _ h1 => h1.redBox)
  exact h1.each (fun _ _ h2 => h2.foldl (fun _ _ h3 => .ite (.ite h3.setQueue.blk.count h3.setQueue.copyGone.blk) h3.setQueue))

theorem State.regsWf.discardDup {id : Nat} (h : s.regsWf) : (s.discardDup id).regsWf :=
  h.each (fun _ _ h1 => h1.setQueue.foldl (fun _ _ h2 => h2.copyGone))

theorem execDbfReadDone_wf {p : Fin 96} {k : Fin 8} {ok : Bool} (h : s.regsWf) : ResWf (execDbfReadDone p k ok s) := by
  unfold execDbfReadDone
  dsimp only
  split
  · exact .next h
  · exact .ite (.next h.count.setQueue) (.next h.count.setQueue.copyGone.blk)

/-! ### The functions of Machine/Alarms -/

theorem State.regsWf.setRole {r : Nat} (h : s.regsWf) : (s.setRole r).regsWf := .ite h h.put.pairEvent

theorem State.regsWf.setPair {x : PairSt} (h : s.regsWf) : (s.setPair x).regsWf := h.beside

theorem State.regsWf.takeOver (h : s.regsWf) : s.takeOver.regsWf := h.setRole.setPair.setCtx.blk.pairEvent

theorem State.regsWf.stopTwin (h : s.regsWf) : s.stopTwin.regsWf := h.each (fun _ _ h1 => h1.abortLine.dropQueues)

theorem State.regsWf.yieldOut (h : s.regsWf) : s.yieldOut.regsWf :=
  .ite h (h.when (fun _ h1 => h1.emit)).stopTwin.setRole.setPair

theorem State.regsWf.enterHold (h : s.regsWf) : s.enterHold.regsWf := h.yieldOut.beside

theorem State.regsWf.dropLath (h : s.regsWf) : s.dropLath.regsWf := h.put.put.put.put

theorem State.regsWf.disablePorts (h : s.regsWf) : s.disablePorts.regsWf := h.each (fun _ _ h1 => h1.toLink)

theorem State.regsWf.enterFault (h : s.regsWf) : s.enterFault.regsWf := h.yieldOut.disablePorts.dropLath.beside

theorem State.regsWf.shutDebug (h : s.regsWf) : s.shutDebug.regsWf := h.beside.put

theorem State.regsWf.doErase (h : s.regsWf) : s.doErase.regsWf := h.beside.dropRootKeys.keyGauges

theorem State.regsWf.failInFlight (h : s.regsWf) : s.failInFlight.regsWf := h.setPath

theorem State.regsWf.zeroKeys (h : s.regsWf) : s.zeroKeys.regsWf := h.setKey.keyGauges.put

theorem State.regsWf.doContain (h : s.regsWf) : s.doContain.regsWf :=
  .ite h.shutDebug.enterHold (.ite h.shutDebug.beside h.shutDebug)

theorem State.regsWf.doPurge (h : s.regsWf) : s.doPurge.regsWf := h.failInFlight.zeroKeys.disablePorts.dropLath.beside

theorem State.regsWf.respond {set : Nat} {fault : Bool} (h : s.regsWf) : (s.respond set fault).regsWf := by
  unfold State.respond
  extract_lets s1 s2
  have h1 : s1.regsWf := h.when (fun _ h1 => h1.doErase)
  have h2 : s2.regsWf := h1.when (fun _ h2 => h2.doPurge)
  exact .ite h2.enterFault (h2.when (fun _ h3 => h3.doContain))

theorem State.regsWf.postAlarm {r : LogRec} (h : s.regsWf) : (s.postAlarm r).regsWf := .ite h h.record

theorem State.regsWf.setAlarmStatus {causes seq : Nat} (h : s.regsWf) : (s.setAlarmStatus causes seq).regsWf :=
  h.beside.each (fun _ _ h1 => h1.record)

theorem State.regsWf.putLog {entry : Nat} {r : LogRec} (h : s.regsWf) : (s.putLog entry r).regsWf := h.beside

theorem State.regsWf.setAlarm {x : Alarm} (h : s.regsWf) : (s.setAlarm x).regsWf := h.beside

theorem State.regsWf.alarmNow {causes detail force : Nat} (h : s.regsWf) : (s.alarmNow causes detail force).regsWf := by
  unfold State.alarmNow
  dsimp only
  split
  · split
    · exact h.respond.putLog.setAlarmStatus.postAlarm.beside.setAlarm
    · exact h
  · exact h.respond.beside.putLog.setAlarmStatus.postAlarm.setAlarm

theorem State.regsWf.raise {k detail : Nat} (h : s.regsWf) : (s.raise k detail).regsWf := by
  refine .ite h ?_
  extract_lets _ _ _ s2
  have h1 : s2.regsWf := h.setAlarm.when (fun _ h1 => h1.put)
  exact h1.alarmNow

theorem State.regsWf.stopMachine {r : Nat} (h : s.regsWf) : (s.stopMachine r).regsWf := .ite h.setAlarm.shutDebug h.setAlarm

theorem execMonitorTrip_wf {t : Trip} (h : s.regsWf) : ResWf (execMonitorTrip t s) :=
  .ite (.next h) (.next (h.when (fun _ h1 => h1.stopMachine)).raise)

theorem execAlarmRearm_wf {k : Fin 22} (h : s.regsWf) : ResWf (execAlarmRearm k s) := .next h.setAlarm

theorem execEncCfgApply_wf {v : Word} (h : s.regsWf) : ResWf (execEncCfgApply v s) := .ite (.next h.beside.setAlarm) (.next h)

theorem execMonitorTestRound_wf (h : s.regsWf) : ResWf (execMonitorTestRound s) := .ite (.next h.setAlarm) (.next h)

theorem execTestWindowEnd_wf {d : Fin 15} {tripped genuine : Bool} (h : s.regsWf) :
    ResWf (execTestWindowEnd d tripped genuine s) := by
  refine .ite (.next h) ?_
  extract_lets _ _ s2
  have h1 : s2.regsWf := h.setAlarm.when (fun _ h1 => h1.put.raise)
  exact .next (h1.when (fun _ h2 => h2.beside.raise))

theorem execMonDisagree_wf {d : Fin 15} (h : s.regsWf) : ResWf (execMonDisagree d s) :=
  .ite (.next h.raise.blk.domEvent) (.next h)

theorem execFloorCmd_wf (h : s.regsWf) : ResWf (execFloorCmd s) := .ite (.next h) (.ite (.next h.put) (.next h.beside.put))

theorem execHealthKick_wf (h : s.regsWf) : ResWf (execHealthKick s) := .ite (.next h.setAlarm) (.next h)

theorem execHealthKickExpiry_wf (h : s.regsWf) : ResWf (execHealthKickExpiry s) := .next h.setAlarm

/-! ### The functions of Machine/Memory -/

theorem State.regsWf.poison {lo hi : Nat} (h : s.regsWf) : (s.poison lo hi).regsWf := h.setMem

theorem State.regsWf.memOccur {b addr v1 : Nat} (h : s.regsWf) : (s.memOccur b addr v1).regsWf :=
  .ite h.put.put.memEvent.setMem.record h.put.put.memEvent

theorem State.regsWf.zeroStatLine {i : Nat} (h : s.regsWf) : (s.zeroStatLine i).regsWf := by
  refine .ite h.beside ?_
  dsimp only
  split
  · exact .ite h.beside h
  · exact h

theorem State.regsWf.loseStaged (h : s.regsWf) : s.loseStaged.regsWf := by
  unfold State.loseStaged
  split
  · split
    · exact h.beside.blk.perfEvent
    · exact h
  · exact h

theorem State.regsWf.poisonData {k lo hi : Nat} (h : s.regsWf) : (s.poisonData k lo hi).regsWf :=
  .ite (h.each (fun _ _ h1 => h1.poison.quarantine)) (.ite (h.each (fun _ _ h1 => h1.poison.quarSlot))
      (.ite h.poison.raise (.ite (h.each (fun _ _ h1 => h1.zeroStatLine)) (.ite h.poison.loseStaged h.poison))))

theorem State.regsWf.nodeTouch {n : Nat} {dirty : Bool} (h : s.regsWf) : (s.nodeTouch n dirty).regsWf := .ite h h.setMem

theorem State.regsWf.walk {n : Nat} : ∀ {k : Nat} {s : State}, s.regsWf → (s.walk n k).regsWf
  | 0, _, h => h
  | k + 1, s, h => by
    unfold State.walk
    refine .ite h.nodeTouch.count ?_
    split
    · exact h.count.walk.nodeTouch
    · exact h.count

theorem State.regsWf.bump {n c : Nat} : ∀ {k : Nat} {s : State}, s.regsWf → ExcWf (s.bump n c k)
  | 0, _, _ => .error
  | k + 1, s, h => by
    unfold State.bump
    extract_lets _
    split
    · exact .error
    · extract_lets s1 s2
      have h1 : s2.regsWf := (h.setMem.when fun _ h1 => h1.count).nodeTouch
      split
      · exact h1.bump
      · exact .ite (.ok h1.setMem) .error

theorem State.regsWf.majorLimit {n : Nat} (h : s.regsWf) : (s.majorLimit n).regsWf := h.memEvent.raise

theorem State.regsWf.loseNode {n : Nat} (h : s.regsWf) : (s.loseNode n).regsWf := .ite h.setMem h.setMem

theorem execNodeRebuildDone_wf {n : Nat} (h : s.regsWf) : ResWf (execNodeRebuildDone n s) := by
  refine .ite (.next h) (.ite (.next h.majorLimit) ?_)
  extract_lets _ _ _ _ s1 _ _ s2
  have h1 : s1.regsWf := h.setMem
  have h2 : s2.regsWf := by
    unfold s2
    split
    · split
      · exact h1.bump.of ‹_›
      · exact h1.majorLimit
    · exact .ite h1.setMem h1.majorLimit
  split
  extract_lets s3
  have h3 : s3.regsWf := by
    unfold s3
    split
    · exact h2.poisonData
    · exact h2
  exact .next h3.blk.memOccur

theorem State.regsWf.accessRefused {r : Requester} {l : Nat} (h : s.regsWf) : (s.accessRefused r l).regsWf :=
  h.emit.when (fun _ h1 => h1.memOccur)

theorem State.regsWf.badData {k l : Nat} {tag : Bool} (h : s.regsWf) : (s.badData k l tag).regsWf :=
  .ite (.ite h (h.blk.memOccur.poisonData.when (fun _ h1 => h1.raise))) (.ite h.blk.memOccur h.blk.memOccur.poisonData)

theorem State.regsWf.badNode {n : Nat} {tag : Bool} (h : s.regsWf) : (s.badNode n tag).regsWf :=
  .ite h.blk.memOccur.loseNode.raise h.blk.memOccur.loseNode

theorem State.regsWf.badTags {l : Nat} (h : s.regsWf) : (s.badTags l).regsWf := by
  refine h.blk.memOccur.each (fun _ _ h1 => ?_)
  split
  · exact .ite (.ite h1.loseNode h1) (.ite h1 h1.poisonData)
  · exact h1

theorem State.regsWf.readData {k : Nat} {m : MemRead} (h : s.regsWf) : (s.readData k m).regsWf := by
  unfold State.readData
  extract_lets _ s1
  have h1 : s1.regsWf := (h.when (fun _ h1 => h1.walk)).count
  refine .ite h1.emit (.ite h1.blk.memEvent.emit ?_)
  split
  · exact h1.emit
  · exact h1.blk.emit
  · exact h1.badData.emit
  · exact .ite h1.emit h1.badData.emit

theorem State.regsWf.readMeta {k : Nat} {m : MemRead} (h : s.regsWf) : (s.readMeta k m).regsWf := by
  refine .ite (.ite h.count ?_) ?_
  · split
    · exact h.count.nodeTouch
    · exact h.count.blk.nodeTouch
    · exact h.count.badNode
    · exact h.count.badNode
  · split
    · exact h.badTags
    · exact h.blk
    · exact h

theorem State.regsWf.readLine {k : Nat} {m : MemRead} (h : s.regsWf) : (s.readLine k m).regsWf := .ite h.readMeta h.readData

theorem execMemReadDone_wf {m : MemRead} (h : s.regsWf) : ResWf (execMemReadDone m s) := by
  unfold execMemReadDone
  split
  · exact .fault
  · exact .ite (.next h.accessRefused) (.ite (.next h.accessRefused) (.ite (.next h) (.next h.readLine)))

theorem execScrubRead_wf {m : MemRead} (h : s.regsWf) : ResWf (execScrubRead m s) := by
  unfold execScrubRead
  split
  · exact .fault
  · exact .ite (.next h) (.ite (.next h) (.next h.count.readLine))

theorem State.regsWf.storeLine {k : Nat} {w : MemWrite} (h : s.regsWf) : (s.storeLine k w).regsWf := .ite h.setMem h

theorem State.regsWf.writeLine {k : Nat} {w : MemWrite} (h : s.regsWf) : (s.writeLine k w).regsWf := by
  refine .ite ?_ h.storeLine.unpoison
  split
  · exact (h.walk.bump.of ‹_›).storeLine.unpoison
  · exact h.majorLimit.emit

theorem execMemLineWrite_wf {w : MemWrite} (h : s.regsWf) : ResWf (execMemLineWrite w s) := by
  unfold execMemLineWrite
  split
  · exact .fault
  · refine .ite (.next h.accessRefused) (.ite (.next h) (.ite (.next h.emit)
        (.ite (.next h.count.writeLine) (.ite (.next h.count.blk.memEvent.blk.memOccur.emit) ?_))))
    split
    · exact .next h.count.writeLine
    · exact .next h.count.blk.writeLine
    · exact .next (h.count.badData.when (fun _ h1 => h1.blk.memOccur)).emit
    · exact .ite (.next h.count.writeLine) (.next h.count.badData.blk.memOccur.emit)

theorem execMemRootError_wf {k : Fin 80} (h : s.regsWf) : ResWf (execMemRootError k s) := .next h.setMem.raise

theorem execStackTempChange_wf {hot : Bool} (h : s.regsWf) : ResWf (execStackTempChange hot s) :=
  .ite (.next h) (.next h.put.memEvent)

theorem execMcuCoreFault_wf {k : Fin 4} {line : Nat} (h : s.regsWf) : ResWf (execMcuCoreFault k line s) := by
  unfold execMcuCoreFault
  extract_lets _ s2
  have h1 : s2.regsWf := by
    unfold s2
    split
    · exact .ite (.ite h.put.badNode h.put) (.ite h.put h.put.badData)
    · exact h.put
  exact .next h1.raise

theorem State.regsWf.idGauge (h : s.regsWf) : s.idGauge.regsWf := h.put

theorem State.regsWf.keySet {i : Nat} {on : Bool} (h : s.regsWf) : (s.keySet i on).regsWf := h.put

theorem State.regsWf.memRefused (h : s.regsWf) : s.memRefused.regsWf := h.memEvent

theorem execSkimStart_wf {v : Word} (h : s.regsWf) : ResWf (execSkimStart v s) := by
  refine .ite (.next h) (.ite (.next h.memRefused) (.ite (.next h.put.put) ?_))
  extract_lets _ s2
  have h1 : s2.regsWf := h.put.put.each (fun _ _ h1 => h1.keySet.setMem)
  exact .next h1.setMem.put.put.idGauge

theorem execSkimGroupMove_wf (h : s.regsWf) : ResWf (execSkimGroupMove s) := by
  unfold execSkimGroupMove
  split
  · exact .next h
  · refine .ite (.next h) ?_
    split
    · exact .next h
    · refine .ite (.next h) ?_
      extract_lets _ s1 s2
      have h1 : s1.regsWf := h.each (fun _ _ h1 => (h1.when (fun _ h2 => h2.blk.memEvent)).count)
      have h2 : s2.regsWf := (h1.each (fun _ _ h2 => h2.count)).count
      exact .ite (.next h2.put) (.ite (.next h2.put.keySet.put.setMem.put.put.idGauge.memEvent)
          (.next h2.put.keySet.put.setMem.idGauge))

theorem execStripDone_wf (h : s.regsWf) : ResWf (execStripDone s) := .ite (.next h.beside.put) (.next h)

theorem State.regsWf.relayout {b : Bool} (h : s.regsWf) : State.regsWf { s with regs := memLayout b s.regs } := by
  unfold State.regsWf
  dsimp only
  exact memLayout_wf b h

theorem execDbufTWrite_wf {v : Word} (h : s.regsWf) : ResWf (execDbufTWrite v s) := by
  unfold execDbufTWrite
  refine .ite (.ite (.next h.memRefused) (.ite (.next h) ?_)) (.next h.lockWrite)
  extract_lets s1 ids s2 s3 s4 cut
  have h1 : s1.regsWf := h.put.put
  have h2 : s2.regsWf := State.regsWf.relayout h1
  have h3 : s3.regsWf := h2.each fun _ _ h => h.put
  have h4 : s4.regsWf := h3.each fun _ _ h => h.put
  exact .next h4.setMem.beside

theorem State.regsWf.firstRaw (h : s.regsWf) : s.firstRaw.regsWf := by
  unfold State.firstRaw
  extract_lets _ s1 _ _ s3
  have h1 : s1.regsWf := h.each (fun _ _ h1 => h1.keySet)
  have h2 : s3.regsWf := .ite h1.setMem.enterHold h1.setMem
  exact h2.memEvent

theorem execRawDebugAccess_wf {a : RawAccess} (h : s.regsWf) : ResWf (execRawDebugAccess a s) := by
  unfold execRawDebugAccess
  split
  · exact .fault
  · refine .ite (.next h.accessRefused) ?_
    extract_lets s1
    have h1 : s1.regsWf := .ite h h.firstRaw
    exact .next h1.beside.emit

/-! ### The functions of Machine/Receive -/

theorem State.regsWf.arrive {ct p t : Nat} (h : s.regsWf) : FstWf (s.arrive ct p t) := by
  unfold State.arrive
  dsimp only
  split
  · exact .mk h
  · exact .mk h.beside

theorem State.regsWf.filter {f : FrameRec} (h : s.regsWf) : FstWf (s.filter f) := by
  refine .ite (.mk h) (.ite (.mk (.ite h.setFlt h)) (.ite (.mk h) (.ite (.mk h) ?_)))
  dsimp only
  split
  · exact .mk (h.colour.fst_of ‹_›)
  · exact .ite (.mk (h.colour.fst_of ‹_›)) (.mk (h.colour.fst_of ‹_›))
  · exact .mk (.ite (h.colour.fst_of ‹_›).ctNonconf (h.colour.fst_of ‹_›))

theorem State.regsWf.checkKeys {f : FrameRec} {n j : Nat} {us : List KeyUse} {next : State → FrameRec → State × FrameRec}
    (h : s.regsWf) (hnext : ∀ t g, t.regsWf → FstWf (next t g)) : FstWf (s.checkKeys f n j us next) := by
  unfold State.checkKeys
  dsimp only
  split
  · exact .mk h.startUnwrap
  · exact .ite (.mk h.keyRefused) (hnext _ _ h)

theorem State.regsWf.preCheck {f : FrameRec} {n pn : Nat} {guard : Guard} (h : s.regsWf) : FstWf (s.preCheck f n pn guard) := by
  unfold State.preCheck
  split
  · exact .mk h
  · exact .mk h
  · exact h.filter

theorem State.regsWf.useCtx {f : FrameRec} {n : Nat} (h : s.regsWf) : FstWf (s.useCtx f n) := by
  refine .ite (.ite (.mk h) ?_) ?_
  · split
    · exact .mk h
    · exact h.checkKeys (fun _ _ h1 => h1.preCheck)
  · split
    · exact .mk h
    · exact .ite (.mk h) (h.checkKeys (fun _ _ h1 => h1.preCheck))

theorem State.regsWf.selectCtx {f : FrameRec} {n : Nat} (h : s.regsWf) : FstWf (s.selectCtx f n) := by
  refine .ite (.mk h) (.ite h.lookCtx.fst.useCtx ?_)
  split
  · exact .mk (h.lookCtx.fst.fetchCtx.of ‹_›)
  · exact .mk h.lookCtx.fst

theorem State.regsWf.macHead {f : FrameRec} (h : s.regsWf) : FstWf (s.macHead f) := by
  refine .ite (.mk h) ?_
  split
  · exact .mk h
  · refine .ite (.mk h) ?_
    split
    · exact .mk h
    · exact h.selectCtx

theorem State.regsWf.profHead {f : FrameRec} {prof : Nat} (h : s.regsWf) : FstWf (s.profHead f prof) :=
  .ite (.mk h) (.ite h.selectCtx (.ite (.mk h) (.ite (.mk h) h.ctxPut.selectCtx)))

theorem State.regsWf.headChecks {f : FrameRec} (h : s.regsWf) : FstWf (s.headChecks f) := by
  unfold State.headChecks
  split
  · exact .mk h
  · exact h.macHead
  · exact h.profHead
  · exact h.filter

theorem State.regsWf.head {f : FrameRec} (h : s.regsWf) : FstWf (s.head f) :=
  .ite (.mk h) (.ite (.mk h) (.ite (.mk h) (.ite (.mk h) (.headChecks (FstWf.fst (.ite h.arrive (.mk h)))))))

theorem State.regsWf.addFrame {f : FrameRec} (h : s.regsWf) : (s.addFrame f).regsWf := h.setPath

theorem execFrameHeadReceive_wf {i : RxHead} (h : s.regsWf) : ResWf (execFrameHeadReceive i s) :=
  .ite (.next h) (.ite (.next h.blk) (.next h.count.addFrame.head.fst.setFrame))

theorem State.regsWf.countLater {f : FrameRec} {t : Tally} (h : s.regsWf) : FstWf (s.countLater f t) :=
  .ite (.mk h.tally) (.mk h)

theorem State.regsWf.forwardCopy {f : FrameRec} {p : Nat} (h : s.regsWf) : FstWf (s.forwardCopy f p) := by
  unfold State.forwardCopy
  extract_lets _
  split
  rename_i s0 _ e
  have h0 : s0.regsWf := h.serial.fst_of e
  extract_lets _ c0 _
  refine .ite (.mk h.blk.ctLost) (.ite h0.countLater ?_)
  split
  rename_i s1 r e1
  have h1 : s1.regsWf := (FstWf.ite h0.genAdmit (.mk h0)).fst_of e1
  split
  · split
    rename_i s2 _ e2
    exact .mk (h1.countLater.fst_of e2).ctLost
  · extract_lets m path s2 _ s3
    have h2 : s2.regsWf := by
      unfold s2
      clear_value m
      split
      · exact h1.setStart
      · exact h1
    clear_value path
    have h3 : s3.regsWf := h2.enqueue
    split
    · exact .mk (h3.txGauge.when fun _ h4 => h4.rxGauge)
    · exact .mk h3
    · exact .mk h3
    · exact .mk h3

theorem State.regsWf.decide_ {f : FrameRec} (h : s.regsWf) : FstWf (s.decide_ f) :=
  .ite (.mk h) (.ite (.mk h) (.foldl (.mk (FstWf.fst (.foldl (.mk h) (fun _ _ h1 => h1.fst.countLater))))
      (fun _ _ h1 => h1.fst.forwardCopy)))

theorem State.regsWf.srcJudge {f : FrameRec} {i q : Nat} (h : s.regsWf) : FstWf (s.srcJudge f i q) := by
  unfold State.srcJudge
  dsimp only
  split
  · exact .mk h.count
  · exact .mk h.count
  · exact .mk h.count.count
  · exact .mk h.count.count

theorem State.regsWf.srcRecord {f : FrameRec} (h : s.regsWf) : (s.srcRecord f).regsWf := by
  unfold State.srcRecord
  split
  · exact .ite h.srcPut h.srcPut
  · split
    · exact h.blk
    · exact h

theorem State.regsWf.stencil {f : FrameRec} (h : s.regsWf) : (s.stencil f).regsWf :=
  .ite (h.each (fun _ _ h1 => h1.count.stnQueue)) h

theorem State.regsWf.learn {f : FrameRec} (h : s.regsWf) : (s.learn f).regsWf := by
  refine .ite ?_ h
  split
  · exact h.count.learnRequest
  · exact .ite h.setHits (.ite h.blk h.count.learnRequest)

theorem State.regsWf.rxStats {f : FrameRec} {bad : Nat} (h : s.regsWf) : (s.rxStats f bad).regsWf :=
  .ite h.statAdd.stat (.ite h.statAdd.stat h.statAdd.statAdd.stat.stat.stat)

theorem State.regsWf.trap {f : FrameRec} (h : s.regsWf) : (s.trap f).regsWf := .ite h.pf2Deliver (.ite h.pf2Deliver h)

theorem State.regsWf.ptpStamp {f : FrameRec} (h : s.regsWf) : (s.ptpStamp f).regsWf := by
  unfold State.ptpStamp
  split
  · exact .ite h.count h
  · exact h

theorem State.regsWf.wetVerdict {f : FrameRec} {set : Bool} (h : s.regsWf) : (s.wetVerdict f set).regsWf := by
  unfold State.wetVerdict
  extract_lets _ s1
  have h1 : s1.regsWf := h.each (fun _ _ h1 => .ite h1.txGauge.blk.count.blk.count h1.txGauge.blk.count)
  exact h1.when (fun _ h2 => h2.rxGauge)

theorem State.regsWf.recordSet {f : FrameRec} (h : s.regsWf) : (s.recordSet f).regsWf := h.srcRecord.stencil

theorem State.regsWf.sendOn {f : FrameRec} (h : s.regsWf) : (s.sendOn f).regsWf := .ite h.release h.discardDup

theorem State.regsWf.freeHeld {i q : Nat} (h : s.regsWf) : (s.freeHeld i q).regsWf := by
  refine h.foldl (fun _ _ h1 => ?_)
  split
  · exact h1
  · refine .ite h1 ?_
    suffices h2 : State.regsWf _ by
      exact .ite (.reap (.sendOn (.recordSet (.ite h2 h2.discardDup)))) (.ite h2 h2.discardDup)
    exact h1.srcJudge.fst.setFrame

theorem State.regsWf.setFrameDone {f0 : FrameRec} (h : s.regsWf) : (s.setFrameDone f0).regsWf := by
  unfold State.setFrameDone
  extract_lets f s0 row s1 s2 s4 s5 s6 s7 s8 s9
  have h0 : s0.regsWf := h.setFrame.wetVerdict
  have h1 : s1.regsWf := by
    unfold s1
    split
    · exact h0.replaySet
    · exact h0.replaySet
    · exact h0
  have h2 : s2.regsWf := .ite h1 h1.recordSet
  have h4 : s4.regsWf := h2.learn.settleLater.ctNonconf
  have h5 : s5.regsWf := h4.rxStats
  have h6 : s6.regsWf := by
    unfold s6
    split
    · exact h5.ctxCount.statAdd
    · exact h5.ctxCount
    · exact h5
  have h7 : s7.regsWf := h6.ptpStamp.trap
  have h8 : s8.regsWf := h7.sendOn
  have h9 : s9.regsWf := by
    unfold s9
    split
    · exact h8.freeHeld
    · exact h8
  exact .ite h7 h9.reap

theorem State.regsWf.spoilFrame {f0 : FrameRec} {reason : Nat} {drop : Tally} (h : s.regsWf) :
    (s.spoilFrame f0 reason drop).regsWf := by
  unfold State.spoilFrame
  extract_lets _ _ _ _ s1 s2 s3 _ s5
  have h1 : s1.regsWf := h.setFrame.wetVerdict.settleLater
  have h2 : s2.regsWf := .ite h1.rxStats.tally.ctNonconf (.ite h1.rxStats h1.tally)
  have h3 : s3.regsWf := by
    unfold s3
    split
    · exact h2.refund
    · exact h2
  have h4 : s5.regsWf := by
    unfold s5
    split
    · exact .ite h3.discardStored h3.discardStored.freeHeld
    · exact h3.discardStored
  exact h4.reap

theorem execFrameWet_wf {id : Nat} (h : s.regsWf) : ResWf (execFrameWet id s) := by
  unfold execFrameWet
  split
  · exact .next h
  · refine .ite (.next h) ?_
    extract_lets _ opened
    clear_value opened
    split
    extract_lets s1 s2 _
    have h2 : s2.regsWf := .ite h.deliver.setExtra h.deliver
    split
    rename_i s3 f2 e
    have h3 : s3.regsWf := by
      split at e
      · exact (FstWf.mk h2.srcJudge.fst).fst_of e
      · exact (FstWf.mk h2).fst_of e
    exact .next h3.decide_.fst.setFrame

theorem execForwardingLookupDone_wf {id : Nat} (h : s.regsWf) : ResWf (execForwardingLookupDone id s) := by
  unfold execForwardingLookupDone
  split
  · exact .next h
  · refine .ite (.next h) ?_
    suffices h1 : State.regsWf _ by
      exact .ite (.next h1.trap.sendOn.reap) (.next h1)
    exact h.count.decide_.fst.setFrame

theorem State.regsWf.forget {id : Nat} (h : s.regsWf) : (s.forget id).regsWf := h.dropFrame.setCtx.setKey

theorem State.regsWf.noteBad {f : FrameRec} {i : Nat} (h : s.regsWf) : (s.noteBad f i).regsWf := h.setPort

theorem State.regsWf.finishDropped {f : FrameRec} (h : s.regsWf) : (s.finishDropped f).regsWf :=
  .ite h.forget.rxStats (h.forget.rxStats.settleLater.tally.when (fun _ h1 => h1.each (fun _ _ h2 => h2.ctLost)))

theorem execFrameEndReceive_wf {id : Nat} {e : RxEnd} (h : s.regsWf) : ResWf (execFrameEndReceive id e s) := by
  unfold execFrameEndReceive
  split
  · exact .next h
  · refine .ite (.next h) (.ite (.ite ?_ (.next h.noteBad.finishDropped))
        (.ite (.ite (.next (h.noteBad.forget.rxStats.when (fun _ h1 => ?_))) (.next h.noteBad.setFrame))
        (.ite (.next h.noteBad.setFrame.spoilFrame) ?_)))
    · suffices h1 : State.regsWf _ by
        exact .ite (.next h1) (.next h1.stat.pf2Deliver)
      exact h.noteBad.forget.rxStats
    · split
      · exact h1.refund
      · exact h1
    · suffices h1 : State.regsWf _ by
        exact .ite (.next h1) (.next (h1.when (fun _ h2 => h2.addFrame)))
      refine .setFrameDone (.setFrame (FstWf.fst ?_))
      split
      · exact h.noteBad.srcJudge
      · exact .mk h.noteBad

theorem execFrameVerdict_wf {id : Nat} (h : s.regsWf) : ResWf (execFrameVerdict id s) := by
  unfold execFrameVerdict
  split
  · exact .next h
  · refine .ite (.next h) ?_
    extract_lets _ s1
    have h1 : s1.regsWf := .ite h.setExtra h
    split
    · exact .ite (.next h1.setFrameDone) (.next (h1.setFrameDone.when (fun _ h2 => h2.addFrame)))
    · exact .next h1.spoilFrame

theorem State.regsWf.resume {id : Nat} {go : State → FrameRec → Nat → State × FrameRec} (h : s.regsWf)
    (hgo : ∀ t g m, t.regsWf → FstWf (go t g m)) : (s.resume id go).regsWf := by
  unfold State.resume
  split
  · exact h
  · split
    · exact h
    · split
      rename_i s1 g e
      have h1 : s1.regsWf := (hgo _ _ _ h).fst_of e
      split
      · exact h1.finishDropped
      · exact h1.decide_.fst.setFrame

theorem execContextFetchDone_wf {g : Fin 12} {n : Fin 262144} {ok : Bool} (h : s.regsWf) :
    ResWf (execContextFetchDone g n ok s) := by
  unfold execContextFetchDone
  dsimp only
  split
  · exact .next h
  · exact .next (.wakeCopies (.each (.ite (.ite h.setFetches.ctxPlace h.setFetches)
        (.ite h.setFetches.quarantine h.setFetches.ctxPut)) (fun _ _ h1 => h1.resume
        (fun _ _ _ h2 => .ite (.mk h2) h2.useCtx))))

theorem execKeyUnwrapDone_wf {k : Fin 262144} {ok : Bool} (h : s.regsWf) : ResWf (execKeyUnwrapDone k ok s) := by
  unfold execKeyUnwrapDone
  split
  · exact .next h
  · extract_lets _ s1 placed
    have hp : OptWf placed := .ite h.setKey.slotPlace (.some h.setKey.quarSlot)
    cases e : placed with
    | none => exact .next h
    | some s2 =>
      exact .next (((hp.of e).each fun _ _ h3 => h3.resume fun _ _ _ h4 => h4.useCtx).each fun _ _ h3 => h3.wakeCopies)

/-! ### The functions of Machine/Transmit -/

theorem State.regsWf.unqueue {p k : Nat} {c : Copy} (h : s.regsWf) : (s.unqueue p k c).regsWf := h.credits.setQueue

theorem State.regsWf.dropNeverFit {p k : Nat} : ∀ {n : Nat} {s : State}, s.regsWf → (s.dropNeverFit p k n).regsWf
  | 0, _, h => h
  | n + 1, s, h => by
    unfold State.dropNeverFit
    split
    · exact .ite h.unqueue.copyGone.blk.schedEvent.dropNeverFit h
    · exact h

theorem State.regsWf.ptpOut {p m : Nat} {c : Copy} {committed : Bool} (h : s.regsWf) : FstWf (s.ptpOut p c m committed) := by
  refine .ite (.mk h) ?_
  split
  · extract_lets s1
    have h1 : s1.regsWf := .ite h.count h
    refine .ite (.mk h1) (.ite (.ite (.mk h1) (.ite (.ite (.mk h1.beside) (.mk h1.beside.blk)) (.mk h1))) (.ite ?_ (.mk h1)))
    split
    · exact .mk h1.beside
    · exact .mk h1
  · exact .mk h

theorem State.regsWf.dropOut {p : Nat} {c : Copy} {f : State → State} (h : s.regsWf) (hf : ∀ t, t.regsWf → (f t).regsWf) :
    FstWf (s.dropOut p c f) :=
  .mk (hf _ h.copyGone)

theorem State.regsWf.generate {p n : Nat} {c : Copy} (h : s.regsWf) : FstWf (s.generate p c n) :=
  .ite (.mk h.leap.blk) (.ite (.mk h.leap.ctxCount) (.ite (.mk h.leap)
      (.ite (.mk h.leap.keyRefused) (.mk h.leap.deliver.take.fst))))

theorem State.regsWf.protectOut {p : Nat} {c : Copy} (h : s.regsWf) : FstWf (s.protectOut p c) := by
  unfold State.protectOut
  extract_lets sl mac n s0 w
  have h0 : s0.regsWf := .ite h.leap h
  refine .ite (h.dropOut fun _ h1 => h1.stat) (.ite (h0.dropOut fun _ h1 => h1.stat) (.ite (h0.dropOut fun _ h1 => h1.blk)
    (.ite (h0.dropOut fun _ h1 => h1.ctxCount) (.ite (h0.dropOut fun _ h1 => h1.ctxCount.keyRefused) ?_))))
  split
  rename_i s1 inner e
  have h1 : s1.regsWf := by
    split at e
    · exact h0.generate.fst_of e
    · exact (FstWf.mk h0).fst_of e
  split
  · exact h1.dropOut fun _ h2 => h2
  · exact .ite (.mk h1.deliver.take.fst) (.mk h1)

theorem State.regsWf.lineStart {p : Nat} {x : Sending} (h : s.regsWf) : (s.lineStart p x).regsWf := h.setLine.count

theorem State.regsWf.startCopy {p k m : Nat} {c : Copy} {cut end_ : Option Nat} {committed : Bool} (h : s.regsWf) :
    (s.startCopy p k c m cut end_ committed).regsWf := by
  refine .ite h.hostDone.blk ?_
  split
  rename_i s1 r e
  have h1 : s1.regsWf := h.ptpOut.fst_of e
  split
  · exact h1.copyGone
  · split
    rename_i s2 w e2
    have h2 : s2.regsWf := h1.protectOut.fst_of e2
    split
    · exact h2
    · exact h2.lineStart

theorem State.regsWf.cutAt {p n : Nat} {x : Sending} (h : s.regsWf) : (s.cutAt p x n).regsWf := h.setLine

theorem execTxCommit_wf {p : Fin 96} {start : Nat} (h : s.regsWf) : ResWf (execTxCommit p start s) := by
  refine .ite (.next h) ?_
  split
  · exact .next h.setStart
  · split
    · exact .next h.setStart
    · exact .next (h.when (fun _ h1 => h1.setStart))

theorem execTransmitStart_wf {p : Fin 96} (h : s.regsWf) : ResWf (execTransmitStart p s) := by
  refine .ite (.next h) ?_
  suffices h1 : State.regsWf _ by
    dsimp only
    split
    · split
      · exact .next h1
      · exact .next (h1.when (fun _ h2 => h2.cutAt))
    · refine .ite (.next h1) ?_
      suffices h2 : State.regsWf _ by
        split
        · exact .next h2
        · exact .next (.startCopy (.ite h2.unqueue.setSch h2.unqueue))
        · split
          · exact .next h2.setLine.lineStart
          · exact .next h2
      split
      · exact h1.dropStart
      · exact h1
  exact h.credits.each (fun _ _ h1 => h1.dropNeverFit)

theorem execReservedStart_wf {p : Fin 96} {ct : Fin 16384} (h : s.regsWf) : ResWf (execReservedStart p ct s) := by
  unfold execReservedStart
  extract_lets p ct
  split
  · exact .next h
  · extract_lets holder empty s1 next
    clear_value holder
    have he : ∀ t, t.regsWf → (empty t).regsWf := fun _ h1 => h1.dropStart.blk.count
    split
    · exact .next (he _ h)
    · refine .ite ?_ ?_
      · extract_lets s2
        have h2 : s2.regsWf := by
          unfold s2
          clear_value next
          split
          · exact (he _ h).setStart
          · exact he _ h
        exact .next h2.setQueue
      · split
        · split
          · exact .next h.cutAt
          · exact .next h
        · exact .next h.unqueue.dropStart.startCopy

theorem State.regsWf.tailOf {p : Nat} {x : Sending} (h : s.regsWf) : FstWf (s.tailOf p x) := by
  unfold State.tailOf
  split
  · exact .mk h
  · exact .mk h
  · refine .ite (.mk h) ?_
    split
    · exact .mk h
    · exact .ite (.mk h.blk.wetEvent) (.mk h)

theorem execTailRelease_wf {id : Nat} {p : Fin 96} (h : s.regsWf) : ResWf (execTailRelease id p s) := by
  unfold execTailRelease
  dsimp only
  split
  · exact .next h
  · exact .ite (.next h) (.ite (.next h) (.next h.tailOf.fst.setLine))

theorem State.regsWf.wetLeaves {p : Nat} {c : Copy} (h : s.regsWf) : (s.wetLeaves p c).regsWf := by
  unfold State.wetLeaves
  split
  · exact .ite (h.txGauge.blk.count.when (fun _ h1 => h1.rxGauge)) h
  · exact h

theorem State.regsWf.txStats {p : Nat} {wire : List Byte} {stomped : Bool} (h : s.regsWf) : (s.txStats p wire stomped).regsWf :=
  .ite h.statAdd.stat.stat h.statAdd.stat.stat.stat

theorem State.regsWf.fragmentEnd {p : Nat} {x : Sending} (h : s.regsWf) : (s.fragmentEnd p x).regsWf :=
  .ite h.setLine h.setLine.stat.emit

theorem State.regsWf.frameEnd {s0 : State} {p : Nat} {x : Sending} (h : s0.regsWf) : (s0.frameEnd p x).regsWf := by
  unfold State.frameEnd
  split
  rename_i s tail e
  have h0 : s.regsWf := h.tailOf.fst_of e
  extract_lets _ _ _ _ _ s1 _ s2 s3 s4 s5 s6 s7 s8
  have h1 : s1.regsWf := h0.setLine.wetLeaves
  have h2 : s2.regsWf := .ite h1.blk (h1.emit.txStats.blk.when (fun _ h2 => h2.emit))
  have h3 : s3.regsWf := by
    unfold s3
    split
    · exact h2.ctxCount.statAdd
    · exact h2
  have h4 : s4.regsWf := by
    unfold s4
    split
    · exact h3.ctxCount
    · exact h3
  have h5 : s5.regsWf := h4.when (fun _ h5 => h5.blk.count)
  have h6 : s6.regsWf := by
    unfold s6
    split
    · exact .ite h5.ctLost h5.ctDelivered
    · exact h5
  have h7 : s7.regsWf := h6.when (fun _ h7 => h7.twinStart)
  have h8 : s8.regsWf := h7.hostDone.when (fun _ h8 => h8.count)
  split
  · exact .ite h8.reap h8
  · exact h8

theorem execTxEnd_wf {p : Fin 96} (h : s.regsWf) : ResWf (execTxEnd p s) := by
  unfold execTxEnd
  extract_lets p s1
  split
  · exact .next h
  · extract_lets _ _ s2 _ s3
    have h2 : s2.regsWf := .ite h.credits.setSch h.credits
    have h3 : s3.regsWf := .ite h2.blk.schedEvent h2
    exact .next (.ite h3.frameEnd h3.fragmentEnd)

/-! ### The functions of Machine/Contracts -/

theorem State.regsWf.accept {ct : Nat} {w : BitVec 1024} {u : CtUse} {ctxs : List (Nat × Nat)} (h : s.regsWf) :
    (s.accept ct w u ctxs).regsWf := by
  unfold State.accept
  extract_lets _ _ _ _ s2 s3
  have h1 : s2.regsWf := by
    refine h.setCls.each (fun _ _ h1 => ?_)
    split
    · exact h1.fdbPut
    · exact h1
  have h2 : s3.regsWf := h1.each (fun _ _ h2 => h2.pinCtx)
  exact h2.ctPut.beside

theorem ctAdmit_wf : BodyWf ctAdmit := by
  intro c s h
  unfold ctAdmit
  refine .ite (refuse_wf h) (.ite (refuse_wf h) (.ite (refuse_wf h) (.ite (refuse_wf h) ?_)))
  extract_lets _ ctxs u
  generalize s.judge _ _ = j
  revert j
  refine forall_abstracted fun j => ?_
  split
  · exact refuseAt_wf h
  · split
    · exact refuseAt_wf h
    · exact .mk h.accept

theorem ctWithdraw_wf : BodyWf ctWithdraw := by
  intro _ s h
  refine .ite (refuse_wf h) (.ite (refuse_wf h) ?_)
  extract_lets _ _ _ _ _ _ _ _ _ _ s4
  have h1 : s4.regsWf := by
    refine h.ctPut.beside.setCls.each (fun _ _ h1 => ?_)
    split
    · exact h1.fdbPut
    · exact h1
  exact .mk (h1.each (fun _ _ h2 => h2.unrefCtx))

theorem ctRead_wf : BodyWf ctRead := fun _ _ h => .ite (refuse_wf h) (.ite (refuse_wf h) (.mk h))

theorem ctClearCnt_wf : BodyWf ctClearCnt := fun _ _ h => .ite (refuse_wf h) (.ite (refuse_wf h) (.mk h.ctPut))

theorem execCtAdmit_wf {c : RingCmd} (h : s.regsWf) : ResWf (execCtAdmit c s) := ringExec_wf ctAdmit_wf h

theorem execCtWithdraw_wf {c : RingCmd} (h : s.regsWf) : ResWf (execCtWithdraw c s) := ringExec_wf ctWithdraw_wf h

theorem execCtRead_wf {c : RingCmd} (h : s.regsWf) : ResWf (execCtRead c s) := ringExec_wf ctRead_wf h

theorem execCtClearCnt_wf {c : RingCmd} (h : s.regsWf) : ResWf (execCtClearCnt c s) := ringExec_wf ctClearCnt_wf h

/-! ### The functions of Machine/Gates -/

theorem State.regsWf.fireLate {p t f : Nat} (h : s.regsWf) : (s.fireLate p t f).regsWf := .ite h.fireFlip.ctxEvent.blk h

theorem execGateCycleStart_wf {p : Fin 96} (h : s.regsWf) : ResWf (execGateCycleStart p s) :=
  .ite (.next h) (.ite (.next h) (.next (h.setSch.each (fun _ _ h1 => h1.fireLate))))

theorem State.regsWf.stepEntry {p : Nat} {e : BitVec 64} (h : s.regsWf) : (s.stepEntry p e).regsWf := h.setSch.count

theorem State.regsWf.setGates {p : Nat} {e : BitVec 64} {hold : Option Bool} (h : s.regsWf) : (s.setGates p e hold).regsWf :=
  h.credits.setSch.stepEntry

theorem execGateSetGates_wf {p : Fin 96} (h : s.regsWf) : ResWf (execGateSetGates p s) := by
  unfold execGateSetGates
  split
  · exact .next h.setGates
  · exact .next h

theorem execGateSetHold_wf {p : Fin 96} (h : s.regsWf) : ResWf (execGateSetHold p s) := by
  unfold execGateSetHold
  dsimp only
  split
  · exact .next h
  · refine .ite (.next h.setGates) (.next (.when ?_ (fun _ h1 => h1.stat)))
    split
    · split
      · exact h.setGates.cutAt
      · exact h.setGates
    · exact h.setGates

theorem execGateSetRelease_wf {p : Fin 96} (h : s.regsWf) : ResWf (execGateSetRelease p s) := by
  unfold execGateSetRelease
  split
  · exact .next h.setGates
  · exact .next h

theorem execGateKeyflip_wf {p : Fin 96} (h : s.regsWf) : ResWf (execGateKeyflip p s) := by
  unfold execGateKeyflip
  dsimp only
  split
  · exact .next h
  · exact .next (h.when (fun _ h1 => h1.fireFlip)).stepEntry

theorem execGateReserve_wf {p : Fin 96} (h : s.regsWf) : ResWf (execGateReserve p s) := by
  unfold execGateReserve
  dsimp only
  split
  · exact .next h
  · exact .next (h.when (fun _ h1 => h1.setStart)).stepEntry

theorem State.regsWf.reassign {p : Nat} (h : s.regsWf) : (s.reassign p).regsWf := by
  refine h.each (fun _ _ h1 => h1.foldl (fun _ _ h2 => ?_))
  split
  · refine .ite h2 (.setQueue ?_)
    split
    · exact h2.dropStart.setStart
    · exact h2.dropStart
  · exact h2

theorem State.regsWf.swapBanks {p at_ : Nat} (h : s.regsWf) : (s.swapBanks p at_).regsWf :=
  h.credits.setSch.put.put.put.reassign.schedEvent.each (fun _ _ h1 => h1.dropNeverFit)

theorem execGclConfigChange_wf {p : Fin 96} (h : s.regsWf) : ResWf (execGclConfigChange p s) := by
  unfold execGclConfigChange
  split
  · exact .ite (.next h.swapBanks) (.next h)
  · exact .next h

theorem State.regsWf.schedule {p c : Nat} (h : s.regsWf) : (s.schedule p c).regsWf := by
  unfold State.schedule
  exact h.setSch.put.reassign.when fun _ h1 => h1.wakeTx

theorem gclWrite_wf : BodyWf gclWrite := by
  intro _ s h
  unfold gclWrite
  split
  · refine .ite (refuse_wf h) ?_
    split
    · exact dmaError_wf h
    · exact .ite (refuse_wf h) (.mk h.setAdmin.setSch)
  · exact refuse_wf h

theorem gclRead_wf : BodyWf gclRead := by
  intro _ s h
  unfold gclRead
  split
  · exact .mk h
  · exact refuse_wf h

theorem gclParams_wf : BodyWf gclParams := by
  intro _ s h
  unfold gclParams
  split
  · exact refuse_wf h
  · exact .ite (refuse_wf h) (.ite (refuse_wf h) (.mk h.setAdmin.setSch))

theorem gclChange_wf : BodyWf gclChange := by
  intro _ s h
  unfold gclChange
  split
  · exact refuse_wf h
  · refine .ite (refuse_wf h) (.ite (refuse_wf h) ?_)
    split
    · exact refuse_wf h
    · split
      · exact .mk h.ctEvent
      · exact .mk h.schedule

theorem gclCancel_wf : BodyWf gclCancel := by
  intro _ s h
  unfold gclCancel
  split
  · exact refuse_wf h
  · exact .ite (refuse_wf h) (.mk h.setSch.put.reassign)

theorem gclStatus_wf : BodyWf gclStatus := by
  intro _ s h
  unfold gclStatus
  split
  · exact refuse_wf h
  · exact .mk h

theorem execGclWrite_wf {c : RingCmd} (h : s.regsWf) : ResWf (execGclWrite c s) := ringExec_wf gclWrite_wf h

theorem execGclRead_wf {c : RingCmd} (h : s.regsWf) : ResWf (execGclRead c s) := ringExec_wf gclRead_wf h

theorem execGclParams_wf {c : RingCmd} (h : s.regsWf) : ResWf (execGclParams c s) := ringExec_wf gclParams_wf h

theorem execGclChange_wf {c : RingCmd} (h : s.regsWf) : ResWf (execGclChange c s) := ringExec_wf gclChange_wf h

theorem execGclCancel_wf {c : RingCmd} (h : s.regsWf) : ResWf (execGclCancel c s) := ringExec_wf gclCancel_wf h

theorem execGclStatus_wf {c : RingCmd} (h : s.regsWf) : ResWf (execGclStatus c s) := ringExec_wf gclStatus_wf h

/-! ### The functions of Machine/Time -/

theorem State.regsWf.skipFlips {p old new : Nat} (h : s.regsWf) : (s.skipFlips p old new).regsWf :=
  .ite h (h.each (fun _ _ h1 => .ite h1.setFlip h1))

theorem State.regsWf.resync {p : Nat} (h : s.regsWf) : (s.resync p).regsWf := .ite h h.credits.setSch

theorem State.regsWf.moveStarts {p : Nat} {d : ℤ} (h : s.regsWf) : (s.moveStarts p d).regsWf :=
  h.setSch.each (fun _ _ h1 => h1.setQueue)

theorem State.regsWf.setClock {sec ns : Nat} (h : s.regsWf) : (s.setClock sec ns).regsWf := by
  unfold State.setClock
  extract_lets _ _ _ _ s1
  have h1 : s1.regsWf := h.each (fun _ _ h1 => h1.moveStarts.when (fun _ h2 => h2.skipFlips))
  exact (h1.beside.each (fun _ _ h2 => h2.resync)).when (fun _ h2 => h2.timeEvent)

theorem State.regsWf.stepClock {d : ℤ} (h : s.regsWf) : (s.stepClock d).regsWf := h.setClock.beside

theorem execTimeSet_wf (h : s.regsWf) : ResWf (execTimeSet s) := .ite (.next h.setClock) (.next h)

theorem execTimeStep_wf (h : s.regsWf) : ResWf (execTimeStep s) := .ite (.next h.stepClock) (.next h)

theorem execTimeSnap_wf (h : s.regsWf) : ResWf (execTimeSnap s) := .ite (.next h.put.put.put) (.next h)

theorem execTimeRateWrite_wf {v : Word} (h : s.regsWf) : ResWf (execTimeRateWrite v s) :=
  .ite (.next h) (.ite (.next h.setReg) (.next h.timeEvent))

theorem State.regsWf.setLocked {on : Bool} (h : s.regsWf) : (s.setLocked on).regsWf := .ite h h.put.timeEvent

theorem State.regsWf.lockUpdate {off : ℤ} (h : s.regsWf) : (s.lockUpdate off).regsWf :=
  .ite h.beside.setLocked (.ite h.beside.setLocked h.beside)

theorem execClockSourceAdjust_wf {a : ClockAdjust} (h : s.regsWf) : ResWf (execClockSourceAdjust a s) := by
  refine .ite (.next h) ?_
  dsimp only
  split
  · exact .next (.ite h.lockUpdate.setReg h.lockUpdate)
  · exact .ite (.next h.lockUpdate.stepClock) (.next h.lockUpdate)

theorem execTsCalDone_wf {p : Fin 96} (h : s.regsWf) : ResWf (execTsCalDone p s) := .ite (.next h.put) (.next h)

theorem execPpsInEdge_wf (h : s.regsWf) : ResWf (execPpsInEdge s) := .next h.beside.put.put

theorem execPpsInLoss_wf (h : s.regsWf) : ResWf (execPpsInLoss s) := .ite (.next h.beside.beside.setLocked) (.next h.beside)

theorem execPpsOutRise_wf (h : s.regsWf) : ResWf (execPpsOutRise s) := .ite (.next h.beside.emit) (.next h)

theorem execPpsOutFall_wf (h : s.regsWf) : ResWf (execPpsOutFall s) := .ite (.next h.beside.emit) (.next h)

theorem execTodOutSend_wf (h : s.regsWf) : ResWf (execTodOutSend s) := by
  unfold execTodOutSend
  split
  · exact .next h
  · exact .ite (.next h) (.next h.beside.beside.beside.beside.emit)

theorem execTodInReceive_wf {msg : List Byte} (h : s.regsWf) : ResWf (execTodInReceive msg s) := by
  refine .ite (.next h) ?_
  dsimp only
  split
  · exact .ite (.next h.beside) (.next h.blk.timeEvent)
  · exact .next h.blk.timeEvent

theorem execPtpTcEntryExpire_wf {p : Fin 96} {k : Fin 64} (h : s.regsWf) : ResWf (execPtpTcEntryExpire p k s) :=
  .next h.beside

theorem ptpGet_wf : BodyWf ptpGet := by
  intro _ s h
  unfold ptpGet
  split
  · exact refuse_wf h
  · exact .ite (refuse_wf h) (.mk h)

theorem ptpSet_wf : BodyWf ptpSet := by
  intro _ s h
  unfold ptpSet
  split
  · exact refuse_wf h
  · exact .ite (refuse_wf h) (.mk h.beside)

theorem execPtpGet_wf {c : RingCmd} (h : s.regsWf) : ResWf (execPtpGet c s) := ringExec_wf ptpGet_wf h

theorem execPtpSet_wf {c : RingCmd} (h : s.regsWf) : ResWf (execPtpSet c s) := ringExec_wf ptpSet_wf h

theorem tunWrite_wf : BodyWf tunWrite := fun _ _ h => .ite (refuse_wf h) (.mk h.setFlt)

theorem tunRead_wf : BodyWf tunRead := fun _ _ h => .ite (refuse_wf h) (.mk h)

theorem execTunWrite_wf {c : RingCmd} (h : s.regsWf) : ResWf (execTunWrite c s) := ringExec_wf tunWrite_wf h

theorem execTunRead_wf {c : RingCmd} (h : s.regsWf) : ResWf (execTunRead c s) := ringExec_wf tunRead_wf h

/-! ### The functions of Machine/Slices -/

theorem State.regsWf.setSliceState {sl v : Nat} (h : s.regsWf) : (s.setSliceState sl v).regsWf := h.put.put

theorem State.regsWf.refillHits {src dst : Nat} (h : s.regsWf) : (s.refillHits src dst).regsWf := h.beside

theorem State.regsWf.clearSlice {sl : Nat} (h : s.regsWf) : (s.clearSlice sl).regsWf := h.setExtra.put.put.beside

theorem execSliceWake_wf {sl : Fin 13} (h : s.regsWf) : ResWf (execSliceWake sl s) := .ite (.next h.beside) (.next h)

theorem execSliceWakeDone_wf {sl : Fin 13} (h : s.regsWf) : ResWf (execSliceWakeDone sl s) :=
  .ite (.next h) (.next h.refillHits.beside.setSliceState)

theorem execSliceSleep_wf {sl : Fin 13} (h : s.regsWf) : ResWf (execSliceSleep sl s) :=
  .ite (.next h) (.next (.setSliceState (.ite h.beside.clearSlice.setCached h.beside)))

theorem State.regsWf.resetPort {p : Nat} (h : s.regsWf) : (s.resetPort p).regsWf := by
  unfold State.resetPort
  extract_lets _ s1 s2
  have h1 : s1.regsWf := h.each (fun _ _ h1 => h1.frameGone.blk)
  have h2 : s2.regsWf := (h1.purge (fun _ _ _ h2 => h2.blk)).abortLine
  exact h2.setSch

theorem State.regsWf.resetSlice {sl : Nat} (h : s.regsWf) : (s.resetSlice sl).regsWf := by
  unfold State.resetSlice
  extract_lets _ _ s1 s2 s3
  have h1 : s1.regsWf := h.each (fun _ _ h1 => h1.resetPort)
  have h2 : s2.regsWf := h1.each (fun _ _ h2 => h2.quarantine)
  have h3 : s3.regsWf := h2.each (fun _ _ h3 => h3.setCached.setCtx)
  exact h3.clearSlice.put.put.put

theorem State.regsWf.askReset {sl : Nat} (h : s.regsWf) : (s.askReset sl).regsWf := .ite h.beside.put.put.put h.resetSlice

theorem execSliceReset_wf {v : Word} (h : s.regsWf) : ResWf (execSliceReset v s) :=
  .ite (.next h) (.ite (.next h.pwrEvent) (.next h.askReset))

theorem State.regsWf.resetSliceDone (h : s.regsWf) : s.resetSliceDone.regsWf := by
  unfold State.resetSliceDone
  extract_lets _ _ _ s3
  have h1 : s3.regsWf := h.refillHits.put.put.when (fun _ h1 => h1.setSliceState)
  exact (h1.each (fun _ _ h2 => h2.setSch.resync)).pwrEvent

theorem execSliceResetDone_wf (h : s.regsWf) : ResWf (execSliceResetDone s) := .ite (.next h.resetSliceDone) (.next h)

theorem execSlicePllUnlock_wf {sl : Fin 13} (h : s.regsWf) : ResWf (execSlicePllUnlock sl s) :=
  .ite (.next h) (.next (h.put.pwrEvent.when (fun _ h1 => h1.resetSliceDone)).askReset)

theorem execCentralPllUnlock_wf {k : Fin 4} (h : s.regsWf) : ResWf (execCentralPllUnlock k s) :=
  .ite (.next h) (.next h.put.raise)

theorem State.regsWf.setRub {x : RubSt} (h : s.regsWf) : (s.setRub x).regsWf := h.beside

theorem State.regsWf.moveGauge {a b : Fld} {n : Nat} (h : s.regsWf) : (s.moveGauge a b n).regsWf := h.put.put

theorem State.regsWf.steer {g src dst : Nat} {ingress : Bool} (h : s.regsWf) : (s.steer g src dst ingress).regsWf := by
  unfold State.steer
  extract_lets _ _ _ s3
  have h1 : s3.regsWf := h.setExtra.setExtra.put.moveGauge.when (fun _ h1 => h1.moveGauge)
  exact h1.setCached

theorem State.regsWf.startRetire {sl : Nat} (h : s.regsWf) : (s.startRetire sl).regsWf := h.setRub.put

theorem State.regsWf.retireNow {sl : Nat} (h : s.regsWf) : (s.retireNow sl).regsWf :=
  .ite h.put.put.setRub.put.rubEvent (.rubEvent (.put (.setSliceState
      (.setSliceState (.ite h.put.put.setRub h.put.put.setRub.steer)))))

theorem State.regsWf.releaseHeld (h : s.regsWf) : s.releaseHeld.regsWf := by
  unfold State.releaseHeld
  split
  · exact h.beside.resetSlice
  · exact h

theorem State.regsWf.endPass {sl result : Nat} (h : s.regsWf) : (s.endPass sl result).regsWf := by
  unfold State.endPass
  extract_lets s1 s2 s3 o _ s4 s5
  have h2 : s2.regsWf := h.put.put.put.put
  have h3 : s3.regsWf := by
    unfold s3
    split <;> exact h2.blk.rubEvent
  have h4 : s4.regsWf := h3.setRub.setSliceState
  have h5 : s5.regsWf := .ite h4 h4.setSliceState
  clear_value o
  split
  · exact h5.releaseHeld.startRetire
  · exact h5.releaseHeld

theorem State.regsWf.startPass {temp : ℤ} (h : s.regsWf) : (s.startPass temp).regsWf :=
  .ite h (.ite h.put.put.blk.rubEvent h.setRub.put.put.put)

theorem execRubPassStart_wf {temp : ℤ} (h : s.regsWf) : ResWf (execRubPassStart temp s) := .ite (.next h.startPass) (.next h)

theorem execRubNow_wf {temp : ℤ} (h : s.regsWf) : ResWf (execRubNow temp s) := .next h.startPass

theorem execRubTempRetry_wf {temp : ℤ} (h : s.regsWf) : ResWf (execRubTempRetry temp s) := .ite (.next h.startPass) (.next h)

theorem execRubPrepareDone_wf (h : s.regsWf) : ResWf (execRubPrepareDone s) :=
  .ite (.next h) (.ite (.next h.setSliceState.put) (.next h.setRub.setSliceState.put))

theorem execRubMirrorDone_wf (h : s.regsWf) : ResWf (execRubMirrorDone s) := .ite (.next h) (.next h.setRub.put.put)

theorem execRubHandover_wf (h : s.regsWf) : ResWf (execRubHandover s) := .ite (.next h) (.next h.steer.put.setSliceState)

theorem execRubGapTimeout_wf (h : s.regsWf) : ResWf (execRubGapTimeout s) := .ite (.next h) (.next h.endPass)

theorem execRubDrainDone_wf (h : s.regsWf) : ResWf (execRubDrainDone s) := by
  refine .ite (.next h) ?_
  dsimp only
  suffices h1 : State.regsWf _ by
    exact .ite (.next h1.retireNow) (.next h1.put)
  exact h.beside.put.put.setRub

theorem execRubTestDone_wf {r : RubResult} (h : s.regsWf) : ResWf (execRubTestDone r s) :=
  .ite (.next h) (.ite (.next h.put.put.put.put.put.retireNow)
      (.ite (.ite (.next h.put.put.put.put.put.put.retireNow) (.next h.put.put.put.put.put.setRub.put))
      (.next h.put.put.put.put.put.setRub.put)))

theorem execRubRefillDone_wf (h : s.regsWf) : ResWf (execRubRefillDone s) :=
  .ite (.next h) (.ite (.next h.refillHits.endPass) (.next h.refillHits.setRub))

theorem execRubHandback_wf (h : s.regsWf) : ResWf (execRubHandback s) := .ite (.next h) (.next h.steer.put.put.endPass)

theorem execRubReturnRetry_wf (h : s.regsWf) : ResWf (execRubReturnRetry s) := .next h

theorem State.regsWf.needRetire {sl : Nat} (h : s.regsWf) : (s.needRetire sl).regsWf := by
  refine .ite h (.ite h.raise (.ite h.retireNow (.ite h.startRetire (.ite (.ite h h.raise) (.ite (.ite h.setRub h.setRub) ?_)))))
  dsimp only
  split
  · exact h.setRub.setRub.put
  · exact h.setRub
  · exact h.setRub
  · exact h.setRub.endPass

theorem execCipherCoreFault_wf {sl : Fin 13} {k : Fin 6} (h : s.regsWf) : ResWf (execCipherCoreFault sl k s) := by
  unfold execCipherCoreFault
  extract_lets _ _ _ _ s1 _ s2
  have h1 : s1.regsWf := by
    unfold s1
    split
    · exact h.setFrame
    · split
      · exact h.setLine
      · exact h
    · exact h
  have h2 : s2.regsWf := h1.blk.put.record
  exact .ite (.next h) (.next (.ite h2.needRetire h2))

theorem execTrngHealthTimeout_wf (h : s.regsWf) : ResWf (execTrngHealthTimeout s) :=
  .ite (.next h) (.next (h.setKey.each (fun _ _ h1 => ringRun_wf (fun _ _ h2 => refuse_wf h2) h1)).raise)

/-! ### The functions of Machine/Reset -/

theorem State.regsWf.setBoot {b : Boot} (h : s.regsWf) : (s.setBoot b).regsWf := h.beside

/-- Whatever the state before, a reset leaves the reset words (R488). -/
theorem State.wiped_regsWf : s.wiped.regsWf := by
  have hr : Tbl.wf regReset (memLayout (natBit s.boot.fuses.toNat 136) []) = true := memLayout_wf _ Tbl.wf_nil
  exact iteInduction (motive := fun r => Tbl.wf regReset r = true) (fun _ => Tbl.setD_wf _ _ hr) (fun _ => hr)

theorem State.regsWf.wiped (_ : s.regsWf) : s.wiped.regsWf := State.wiped_regsWf

theorem State.regsWf.cutBurn (h : s.regsWf) : s.cutBurn.regsWf := by
  unfold State.cutBurn
  split
  · exact h.beside.setBoot
  · exact h

theorem State.regsWf.carryReset {kind : ResetKind} {samples : Bool} (h : s.regsWf) : (s.carryReset kind samples).regsWf :=
  h.cutBurn.wiped.setBoot.put

theorem State.regsWf.raiseReset {kind : ResetKind} (h : s.regsWf) : (s.raiseReset kind).regsWf := by
  unfold State.raiseReset
  split
  · exact h.setBoot.put
  · exact .ite h.setBoot h.carryReset

theorem execPowerGood_wf (h : s.regsWf) : ResWf (execPowerGood s) := .ite (.next h) (.next h.beside.carryReset)

theorem execVbatPresent_wf (h : s.regsWf) : ResWf (execVbatPresent s) := .next h.beside

theorem execVbatLoss_wf (h : s.regsWf) : ResWf (execVbatLoss s) := .next h.beside

theorem execPowerLoss_wf (h : s.regsWf) : ResWf (execPowerLoss s) := .ite (.next h) (.next h.cutBurn.wiped.beside)

theorem execColdReset_wf (h : s.regsWf) : ResWf (execColdReset s) := .ite (.next h.raiseReset) (.next h)

theorem State.regsWf.warmReset (h : s.regsWf) : s.warmReset.regsWf :=
  .ite (h.when (fun _ h1 => h1.emit)).raiseReset (.ite h.raiseReset h)

theorem execWarmReset_wf (h : s.regsWf) : ResWf (execWarmReset s) := .next h.warmReset

theorem State.regsWf.runLatch (h : s.regsWf) : s.runLatch.regsWf :=
  .ite h ((h.when (fun _ h1 => h1.zeroKeys.dropLath)).when (fun _ h1 => h1.shutDebug.put)).beside

theorem State.regsWf.romSteps (h : s.regsWf) : s.romSteps.regsWf :=
  .ite h.setBoot.raise (h.setBoot.put.beside.runLatch.each (fun _ _ h1 => h1.zeroRoot)).put.put.setSliceState

theorem execResetRelease_wf {pins : Straps} (h : s.regsWf) : ResWf (execResetRelease pins s) := by
  unfold execResetRelease
  split
  · exact .next h
  · exact .next h.beside.put.romSteps

theorem State.regsWf.unsealRoot (h : s.regsWf) : s.unsealRoot.regsWf := by
  refine .ite h ?_
  split
  · exact .ite h.formRootKeys h.zeroRoot.keyEvent
  · exact h

theorem execRomDone_wf (h : s.regsWf) : ResWf (execRomDone s) := by
  refine .ite (.next h) ?_
  extract_lets s1
  have h1 : s1.regsWf := .ite h h.romSteps
  exact .ite (.next h1) (.next h1.unsealRoot.beside.beside)

/-! ### The functions of Machine/Host -/

theorem State.regsWf.setHost {i : HostIf} (h : s.regsWf) : (s.setHost i).regsWf := h.beside

theorem execUcieTrainDone_wf {t : UcieTrain} (h : s.regsWf) : ResWf (execUcieTrainDone t s) := by
  refine .ite (.next h) ?_
  dsimp only
  suffices h1 : State.regsWf _ by
    exact .ite (.ite (.next h1.beside) (.next h1.domEvent)) (.next h1)
  exact .ite h.put.put.put.setHost.hostEvent.blk h.put.put.put

theorem execUcieTrainRetry_wf (h : s.regsWf) : ResWf (execUcieTrainRetry s) := .ite (.next h.put) (.next h)

theorem State.regsWf.stopRing {n : Nat} (h : s.regsWf) : (s.stopRing n).regsWf := .ite h.put.put h.put

theorem execUcieLinkDown_wf (h : s.regsWf) : ResWf (execUcieLinkDown s) := by
  refine .ite (.next h) ?_
  extract_lets _ _ _ s3
  have h1 : s3.regsWf := h.put.put.setHost.each (fun _ _ h1 => h1.setRing.stopRing)
  exact .ite (.next h1.setBoot.put) (.ite (.next h1.beside) (.next h1))

theorem State.regsWf.ringErr {n code : Nat} (h : s.regsWf) : (s.ringErr n code).regsWf := h.put.hostEvent.stopRing

theorem execHostReadTimeout_wf {r : HostReadUse} (h : s.regsWf) : ResWf (execHostReadTimeout r s) := by
  unfold execHostReadTimeout
  split
  · exact .ite (.next h.ringErr) (.next h)
  · exact .ite (.next h.setBoot.put) (.next h)
  · exact .next h

theorem State.regsWf.drainHold {n : Nat} (h : s.regsWf) : (s.drainHold n).regsWf :=
  h.setHost.each (fun _ _ h1 => h1.postTo (fun _ _ _ h2 => h2.overflow))

theorem execRingEnable_wf {n : Fin 64} (h : s.regsWf) : ResWf (execRingEnable n s) :=
  .ite (.next h) (.ite (.next h) (.ite (.next h.ringErr) (.next (h.put.put.setRing.when (fun _ h1 => h1.drainHold)))))

theorem execRingDisable_wf {n : Fin 64} (h : s.regsWf) : ResWf (execRingDisable n s) := .ite (.next h.put) (.next h)

theorem execRingStopDone_wf {n : Fin 64} (h : s.regsWf) : ResWf (execRingStopDone n s) := .ite (.next h.put) (.next h)

theorem State.regsWf.resetRing {n : Nat} (h : s.regsWf) : (s.resetRing n).regsWf := h.put.put.put.put.setRing

theorem execRingReset_wf {n : Fin 64} (h : s.regsWf) : ResWf (execRingReset n s) := .ite (.next h.resetRing) (.next h)

theorem execFunctionLevelReset_wf {fn : Fin 3} (h : s.regsWf) : ResWf (execFunctionLevelReset fn s) := by
  refine .ite (.next h.warmReset) (.ite (.next h) ?_)
  extract_lets _ s1 s2
  have h1 : s1.regsWf := h.each (fun _ _ h1 => h1.put.put.resetRing)
  have h2 : s2.regsWf := .ite (h1.each (fun _ _ h2 => h2.purge (fun _ _ _ h3 => h3))) h1
  exact .next h2.setHost

theorem execSqTailDoorbell_wf {fn : Fin 3} {n : Fin 64} {v : Word} (h : s.regsWf) : ResWf (execSqTailDoorbell fn n v s) :=
  .ite (.next h.setRing.count) (.next h)

theorem execCqHeadDoorbell_wf {fn : Fin 3} {n : Fin 64} {v : Word} (h : s.regsWf) : ResWf (execCqHeadDoorbell fn n v s) :=
  .ite (.next h) (.ite (.next h.setRing.count.setRing.message) (.next h.setRing.count))

theorem execMsixCoalTimeout_wf {n : Fin 64} (h : s.regsWf) : ResWf (execMsixCoalTimeout n s) :=
  .ite (.next h.setRing.message) (.next h)

theorem State.regsWf.takeSlots {n k : Nat} (h : s.regsWf) : (s.takeSlots n k).regsWf := h.each (fun _ _ h1 => h1.put.count)

theorem execCmdFetch_wf {n : Fin 64} {slots : List Byte} (h : s.regsWf) : ResWf (execCmdFetch n slots s) := by
  refine .ite (.next h) (.ite (.ite (.next h) (.next h.takeSlots.setRing)) (.ite (.next h) (.ite (.next h) ?_)))
  extract_lets _ _ _ _ _ s2
  have h1 : s2.regsWf := h.takeSlots.setHost.setRing
  exact .next (.ite h1.flush h1)

theorem State.regsWf.pf2Queue {p k : Nat} {frame : List Byte} {unctrl : Bool} {host : Option (Nat × Nat)} (h : s.regsWf) :
    (s.pf2Queue p k frame unctrl host).regsWf :=
  .ite h.serial.fst.hostDone.stat (.ite h.serial.fst.hostDone.blk
      (.ite (.ite h.serial.fst.enqueue.blk.count h.serial.fst.hostDone.blk) h.serial.fst.enqueue))

theorem execPf2TxFetch_wf {n : Fin 64} {d : List Byte} {frame : Option (List Byte)} (h : s.regsWf) :
    ResWf (execPf2TxFetch n d frame s) := by
  refine .ite (.next h) ?_
  dsimp only
  split
  · exact .next h.takeSlots.ringErr
  · exact .ite (.next h.takeSlots.txDone) (.ite (.ite (.next h.takeSlots.txDone) (.next h.takeSlots.lathSend.txDone))
        (.ite (.next h.takeSlots.txDone) (.next h.takeSlots.pf2Queue)))

theorem execExcSteerWrite_wf {r : Fin 4} {v : Word} (h : s.regsWf) : ResWf (execExcSteerWrite r v s) :=
  .ite (.next h) (.next h.put.put.setHost)

theorem execNop_wf {c : RingCmd} (h : s.regsWf) : ResWf (execNop c s) := ringExec_wf (fun _ _ h1 => .mk h1) h

theorem execFence_wf {c : RingCmd} (h : s.regsWf) : ResWf (execFence c s) := by
  unfold execFence
  split
  · exact .ite (.next h.owe.fst.setHost.settle) (ringExec_wf (fun _ _ h1 => .mk h1) h)
  · exact ringExec_wf (fun _ _ h1 => .mk h1) h

/-! ### The functions of Machine/Pair -/

theorem State.regsWf.pairSendOn {path : Nat} {k : Kind} {payload : List Byte} (h : s.regsWf) :
    (s.pairSendOn path k payload).regsWf :=
  h.emit.count

theorem State.regsWf.pairSend {k : Kind} {payload : List Byte} (h : s.regsWf) : (s.pairSend k payload).regsWf := h.pairSendOn

theorem State.regsWf.authFail (h : s.regsWf) : s.authFail.regsWf := h.setPair.blk

theorem State.regsWf.dropRefill (h : s.regsWf) : s.dropRefill.regsWf := by
  unfold State.dropRefill
  extract_lets s1 s2 _ _ _ _ s5
  have h1 : s1.regsWf := h.each (fun _ _ h1 => h1.ctxPut.setCtx.ctxUncache)
  have h2 : s2.regsWf := h1.each (fun _ _ h2 => h2.setSlot)
  have h3 : s5.regsWf := h2.setKey.keyGauges.setCtx.scmGauge.each (fun _ _ h3 => h3.srcPut)
  exact h3.setPair

theorem State.regsWf.refillFail (h : s.regsWf) : s.refillFail.regsWf := h.dropRefill.setRole.pairEvent

theorem State.regsWf.refillWrite {d : List Byte} (h : s.regsWf) : OptWf (s.refillWrite d) := by
  unfold State.refillWrite
  extract_lets _ _ _ _ _ _ t1 _ _ _ at_
  split
  · split
    · exact .ite .none (.some h.fill.setSlot.keyGauges.setPair)
    · exact .none
  · have h1 : t1.regsWf := h.ctxPut.unpoison.when (fun _ h1 => h1.pinCtx)
    exact .some h1.setPair
  · clear_value at_
    split
    · exact .some h.setCtx.scmGauge.setPair
    · exact .some h
  · exact .some h.srcPut.setPair
  · exact .some h.setRole.setPair.pairEvent
  · exact .some h

theorem execRefillRecordReceive_wf {l : LathLink} {r : LathRec} (h : s.regsWf) : ResWf (execRefillRecordReceive l r s) := by
  refine .ite (.next h) (.ite (.next (h.count.authFail.when (fun _ h1 => h1.refillFail))) (.ite (.next h.count) ?_))
  split
  · exact .next (h.count.refillWrite.of ‹_›)
  · exact .next h.count.refillFail

theorem execRefillRequestReceive_wf {l : LathLink} {r : LathRec} (h : s.regsWf) : ResWf (execRefillRequestReceive l r s) :=
  .ite (.next h) (.ite (.next h.count.authFail) (.ite (.next h.count) (.next (h.count.each (fun _ _ h1 => h1.pairSend)))))

theorem execPairHbSend_wf (h : s.regsWf) : ResWf (execPairHbSend s) := .ite (.next h.pairSendOn.pairSendOn) (.next h)

theorem State.regsWf.bothLost (h : s.regsWf) : s.bothLost.regsWf :=
  .ite h.takeOver (.ite h.setRole.pairEvent (.ite h.refillFail h))

theorem State.regsWf.missPath {path : Nat} (h : s.regsWf) : (s.missPath path).regsWf :=
  .ite ((h.setPair.when (fun _ h1 => h1.put.blk.pairEvent)).when (fun _ h1 => h1.bothLost)) h.setPair

theorem State.regsWf.goodPath {path : Nat} (h : s.regsWf) : (s.goodPath path).regsWf := .ite h.setPair.put.pairEvent h.setPair

theorem State.regsWf.becomeActive {role : Nat} (h : s.regsWf) : (s.becomeActive role).regsWf := h.setRole.setPair

theorem State.regsWf.hearRole (h : s.regsWf) : s.hearRole.regsWf :=
  .ite (.ite h.setRole (.ite (.ite h.setRole h.becomeActive) h))
      (.ite (.ite h.setRole (.ite (h.pairEvent.when (fun _ h1 => h1.setRole.pairEvent)) h)) h)

theorem State.regsWf.skewCheck {path clock : Nat} (h : s.regsWf) : (s.skewCheck path clock).regsWf :=
  .ite h.setPair.pairEvent h

theorem execPairHbReceive_wf {l : LathLink} {r : LathRec} (h : s.regsWf) : ResWf (execPairHbReceive l r s) :=
  .ite (.next h) (.ite (.next h.count.authFail.missPath) (.next
      (h.count.put.goodPath.setPair.when (fun _ h1 => h1.hearRole)).skewCheck))

theorem execPairHbMiss_wf {l : LathLink} (h : s.regsWf) : ResWf (execPairHbMiss l s) := .ite (.next h.missPath) (.next h)

theorem State.regsWf.pairRun (h : s.regsWf) : s.pairRun.regsWf := .ite h (.ite h.setPair.setRole h.setPair)

theorem execPairStartWait_wf (h : s.regsWf) : ResWf (execPairStartWait s) :=
  .ite (.ite (.next h.setPair) (.ite (.next h.setPair.setRole.pairEvent) (.next h.setPair.becomeActive))) (.next h)

theorem execYieldReceive_wf {l : LathLink} {r : LathRec} (h : s.regsWf) : ResWf (execYieldReceive l r s) :=
  .ite (.next h) (.ite (.next h.count.authFail) (.next (h.count.when (fun _ h1 => h1.takeOver))))

theorem execPairCheckpointSend_wf (h : s.regsWf) : ResWf (execPairCheckpointSend s) := .ite (.next h.pairSend) (.next h)

theorem State.regsWf.storeCheckpoint {d : List Byte} {i : Nat} (h : s.regsWf) : (s.storeCheckpoint d i).regsWf :=
  .ite h.ctxPut h

theorem execPairCheckpointReceive_wf {l : LathLink} {r : LathRec} (h : s.regsWf) : ResWf (execPairCheckpointReceive l r s) := by
  refine .ite (.next h) (.ite (.next h.count.authFail) (.ite (.next h.count) ?_))
  extract_lets _ s1
  have h1 : s1.regsWf := h.count.each (fun _ _ h1 => h1.storeCheckpoint)
  exact .next (h1.when (fun _ h2 => h2.setPair))

theorem execDemoteCheckpointStart_wf (h : s.regsWf) : ResWf (execDemoteCheckpointStart s) := by
  unfold execDemoteCheckpointStart
  split
  · exact .ite (.next h.setPair.pairSend) (.next h)
  · exact .next h

theorem State.regsWf.handoverDone {code : Nat} (h : s.regsWf) : (s.handoverDone code).regsWf := by
  unfold State.handoverDone
  dsimp only
  split
  · exact h.setPair.completeOrder
  · exact h.setPair

theorem execDemoteAbandon_wf (h : s.regsWf) : ResWf (execDemoteAbandon s) := .ite (.next h.handoverDone) (.next h)

theorem execPairHandover_wf (h : s.regsWf) : ResWf (execPairHandover s) := by
  unfold execPairHandover
  split
  · exact .ite (.next h.handoverDone.setRole.pairEvent) (.ite (.next h.setRole.setPair.setCtx.pairEvent) (.next h.handoverDone))
  · exact .next h

theorem State.regsWf.digestCompare {p cycle sum count sum' count' : Nat} (h : s.regsWf) :
    (s.digestCompare p cycle sum count sum' count').regsWf :=
  .ite h.blk (.ite h.blk h.blk.setTwin.event)

theorem State.regsWf.digestMatch {p : Nat} (h : s.regsWf) : (s.digestMatch p).regsWf :=
  h.setTwin.each (fun _ _ h1 => h1.digestCompare)

theorem execDigestSend_wf {p : Fin 96} (h : s.regsWf) : ResWf (execDigestSend p s) := by
  refine .ite (.next h) (.ite (.next h.setTwin) ?_)
  extract_lets _ s2
  have h1 : s2.regsWf := by
    unfold s2
    split
    · exact h.setTwin.pairSend
    · exact h.setTwin
  exact .next h1.digestMatch

theorem execDigestReceive_wf {l : LathLink} {r : LathRec} (h : s.regsWf) : ResWf (execDigestReceive l r s) :=
  .ite (.next h) (.ite (.next h.count.authFail) (.ite (.next h.count) (.ite (.next h.count.setTwin.digestMatch) (.next h.count))))

theorem execDigestMiss_wf {p : Fin 96} (h : s.regsWf) : ResWf (execDigestMiss p s) := .ite (.next h.setTwin.blk) (.next h)

theorem pairStatus_wf : BodyWf pairStatus := fun _ _ h => .ite (refuse_wf h) (.mk h)

theorem execPairStatus_wf {c : RingCmd} (h : s.regsWf) : ResWf (execPairStatus c s) := ringExec_wf pairStatus_wf h

theorem pairRefill_wf : BodyWf pairRefill :=
  fun _ _ h => .ite (refuse_wf h) (.ite (refuse_wf h) (.ite (refuse_wf h) (.mk h.setRole.setPair.pairSend)))

theorem execPairRefill_wf {c : RingCmd} (h : s.regsWf) : ResWf (execPairRefill c s) := ringExec_wf pairRefill_wf h

theorem execPairDemote_wf {c : RingCmd} (h : s.regsWf) : ResWf (execPairDemote c s) := by
  unfold execPairDemote
  dsimp only
  split
  · exact .ite (.next h.owe.fst.setPair) (ringExec_wf (fun _ _ h1 => refuse_wf h1) h)
  · exact .next h

/-! ### The functions of Machine/Screed -/

theorem badOp_wf : BodyWf badOp := fun _ _ h => refuse_wf h

theorem counted_wf {e : Nat} {b : Body} (hb : BodyWf b) : BodyWf (counted e b) := fun c _ h => hb c _ h.count

/-- An entry of a list of treatments, or the answer to an operation that it lacks. -/
theorem BodyWf.getD {l : List Body} {op : Nat} (hl : ∀ b ∈ l, BodyWf b) : BodyWf (l.getD op badOp) := by
  rw [List.getD_eq_getElem?_getD]
  cases e : l[op]? with
  | none => exact badOp_wf
  | some b => exact hl b (List.mem_of_getElem? e)

theorem ringBody_wf (group op : Nat) : BodyWf (ringBody group op) := by
  unfold ringBody
  split
  · exact counted_wf (.getD (by simp [tceReadPos_wf, tceSearch_wf, tceInsert_wf, tceUpdate_wf, tceDelete_wf, tceFlush_wf,
        tceWritePos_wf]))
  · exact .getD (by simp [ctxRead_wf, ctxInstall_wf, ctxEnable_wf, ctxRetire_wf, ctxSelect_wf, ctxFree_wf, ctxPin_wf, ctxUnpin_wf,
      ctxClearCnt_wf, scmAdd_wf, scmDelete_wf, flipAdd_wf, flipArm_wf, flipCancel_wf, flipStatus_wf, secyTxRead_wf])
  · exact counted_wf (.getD (by simp [keyImportKw_wf, keyImportXw_wf, keyGenerate_wf, keyDerive_wf, keyExportKw_wf,
        keyExportXw_wf,
      keyCmacGen_wf, keyCmacVerify_wf, keyAttrRead_wf, keyAttrReduce_wf, keyPin_wf, keyUnpin_wf, keyFree_wf, rootInject_wf,
      rootErase_wf, rootStatus_wf]))
  · exact .getD (by simp [gclWrite_wf, gclRead_wf, gclParams_wf, gclChange_wf, gclCancel_wf, gclStatus_wf])
  · exact .getD (by simp [fltWrite_wf, fltRead_wf, mtrWrite_wf, mtrRead_wf, fltUnblock_wf, mtrUnmark_wf, fltClearCnt_wf])
  · exact .getD (by simp [tunWrite_wf, tunRead_wf])
  · exact .getD (by simp [srcRead_wf, srcWrite_wf, stnRead_wf, stnWrite_wf, stnClearCnt_wf])
  · exact .getD (by simp [ctAdmit_wf, ctWithdraw_wf, ctRead_wf, ctClearCnt_wf])
  · exact .getD (by simp [ptpGet_wf, ptpSet_wf])
  · exact .getD (by simp [perfSnapshot_wf, perfSnapAt_wf, perfDump_wf, perfRead_wf])
  · split
    · exact fun _ _ h => .mk h
    · exact badOp_wf
  · exact badOp_wf

theorem State.regsWf.replay {j : Nat × Nat × RingCmd} (h : s.regsWf) : (s.replay j).regsWf :=
  .ite h (FstWf.fst (ringBody_wf _ _ _ _ h))

/-! ### The functions of Machine/Boot -/

theorem execFwLoadGo_wf {img : Option (List Byte)} (h : s.regsWf) : ResWf (execFwLoadGo img s) := by
  refine .ite (.next h) ?_
  split <;> exact .next h.setBoot.put

theorem execFwVerifyDone_wf (h : s.regsWf) : ResWf (execFwVerifyDone s) := by
  refine .ite (.next h) ?_
  extract_lets _ _ _ s2
  have h1 : s2.regsWf := .ite h.put.setBoot.put h.put.setBoot
  exact .next (h1.when (fun _ h2 => h2.lathSend))

theorem State.regsWf.postNotice (h : s.regsWf) : s.postNotice.regsWf := by
  unfold State.postNotice
  split
  · exact h.beside.record
  · exact h

theorem execSetupEntry_wf (h : s.regsWf) : ResWf (execSetupEntry s) :=
  .ite (.next h) (.next h.beside.beside.beside.bitOnly.record.postNotice)

theorem State.regsWf.relayFirmware (h : s.regsWf) : s.relayFirmware.regsWf := h.lathSend.each (fun _ _ h1 => h1.lathSend)

theorem execRunReq_wf (h : s.regsWf) : ResWf (execRunReq s) := by
  refine .ite (.next h) ?_
  extract_lets _ s2 _ s3
  have h1 : s2.regsWf := by
    unfold s2
    split
    · exact .ite h.beside.put h.beside
    · exact h.beside
  have h2 : s3.regsWf := h1.pairRun.when (fun _ h2 => h2.startRetire)
  exact .next (h2.when (fun _ h3 => h3.relayFirmware))

theorem execHoldReq_wf (h : s.regsWf) : ResWf (execHoldReq s) := .ite (.next h.enterHold) (.next h)

theorem State.regsWf.fuseAnswer {code : Nat} (h : s.regsWf) : (s.fuseAnswer code).regsWf := h.put

theorem State.regsWf.fuseBurn {op : Nat} {mask : BitVec 1600} (h : s.regsWf) : (s.fuseBurn op mask).regsWf := h.setBoot.put

theorem State.regsWf.fuseGo {k : State → State} (h : s.regsWf) (hk : ∀ t, t.regsWf → (k t).regsWf) : ResWf (s.fuseGo k) :=
  .ite (.next h) (.ite (.next h.fuseAnswer) (.next (hk _ h)))

theorem execArbCommit_wf (h : s.regsWf) : ResWf (execArbCommit s) := h.fuseGo (fun _ h1 => .ite h1.fuseAnswer h1.fuseBurn)

theorem execOwnerHash_wf {buf : Option (List Byte)} (h : s.regsWf) : ResWf (execOwnerHash buf s) := by
  refine h.fuseGo (fun _ h1 => .ite h1.fuseAnswer (.ite h1.fuseAnswer ?_))
  split
  · exact h1.fuseAnswer
  · exact .ite h1.fuseAnswer h1.fuseBurn

theorem execLcAdvance_wf {buf : Option (List Byte)} (h : s.regsWf) : ResWf (execLcAdvance buf s) := by
  refine h.fuseGo (fun _ h1 => ?_)
  split
  · exact h1.fuseAnswer
  · refine .ite h1.fuseAnswer ?_
    split
    · exact h1.fuseAnswer
    · exact .ite h1.fuseAnswer (.ite h1.fuseAnswer h1.fuseBurn)

theorem execDbufMinT_wf (h : s.regsWf) : ResWf (execDbufMinT s) := h.fuseGo (fun _ h1 => h1.fuseBurn)

theorem execFuseBurnDone_wf (h : s.regsWf) : ResWf (execFuseBurnDone s) := by
  unfold execFuseBurnDone
  split
  · exact .next h
  · extract_lets _ _ s2 s3
    have h1 : s2.regsWf := .ite h.setBoot.put.put h.setBoot.put.fuseAnswer
    have h2 : s3.regsWf := .ite h1.raiseReset h1.bootEvent
    split
    · exact .next h2.raiseReset
    · exact .next h2

theorem execAttGo_wf (h : s.regsWf) : ResWf (execAttGo s) :=
  .ite (.next h) (.ite (.next h.put) (.ite (.next h.put) (.next h.put)))

theorem execAttDone_wf {ok : Bool} (h : s.regsWf) : ResWf (execAttDone ok s) := by
  refine .ite (.next h) ?_
  extract_lets _ s1
  have h1 : s1.regsWf := h.when (fun _ h1 => h1.dma)
  exact .next h1.put.put.bootEvent

/-! ### The functions of Machine/Regfile -/

theorem goOn_wf {r : Res} (h : s.regsWf) (h0 : ResWf r) : (goOn s r).regsWf := by
  unfold goOn
  split
  · exact h0 _ rfl
  · exact h

theorem State.regsWf.cfgRefused {a : Nat} (h : s.regsWf) : (s.cfgRefused a).regsWf := by
  refine .ite (.ite h.modeRefused (.ite h.secyEvent (.ite h.schedEvent h))) ?_
  split
  · exact h.pwrEvent
  · exact h.hostEvent
  · exact h.hostEvent
  · exact h.clsEvent
  · exact h.ctxEvent
  · exact h.timeEvent
  · exact h.ctEvent
  · exact h.stnEvent
  · exact h.pairEvent
  · exact h.domEvent
  · exact h.memEvent
  · exact h.rubEvent
  · exact h.perfEvent
  · exact h

theorem State.regsWf.mmFollows {p old : Nat} (h : s.regsWf) : (s.mmFollows p old).regsWf := .ite h h.put

theorem State.regsWf.schedFollows {p : Nat} (h : s.regsWf) : (s.schedFollows p).regsWf := .ite h.resync h.setSch

theorem State.regsWf.afterWrite {a old : Nat} (h : s.regsWf) : (s.afterWrite a old).regsWf :=
  .ite (.ite h.mmFollows (.ite h.schedFollows h)) (.ite (.ite h h.beside.setLocked) h)

theorem State.regsWf.plainWrite {a v : Nat} (h : s.regsWf) : (s.plainWrite a v).regsWf := by
  unfold State.plainWrite
  split
  · exact h
  · exact .ite h.lockWrite.cfgRefused h.lockWrite.setReg.afterWrite

theorem State.regsWf.rstWrite {v : Word} (h : s.regsWf) : (s.rstWrite v).regsWf :=
  .ite h (.ite h.pwrEvent (.ite h.warmReset (goOn_wf h (execSliceReset_wf h))))

theorem State.regsWf.ringCtlWrite {n : Nat} {v : Word} (h : s.regsWf) : (s.ringCtlWrite n v).regsWf := by
  unfold State.ringCtlWrite
  extract_lets _ s1
  have h1 : s1.regsWf := .ite (goOn_wf h (execRingReset_wf h)) h
  exact .ite (goOn_wf h1 (execRingEnable_wf h1)) (goOn_wf h1 (execRingDisable_wf h1))

theorem State.regsWf.bootCtlWrite {v : Word} (h : s.regsWf) : (s.bootCtlWrite v).regsWf := by
  unfold State.bootCtlWrite
  extract_lets s1
  have h1 : s1.regsWf := .ite (goOn_wf h (execRunReq_wf h)) h
  exact .ite (goOn_wf h1 (execHoldReq_wf h1)) h1

theorem State.regsWf.fuseCmdWrite {v : Word} (h : s.regsWf) : (s.fuseCmdWrite v).regsWf := by
  refine .ite h ?_
  split
  · exact goOn_wf h (execArbCommit_wf h)
  · exact h
  · exact h
  · exact goOn_wf h (execDbufMinT_wf h)
  · exact goOn_wf h (h.fuseGo (fun _ h1 => h1.fuseAnswer))

theorem State.regsWf.tceWrite {v : Word} (h : s.regsWf) : (s.tceWrite v).regsWf :=
  .ite h (.ite (.ite h.put (.ite h.put.faceAnswer h.put.setCls)) (.ite h.put.put.hostEvent h))

theorem State.regsWf.encWrite {v : Word} (h : s.regsWf) : (s.encWrite v).regsWf := .ite (.ite h h.setAlarm) h.lockWrite

theorem State.regsWf.alarmStatusWrite {v : Word} (h : s.regsWf) : (s.alarmStatusWrite v).regsWf := .ite h.beside h

theorem State.regsWf.timeCtlWrite {v : Word} (h : s.regsWf) : (s.timeCtlWrite v).regsWf := by
  refine .ite h.plainWrite ?_
  suffices h1 : State.regsWf _ by
    suffices h2 : State.regsWf _ by
      exact .ite (goOn_wf h2 (execTimeStep_wf h2)) h2
    exact .ite (goOn_wf h1 (execTimeSet_wf h1)) h1
  exact .ite (goOn_wf h.plainWrite (execTimeSnap_wf h.plainWrite)) h.plainWrite

theorem State.regsWf.ownWrite {a : Nat} {v : Word} (h : s.regsWf) : OptWf (s.ownWrite a v) := by
  refine .ite (.some h.rstWrite) (.ite (.some h.bootCtlWrite)
      (.ite (.some h.fuseCmdWrite) (.ite (.some (.ite (goOn_wf h (execAttGo_wf h)) h))
      (.ite (.some (.ite (goOn_wf h (execFloorCmd_wf h)) h))
      (.ite (.some (.ite (goOn_wf h (execHealthKick_wf h)) h))
      (.ite (.some h.alarmStatusWrite) (.ite (.some h.encWrite)
      (.ite (.some h.tceWrite) (.ite (.some (goOn_wf h (execCtxLeapLoWrite_wf h)))
      (.ite (.some (goOn_wf h (execCtxLeapHiWrite_wf h))) (.ite (.some (goOn_wf h (execKeyGroupIdWrite_wf h)))
      (.ite (.some h.timeCtlWrite) (.ite (.some (goOn_wf h (execTimeRateWrite_wf h)))
      (.ite (.some (.ite h.setReg h)) (.ite (.some (goOn_wf h (execDbufTWrite_wf h)))
      (.ite (.some (goOn_wf h (execSkimStart_wf h))) ?_))))))))))))))))
  split
  · exact .some (goOn_wf h (execExcSteerWrite_wf h))
  · exact .ite (.some h.ringCtlWrite) .none

theorem State.regsWf.pf0Write {a : Nat} {v : Word} (h : s.regsWf) : (s.pf0Write a v).regsWf := by
  refine .ite h (.ite h (.ite h (.ite (goOn_wf h (execPortModeWrite_wf h)) (.ite (goOn_wf h (execTwReqWrite_wf h)) ?_))))
  split
  · exact (h.ownWrite.of ‹_›)
  · exact h.plainWrite

/-! ### The functions of Machine/Domain -/

theorem State.regsWf.setDom {d : DomSt} (h : s.regsWf) : (s.setDom d).regsWf := h.beside

theorem State.regsWf.countIn {l : LathLink} (h : s.regsWf) : (s.countIn l).regsWf := h.count

theorem State.regsWf.domAuthFail {src : Nat} (h : s.regsWf) : (s.domAuthFail src).regsWf := h.blk.domEvent

theorem State.regsWf.hearIt {r : LathRec} (h : s.regsWf) : (s.hearIt r).regsWf := h.setDom

theorem State.regsWf.ackIt {r : LathRec} (h : s.regsWf) : (s.ackIt r).regsWf := h.lathSend

theorem onAuth_wf {k : Kind} {l : LathLink} {r : LathRec} {act : State → State} (h : s.regsWf)
    (hact : ∀ t, t.regsWf → (act t).regsWf) : ResWf (onAuth k l r s act) := by
  refine .ite (.next h) (.ite (.next h.countIn) (.ite (.next h.countIn.domAuthFail) ?_))
  extract_lets s2
  have h1 : s2.regsWf := .ite h.countIn h.countIn.ackIt
  exact .ite (.next h1) (.next (hact _ h1.hearIt))

theorem onPlain_wf {k : Kind} {l : LathLink} {r : LathRec} {may : State → Bool} {act : State → State} (h : s.regsWf)
    (hact : ∀ t, t.regsWf → (act t).regsWf) : ResWf (onPlain k l r s may act) :=
  .ite (.next h) (.ite (.next h.countIn) (.next (hact _ h.countIn.hearIt)))

theorem State.regsWf.setPresent {map : Nat} (h : s.regsWf) : (s.setPresent map).regsWf := h.put.put.put

theorem State.regsWf.sendDiscover (h : s.regsWf) : s.sendDiscover.regsWf := h.lathSend

theorem execDiscoverSend_wf (h : s.regsWf) : ResWf (execDiscoverSend s) := .ite (.next h.sendDiscover) (.next h)

theorem State.regsWf.claimCheck {j flags : Nat} (h : s.regsWf) : (s.claimCheck j flags).regsWf := .ite h.setDom.domEvent h

theorem execDiscoverReceive_wf {l : LathLink} {r : LathRec} (h : s.regsWf) : ResWf (execDiscoverReceive l r s) := by
  refine .ite (.next h) (.ite (.next h.countIn.setDom.domEvent) ?_)
  extract_lets _ _ _ _ _ s3
  have h1 : s3.regsWf := h.countIn.setDom.when (fun _ h1 => h1.setPresent)
  exact .next (h1.claimCheck.when (fun _ h2 => h2.relayFirmware))

theorem execHawkClaimExpiry_wf (h : s.regsWf) : ResWf (execHawkClaimExpiry s) :=
  .ite (.next h) (.next h.setDom.put.setPresent)

theorem execDomHbSend_wf (h : s.regsWf) : ResWf (execDomHbSend s) := .ite (.next h.lathSend) (.next h)

theorem execDomHbReceive_wf {l : LathLink} {r : LathRec} (h : s.regsWf) : ResWf (execDomHbReceive l r s) :=
  onAuth_wf h (fun _ h1 => .ite h1.setDom.setPresent (.ite h1.setDom.put h1.setDom))

theorem execDomHbMiss_wf {j : Fin 64} (h : s.regsWf) : ResWf (execDomHbMiss j s) :=
  .ite (.next h) (.ite (.ite (.next h.setDom.setPresent.domEvent) (.next h)) (.ite (.next h.put.domEvent) (.next h)))

theorem execRingLinkLoss_wf {l : LathLink} (h : s.regsWf) : ResWf (execRingLinkLoss l s) :=
  .ite (.next h.put.put.domEvent) (.next h)

theorem execRingLinkRestore_wf {l : LathLink} (h : s.regsWf) : ResWf (execRingLinkRestore l s) := by
  refine .ite (.next h) ?_
  extract_lets _ s2
  have h1 : s2.regsWf := h.put.when (fun _ h1 => h1.put)
  exact .next h1.sendDiscover

theorem State.regsWf.passOn {l : LathLink} {r : LathRec} (h : s.regsWf) : (s.passOn l r).regsWf := .ite h h.emit.count

theorem execRingRecordForward_wf {l : LathLink} {r : LathRec} (h : s.regsWf) : ResWf (execRingRecordForward l r s) :=
  .ite (.next h) (.next h.passOn)

theorem State.regsWf.prepareDone {x : Prep} {d : Reply} (h : s.regsWf) : (s.prepareDone x d).regsWf := by
  unfold State.prepareDone
  dsimp only
  split
  · exact h.setDom.completeOrder
  · exact h.setDom

theorem State.regsWf.activateAck {j : Nat} (h : s.regsWf) : (s.activateAck j).regsWf := by
  unfold State.activateAck
  split
  · exact h
  · exact .ite h.setDom h.setDom.setDom.prepareDone

theorem execAckReceive_wf {l : LathLink} {r : LathRec} (h : s.regsWf) : ResWf (execAckReceive l r s) := by
  refine onAuth_wf h fun _ h1 => ?_
  extract_lets _
  split
  · exact h1
  · refine .ite h1.activateAck (.ite h1.setDom ?_)
    split
    · exact h1.setDom.completeOrder
    · exact h1.setDom

theorem State.regsWf.relayAnswer {owner : Option (Nat × Nat)} {j : Nat} {d : Completion} (h : s.regsWf) :
    (s.relayAnswer owner j d).regsWf := by
  unfold State.relayAnswer
  split
  · exact h
  · exact .ite h.broadcastAnswer h.completeOrder

theorem State.regsWf.readOver {q : Nat} {v : Word} (h : s.regsWf) : (s.readOver q v).regsWf := h.setDom.emit

theorem State.regsWf.relayFail {j : Nat} (h : s.regsWf) : (s.relayFail j).regsWf := h.when (fun _ h1 => h1.domEvent)

theorem State.regsWf.relayLost {x : Relay} (h : s.regsWf) : (s.relayLost x).regsWf := by
  refine .ite ?_ (.relayFail (.ite h.setDom.relayAnswer.readOver h.setDom.relayAnswer))
  split
  · exact h.setDom.prepareDone
  · exact h.setDom

theorem execRecordAckTimeout_wf {seq : BitVec 32} (h : s.regsWf) : ResWf (execRecordAckTimeout seq s) := by
  unfold execRecordAckTimeout
  split
  · exact .next h
  · exact .ite (.next (h.setDom.lathAgain (fun _ _ _ h1 => h1.overflow)).blk.count) (.next h.relayLost)

theorem State.regsWf.relayWrite {x : Nat} {v : Word} (h : s.regsWf) : (s.relayWrite x v).regsWf :=
  .ite h (.ite h.pf0Write (.ite h.domEvent h.unicast))

theorem execRelayWindowWrite_wf {x : BitVec 23} {v : Word} (h : s.regsWf) : ResWf (execRelayWindowWrite x v s) :=
  .next h.relayWrite

theorem State.regsWf.hostRead {a : Nat} (h : s.regsWf) : (s.hostRead a).2.regsWf := by
  unfold State.hostRead
  split
  · exact h
  · split
    · exact h.put
    · exact h

theorem execRelayWindowRead_wf {x : BitVec 23} (h : s.regsWf) : ResWf (execRelayWindowRead x s) := by
  unfold execRelayWindowRead
  extract_lets a
  refine .ite (.next h.emit) (.ite (.next h.emit) (.ite ?_ (.ite (.next h.emit.domEvent) (.next h.unicast.setDom))))
  have h1 : (s.hostRead a).2.regsWf := h.hostRead
  generalize s.hostRead a = r at h1 ⊢
  split
  exact .next h1.emit

theorem execRegRecordReceive_wf {l : LathLink} {r : LathRec} (h : s.regsWf) : ResWf (execRegRecordReceive l r s) := by
  refine onAuth_wf h fun t h1 => ?_
  extract_lets a
  refine .ite h1 ?_
  split
  · have h2 : (t.hostRead a).2.regsWf := h1.hostRead
    generalize t.hostRead a = r at h2 ⊢
    split
    exact h2.unicast
  · exact .ite h1.pf0Write h1
  · exact h1

theorem execRelayReadResponse_wf {l : LathLink} {r : LathRec} (h : s.regsWf) : ResWf (execRelayReadResponse l r s) :=
  onAuth_wf h (fun _ h1 => .ite h1.readOver h1)

theorem execRelayReadTimeout_wf {seq : BitVec 32} (h : s.regsWf) : ResWf (execRelayReadTimeout seq s) := by
  unfold execRelayReadTimeout
  split
  · exact .next h.readOver.relayFail
  · exact .next h

theorem State.regsWf.discard (h : s.regsWf) : s.discard.regsWf := h.setDom.put.each (fun _ _ h1 => h1.setSch)

theorem State.regsWf.runRelayed {g op : Nat} {c : RingCmd} (h : s.regsWf) : FstWf (s.runRelayed g op c) :=
  .ite (.mk h) (.ite (.mk h.discard) (runLocal_wf (ringBody_wf g op) h))

theorem execRelayedCmdReceive_wf {l : LathLink} {r : LathRec} (h : s.regsWf) : ResWf (execRelayedCmdReceive l r s) :=
  onAuth_wf h (fun _ h1 => .ite h1 (.unicast (.ite h1.runRelayed.fst h1.runRelayed.fst.dma)))

theorem execDmaRecordReceive_wf {l : LathLink} {r : LathRec} (h : s.regsWf) : ResWf (execDmaRecordReceive l r s) := by
  unfold execDmaRecordReceive
  extract_lets k
  refine onAuth_wf h fun t h1 => ?_
  clear_value k
  refine .ite h1 ?_
  split
  · extract_lets _
    split
    · exact h1.setDom.relayAnswer
    · exact h1
  · extract_lets _ s1
    have h2 : s1.regsWf := .ite h1.setDom h1
    exact h2.post
  · exact h1.emit

theorem execExcRecordReceive_wf {l : LathLink} {r : LathRec} (h : s.regsWf) : ResWf (execExcRecordReceive l r s) :=
  onAuth_wf h (fun _ h1 => .ite h1.pf2Write (.ite h1 h1.pf2Queue))

theorem execFwStartReceive_wf {l : LathLink} {r : LathRec} (h : s.regsWf) : ResWf (execFwStartReceive l r s) := by
  refine onPlain_wf h (fun _ h1 => ?_)
  extract_lets _ s1
  have h2 : s1.regsWf := .ite h1 h1.put.formDomain
  exact h2.setDom.setBoot.put

theorem execFwDataReceive_wf {l : LathLink} {r : LathRec} (h : s.regsWf) : ResWf (execFwDataReceive l r s) := by
  refine .ite (.next h) (.ite (.next h.countIn.passOn) ?_)
  extract_lets s2
  have h1 : s2.regsWf := h.countIn.passOn.hearIt
  exact .ite (.next h1.setBoot) (.next h1)

theorem execLoadStatusReceive_wf {l : LathLink} {r : LathRec} (h : s.regsWf) : ResWf (execLoadStatusReceive l r s) :=
  onPlain_wf h (fun _ h1 => h1.setDom)

theorem execDomResetReceive_wf {l : LathLink} {r : LathRec} (h : s.regsWf) : ResWf (execDomResetReceive l r s) :=
  onAuth_wf h (fun _ h1 => .ite h1 h1.raiseReset)

theorem State.regsWf.screedOutcome {j : Nat} {good : Bool} (h : s.regsWf) : (s.screedOutcome j good).regsWf :=
  .ite h.setDom (.ite h.setDom.raise.domEvent.put h.setDom)

theorem State.regsWf.screedJudge {j : Nat} {x : Screed} (h : s.regsWf) : (s.screedJudge j x).regsWf :=
  .ite h.setDom.screedOutcome h.setDom

theorem State.regsWf.keepScreed {j : Nat} {x : Screed} (h : s.regsWf) : (s.keepScreed j x).regsWf := h.setDom

theorem State.regsWf.closeInterval (h : s.regsWf) : s.closeInterval.regsWf := by
  refine .ite h ?_
  extract_lets _ s1
  have h1 : s1.regsWf := h.each (fun _ _ h1 => h1.screedOutcome)
  exact h1.setDom

theorem execScreedSend_wf (h : s.regsWf) : ResWf (execScreedSend s) :=
  .ite (.next h) (.next h.lathSend.keepScreed.screedJudge.closeInterval)

theorem execScreedReceive_wf {l : LathLink} {r : LathRec} (h : s.regsWf) : ResWf (execScreedReceive l r s) :=
  onAuth_wf h (fun _ h1 => h1.keepScreed.screedJudge)

theorem State.regsWf.freeze {t : Nat} (h : s.regsWf) : (s.freeze t).regsWf := h.setDom

theorem execPrepareReceive_wf {l : LathLink} {r : LathRec} (h : s.regsWf) : ResWf (execPrepareReceive l r s) :=
  onAuth_wf h (fun _ h1 => .ite h1 h1.freeze.unicast)

theorem State.regsWf.unfreeze (h : s.regsWf) : s.unfreeze.regsWf := h.setDom.domEvent

theorem State.regsWf.abortPrep {x : Prep} {code map : Nat} (h : s.regsWf) : (s.abortPrep x code map).regsWf :=
  h.lathSend.put.unfreeze.prepareDone.setDom

theorem State.regsWf.applyStaged (h : s.regsWf) : s.applyStaged.regsWf := by
  unfold State.applyStaged
  extract_lets s1 s2 s3 _ _ _ _ s6
  have h1 : s1.regsWf := h.each (fun _ _ h1 => h1.replay)
  have h2 : s2.regsWf := h1.each (fun _ _ h2 => (ctWithdraw_wf _ _ h2).fst)
  have h3 : s3.regsWf := h2.each (fun _ _ h3 => (ctAdmit_wf _ _ h3).fst)
  have h4 : s6.regsWf := by
    unfold s6
    split
    · exact h3.put.put.setDom.setDom.put
    · exact h3.put.put.setDom
  exact h4.domEvent

theorem State.regsWf.activate {t : Nat} (h : s.regsWf) : (s.activate t).regsWf := by
  refine .ite h (.ite h.setDom ?_)
  extract_lets _ s2
  have h1 : s2.regsWf := by
    refine h.domEvent.each (fun _ _ h1 => ?_)
    split
    · exact h1.schedule
    · exact h1
  exact h1.applyStaged

theorem execActivation_wf (h : s.regsWf) : ResWf (execActivation s) := by
  unfold execActivation
  split
  · exact .next h
  · exact .ite (.next h) (.next (h.each (fun _ _ h1 => h1.swapBanks)).applyStaged)

theorem State.regsWf.sendActivate {x : Prep} (h : s.regsWf) : (s.sendActivate x).regsWf :=
  h.lathSend.setDom.activateAck.activate

theorem State.regsWf.takeReport {j code : Nat} {stg : BitVec 128} (h : s.regsWf) : (s.takeReport j code stg).regsWf := by
  unfold State.takeReport
  split
  · exact h
  · exact .ite h (.ite h.setDom (.ite h.setDom.abortPrep (.ite h.setDom.sendActivate h.setDom.abortPrep)))

theorem execReportReceive_wf {l : LathLink} {r : LathRec} (h : s.regsWf) : ResWf (execReportReceive l r s) :=
  onAuth_wf h (fun _ h1 => .ite h1.takeReport h1)

theorem execPrepTimeout_wf (h : s.regsWf) : ResWf (execPrepTimeout s) := by
  unfold execPrepTimeout
  split
  · exact .ite (.next h.abortPrep) (.next h)
  · exact .next h

theorem execAbortReceive_wf {l : LathLink} {r : LathRec} (h : s.regsWf) : ResWf (execAbortReceive l r s) :=
  onAuth_wf h (fun _ h1 => .ite h1.unfreeze h1)

theorem execActivateReceive_wf {l : LathLink} {r : LathRec} (h : s.regsWf) : ResWf (execActivateReceive l r s) :=
  onAuth_wf h (fun _ h1 => .ite h1 h1.ackIt.activate)

theorem domExec_wf {op : Nat} {body : Body} {c : RingCmd} (hbody : BodyWf body) (h : s.regsWf) : ResWf (domExec op body c s) :=
  ringExec_wf (fun _ _ h1 => .ite (hbody _ _ h1) (refuse_wf h1)) h

theorem domStatus_wf : BodyWf domStatus := fun _ _ h => .ite (refuse_wf h) (.mk h)

theorem domExpect_wf : BodyWf domExpect := by
  intro _ s h
  unfold domExpect
  dsimp only
  split
  · exact dmaError_wf h
  · exact .ite (refuse_wf h) (.mk h.setDom.put)

theorem State.regsWf.startPrepare {c : RingCmd} {owner : Nat × Nat} (h : s.regsWf) : (s.startPrepare c owner).regsWf :=
  h.setDom.put.lathSend.freeze.takeReport

theorem execDomStatus_wf {c : RingCmd} (h : s.regsWf) : ResWf (execDomStatus c s) := domExec_wf domStatus_wf h

theorem execDomExpect_wf {c : RingCmd} (h : s.regsWf) : ResWf (execDomExpect c s) := domExec_wf domExpect_wf h

theorem execDomPrepare_wf {c : RingCmd} (h : s.regsWf) : ResWf (execDomPrepare c s) := by
  unfold execDomPrepare
  split
  · exact .next h.owe.fst.startPrepare
  · exact ringExec_wf (fun _ _ h1 => .mk h1) h
  · exact ringExec_wf (fun _ _ h1 => refuse_wf h1) h

theorem domAbort_wf : BodyWf domAbort := by
  intro _ s h
  unfold domAbort
  split
  · exact .mk h
  · exact .ite (refuse_wf h) (.mk h.beside.abortPrep)

theorem execDomAbort_wf {c : RingCmd} (h : s.regsWf) : ResWf (execDomAbort c s) := domExec_wf domAbort_wf h

theorem execDomDiscard_wf {c : RingCmd} (h : s.regsWf) : ResWf (execDomDiscard c s) := by
  unfold execDomDiscard
  extract_lets _ _ _ s1
  split
  · exact ringExec_wf (fun _ _ h1 => refuse_wf h1) h
  · refine .ite (ringExec_wf (fun _ _ h1 => refuse_wf h1) h) ?_
    have h1 : s1.regsWf := h.when (fun _ h1 => h1.discard)
    exact .ite (ringExec_wf (fun _ _ h2 => .mk h2) h1) (.next (h1.owe.fst.setDom.each (fun _ _ h2 => h2.unicast)))

theorem domRelease_wf : BodyWf domRelease := fun _ _ h => .ite (refuse_wf h) (.mk h.put)

theorem execDomRelease_wf {c : RingCmd} (h : s.regsWf) : ResWf (execDomRelease c s) := domExec_wf domRelease_wf h

theorem execDomReset_wf {c : RingCmd} (h : s.regsWf) : ResWf (execDomReset c s) := by
  unfold execDomReset
  dsimp only
  split
  · exact ringExec_wf (fun _ _ h1 => refuse_wf h1) h
  · exact .ite (ringExec_wf (fun _ _ h1 => .mk h1.lathSend) h)
        (.ite (ringExec_wf (fun _ _ h1 => refuse_wf h1) h) (.next h.owe.fst.unicast))

/-! ### The functions of Machine/Access -/

theorem State.regsWf.unmask {fn v : Nat} (h : s.regsWf) : (s.unmask fn v).regsWf := .ite h.beside.emit h

theorem State.regsWf.msixWrite {fn x size v : Nat} (h : s.regsWf) : (s.msixWrite fn x size v).regsWf := .ite h h.beside.unmask

theorem State.regsWf.bar2Write {fn : Fin 3} {x size v : Nat} (h : s.regsWf) : (s.bar2Write fn x size v).regsWf :=
  .ite (.ite h (.ite (goOn_wf h (execSqTailDoorbell_wf h)) (goOn_wf h (execCqHeadDoorbell_wf h)))) (.ite h.msixWrite h)

theorem State.regsWf.bar0Write {x size v : Nat} (h : s.regsWf) : (s.bar0Write x size v).regsWf :=
  .ite h (.ite h.pf0Write (.ite h.relayWrite h))

theorem execRegisterWrite_wf {w : HostWrite} (h : s.regsWf) : ResWf (execRegisterWrite w s) :=
  .ite (.next h) (.ite (.next h.bar2Write) (.ite (.next h.bar0Write) (.next h)))

/-! ### The functions of Machine/Dispatch -/

/-- The dispatch has one arm per instruction, and each of them keeps the canonical form. -/
theorem exec_wf {i : Instr} (h : s.regsWf) : ResWf (exec i s) := by
  unfold exec
  split
  · exact execRegisterWrite_wf h
  · exact execPortModeWrite_wf h
  · exact execPortStatusRead_wf h
  · exact execNegotiationResolved_wf h
  · exact execAnFail_wf h
  · exact execSignalLock_wf h
  · exact execTrainingDone_wf h
  · exact execTrainingFail_wf h
  · exact execLinkUp_wf h
  · exact execLockLoss_wf h
  · exact execLinkDown_wf h
  · exact execFaultLocalEnter_wf h
  · exact execFaultLocalClear_wf h
  · exact execFaultRemoteEnter_wf h
  · exact execFaultRemoteClear_wf h
  · exact execVerifyMpacketSend_wf h
  · exact execRespondMpacketReceive_wf h
  · exact execMmVerifyFail_wf h
  · exact execMmFragmentReceive_wf h
  · exact execLpiEnter_wf h
  · exact execLpiWake_wf h
  · exact execLpiIdleExpiry_wf h
  · exact execRxLpiEntry_wf h
  · exact execTwReqWrite_wf h
  · exact execTwApply_wf h
  · exact execFrameHeadReceive_wf h
  · exact execContextFetchDone_wf h
  · exact execKeyUnwrapDone_wf h
  · exact execFrameWet_wf h
  · exact execForwardingLookupDone_wf h
  · exact execFrameEndReceive_wf h
  · exact execFrameVerdict_wf h
  · exact execStnAsduExamine_wf h
  · exact execStnPairWaitExpire_wf h
  · exact execTakeAnyReset_wf h
  · exact execTxCommit_wf h
  · exact execTransmitStart_wf h
  · exact execReservedStart_wf h
  · exact execTailRelease_wf h
  · exact execTxEnd_wf h
  · exact execExtraWorkDone_wf h
  · exact execDbfReadDone_wf h
  · exact execGateCycleStart_wf h
  · exact execGateSetGates_wf h
  · exact execGateSetHold_wf h
  · exact execGateSetRelease_wf h
  · exact execGateKeyflip_wf h
  · exact execGateReserve_wf h
  · exact execGclConfigChange_wf h
  · exact execGclWrite_wf h
  · exact execGclRead_wf h
  · exact execGclParams_wf h
  · exact execGclChange_wf h
  · exact execGclCancel_wf h
  · exact execGclStatus_wf h
  · exact execFlipDone_wf h
  · exact execCipherCoreFault_wf h
  · exact execMcuCoreFault_wf h
  · exact execReadPos_wf h
  · exact execSearch_wf h
  · exact execInsert_wf h
  · exact execMoveRegisterClear_wf h
  · exact execUpdate_wf h
  · exact execDelete_wf h
  · exact execFlush_wf h
  · exact execWritePos_wf h
  · exact execLearnQueueServe_wf h
  · exact execAgeSweepVisit_wf h
  · exact execBgcPass_wf h
  · exact execBgcConfirm_wf h
  · exact execCtxRead_wf h
  · exact execCtxInstall_wf h
  · exact execCtxEnable_wf h
  · exact execCtxRetire_wf h
  · exact execCtxSelect_wf h
  · exact execCtxFree_wf h
  · exact execCtxPin_wf h
  · exact execCtxUnpin_wf h
  · exact execCtxClearCnt_wf h
  · exact execScmAdd_wf h
  · exact execScmDelete_wf h
  · exact execFlipAdd_wf h
  · exact execFlipArm_wf h
  · exact execFlipCancel_wf h
  · exact execFlipStatus_wf h
  · exact execSecyTxRead_wf h
  · exact execCtxLeapLoWrite_wf h
  · exact execCtxLeapHiWrite_wf h
  · exact execKeyImportKw_wf h
  · exact execKeyImportXw_wf h
  · exact execKeyGenerate_wf h
  · exact execKeyDerive_wf h
  · exact execKeyExportKw_wf h
  · exact execKeyExportXw_wf h
  · exact execKeyCmacGen_wf h
  · exact execKeyCmacVerify_wf h
  · exact execKeyAttrRead_wf h
  · exact execKeyAttrReduce_wf h
  · exact execKeyPin_wf h
  · exact execKeyUnpin_wf h
  · exact execKeyFree_wf h
  · exact execRootInject_wf h
  · exact execRootErase_wf h
  · exact execRootStatus_wf h
  · exact execKeyGroupIdWrite_wf h
  · exact execTrngHealthTimeout_wf h
  · exact execKeySlotUncorr_wf h
  · exact execTimeSet_wf h
  · exact execTimeStep_wf h
  · exact execTimeSnap_wf h
  · exact execTimeRateWrite_wf h
  · exact execClockSourceAdjust_wf h
  · exact execPpsInEdge_wf h
  · exact execPpsInLoss_wf h
  · exact execPpsOutRise_wf h
  · exact execPpsOutFall_wf h
  · exact execTodOutSend_wf h
  · exact execTodInReceive_wf h
  · exact execTsCalDone_wf h
  · exact execPtpTcEntryExpire_wf h
  · exact execPtpGet_wf h
  · exact execPtpSet_wf h
  · exact execFltWrite_wf h
  · exact execFltRead_wf h
  · exact execMtrWrite_wf h
  · exact execMtrRead_wf h
  · exact execFltUnblock_wf h
  · exact execMtrUnmark_wf h
  · exact execFltClearCnt_wf h
  · exact execTunWrite_wf h
  · exact execTunRead_wf h
  · exact execCtAdmit_wf h
  · exact execCtWithdraw_wf h
  · exact execCtRead_wf h
  · exact execCtClearCnt_wf h
  · exact execSrcRead_wf h
  · exact execSrcWrite_wf h
  · exact execStnRead_wf h
  · exact execStnWrite_wf h
  · exact execStnClearCnt_wf h
  · exact execPairStatus_wf h
  · exact execPairDemote_wf h
  · exact execPairRefill_wf h
  · exact execPairHbSend_wf h
  · exact execPairHbReceive_wf h
  · exact execPairHbMiss_wf h
  · exact execPairStartWait_wf h
  · exact execYieldReceive_wf h
  · exact execPairCheckpointSend_wf h
  · exact execPairCheckpointReceive_wf h
  · exact execDemoteCheckpointStart_wf h
  · exact execDemoteAbandon_wf h
  · exact execPairHandover_wf h
  · exact execDigestSend_wf h
  · exact execDigestReceive_wf h
  · exact execDigestMiss_wf h
  · exact execRefillRecordReceive_wf h
  · exact execDiscoverSend_wf h
  · exact execDiscoverReceive_wf h
  · exact execHawkClaimExpiry_wf h
  · exact execRingLinkLoss_wf h
  · exact execRingLinkRestore_wf h
  · exact execRingRecordForward_wf h
  · exact execAckReceive_wf h
  · exact execRecordAckTimeout_wf h
  · exact execRelayWindowWrite_wf h
  · exact execRelayWindowRead_wf h
  · exact execRelayReadResponse_wf h
  · exact execRelayReadTimeout_wf h
  · exact execRelayedCmdReceive_wf h
  · exact execExcRecordReceive_wf h
  · exact execFwStartReceive_wf h
  · exact execFwDataReceive_wf h
  · exact execLoadStatusReceive_wf h
  · exact execDomHbSend_wf h
  · exact execDomHbMiss_wf h
  · exact execDomResetReceive_wf h
  · exact execScreedSend_wf h
  · exact execScreedReceive_wf h
  · exact execPrepareReceive_wf h
  · exact execReportReceive_wf h
  · exact execPrepTimeout_wf h
  · exact execAbortReceive_wf h
  · exact execActivateReceive_wf h
  · exact execActivation_wf h
  · exact execDomStatus_wf h
  · exact execDomExpect_wf h
  · exact execDomPrepare_wf h
  · exact execDomAbort_wf h
  · exact execDomDiscard_wf h
  · exact execDomRelease_wf h
  · exact execDomReset_wf h
  · exact execMonDisagree_wf h
  · exact execMemReadDone_wf h
  · exact execNodeRebuildDone_wf h
  · exact execMemLineWrite_wf h
  · exact execMemRootError_wf h
  · exact execScrubRead_wf h
  · exact execStackTempChange_wf h
  · exact execSkimStart_wf h
  · exact execSkimGroupMove_wf h
  · exact execStripDone_wf h
  · exact execDbufTWrite_wf h
  · exact execRawDebugAccess_wf h
  · exact execUcieTrainDone_wf h
  · exact execUcieTrainRetry_wf h
  · exact execUcieLinkDown_wf h
  · exact execHostReadTimeout_wf h
  · exact execFunctionLevelReset_wf h
  · exact execSqTailDoorbell_wf h
  · exact execCqHeadDoorbell_wf h
  · exact execCmdFetch_wf h
  · exact execRingEnable_wf h
  · exact execRingDisable_wf h
  · exact execRingStopDone_wf h
  · exact execRingReset_wf h
  · exact execPf2TxFetch_wf h
  · exact execMsixCoalTimeout_wf h
  · exact execExcSteerWrite_wf h
  · exact execNop_wf h
  · exact execFence_wf h
  · exact execPowerGood_wf h
  · exact execVbatPresent_wf h
  · exact execVbatLoss_wf h
  · exact execPowerLoss_wf h
  · exact execColdReset_wf h
  · exact execWarmReset_wf h
  · exact execResetRelease_wf h
  · exact execRomDone_wf h
  · exact execFwLoadGo_wf h
  · exact execFwVerifyDone_wf h
  · exact execSetupEntry_wf h
  · exact execRunReq_wf h
  · exact execHoldReq_wf h
  · exact execArbCommit_wf h
  · exact execOwnerHash_wf h
  · exact execLcAdvance_wf h
  · exact execDbufMinT_wf h
  · exact execFuseBurnDone_wf h
  · exact execAttGo_wf h
  · exact execAttDone_wf h
  · exact execMonitorTrip_wf h
  · exact execAlarmRearm_wf h
  · exact execEncCfgApply_wf h
  · exact execMonitorTestRound_wf h
  · exact execTestWindowEnd_wf h
  · exact execFloorCmd_wf h
  · exact execHealthKick_wf h
  · exact execHealthKickExpiry_wf h
  · exact execRubPassStart_wf h
  · exact execRubNow_wf h
  · exact execRubTempRetry_wf h
  · exact execRubPrepareDone_wf h
  · exact execRubMirrorDone_wf h
  · exact execRubHandover_wf h
  · exact execRubGapTimeout_wf h
  · exact execRubDrainDone_wf h
  · exact execRubTestDone_wf h
  · exact execRubRefillDone_wf h
  · exact execRubHandback_wf h
  · exact execRubReturnRetry_wf h
  · exact execPerfSnapshot_wf h
  · exact execPerfSnapAt_wf h
  · exact execPerfDump_wf h
  · exact execPerfRead_wf h
  · exact execPeriodicSnapshot_wf h
  · exact execSnapAtFire_wf h
  · exact execSnapshotDone_wf h
  · exact execDumpRecordWrite_wf h
  · exact execPerfSample_wf h
  · exact execSliceWake_wf h
  · exact execSliceWakeDone_wf h
  · exact execSliceSleep_wf h
  · exact execSlicePllUnlock_wf h
  · exact execCentralPllUnlock_wf h
  · exact execSliceReset_wf h
  · exact execSliceResetDone_wf h
  · exact execRefillRequestReceive_wf h
  · exact execDomHbReceive_wf h
  · exact execRegRecordReceive_wf h
  · exact execDmaRecordReceive_wf h
  · exact execSpoilMarkerReceive_wf h
  · exact execTrngHealthRestored_wf h
  · exact execRxLpiExit_wf h
  · exact execErroredBlockReceive_wf h

/-! ### The functions of Machine/Tick -/

theorem State.regsWf.advance (h : s.regsWf) : s.advance.regsWf := h.beside

theorem State.regsWf.countTh {k : Nat} (h : s.regsWf) : (s.countTh k).regsWf := .ite (.ite h.beside.overflow h.beside) h

theorem State.regsWf.endWakes (h : s.regsWf) : s.endWakes.regsWf := h.each (fun _ _ h1 => h1.setPort.put)

theorem State.regsWf.coreTick (h : s.regsWf) : s.coreTick.regsWf := by
  unfold State.coreTick
  extract_lets s1 _ s3
  have h1 : s1.regsWf := (h.each (fun _ _ h1 => h1.count)).each (fun _ _ h1 => h1.countTh)
  have h2 : s3.regsWf := .ite h1.beside.advance h1.beside
  exact h2.endWakes

theorem tick_wf (h : s.regsWf) : (tick s).regsWf := .ite h.beside.coreTick h.beside

/-! ### The functions of Machine/Step -/

theorem step_wf (h : s.regsWf) : ResWf (step s) := by
  unfold step
  split
  · exact .next (tick_wf h)
  · exact exec_wf h.beside

end Sys2Proof.Machine

/-- Settles O59: whatever the command at the head of the queue, its treatment changes the register file only by
stores of words, and every such store keeps the canonical form. -/
theorem registersStayCanonical : Obligations.RegistersStayCanonical := by
  unfold Obligations.RegistersStayCanonical
  intro s t h e
  exact (Sys2Proof.Machine.step_wf h).of e
end

section
/-!
The state after reset (R7, R49, R488). No word of a port is stored at reset, so each register of a port reads its reset word.
-/
namespace Sys2Proof.Machine

/-- Every port starts DOWN (R30, Table 2.4). -/
theorem reset_link : ∀ p : Fin 96, State.reset.link p = 0 := by decide +kernel

/-- The reset value of RX_MAX_LEN (Table 2.11). -/
theorem reset_rxMaxLen : ∀ p : Fin 96, State.reset.fld (F.PORT_MAC_CFG.RX_MAX_LEN p) = 1518 := by decide +kernel

theorem reset_resetCause : State.reset.fld F.BOOT_STATUS.RESET_CAUSE = 0 := by decide +kernel

end Sys2Proof.Machine

open Sys2Proof.Machine

/-- Settles O58: the reset words are the region registers of the memory layout, stored over an empty register file. -/
theorem resetIsCanonical : Obligations.ResetIsCanonical := by
  unfold Obligations.ResetIsCanonical
  exact ⟨State.reset_regsWf, rfl, rfl, reset_resetCause, fun p => ⟨reset_link p, reset_rxMaxLen p⟩⟩
end

section
/-!
Host writes of registers (R7, R376, R377, R513, R514, R518): which write reaches a register, what a register without a
behaviour of its own does with it, and the rows of the three registers that O47 speaks of.
-/
namespace Sys2Proof.Machine

/-! ### Which write reaches a register -/

section
variable {s : State}

theorem exec_registerWrite_beforeLoad (w : HostWrite) (h : s.op.code < 3) : exec (.registerWrite w) s = .next s :=
  if_pos h

theorem exec_registerWrite_pf0 (h : 3 ≤ s.op.code) (off size : Nat) (x : BitVec 64) :
    exec (.registerWrite ⟨0, 0, off, size, x⟩) s = .next (s.bar0Write off size x.toNat) :=
  if_neg (Nat.not_lt.mpr h)

/-- PF1 BAR0 is read-only (R377). -/
theorem exec_registerWrite_pf1 (h : 3 ≤ s.op.code) (off size : Nat) (x : BitVec 64) :
    exec (.registerWrite ⟨1, 0, off, size, x⟩) s = .next s :=
  if_neg (Nat.not_lt.mpr h)

/-- An access of another size than 32 bits is dropped (R513). -/
theorem State.bar0Write_size {size : Nat} (h : size ≠ 4) (off v : Nat) : s.bar0Write off size v = s := by
  simp [State.bar0Write, h]

/-- No register of a port window has a behaviour of its own among the central ones. -/
theorem State.ownWrite_port {a : Nat} (h : 0x200000 ≤ a) (v : Word) : s.ownWrite a v = none := by
  have hc : ∀ r, r < 0x200000 → a ≠ r := by omega
  have hw : wordIdx a (R.EXC_STEER 0) 4 = none := if_neg (by unfold R.EXC_STEER; omega)
  have hr : ¬ (0x4400 ≤ a ∧ a < 0x5400 ∧ a % 0x40 = 0x14) := by omega
  unfold State.ownWrite
  simp only [hw, if_neg hr]
  iterate 17 rw [if_neg (hc _ (by decide))]

/-- A 32-bit write of a register without a behaviour of its own, outside the pair and domain blocks. -/
theorem exec_registerWrite_plain {a : Nat} (h : 3 ≤ s.op.code) (ha : a % 4 = 0)
    (hb : a / 0x1000 ≠ 0xF ∧ a / 0x1000 ≠ 0x10)
    (hp : a < 0x200000 ∨ 0x260000 ≤ a ∨ (a % 0x1000 ≠ 0 ∧ a % 0x1000 ≠ 0x10)) (hlt : a < 0x800000) (x : BitVec 64)
    (ho : s.ownWrite a (BitVec.ofNat 32 x.toNat) = none) :
    exec (.registerWrite ⟨0, 0, a, 4, x⟩) s = .next (s.plainWrite a (BitVec.ofNat 32 x.toNat).toNat) := by
  have hop : ¬ s.op.code < 3 := Nat.not_lt.mpr h
  rw [exec_registerWrite_pf0 h]
  unfold State.bar0Write State.pf0Write
  rw [if_neg (by simp [ha]), if_pos hlt, if_neg (by simp [ha, hop]), if_neg (by simp [hb.1]), if_neg (by simp [hb.2]),
    if_neg (by omega), if_neg (by omega), ho]

/-! ### What a plain write does -/

variable {a v : Nat} {r : RegRow}

/-- A write that no check refuses stores the word that the access codes leave. -/
theorem State.plainWrite_stored (hr : rowOf allRows a = some r) (ho : s.outOfRange a r.fields v = false)
    (hx : s.written a r.fields (s.reg a).toNat v ≠ (s.reg a).toNat →
      s.crossBad a (s.written a r.fields (s.reg a).toNat v) = false)
    (hf : ∀ (t : State) old, t.afterWrite a old = t) :
    s.plainWrite a v = (s.lockWrite (lockDiffers r.fields (s.reg a).toNat v)).setReg a
      (BitVec.ofNat 32 (s.written a r.fields (s.reg a).toNat v)) := by
  unfold State.plainWrite
  rw [hr]
  dsimp only
  rw [if_neg, hf]
  simpa [ho] using hx

/-- A write of a value out of range is refused as a whole. -/
theorem State.plainWrite_outOfRange (hr : rowOf allRows a = some r) (ho : s.outOfRange a r.fields v = true) :
    s.plainWrite a v = (s.lockWrite (lockDiffers r.fields (s.reg a).toNat v)).cfgRefused a := by
  unfold State.plainWrite
  rw [hr]
  dsimp only
  rw [if_pos (by simp [ho])]

theorem State.lockWrite_unlocked {d : Bool} (h : s.locked = false) : s.lockWrite d = s := by
  simp [State.lockWrite, h]

theorem State.lockWrite_false : s.lockWrite false = s := by
  simp [State.lockWrite]

/-- Where the registers are locked a differing write raises LOCK_WRITE (R514). -/
theorem State.lockWrite_bit (h : s.locked = true) : natBit ((s.lockWrite true).reg R.HOST_EVENT).toNat 0 = true := by
  have e : s.lockWrite true = s.hostEvent 0 0 := by simp [State.lockWrite, h]
  rw [e]
  exact State.event_bit s _ _ _ _ _ _ _ (by omega) (reportReg_central (by decide))

/-! ### Access codes in the operational states -/

/-- In SETUP every access code takes effect. -/
theorem State.takes_setup (h : s.op = .setup) (a : Nat) (f : FieldRow) : s.takes a f = true := by
  simp [State.takes, h]

/-- From LOAD on a field that is not RW-L takes effect, in LOAD where the table of R518 names the register. -/
theorem State.takes_of_load (h : 3 ≤ s.op.code) {f : FieldRow} (hf : f.acc ≠ .rwl)
    (hl : (a / 0x1000 == 1 || a == R.ID_SCRATCH || (f.acc == .w1c && isEventReg a)) = true) : s.takes a f = true := by
  unfold State.takes
  cases e : s.op with
  | off | battery | rom => simp [e, OpState.code] at h
  | load => exact hl
  | setup => rfl
  | run | hold | fault => simpa using hf

/-- In RUN, HOLD and FAULT an RW-L field takes no value. -/
theorem State.takes_locked (h : s.locked = true) {f : FieldRow} (hf : f.acc = .rwl) : s.takes a f = false := by
  unfold State.takes
  cases e : s.op with
  | off | battery | rom | load | setup => simp [State.locked, e] at h
  | run | hold | fault => simp [hf]

/-- What a one-bit field keeps when a 1 written clears it. -/
theorem testBit_sub_and {o x : Nat} (ho : o < 2) (hx : x < 2) : (o - (o &&& x)).testBit 0 = (o.testBit 0 && !x.testBit 0) := by
  interval_cases o <;> interval_cases x <;> rfl

/-- A one-bit event field: a 1 written clears the bit, and no other bit changes. -/
theorem natBit_fieldWrite_w1c (k rst : Nat) (c : Check) (w v b : Nat) :
    natBit (fieldWrite ⟨k, k, .w1c, rst, c⟩ w v) b = (natBit w b && !(decide (b = k) && natBit v b)) := by
  by_cases e : b = k
  · subst e
    have hlt : ∀ n, natBits n b b < 2 := fun n => by simpa using natBits_lt n b b
    have hbit : ∀ n, (natBits n b b).testBit 0 = n.testBit b := fun n => by rw [natBits_testBit]; simp
    simp [fieldWrite, natBit, natPut_testBit, testBit_sub_and (hlt w) (hlt v), hbit]
  · simp [fieldWrite, natBit_natPut _ _ _ _ _ (Nat.lt_or_gt_of_ne e), e]

end

/-! ### ID_SCRATCH -/

/-- The row of ID_SCRATCH (R511, Table 23.3). -/
def idScratchRow : RegRow := ⟨0x8, [], [⟨31, 0, .rw, 0, .any⟩]⟩

theorem rowOf_idScratch : rowOf allRows R.ID_SCRATCH = some idScratchRow := rfl

section
variable {s : State}

/-- The 32 bits of a whole-word field take the word. -/
theorem ofNat_natPut_word (old : Nat) (v : Word) : BitVec.ofNat 32 (natPut old 31 0 (natBits v.toNat 31 0)) = v := by
  have h : ∀ n, natBits n 31 0 = n % 2 ^ 32 := fun n => by simp [natBits]
  apply BitVec.eq_of_toNat_eq
  rw [BitVec.toNat_ofNat, ← h, natBits_natPut_same, h, Nat.mod_mod, Nat.mod_eq_of_lt v.isLt]

theorem written_idScratch (h : 3 ≤ s.op.code) (old : Nat) (v : Word) :
    s.written R.ID_SCRATCH idScratchRow.fields old v.toNat = natPut old 31 0 (natBits v.toNat 31 0) := by
  simp [State.written, idScratchRow, State.takes_of_load h, fieldWrite]

theorem exec_registerWrite_idScratch (h : 3 ≤ s.op.code) (x : BitVec 64) :
    exec (.registerWrite ⟨0, 0, R.ID_SCRATCH, 4, x⟩) s = .next (s.setReg R.ID_SCRATCH (BitVec.ofNat 32 x.toNat)) := by
  rw [exec_registerWrite_plain h rfl (by decide) (by decide) (by decide) x rfl,
    State.plainWrite_stored rowOf_idScratch (by simp [State.outOfRange, idScratchRow, checkOk]) (fun _ => rfl) (fun _ _ => rfl),
    written_idScratch h, ofNat_natPut_word]
  have hl : ∀ old v, lockDiffers idScratchRow.fields old v = false := fun _ _ => rfl
  rw [hl, State.lockWrite_false]

/-! ### HOST_EVENT -/

/-- The row of HOST_EVENT (Table 16.17): five event bits. -/
def hostEventRow : RegRow :=
  ⟨0x4004, [],
    [⟨4, 4, .w1c, 0, .any⟩, ⟨3, 3, .w1c, 0, .any⟩, ⟨2, 2, .w1c, 0, .any⟩, ⟨1, 1, .w1c, 0, .any⟩, ⟨0, 0, .w1c, 0, .any⟩]⟩

theorem rowOf_hostEvent : rowOf allRows R.HOST_EVENT = some hostEventRow := rfl

theorem exec_registerWrite_hostEvent (h : 3 ≤ s.op.code) (x : BitVec 64) :
    exec (.registerWrite ⟨0, 0, R.HOST_EVENT, 4, x⟩) s = .next (s.setReg R.HOST_EVENT (BitVec.ofNat 32
      (s.written R.HOST_EVENT hostEventRow.fields (s.reg R.HOST_EVENT).toNat (BitVec.ofNat 32 x.toNat).toNat))) := by
  rw [exec_registerWrite_plain h rfl (by decide) (by decide) (by decide) x rfl,
    State.plainWrite_stored rowOf_hostEvent (by simp [State.outOfRange, hostEventRow, checkOk]) (fun _ => rfl) (fun _ _ => rfl)]
  have hl : ∀ old v, lockDiffers hostEventRow.fields old v = false := fun _ _ => rfl
  rw [hl, State.lockWrite_false]

/-- A 1 written clears an event bit (Table 0.3). -/
theorem written_hostEvent_bit (h : 3 ≤ s.op.code) (old v : Nat) {b : Nat} (hb : b < 5) :
    natBit (s.written R.HOST_EVENT hostEventRow.fields old v) b = (natBit old b && !natBit v b) := by
  have ht : ∀ k, s.takes R.HOST_EVENT ⟨k, k, .w1c, 0, .any⟩ = true := fun k => State.takes_of_load h (by simp) rfl
  simp only [State.written, hostEventRow, List.foldl_cons, List.foldl_nil, ht, if_true, natBit_fieldWrite_w1c]
  interval_cases b <;> simp

theorem natBit_toNat_ofNat {b : Nat} (hb : b < 32) (n : Nat) : natBit (BitVec.ofNat 32 n).toNat b = natBit n b := by
  rw [BitVec.toNat_ofNat, natBit, Nat.testBit_mod_two_pow, natBit, decide_eq_true hb, Bool.true_and]

/-! ### PORT_MAC_CFG -/

/-- The row of PORT_MAC_CFG (R34, Table 2.11): the two frame lengths, each from 1,518 to 9,344. -/
def portMacCfgRow : RegRow :=
  ⟨0x200004, [(0x1000, 96)],
    [⟨29, 16, .rwl, 0x5ee, .within [(1518, 9344)] 1⟩, ⟨13, 0, .rwl, 0x5ee, .within [(1518, 9344)] 1⟩]⟩

theorem rowOf_portMacCfg : ∀ p : Fin 96, rowOf allRows (R.PORT_MAC_CFG p) = some portMacCfgRow := by decide +kernel

variable (p : Fin 96)

theorem R.PORT_MAC_CFG_window : (R.PORT_MAC_CFG p - 0x200000) / 0x1000 = p ∧ R.PORT_MAC_CFG p % 0x1000 = 4 ∧
    0x200000 ≤ R.PORT_MAC_CFG p ∧ R.PORT_MAC_CFG p < 0x260000 := by
  unfold R.PORT_MAC_CFG
  omega

theorem exec_registerWrite_portMacCfg (h : 3 ≤ s.op.code) (x : BitVec 64) :
    exec (.registerWrite ⟨0, 0, R.PORT_MAC_CFG p, 4, x⟩) s =
      .next (s.plainWrite (R.PORT_MAC_CFG p) (BitVec.ofNat 32 x.toNat).toNat) := by
  obtain ⟨-, ho, hlo, hhi⟩ := R.PORT_MAC_CFG_window p
  exact exec_registerWrite_plain h (by omega) (by omega) (by omega) (by omega) x (State.ownWrite_port hlo _)

/-- No check across registers concerns PORT_MAC_CFG. -/
theorem crossBad_portMacCfg (v : Nat) : s.crossBad (R.PORT_MAC_CFG p) v = false := by
  obtain ⟨-, ho, hlo, hhi⟩ := R.PORT_MAC_CFG_window p
  simp [State.crossBad, ho, hlo, hhi]

theorem afterWrite_portMacCfg (t : State) (old : Nat) : t.afterWrite (R.PORT_MAC_CFG p) old = t := by
  obtain ⟨-, ho, hlo, hhi⟩ := R.PORT_MAC_CFG_window p
  simp [State.afterWrite, ho, hlo, hhi]

/-- A refused write of PORT_MAC_CFG is recorded with code 5 (R34). -/
theorem cfgRefused_portMacCfg : s.cfgRefused (R.PORT_MAC_CFG p) = s.modeRefused p 5 := by
  obtain ⟨hp, ho, hlo, -⟩ := R.PORT_MAC_CFG_window p
  simp [State.cfgRefused, ho, hlo, hp]

/-- A word with the two lengths of `v`. -/
def macWord (old v : Nat) : Nat := natPut (natPut old 29 16 (natBits v 29 16)) 13 0 (natBits v 13 0)

theorem macWord_lt {old : Nat} (h : old < 2 ^ 32) (v : Nat) : macWord old v < 2 ^ 32 :=
  natPut_lt (natPut_lt h (by omega)) (by omega)

theorem natBits_macWord (old v : Nat) :
    natBits (macWord old v) 13 0 = natBits v 13 0 ∧ natBits (macWord old v) 29 16 = natBits v 29 16 := by
  unfold macWord
  constructor
  · rw [natBits_natPut_same, Nat.mod_eq_of_lt (natBits_lt v 13 0)]
  · rw [natBits_natPut_ne (by omega), natBits_natPut_same, Nat.mod_eq_of_lt (natBits_lt v 29 16)]

/-- Both lengths of a word are within their range. -/
def macLengthsOk (v : Nat) : Prop :=
  (1518 ≤ natBits v 13 0 ∧ natBits v 13 0 ≤ 9344) ∧ (1518 ≤ natBits v 29 16 ∧ natBits v 29 16 ≤ 9344)

variable {p} {v : Nat}

theorem outOfRange_portMacCfg (h : s.op = .setup) :
    s.outOfRange (R.PORT_MAC_CFG p) portMacCfgRow.fields v = false ↔ macLengthsOk v := by
  simp [State.outOfRange, portMacCfgRow, State.takes_setup h, checkOk, macLengthsOk, Nat.mod_one]
  omega

theorem written_portMacCfg_setup (h : s.op = .setup) (old : Nat) :
    s.written (R.PORT_MAC_CFG p) portMacCfgRow.fields old v = macWord old v := by
  simp [State.written, portMacCfgRow, State.takes_setup h, fieldWrite, macWord]

/-- In SETUP a write in range stores both lengths. -/
theorem plainWrite_portMacCfg_inRange (h : s.op = .setup) (hv : macLengthsOk v) :
    s.plainWrite (R.PORT_MAC_CFG p) v =
      s.setReg (R.PORT_MAC_CFG p) (BitVec.ofNat 32 (macWord (s.reg (R.PORT_MAC_CFG p)).toNat v)) := by
  rw [State.plainWrite_stored (rowOf_portMacCfg p) ((outOfRange_portMacCfg h).mpr hv) (fun _ => crossBad_portMacCfg p _)
    (afterWrite_portMacCfg p), written_portMacCfg_setup h, State.lockWrite_unlocked (by simp [State.locked, h])]

/-- In SETUP a write out of range is refused. -/
theorem plainWrite_portMacCfg_outOfRange (h : s.op = .setup) (hv : ¬ macLengthsOk v) :
    s.plainWrite (R.PORT_MAC_CFG p) v = s.modeRefused p 5 := by
  have ho : s.outOfRange (R.PORT_MAC_CFG p) portMacCfgRow.fields v = true := by
    rw [← Bool.not_eq_false, outOfRange_portMacCfg h]
    exact hv
  rw [State.plainWrite_outOfRange (rowOf_portMacCfg p) ho, State.lockWrite_unlocked (by simp [State.locked, h]),
    cfgRefused_portMacCfg]

/-- Where the registers are locked the write stores the word that was there. -/
theorem plainWrite_portMacCfg_locked (h : s.locked = true) :
    s.plainWrite (R.PORT_MAC_CFG p) v =
      (s.lockWrite (lockDiffers portMacCfgRow.fields (s.reg (R.PORT_MAC_CFG p)).toNat v)).setReg (R.PORT_MAC_CFG p)
        (s.reg (R.PORT_MAC_CFG p)) := by
  have hw : ∀ old, s.written (R.PORT_MAC_CFG p) portMacCfgRow.fields old v = old := fun old => by
    simp [State.written, portMacCfgRow, State.takes_locked h]
  have ho : s.outOfRange (R.PORT_MAC_CFG p) portMacCfgRow.fields v = false := by
    simp [State.outOfRange, portMacCfgRow, State.takes_locked h]
  rw [State.plainWrite_stored (rowOf_portMacCfg p) ho (fun _ => crossBad_portMacCfg p _) (afterWrite_portMacCfg p), hw,
    BitVec.ofNat_toNat, BitVec.setWidth_eq]

/-- A refused write leaves PORT_MAC_CFG alone and raises MODE_REFUSED (R24). -/
theorem modeRefused_portMacCfg : (s.modeRefused p 5).reg (R.PORT_MAC_CFG p) = s.reg (R.PORT_MAC_CFG p) ∧
    natBit ((s.modeRefused p 5).reg (R.PORT_EVENT p)).toNat 2 = true := by
  unfold State.modeRefused
  refine ⟨?_, State.portEvent_bit _ _ (by omega)⟩
  rw [State.portEvent_reg _ _ _ (by unfold R.PORT_MAC_CFG R.PORT_EVENT; omega) (R.PORT_MAC_CFG_window p).2.2.1,
    State.reg_put_ne s (by unfold R.PORT_MAC_CFG F.PORT_STATUS.MODE_ERR R.PORT_STATUS; dsimp only; omega)]

/-- Both lengths read as written. -/
theorem fld_setReg_portMacCfg (s : State) (old : Word) (v : Nat) :
    (s.setReg (R.PORT_MAC_CFG p) (BitVec.ofNat 32 (macWord old.toNat v))).fld (F.PORT_MAC_CFG.TX_MAX_LEN p) = natBits v 13 0 ∧
    (s.setReg (R.PORT_MAC_CFG p) (BitVec.ofNat 32 (macWord old.toNat v))).fld (F.PORT_MAC_CFG.RX_MAX_LEN p) =
      natBits v 29 16 := by
  have hw : (BitVec.ofNat 32 (macWord old.toNat v)).toNat = macWord old.toNat v := by
    rw [BitVec.toNat_ofNat, Nat.mod_eq_of_lt (macWord_lt old.isLt v)]
  have htx := State.fld_setReg_same s (F.PORT_MAC_CFG.TX_MAX_LEN p) (BitVec.ofNat 32 (macWord old.toNat v))
  have hrx := State.fld_setReg_same s (F.PORT_MAC_CFG.RX_MAX_LEN p) (BitVec.ofNat 32 (macWord old.toNat v))
  rw [hw] at htx hrx
  obtain ⟨etx, erx⟩ := natBits_macWord old.toNat v
  exact ⟨htx.trans etx, hrx.trans erx⟩

end

/-! ### What a write of these registers leaves behind -/

section
variable {s : State}

theorem exec_registerWrite_hostEvent_clears (h : 3 ≤ s.op.code) (x : BitVec 64) :
    ∃ t : State, exec (.registerWrite ⟨0, 0, R.HOST_EVENT, 4, x⟩) s = .next t ∧
      t = s.setReg R.HOST_EVENT (t.reg R.HOST_EVENT) ∧ ∀ b, b < 5 → natBit (t.reg R.HOST_EVENT).toNat b =
        (natBit (s.reg R.HOST_EVENT).toNat b && !natBit (BitVec.ofNat 32 x.toNat).toNat b) := by
  refine ⟨_, exec_registerWrite_hostEvent h x, ?_, fun b hb => ?_⟩
  · rw [State.reg_setReg_same]
  · rw [State.reg_setReg_same, natBit_toNat_ofNat (by omega), written_hostEvent_bit h _ _ hb]

/-- A write of PORT_MAC_CFG goes on in every state; from LOAD on it is a plain write. -/
theorem exec_registerWrite_portMacCfg_next (s : State) (p : Fin 96) (x : BitVec 64) :
    ∃ t : State, exec (.registerWrite ⟨0, 0, R.PORT_MAC_CFG p, 4, x⟩) s = .next t ∧
      (3 ≤ s.op.code → t = s.plainWrite (R.PORT_MAC_CFG p) (BitVec.ofNat 32 x.toNat).toNat) := by
  by_cases h : s.op.code < 3
  · exact ⟨s, exec_registerWrite_beforeLoad _ h, fun h' => absurd h (Nat.not_lt.mpr h')⟩
  · exact ⟨_, exec_registerWrite_portMacCfg p (Nat.not_lt.mp h) x, fun _ => rfl⟩

theorem State.code_of_setup (h : s.op = .setup) : 3 ≤ s.op.code := by
  simp [h, OpState.code]

theorem State.locked_iff : s.locked = true ↔ s.op = .run ∨ s.op = .hold ∨ s.op = .fault := by
  simp [State.locked, or_assoc]

theorem State.code_of_locked (h : s.locked = true) : 3 ≤ s.op.code := by
  rcases State.locked_iff.mp h with e | e | e <;> simp [e, OpState.code]

/-- A differing TX_MAX_LEN is a differing RW-L field. -/
theorem lockDiffers_portMacCfg {old v : Nat} (h : natBits v 13 0 ≠ natBits old 13 0) :
    lockDiffers portMacCfgRow.fields old v = true := by
  simp [lockDiffers, portMacCfgRow, h]

theorem plainWrite_portMacCfg_lockWrite {p : Fin 96} {v : Nat} (h : s.locked = true)
    (hv : natBits v 13 0 ≠ s.fld (F.PORT_MAC_CFG.TX_MAX_LEN p)) :
    natBit ((s.plainWrite (R.PORT_MAC_CFG p) v).reg R.HOST_EVENT).toNat 0 = true := by
  have hd : lockDiffers portMacCfgRow.fields (s.reg (R.PORT_MAC_CFG p)).toNat v = true := lockDiffers_portMacCfg hv
  rw [plainWrite_portMacCfg_locked h, hd, State.reg_setReg_ne _ (by unfold R.HOST_EVENT R.PORT_MAC_CFG; omega)]
  exact State.lockWrite_bit h

end

end Sys2Proof.Machine

open Sys2Proof.Machine

/-- Settles O47: a write before LOAD, of another size or of PF1 reaches nothing; the three registers have no behaviour of
their own, so each write follows from the register's row and the operational state. -/
theorem registerWriteCompletes : Obligations.RegisterWriteCompletes := by
  unfold Obligations.RegisterWriteCompletes
  rintro s x v rfl
  refine ⟨fun w h => exec_registerWrite_beforeLoad w h, fun h => ⟨exec_registerWrite_idScratch h x, fun off size hs => ?_,
    fun off size => exec_registerWrite_pf1 h off size x, exec_registerWrite_hostEvent_clears h x⟩, fun p => ?_⟩
  · rw [exec_registerWrite_pf0 h, State.bar0Write_size hs]
  · obtain ⟨t, ht, hplain⟩ := exec_registerWrite_portMacCfg_next s p x
    refine ⟨t, ht, fun hop htx htx' hrx hrx' => ?_, fun hop htx => ?_, fun hop => ?_⟩
    · rw [hplain (State.code_of_setup hop), plainWrite_portMacCfg_inRange hop ⟨⟨htx, htx'⟩, hrx, hrx'⟩]
      obtain ⟨htxFld, hrxFld⟩ := fld_setReg_portMacCfg s (s.reg (R.PORT_MAC_CFG p)) (BitVec.ofNat 32 x.toNat).toNat
      exact ⟨htxFld, hrxFld, fun a ha => State.reg_setReg_ne s ha _⟩
    · rw [hplain (State.code_of_setup hop),
        plainWrite_portMacCfg_outOfRange hop fun hv => absurd hv.1.2 (Nat.not_le.mpr htx)]
      exact modeRefused_portMacCfg
    · have hlk := State.locked_iff.mpr hop
      rw [hplain (State.code_of_locked hlk)]
      refine ⟨?_, plainWrite_portMacCfg_lockWrite hlk⟩
      rw [plainWrite_portMacCfg_locked hlk, State.reg_setReg_same]
end

section
/-!
The steering crossbar (R10 to R12). Everything about a port follows from its group: the crossbar steers groups, and two
groups never share a slice, so the ports of a slice lie in one group of eight.
-/
namespace Sys2Proof.Machine

section
variable {s : State} {g : Nat}

theorem State.sliceOf_of_carried (h : s.carried = g) : s.sliceOf g = 12 := if_pos h

theorem State.sliceOf_of_not_carried (h : s.carried ≠ g) : s.sliceOf g = g := if_neg h

/-- The float slice serves no group of its own (R10): it serves a group only while it carries it. -/
theorem State.sliceOf_eq_float_iff (hg : g < 12) : s.sliceOf g = 12 ↔ s.carried = g := by
  refine ⟨fun h => ?_, State.sliceOf_of_carried⟩
  by_contra hc
  rw [State.sliceOf_of_not_carried hc] at h
  exact absurd h (Nat.ne_of_lt hg)

/-- Two groups served by one slice are the same group (R11). -/
theorem State.sliceOf_inj {g' : Nat} (hg : g < 12) (hg' : g' < 12) (h : s.sliceOf g = s.sliceOf g') : g = g' := by
  by_cases hc : s.carried = g
  · rw [State.sliceOf_of_carried hc] at h
    exact hc.symm.trans ((State.sliceOf_eq_float_iff hg').mp h.symm)
  · have hc' : s.carried ≠ g' := fun hc' =>
      hc ((State.sliceOf_eq_float_iff hg).mp (h.trans (State.sliceOf_of_carried hc')))
    rwa [State.sliceOf_of_not_carried hc, State.sliceOf_of_not_carried hc'] at h

end

/-- The twelve groups of eight make up the 96 ports. -/
theorem group_lt {p : Nat} (hp : p < 96) : p / 8 < 12 := Nat.div_lt_of_lt_mul hp

/-- The crossbar steers whole groups (R11): a port's slice is a matter of its group alone. -/
theorem State.portSlice_congr (s : State) {p q : Nat} (h : p / 8 = q / 8) : s.portSlice p = s.portSlice q :=
  congrArg s.sliceOf h

/-- The ports that a slice serves, in order of their numbers. -/
def State.portsOf (s : State) (sl : Nat) : List Nat := (List.range 96).filter (fun p => s.portSlice p == sl)

theorem State.mem_portsOf {s : State} {sl p : Nat} : p ∈ s.portsOf sl ↔ p < 96 ∧ s.portSlice p = sl := by
  simp [State.portsOf]

theorem State.portsOf_nodup (s : State) (sl : Nat) : (s.portsOf sl).Nodup := List.nodup_range.filter _

/-- Ports served by one slice are ports of one group. -/
theorem State.group_eq_of_mem_portsOf {s : State} {sl p q : Nat} (hp : p ∈ s.portsOf sl) (hq : q ∈ s.portsOf sl) :
    p / 8 = q / 8 := by
  obtain ⟨hp96, hpsl⟩ := State.mem_portsOf.mp hp
  obtain ⟨hq96, hqsl⟩ := State.mem_portsOf.mp hq
  exact State.sliceOf_inj (group_lt hp96) (group_lt hq96) (hpsl.trans hqsl.symm)

/-- If a slice serves a port at all, the ports it serves are among the eight of that port's group. -/
theorem State.portsOf_length_le (s : State) (sl : Nat) : (s.portsOf sl).length ≤ 8 := by
  by_cases hnil : s.portsOf sl = []
  · simp [hnil]
  · obtain ⟨q, hq⟩ := List.exists_mem_of_ne_nil _ hnil
    have hsub : s.portsOf sl ⊆ List.range' (8 * (q / 8)) 8 := fun p hp => by
      have hpq := State.group_eq_of_mem_portsOf hp hq
      rw [List.mem_range'_1]
      omega
    simpa using ((s.portsOf_nodup sl).subperm hsub).length_le

/-- At reset the float carries no group (RUB_STATUS.CARRIED, R452). -/
theorem reset_carried : State.reset.carried = 15 := by decide +kernel

theorem reset_portSlice {p : Nat} (hp : p < 96) : State.reset.portSlice p = p / 8 := by
  have hg := group_lt hp
  exact State.sliceOf_of_not_carried (by rw [reset_carried]; omega)

end Sys2Proof.Machine

open Sys2Proof.Machine

/-- Settles O7: a slice is a function of the group that is injective on the twelve groups, so a slice's ports are those of
one group; at reset no group is carried. -/
theorem steeringMovesWholeGroups : Obligations.SteeringMovesWholeGroups := by
  unfold Obligations.SteeringMovesWholeGroups
  refine ⟨fun s p hp => ⟨rfl, State.sliceOf_eq_float_iff (group_lt hp)⟩, fun s p q => s.portSlice_congr, fun s k _ => ?_,
    State.portsOf_length_le, fun p => reset_portSlice⟩
  exact s.portSlice_congr (by omega)
end

section
/-!
Ports (R23 to R32, R45, R47): what counting a statistic can do, when a port in SEEK moves on, which PORT_MODE words are
refused and what a word that is taken leaves, and the treatments of the port commands in the cases that the statements on
bring-up, PORT_MODE and received LPI speak of.
-/
namespace Sys2Proof.Machine

/-! ### Counting a statistic (R47, R111) -/

/-- The registers of port `p` in which counting a statistic can set a bit. -/
def statReg (p a : Nat) : Prop :=
  a = R.PORT_STAT_HALF0 p ∨ a = R.PORT_STAT_HALF1 p ∨ a = R.SECY_STAT_HALF p ∨ a = R.PORT_EVENT p ∨ a = R.SECY_EVENT p

/-- Setting a bit of register `half` and raising an event writes these two registers, and the rest is reporting. -/
theorem State.event_setReg_reported (s : State) (x : Perf) (half : Nat) (w : Word) (ev en b block code o v0 v1 v2 : Nat) :
    ∃ r : Tbl Word, State.Reported { s with regs := r }
        (State.event (State.setReg { s with perf := x } half w) ev en b block code o v0 v1 v2) ∧
      ∀ a, a ≠ half → a ≠ ev → State.reg { s with regs := r } a = s.reg a := by
  refine ⟨((s.setReg half w).setReg ev ((s.setReg half w).reg ev ||| BitVec.ofNat 32 (2 ^ b))).regs, ?_, fun a hh he => ?_⟩
  · exact (State.Reported.ofPerf _ x).trans
      (State.event_reported (State.setReg { s with perf := x } half w) ev en b block code o v0 v1 v2)
  · exact (State.reg_setReg_ne _ he _).trans (State.reg_setReg_ne s hh w)

/-- Counting a statistic reports, and writes half-range bits and their events alone. -/
theorem State.statAdd_reported (s : State) (p i n : Nat) :
    ∃ r : Tbl Word, State.Reported { s with regs := r } (s.statAdd p i n) ∧
      ∀ a, ¬ statReg p a → State.reg { s with regs := r } a = s.reg a := by
  unfold State.statAdd
  dsimp only
  split
  · split
    · obtain ⟨r, hr, ha⟩ := s.event_setReg_reported _ (R.PORT_STAT_HALF0 p) _ (R.PORT_EVENT p) _ 8 1 8 p 0 0 0
      exact ⟨r, hr, fun a h => ha a (fun e => h (by simp [statReg, e])) (fun e => h (by simp [statReg, e]))⟩
    · split
      · obtain ⟨r, hr, ha⟩ := s.event_setReg_reported _ (R.PORT_STAT_HALF1 p) _ (R.PORT_EVENT p) _ 8 1 8 p 0 0 0
        exact ⟨r, hr, fun a h => ha a (fun e => h (by simp [statReg, e])) (fun e => h (by simp [statReg, e]))⟩
      · obtain ⟨r, hr, ha⟩ := s.event_setReg_reported _ (R.SECY_STAT_HALF p) _ (R.SECY_EVENT p) _ 1 2 1 p 0 0 0
        exact ⟨r, hr, fun a h => ha a (fun e => h (by simp [statReg, e])) (fun e => h (by simp [statReg, e]))⟩
  · exact ⟨s.regs, .ofPerf s _, fun _ _ => rfl⟩

section
variable (s : State) (p i : Nat)

theorem State.stat_reported : ∃ r : Tbl Word, State.Reported { s with regs := r } (s.stat p i) ∧
    ∀ a, ¬ statReg p a → State.reg { s with regs := r } a = s.reg a := s.statAdd_reported p i 1

/-- A port register that counting does not write keeps its word. -/
theorem State.reg_stat {a : Nat} (h : ¬ statReg p a) (ha : 0x200000 ≤ a) : (s.stat p i).reg a = s.reg a := by
  obtain ⟨r, hr, hreg⟩ := s.stat_reported p i
  exact (hr.regs a (reportReg_port ha)).trans (hreg a h)

@[simp] theorem State.fld_status_stat (hi lo : Nat) :
    (s.stat p i).fld ⟨R.PORT_STATUS p, hi, lo⟩ = s.fld ⟨R.PORT_STATUS p, hi, lo⟩ := by
  have h : ¬ statReg p (R.PORT_STATUS p) := by
    unfold statReg R.PORT_STAT_HALF0 R.PORT_STAT_HALF1 R.SECY_STAT_HALF R.PORT_EVENT R.SECY_EVENT R.PORT_STATUS
    omega
  unfold State.fld
  rw [State.reg_stat s p i h (by unfold R.PORT_STATUS; omega)]

@[simp] theorem State.stat_ports : (s.stat p i).ports = s.ports := by
  obtain ⟨_, hr, -⟩ := s.stat_reported p i
  exact hr.ports

@[simp] theorem State.stat_sched : (s.stat p i).sched = s.sched := by
  obtain ⟨_, hr, -⟩ := s.stat_reported p i
  exact hr.sched

@[simp] theorem State.stat_path : (s.stat p i).path = s.path := by
  obtain ⟨_, hr, -⟩ := s.stat_reported p i
  exact hr.path

@[simp] theorem State.stat_ctx : (s.stat p i).ctx = s.ctx := by
  obtain ⟨_, hr, -⟩ := s.stat_reported p i
  exact hr.ctx

@[simp] theorem State.stat_time : (s.stat p i).time = s.time := by
  obtain ⟨_, hr, -⟩ := s.stat_reported p i
  exact hr.time

@[simp] theorem State.stat_now : (s.stat p i).now = s.now := by
  obtain ⟨_, hr, -⟩ := s.stat_reported p i
  unfold State.now
  rw [hr.sec, hr.ns]

end

/-! ### A field write -/

/-- A field write changes the register file alone. -/
theorem State.put_eq_regs (s : State) (f : Fld) (v : Nat) : s.put f v = { s with regs := (s.put f v).regs } := rfl

@[simp] theorem State.put_now (s : State) (f : Fld) (v : Nat) : (s.put f v).now = s.now := by
  simp only [State.now, State.put_sec, State.put_ns]

/-! ### Fields of PORT_STATUS -/

section
variable (s : State) (p : Nat)

/-- A status field beside the one written keeps its value. -/
theorem State.status_put_ne (hi lo v : Nat) {hi' lo' : Nat} (h : hi < 32) (hd : hi < lo' ∨ hi' < lo) :
    (s.put ⟨R.PORT_STATUS p, hi, lo⟩ v).fld ⟨R.PORT_STATUS p, hi', lo'⟩ = s.fld ⟨R.PORT_STATUS p, hi', lo'⟩ :=
  State.fld_put_ne s _ _ v h (.inr hd)

/-- A write of another register leaves the status fields alone. -/
theorem State.status_put_other {f : Fld} (h : f.addr ≠ R.PORT_STATUS p) (v hi lo : Nat) :
    (s.put f v).fld ⟨R.PORT_STATUS p, hi, lo⟩ = s.fld ⟨R.PORT_STATUS p, hi, lo⟩ :=
  State.fld_setReg_ne s h.symm _

end

/-! ### Received LPI (R45) -/

section
variable {s : State} {p : Fin 96}

theorem exec_rxLpiEntry_disabled (h : s.on (F.PORT_EEE_CFG.EEE_EN p) = false) : exec (.rxLpiEntry p) s = .next s :=
  if_neg (by simp [h])

theorem exec_rxLpiEntry_again (h : s.on (F.PORT_STATUS.LPI_RX p) = true) : exec (.rxLpiEntry p) s = .next s :=
  if_neg (by simp [h])

theorem exec_rxLpiEntry_begins (he : s.on (F.PORT_EEE_CFG.EEE_EN p) = true) (hl : s.link p = 3)
    (h : s.on (F.PORT_STATUS.LPI_RX p) = false) :
    exec (.rxLpiEntry p) s = .next ((s.put (F.PORT_STATUS.LPI_RX p) 1).stat p 26) :=
  if_pos (by simp [he, hl, h])

theorem exec_rxLpiExit (s : State) (p : Fin 96) : exec (.rxLpiExit p) s = .next (s.put (F.PORT_STATUS.LPI_RX p) 0) := rfl

end

/-- The receive bit is beside LPI_TX and LINK_STATE. -/
theorem State.fld_put_lpiRx (s : State) (p v : Nat) :
    (s.put (F.PORT_STATUS.LPI_RX p) v).fld (F.PORT_STATUS.LPI_RX p) = v % 2 ∧
    (s.put (F.PORT_STATUS.LPI_RX p) v).fld (F.PORT_STATUS.LPI_TX p) = s.fld (F.PORT_STATUS.LPI_TX p) ∧
    (s.put (F.PORT_STATUS.LPI_RX p) v).link p = s.link p :=
  ⟨s.fld_put_same _ v (by simp [F.PORT_STATUS.LPI_RX]), s.status_put_ne p 13 13 v (by omega) (by omega),
    s.status_put_ne p 13 13 v (by omega) (by omega)⟩

/-! ### Bring-up (R29, R30) -/

section
variable {s : State} {p : Nat}

@[simp] theorem State.port_seekOn (s : State) (p q : Nat) : (s.seekOn p).port q = s.port q := by
  unfold State.seekOn
  dsimp only
  split <;> rfl

/-- Only a port in SEEK moves on (Table 2.4). -/
theorem State.seekOn_of_link_ne (h : s.link p ≠ 1) : s.seekOn p = s := if_neg (by simp [h])

/-- A port in SEEK with lock, without negotiation and with training goes to TRAIN (Table 2.4). -/
theorem State.link_seekOn_train (h : s.link p = 1) (hlock : (s.port p).lock = true) (hn : s.negotiates p = false)
    (ht : s.trains p = true) : (s.seekOn p).link p = 2 := by
  have e : s.seekOn p = s.put (F.PORT_STATUS.LINK_STATE p) 2 := if_pos (by simp [h, hlock, hn, ht])
  rw [e, State.link_put_link]

/-- A port that is not UP goes to another state by its LINK_STATE and forgets its lock, negotiation and training. -/
theorem State.toLink_of_link_ne (h : s.link p ≠ 3) (next : Nat) :
    s.toLink p next = (s.setPort p { PortSt.idle with tw := (s.port p).tw }).put (F.PORT_STATUS.LINK_STATE p) next :=
  if_neg h

end

section
variable {s : State} {p : Fin 96}

theorem exec_negotiationResolved (hl : s.lane p = true) (h : s.link p = 1) (hn : s.negotiates p = true) :
    exec (.negotiationResolved p) s = .next ((s.setPort p { s.port p with resolved := true }).seekOn p) :=
  if_pos (by simp [hl, h, hn])

theorem exec_anFail (hl : s.lane p = true) (h : s.link p = 1) (hn : s.negotiates p = true) (hr : (s.port p).resolved = false) :
    exec (.anFail p) s = .next (s.portEvent p 3) :=
  if_pos (by simp [hl, h, hn, hr])

theorem exec_signalLock (hl : s.lane p = true) :
    exec (.signalLock p) s = .next ((s.setPort p { s.port p with lock := true, lockLost := false }).seekOn p) :=
  if_pos hl

theorem exec_trainingDone (hl : s.lane p = true) (h : s.link p = 2) :
    exec (.trainingDone p) s = .next (s.setPort p { s.port p with trained := true }) :=
  if_pos (by simp [hl, h])

theorem exec_trainingFail (hl : s.lane p = true) (h : s.link p = 2) (ht : (s.port p).trained = false) :
    exec (.trainingFail p) s = .next (s.toLink p 1) :=
  if_pos (by simp [hl, h, ht])

theorem exec_lockLoss (hl : s.lane p = true) :
    exec (.lockLoss p) s =
      .next (s.setPort p { s.port p with lockLost := true, lock := (s.port p).lock && s.link p == 3 }) :=
  if_pos hl

end

/-! ### PORT_MODE (R23 to R25) -/

section
variable {s : State} {p v : Nat}

/-- The codes of Table 2.2 fit MODE_ERR. -/
theorem State.modeErr_lt (s : State) (p v : Nat) : s.modeErr p v < 8 := by
  unfold State.modeErr
  dsimp only
  split_ifs <;> omega

/-- What check 2 of Table 2.2 leaves (R25): mode 6 only on an even port beside a disabled one, and beside a bonded port
only a disabled one. -/
theorem State.bonding_of_modeErr_zero (h : s.modeErr p v = 0) :
    (natBits v 3 0 = 6 → p % 2 = 0 ∧ s.mode (p + 1) = 0) ∧ (p % 2 = 1 → s.mode (p - 1) = 6 → natBits v 3 0 = 0) := by
  unfold State.modeErr at h
  simp only [Bool.or_eq_true, Bool.and_eq_true, decide_eq_true_eq] at h
  rcases Nat.mod_two_eq_zero_or_one p with heven | hodd
  · rw [if_pos heven] at h
    split_ifs at h with _ _ hbond
    exact ⟨fun h6 => ⟨heven, by_contra fun hmate => hbond (.inl ⟨h6, .inr hmate⟩)⟩, fun hodd => by omega⟩
  · have hne : ¬ p % 2 = 0 := by omega
    rw [if_neg hne] at h
    split_ifs at h with _ _ hbond
    exact ⟨fun h6 => absurd (.inl ⟨h6, .inl hodd⟩) hbond,
      fun _ hmate => by_contra fun hmode => hbond (.inr ⟨⟨hodd, hmode⟩, hmate⟩)⟩

/-- The fields of PORT_MODE take in the lane mode. -/
theorem natBits_mode_mask (n : Nat) : natBits (n &&& 0xFF0F) 3 0 = natBits n 3 0 := by
  have h : ∀ m, natBits m 3 0 = m % 2 ^ 4 := fun m => by simp [natBits]
  rw [h, h, Nat.and_mod_two_pow, Nat.and_two_pow_sub_one_eq_mod (n := 4), Nat.mod_mod]

theorem toNat_mode_mask (v : Word) : (v &&& 0xFF0F).toNat = v.toNat &&& 0xFF0F := BitVec.toNat_and ..

/-- PORT_MODE, PORT_STATUS and PORT_EEE_STATUS of a port are three registers. -/
theorem R.portMode_portStatus_portEeeStatus_ne (p : Nat) : R.PORT_MODE p ≠ R.PORT_STATUS p ∧
    R.PORT_MODE p ≠ R.PORT_EEE_STATUS p ∧ R.PORT_EEE_STATUS p ≠ R.PORT_STATUS p := by
  unfold R.PORT_MODE R.PORT_STATUS R.PORT_EEE_STATUS
  omega

theorem State.mode_setReg (s : State) (p : Nat) (w : Word) : (s.setReg (R.PORT_MODE p) w).mode p = natBits w.toNat 3 0 :=
  State.fld_setReg_same s (F.PORT_MODE.LANE_MODE p) w

/-- The state in which a PORT_MODE word that is not refused has taken force (R23, R25, R30, R41). -/
def State.takeMode (s : State) (p : Nat) (w : Word) : State :=
  let mode := natBits w.toNat 3 0
  ((((s.setReg (R.PORT_MODE p) w).toLink p (if mode = 0 then 0 else 1)).put (F.PORT_STATUS.BONDED p) (b2n (mode == 6))).put
    (F.PORT_EEE_STATUS.RX_TW p) (if mode = 0 then 0 else (Config.rxTw mode).toNat)).twApplied p

/-- The reports of PORT_EEE_STATUS that end the taking of a word are beside the port's status. -/
theorem State.status_takeMode (s : State) (p : Nat) (w : Word) (hi lo : Nat) :
    (s.takeMode p w).fld ⟨R.PORT_STATUS p, hi, lo⟩ =
      (((s.setReg (R.PORT_MODE p) w).toLink p (if natBits w.toNat 3 0 = 0 then 0 else 1)).put (F.PORT_STATUS.BONDED p)
        (b2n (natBits w.toNat 3 0 == 6))).fld ⟨R.PORT_STATUS p, hi, lo⟩ := by
  obtain ⟨-, -, hne⟩ := R.portMode_portStatus_portEeeStatus_ne p
  exact (State.status_put_other _ p hne _ hi lo).trans (State.status_put_other _ p hne _ hi lo)

theorem State.bonded_takeMode (s : State) (p : Nat) (w : Word) :
    (s.takeMode p w).fld (F.PORT_STATUS.BONDED p) = if natBits w.toNat 3 0 = 6 then 1 else 0 := by
  have hhi : (F.PORT_STATUS.BONDED p).hi < 32 := by simp [F.PORT_STATUS.BONDED]
  refine (s.status_takeMode p w 3 3).trans ((State.fld_put_same _ (F.PORT_STATUS.BONDED p) _ hhi).trans ?_)
  by_cases h6 : natBits w.toNat 3 0 = 6 <;> simp [h6, b2n, F.PORT_STATUS.BONDED]

/-- The lane mode of the word decides between SEEK and DISABLED (R23). -/
theorem State.link_takeMode (h : s.link p ≠ 3) (w : Word) :
    (s.takeMode p w).link p = if natBits w.toNat 3 0 = 0 then 0 else 1 := by
  obtain ⟨hne, -, -⟩ := R.portMode_portStatus_portEeeStatus_ne p
  have hl : (s.setReg (R.PORT_MODE p) w).link p ≠ 3 := (State.fld_setReg_ne s hne.symm w).trans_ne h
  refine (s.status_takeMode p w 2 0).trans ((State.status_put_ne _ p 3 3 _ (by omega) (by omega)).trans ?_)
  rw [State.toLink_of_link_ne hl]
  refine (State.link_put_link _ p _).trans ?_
  split <;> rfl

theorem State.reg_takeMode (h : s.link p ≠ 3) (w : Word) : (s.takeMode p w).reg (R.PORT_MODE p) = w := by
  obtain ⟨hst, heee, -⟩ := R.portMode_portStatus_portEeeStatus_ne p
  have hl : (s.setReg (R.PORT_MODE p) w).link p ≠ 3 := (State.fld_setReg_ne s hst.symm w).trans_ne h
  unfold State.takeMode State.twApplied
  dsimp only
  rw [State.toLink_of_link_ne hl, State.reg_put_ne _ heee, State.reg_put_ne _ heee, State.reg_put_ne _ hst,
    State.reg_put_ne _ hst, State.reg_setPort, State.reg_setReg_same]

/-- A refused word is recorded in MODE_ERR, raises MODE_REFUSED and keeps PORT_MODE (R24). -/
theorem State.modeRefused_records {code : Nat} (s : State) (p : Nat) (h : code < 8) :
    (s.modeRefused p code).reg (R.PORT_MODE p) = s.reg (R.PORT_MODE p) ∧
    (s.modeRefused p code).fld (F.PORT_STATUS.MODE_ERR p) = code ∧
    natBit ((s.modeRefused p code).reg (R.PORT_EVENT p)).toNat 2 = true := by
  obtain ⟨hst, -, -⟩ := R.portMode_portStatus_portEeeStatus_ne p
  unfold State.modeRefused
  refine ⟨?_, ?_, State.portEvent_bit _ _ (by omega)⟩
  · rw [State.portEvent_reg _ _ _ (by unfold R.PORT_MODE R.PORT_EVENT; omega) (by unfold R.PORT_MODE; omega),
      State.reg_put_ne s hst]
  · refine (State.status_portEvent _ p 2 6 4).trans ((State.fld_put_same s _ _ (by simp [F.PORT_STATUS.MODE_ERR])).trans ?_)
    exact Nat.mod_eq_of_lt h

end

section
variable {s : State} {p : Fin 96} {v : Word}

/-- In SETUP a write of PORT_MODE is refused by Table 2.2 or taken (R24). -/
theorem exec_portModeWrite_setup (hop : s.op = .setup) :
    exec (.portModeWrite p v) s = if s.modeErr p (v &&& 0xFF0F).toNat ≠ 0
      then .next (s.modeRefused p (s.modeErr p (v &&& 0xFF0F).toNat)) else .next (s.takeMode p (v &&& 0xFF0F)) := by
  have hset : s.inSetup = true := by simp [State.inSetup, hop]
  have hmask : BitVec.ofNat 32 modeMask = (0xFF0F : Word) := rfl
  show execPortModeWrite p v s = _
  unfold execPortModeWrite State.takeMode
  dsimp only
  rw [if_pos hset, hmask, State.mode_setReg]

theorem exec_portStatusRead (s : State) (p : Fin 96) :
    exec (.portStatusRead p) s =
      .next ((s.emit (.readData (s.reg (R.PORT_STATUS p)))).put (F.PORT_STATUS.MODE_ERR p) 0) := rfl

end

end Sys2Proof.Machine

open Sys2Proof.Machine

/-- Settles O6: the treatments write LPI_RX and count, and counting only reports. -/
theorem receivedLpiLeavesTransmitAlone : Obligations.ReceivedLpiLeavesTransmitAlone := by
  unfold Obligations.ReceivedLpiLeavesTransmitAlone
  intro s p
  refine ⟨fun he hl => ?_, exec_rxLpiEntry_disabled, _, exec_rxLpiExit s p, ?_⟩
  · cases h : s.on (F.PORT_STATUS.LPI_RX p) with
    | true => exact ⟨s, exec_rxLpiEntry_again h, beq_iff_eq.mp h, rfl, rfl, rfl, rfl, rfl, rfl, rfl, rfl⟩
    | false =>
      obtain ⟨hrx, htx, hlink⟩ := s.fld_put_lpiRx p 1
      refine ⟨_, exec_rxLpiEntry_begins he hl h, ?_⟩
      exact ⟨(State.fld_status_stat _ _ _ 13 13).trans hrx, (State.fld_status_stat _ _ _ 12 12).trans htx,
        (State.fld_status_stat _ _ _ 2 0).trans hlink, by simp, by simp, by simp, by simp, by simp, by simp⟩
  · obtain ⟨hrx, htx, -⟩ := s.fld_put_lpiRx p 0
    exact ⟨hrx, s.put_eq_regs _ 0, htx, fun a ha => s.reg_put_ne ha 0⟩

/-- Settles O1: each command's treatment in the state its premises name, read through the port's record and LINK_STATE. -/
theorem portBringUpCompletes : Obligations.PortBringUpCompletes := by
  unfold Obligations.PortBringUpCompletes
  intro s p hl
  refine ⟨fun h hn => ?_, fun h hn hr => ?_, ?_, fun h => ?_, fun h ht => ?_, ?_⟩
  · refine ⟨_, exec_negotiationResolved hl h hn, ?_, fun q hq => ?_⟩
    · rw [State.port_seekOn, State.port_setPort_same]
    · rw [State.port_seekOn, State.port_setPort_ne s hq]
  · exact ⟨_, exec_anFail hl h hn hr, State.portEvent_bit s p (by omega), (s.link_portEvent p 3).trans h⟩
  · refine ⟨_, exec_signalLock hl, ?_, ?_, fun h ht hn => ?_, fun h => ?_⟩
    · rw [State.port_seekOn, State.port_setPort_same]
    · rw [State.port_seekOn, State.port_setPort_same]
    · exact State.link_seekOn_train h (by rw [State.port_setPort_same]) hn ht
    · rw [State.seekOn_of_link_ne (by rw [State.link_setPort, h]; decide), State.link_setPort, h]
  · exact ⟨_, exec_trainingDone hl h, by rw [State.port_setPort_same], h⟩
  · refine ⟨_, exec_trainingFail hl h ht, ?_⟩
    rw [State.toLink_of_link_ne (by omega), State.link_put_link]
  · refine ⟨_, exec_lockLoss hl, by rw [State.port_setPort_same], rfl, fun h => ?_⟩
    simp [h]

/-- Settles O3: a write in SETUP is refused by Table 2.2 or taken, and the table's second check is the bonding rule. -/
theorem portModeAndStatusComplete : Obligations.PortModeAndStatusComplete := by
  unfold Obligations.PortModeAndStatusComplete
  refine ⟨fun s p v hop => ⟨fun h => ?_, fun h => ?_⟩, fun s p => ?_, fun s p v _ h => State.bonding_of_modeErr_zero h⟩
  · rw [← toNat_mode_mask] at h
    refine ⟨_, (exec_portModeWrite_setup hop).trans (if_neg (not_not_intro h)), fun hup => ?_⟩
    rw [← natBits_mode_mask v.toNat, ← toNat_mode_mask]
    exact ⟨State.reg_takeMode hup _, State.link_takeMode hup _, s.bonded_takeMode p _⟩
  · rw [← toNat_mode_mask] at h ⊢
    exact ⟨_, (exec_portModeWrite_setup hop).trans (if_pos h), s.modeRefused_records p (s.modeErr_lt p _)⟩
  · refine ⟨_, exec_portStatusRead s p, rfl, ?_, ?_, fun a ha => ?_, rfl⟩
    · exact State.fld_put_same _ (F.PORT_STATUS.MODE_ERR p) 0 (by simp [F.PORT_STATUS.MODE_ERR])
    · exact State.status_put_ne _ p 6 4 0 (by omega) (by omega)
    · exact State.reg_put_ne _ ha 0
end

section
/-!
The forwarding table and the table commands (R63 to R66, R79, R118): what an insertion at a free place leaves in the table, and
what each command of group 0 makes of a state in which its checks pass.
-/
namespace Sys2Proof.Machine

/-! ### The forwarding table -/

section
variable {s : State} {key p : Nat}

/-- A free place is one of the positions at which the key is looked for (R64, R66). -/
theorem State.mem_of_placeOf_free (h : s.placeOf key = .free p) : p ∈ s.fdbCands key ++ stash := by
  unfold State.placeOf at h
  dsimp only at h
  split at h
  · next hc =>
    cases h
    exact List.mem_append_left _ (List.mem_of_find?_eq_some hc)
  · split at h
    · cases h
    · split at h
      · next hs =>
        cases h
        exact List.mem_append_right _ (List.mem_of_find?_eq_some hs)
      · cases h

/-- A position matches a key: it holds a valid entry with that key. -/
def State.fdbMatches (s : State) (key q : Nat) : Bool := s.fdbUsed q && getF (Tbl.at0 s.cls.fdb q) E.fdbKey == key

theorem State.fdbFind_eq_find (s : State) (key : Nat) :
    s.fdbFind key = (s.fdbCands key ++ stash).find? (s.fdbMatches key) := rfl

/-- A key is found where it is the only place of the key that matches. -/
theorem State.fdbFind_of_unique (hp : p ∈ s.fdbCands key ++ stash) (hm : s.fdbMatches key p = true)
    (hu : ∀ q ∈ s.fdbCands key ++ stash, s.fdbMatches key q = true → q = p) : s.fdbFind key = some p := by
  rw [State.fdbFind_eq_find]
  obtain ⟨q, hq⟩ := Option.isSome_iff_exists.mp (List.find?_isSome.mpr ⟨p, hp, hm⟩)
  rw [hq, hu q (List.mem_of_find?_eq_some hq) (List.find?_some hq)]

/-- A position depends in its match on its own entry alone. -/
theorem State.fdbMatches_congr {t : State} {q : Nat} (h : Tbl.at0 t.cls.fdb q = Tbl.at0 s.cls.fdb q) (key : Nat) :
    t.fdbMatches key q = s.fdbMatches key q := by
  unfold State.fdbMatches State.fdbUsed
  rw [h]

variable {e : BitVec 128}

/-- The state after an entry is written at a position with its hit bits (R66, R74). -/
def State.fdbWritten (s : State) (e : BitVec 128) (p : Nat) : State :=
  (s.fdbPut p e).setHits p (if isF e E.fdbStatic then 0 else s.powered)

theorem State.fdbInsert_free (h : s.placeOf (getF e E.fdbKey) = .free p) : s.fdbInsert e = (s.fdbWritten e p, some p) := by
  unfold State.fdbInsert
  rw [h]
  rfl

/-- The candidates of a key rest on the seeds, which are registers (R63). -/
theorem State.fdbCands_congr {t : State} (h : t.regs = s.regs) (key : Nat) : t.fdbCands key = s.fdbCands key := by
  have hseed : ∀ w, t.fdbSeed w = s.fdbSeed w := fun w => by
    unfold State.fdbSeed State.reg
    rw [h]
  refine List.map_congr_left fun w _ => ?_
  unfold State.fdbCand
  rw [hseed]

@[simp] theorem State.regs_fdbPut (s : State) (p : Nat) (e : BitVec 128) : (s.fdbPut p e).regs = s.regs :=
  State.setCls_regs _ _

@[simp] theorem State.regs_setHits (s : State) (p map : Nat) : (s.setHits p map).regs = s.regs := State.setCls_regs _ _

theorem State.regs_fdbWritten (s : State) (e : BitVec 128) (p : Nat) : (s.fdbWritten e p).regs = s.regs :=
  (State.regs_setHits _ _ _).trans (s.regs_fdbPut p e)

theorem State.fdbCands_fdbWritten (s : State) (e : BitVec 128) (p key : Nat) :
    (s.fdbWritten e p).fdbCands key = s.fdbCands key := State.fdbCands_congr (s.regs_fdbWritten e p) key

theorem State.fdb_fdbWritten_same (s : State) (e : BitVec 128) (p : Nat) :
    Tbl.at0 (s.fdbWritten e p).cls.fdb p = putF e E.fdbHit 0 := Tbl.at0_set0_same _ _ _

theorem State.fdb_fdbWritten_ne (s : State) (e : BitVec 128) {q : Nat} (h : q ≠ p) :
    Tbl.at0 (s.fdbWritten e p).cls.fdb q = Tbl.at0 s.cls.fdb q := Tbl.at0_set0_ne _ h _

theorem State.hits_fdbWritten_same (s : State) (e : BitVec 128) (p : Nat) :
    Tbl.atN (s.fdbWritten e p).cls.hits p = if isF e E.fdbStatic then 0 else s.powered := Tbl.atN_setN_same _ _ _

/-- A valid entry written at a position makes the position match its key: HIT lies beside VALID and the key. -/
theorem State.fdbMatches_fdbWritten_same (s : State) (p : Nat) (hv : isF e E.fdbValid = true) :
    (s.fdbWritten e p).fdbMatches (getF e E.fdbKey) p = true := by
  have hkey : getF (putF e E.fdbHit 0) E.fdbKey = getF e E.fdbKey := getF_putF_ne e _ _ 0 (by decide) (by decide)
  have hvalid : isF (putF e E.fdbHit 0) E.fdbValid = isF e E.fdbValid :=
    congrArg (· == 1) (getF_putF_ne e E.fdbHit E.fdbValid 0 (by decide) (by decide))
  simp [State.fdbMatches, State.fdbUsed, State.fdb_fdbWritten_same, hkey, hvalid, hv]

/-- An absent key is found where its entry is written, if that is one of the key's positions. -/
theorem State.fdbFind_fdbWritten (hv : isF e E.fdbValid = true) (hn : s.fdbFind (getF e E.fdbKey) = none)
    (hp : p ∈ s.fdbCands (getF e E.fdbKey) ++ stash) : (s.fdbWritten e p).fdbFind (getF e E.fdbKey) = some p := by
  rw [← s.fdbCands_fdbWritten e p] at hp
  refine State.fdbFind_of_unique hp (s.fdbMatches_fdbWritten_same p hv) fun q hq hm => ?_
  rw [s.fdbCands_fdbWritten] at hq
  by_contra hne
  rw [State.fdbMatches_congr (s.fdb_fdbWritten_ne e hne)] at hm
  exact List.find?_eq_none.mp hn q hq hm

end

/-! ### The table commands where their checks pass -/

section
variable {s : State} {c : RingCmd} {p : Nat}

/-- A served table command is counted, carried out by its body and finished (R77, R386). -/
theorem tceRun_served {n : Fin 64} {op : Nat} {body : Body} {t : State} {r : Reply} (h : c.served n s)
    (hb : body c (s.count 0x6A8) = (t, r)) : (.next (tceRun op body c s) : Res) = .next (t.finish n 0 op c r) := by
  have hrun : tceRun op body c s = ringRun 0 op (fun c s => body c (s.count 0x6A8)) c s := by
    unfold tceRun
    rw [h.1]
  have hserved := ringExec_served h 0 op (fun c s => body c (s.count 0x6A8))
  rw [hb] at hserved
  rw [hrun]
  exact hserved

theorem tceReadPos_inRange (h : c.a0 16 0 < tableSize (c.a0 22 20)) :
    tceReadPos c s = (s, { r0 := c.a0 16 0, conts := s.entryBytes (c.a0 22 20) (c.a0 16 0) }) :=
  if_neg (Nat.not_le.mpr h)

theorem tceSearch_found (ht : c.a0 22 20 < 2) (hk : s.keyPos (c.a0 22 20) c.cont = some p) :
    tceSearch c s = (s, { r0 := p, conts := s.entryBytes (c.a0 22 20) p }) := by
  simp [tceSearch, Nat.not_le.mpr ht, hk]

/-- INSERT of a new forwarding key for which there is a place; a dynamic entry is logged as a host insertion (R81). -/
theorem tceInsert_fdb {t : State} (ht : c.a0 22 20 = 0) (hok : fdbOk (leAt c.cont 0 16) = true)
    (hk : s.keyPos 0 c.cont = none) (hi : s.fdbInsert (fdbMerge (leAt c.cont 0 16) 0) = (t, some p)) :
    tceInsert c s =
      (if isF (fdbMerge (leAt c.cont 0 16) 0) E.fdbStatic then t else t.logAt 7 p, { r0 := p }) := by
  unfold tceInsert
  simp only [ht]
  rw [if_neg (by simp [hok]), hk]
  simp only [if_true, hi, tceDone]

/-- The state with a stream identification entry written at a position. -/
def State.sidPut (s : State) (p : Nat) (e : BitVec 512) : State :=
  s.setCls { s.cls with sid := Tbl.set0 s.cls.sid p e }

/-- INSERT of a new stream identification key goes to the first free one of its positions (R59). -/
theorem tceInsert_sid (ht : c.a0 22 20 = 1) (hok : sidOk (leAt c.cont 0 64) = true) (hk : s.keyPos 1 c.cont = none)
    (hf : (s.sidSlots (natBits (leAt c.cont 0 64) 479 0)).find? (fun p => !isF (Tbl.at0 s.cls.sid p) E.sidValid) = some p) :
    tceInsert c s = (s.sidPut p (sidEntry (leAt c.cont 0 64)), { r0 := p }) := by
  simp [tceInsert, ht, hok, hk, hf, tceDone, State.sidPut]

/-- UPDATE of a stream identification entry replaces it where its key is. -/
theorem tceUpdate_sid (ht : c.a0 22 20 = 1) (hok : sidOk (leAt c.cont 0 64) = true) (hk : s.keyPos 1 c.cont = some p) :
    tceUpdate c s = (s.sidPut p (sidEntry (leAt c.cont 0 64)), { r0 := p }) := by
  simp [tceUpdate, ht, hok, hk, tceDone, State.sidPut]

/-- DELETE of a forwarding entry that no contract references (R65). -/
theorem tceDelete_fdb (ht : c.a0 22 20 = 0) (hk : s.keyPos 0 c.cont = some p)
    (hc : isF (Tbl.at0 s.cls.fdb p) E.fdbCref = false) : tceDelete c s = (s.fdbRemove p 5, { r0 := p }) := by
  simp [tceDelete, ht, hk, hc, tceDone]

theorem tceFlush_fdb (ht : c.a0 22 20 = 0) : tceFlush c s = (s.fdbFlush 4 (flushHits (leAt c.cont 0 4)), {}) :=
  if_neg (not_not_intro ht)

/-- The state with a VLAN entry written at a position. -/
def State.vlanPut (s : State) (p : Nat) (e : BitVec 256) : State :=
  s.setCls { s.cls with vlan := Tbl.set0 s.cls.vlan p e }

/-- WRITE_POS of a VLAN entry stores it with its reserved bits 0. -/
theorem tceWritePos_vlan (ht : c.a0 22 20 = 3) (hp : c.a0 16 0 < 4096) :
    tceWritePos c s =
      (s.vlanPut (c.a0 16 0) (putF (BitVec.ofNat 256 (leAt c.cont 0 32)) ⟨253, 204⟩ 0), { r0 := c.a0 16 0 }) := by
  have hsize : ¬ tableSize 3 ≤ c.a0 16 0 := Nat.not_le.mpr hp
  simp [tceWritePos, ht, hsize, tceDone, State.vlanPut]

/-- An INSERT goes to the engine at once while the move register is empty or when it is not for the forwarding table (R69). -/
theorem exec_insert (h : s.cls.move = none ∨ c.a0 22 20 ≠ 0) : exec (.insert c) s = .next (tceRun 2 tceInsert c s) := by
  have hw : insertWaits c s = false := by
    rcases h with h | h <;> simp [insertWaits, h]
  exact if_neg (by simp [hw])

end

end Sys2Proof.Machine

open Sys2Proof.Machine

/-- Settles O18: no position matched the key before, a free place is one of the key's positions, and after the write it is
the only one that matches. -/
theorem insertedEntryIsFound : Obligations.InsertedEntryIsFound := by
  unfold Obligations.InsertedEntryIsFound
  intro s e p hv hn hp
  rw [State.fdbInsert_free hp]
  exact ⟨rfl, State.fdbFind_fdbWritten hv hn (State.mem_of_placeOf_free hp), fun q => s.fdb_fdbWritten_ne e,
    s.hits_fdbWritten_same e p⟩

/-- Settles O17: each command is served, so it finishes with what its body makes of the counted state. -/
theorem tableCommandsComplete : Obligations.TableCommandsComplete := by
  unfold Obligations.TableCommandsComplete
  rintro s _ n c h rfl
  refine ⟨fun hp => tceRun_served h (tceReadPos_inRange hp), fun p ht hk => tceRun_served h (tceSearch_found ht hk),
    fun t p ht hm hok hk hi => ?_, fun p ht hok hk hf => ?_,
    fun p ht hok hk => tceRun_served h (tceUpdate_sid ht hok hk),
    fun p ht hk hc => tceRun_served h (tceDelete_fdb ht hk hc), fun ht => tceRun_served h (tceFlush_fdb ht),
    fun ht hp => ⟨_, tceRun_served h (tceWritePos_vlan ht hp), rfl⟩⟩
  · exact (exec_insert (.inl hm)).trans (tceRun_served h (tceInsert_fdb ht hok hk hi))
  · exact (exec_insert (.inr (by omega))).trans (tceRun_served h (tceInsert_sid ht hok hk hf))
end

section
/-!
The head of a received frame (spec/04_macsec.md R102, spec/21_power_clocks_reset.md R489) and the
checks 3 to 6 of Table 4.6, one lemma for each check that fails: O8.
-/
namespace Sys2Proof.Machine

/-! ### Receiving a head (R102, R489) -/

section
variable {s : State} {h : RxHead}

theorem execFrameHeadReceive_sliceReset (hup : s.txUp h.port = true) (hnew : s.frame? h.id = none)
    (hrst : s.sliceResets h.port = true) : execFrameHeadReceive h s = .next (s.blk (192 + h.port.val / 8)) := by
  simp [execFrameHeadReceive, hup, hnew, hrst]

/-- A head taken in: counted, held as a frame record, then parsed and checked. -/
theorem execFrameHeadReceive_taken {f : FrameRec} {t : State × FrameRec} (hup : s.txUp h.port = true)
    (hnew : s.frame? h.id = none) (hrst : s.sliceResets h.port = false)
    (hf : f = FrameRec.new h.id h.port h.bytes h.express (s.now - s.inDelay h.port))
    (ht : t = ((s.count (128 * s.portSlice h.port + h.port % 8)).addFrame f).head f) :
    execFrameHeadReceive h s = .next (t.1.setFrame t.2) := by
  subst hf ht
  simp [execFrameHeadReceive, hup, hnew, hrst]

end

/-! ### The checks before the context is known (Table 4.6, checks 3 to 6) -/

section
variable {s : State} {f : FrameRec} {o : Nat}

theorem State.macHead_secyOff (hon : s.on (F.SECY_CFG.SECY_EN f.port) = false) :
    s.macHead f = (s, { f with drop := some (.stat f.port 54) }) :=
  if_pos (by simp [hon])

theorem State.macHead_noTag (hon : s.on (F.SECY_CFG.SECY_EN f.port) = true)
    (htag : secTagAfter (s.fld (F.SECY_CFG.TAGS_IN_CLEAR f.port)) f.bytes = none) :
    s.macHead f = (s, { f with drop := some (.stat f.port 54) }) := by
  simp [State.macHead, hon, htag]

theorem State.macHead_badTag (hon : s.on (F.SECY_CFG.SECY_EN f.port) = true)
    (htag : secTagAfter (s.fld (F.SECY_CFG.TAGS_IN_CLEAR f.port)) f.bytes = some o)
    (hok : (secTagAt f.bytes o).ok f.bytes.length (s.fld (F.SECY_CFG.CS f.port)) = false) :
    s.macHead f = (s, { f with drop := some (.stat f.port 55) }) := by
  simp [State.macHead, hon, htag, hok]

theorem State.macHead_unknownSci (hon : s.on (F.SECY_CFG.SECY_EN f.port) = true)
    (htag : secTagAfter (s.fld (F.SECY_CFG.TAGS_IN_CLEAR f.port)) f.bytes = some o)
    (hok : (secTagAt f.bytes o).ok f.bytes.length (s.fld (F.SECY_CFG.CS f.port)) = true)
    (hsci : (s.resolveSci f.port f.bytes (secTagAt f.bytes o)).bind (fun x => s.scmFind x f.port) = none) :
    s.macHead f = (s, { f with drop := some (.stat f.port (if (secTagAt f.bytes o).sci.isSome then 56 else 57)) }) := by
  simp [State.macHead, hon, htag, hok, hsci]

end

end Sys2Proof.Machine

open Sys2Proof.Machine

/-- Settles O8: the treatment of the head in each of its two branches, then checks 3 to 6 of Table 4.6 in their order, each
reached because those before it passed. -/
theorem frameHeadCompletes : Obligations.FrameHeadCompletes := by
  unfold Obligations.FrameHeadCompletes
  exact ⟨fun s h hup => ⟨fun hnew hrst => ⟨_, _, rfl, rfl, execFrameHeadReceive_taken hup hnew hrst rfl rfl⟩,
    execFrameHeadReceive_sliceReset hup⟩, fun s f => ⟨State.macHead_secyOff, State.macHead_noTag,
    fun _ => State.macHead_badTag, fun _ => State.macHead_unknownSci⟩⟩
end

section
/-!
The commands on one security context (R112, R147 to R150): which part of the context block each shared operation writes, and
what the body of each command makes of a state in which its checks pass.
-/
namespace Sys2Proof.Machine

/-! ### The parts of the context block: images, holds and caches -/

section
variable {s t : State} {g : Nat}

theorem State.ctxAt_congr (h : t.ctx.ctx = s.ctx.ctx) (j : Nat) : t.ctxAt j = s.ctxAt j :=
  congrArg (Tbl.at0 · j) h

theorem State.ctxPinned_congr (h : t.ctx.hold = s.ctx.hold) (j : Nat) : t.ctxPinned j = s.ctxPinned j :=
  congrArg (fun x => natBit (Tbl.atN x j) 0) h

@[simp] theorem State.images_setCached (s : State) (g : Nat) (l : List Nat) : (s.setCached g l).ctx.ctx = s.ctx.ctx := rfl

@[simp] theorem State.hold_setCached (s : State) (g : Nat) (l : List Nat) : (s.setCached g l).ctx.hold = s.ctx.hold := rfl

/-- Taking a context out of the caches keeps every image. -/
theorem State.images_ctxUncache (s : State) (n : Nat) : (s.ctxUncache n).ctx.ctx = s.ctx.ctx := by
  unfold State.ctxUncache State.each
  refine List.foldlRecOn (motive := fun t : State => t.ctx.ctx = s.ctx.ctx) _ _ rfl fun t ht g _ => ?_
  dsimp only
  split
  · rw [State.images_setCached, ht]
  · exact ht

/-- A group is served by its own slice or by the float slice, so its counters lie among the slices' (R10). -/
theorem State.sliceOf_le_float (s : State) (hg : g < 12) : s.sliceOf g ≤ 12 := by
  by_cases hc : s.carried = g
  · rw [State.sliceOf_of_carried hc]
  · rw [State.sliceOf_of_not_carried hc]
    exact Nat.le_of_lt hg

/-- Bringing a context into a cache keeps every pin: an eviction reports and writes the cache alone (R146). -/
theorem State.hold_ctxPlace (s : State) (hg : g < 12) (n : Nat) : (s.ctxPlace g n).ctx.hold = s.ctx.hold := by
  unfold State.ctxPlace
  dsimp only
  split
  · rfl
  · split
    · rfl
    · split
      · have hsl := s.sliceOf_le_float hg
        rw [(State.count_reported _ (by omega)).ctx, State.hold_setCached]
      · rfl

end

/-! ### The hold of a context (R147, R148) -/

/-- The hold of a context after a pin by command in group `g`: bits 0 and 2 set, CONTRACT_REF kept. -/
def commandHold (old g : Nat) : Nat := (old % 16 ||| 5) + 16 * g

section
variable {g : Nat}

theorem or_five_lt (old : Nat) : old % 16 ||| 5 < 2 ^ 4 :=
  Nat.or_lt_two_pow (Nat.mod_lt _ (by decide)) (by decide)

/-- The four low bits of a hold lie below the group. -/
theorem natBit_commandHold (old g : Nat) {i : Nat} (hi : i < 4) :
    natBit (commandHold old g) i = (natBit old i || natBit 5 i) := by
  unfold commandHold natBit
  rw [Nat.add_comm, Nat.testBit_two_pow_mul_add g (or_five_lt old), if_pos hi, Nat.testBit_or,
    Nat.testBit_mod_two_pow old 4]
  simp [hi]

theorem natBits_commandHold (old : Nat) (hg : g < 12) : natBits (commandHold old g) 7 4 = g := by
  have hlow := or_five_lt old
  unfold natBits commandHold
  rw [Nat.shiftRight_eq_div_pow]
  omega

/-- A pin by command writes the hold of its context (R147). -/
theorem State.hold_pinCtx (s : State) (n : Nat) (hg : g < 12) :
    (s.pinCtx n g false).ctx.hold = Tbl.setN s.ctx.hold n (commandHold (Tbl.atN s.ctx.hold n) g) := by
  unfold State.pinCtx
  dsimp only
  rw [State.hold_ctxPlace _ hg]
  split
  · rfl
  · rfl

theorem State.atN_hold_pinCtx (s : State) (n : Nat) (hg : g < 12) :
    Tbl.atN (s.pinCtx n g false).ctx.hold n = commandHold (Tbl.atN s.ctx.hold n) g := by
  rw [State.hold_pinCtx s n hg, Tbl.atN_setN_same]

/-- The state after the pin of a context by command ends (R148): its hold is empty, and its group's gauges follow. -/
def State.unpinned (s : State) (n : Nat) : State :=
  let s1 := s.setCtx { s.ctx with hold := Tbl.setN s.ctx.hold n 0 }
  s1.setCached (s.ctxHoldGroup n) (s1.cached (s.ctxHoldGroup n))

theorem State.hold_unpinned (s : State) (n : Nat) : (s.unpinned n).ctx.hold = Tbl.setN s.ctx.hold n 0 := rfl

theorem State.images_unpinned (s : State) (n : Nat) : (s.unpinned n).ctx.ctx = s.ctx.ctx := rfl

theorem State.ctxPinned_unpinned_same (s : State) (n : Nat) : (s.unpinned n).ctxPinned n = false := by
  unfold State.ctxPinned
  rw [State.hold_unpinned, Tbl.atN_setN_same]
  rfl

theorem State.ctxPinned_unpinned_ne (s : State) {j : Nat} (h : j ≠ n) : (s.unpinned n).ctxPinned j = s.ctxPinned j := by
  unfold State.ctxPinned
  rw [State.hold_unpinned, Tbl.atN_setN_ne _ h]

end

/-! ### Fields of a context image -/

section
variable {s : State} {n : Nat}

/-- A field beside the one written keeps its truth value. -/
theorem isF_putF_ne {m : Nat} (w : BitVec m) (f g : BF) (x : Nat) (h : f.hi < m) (hd : f.hi < g.lo ∨ g.hi < f.lo) :
    isF (putF w f x) g = isF w g := congrArg (· == 1) (getF_putF_ne w f g x h hd)

/-- A receive context is not the selected transmit context of its port. -/
theorem State.isTxSelected_receive (h : isF (s.ctxAt n) C.dir = false) : s.isTxSelected n = false := by
  simp [State.isTxSelected, h]

/-- The image that CTX_READ returns of a MACsec context keeps the fields beside AN, SC_INDEX, PIN and CONTRACT_REF. -/
theorem State.getF_ctxImage (hk : ctxKind (s.ctxAt n) = 1) (f : BF)
    (hd : ∀ x ∈ [C.an, C.scIndex, C.mPin, C.mCref], x.hi < f.lo ∨ f.hi < x.lo) :
    getF (s.ctxImage n) f = getF (s.ctxAt n) f := by
  have beside (w : BitVec 2048) (x : BF) (v : Nat) (hx : x ∈ [C.an, C.scIndex, C.mPin, C.mCref]) (hlt : x.hi < 2048) :
      getF (putF w x v) f = getF w f := getF_putF_ne w x f v hlt (hd x hx)
  unfold State.ctxImage
  dsimp only
  rw [if_pos hk, beside _ C.mCref _ (by simp) (by decide), beside _ C.mPin _ (by simp) (by decide),
    beside _ C.scIndex _ (by simp) (by decide), beside _ C.an _ (by simp) (by decide)]

theorem State.ctxKind_ctxImage (hk : ctxKind (s.ctxAt n) = 1) : ctxKind (s.ctxImage n) = 1 :=
  (State.getF_ctxImage hk C.kind (by decide)).trans hk

theorem State.ctxQuar_ctxImage (hk : ctxKind (s.ctxAt n) = 1) : ctxQuar (s.ctxImage n) = ctxQuar (s.ctxAt n) := by
  unfold ctxQuar
  rw [if_pos (State.ctxKind_ctxImage hk), if_pos hk]
  exact congrArg (· == 1) (State.getF_ctxImage hk C.mQuar (by decide))

end

/-! ### The context commands where their checks pass -/

section
variable {s : State} {c : RingCmd} {n : Nat}

/-- A served command leaves the context block that its body made. -/
theorem ringExec_ctx {m : Fin 64} {u : State} {r : Reply} {body : Body} (h : c.served m s) (g op : Nat)
    (hb : body c s = (u, r)) : ∃ t, ringExec g op body c s = .next t ∧ t.ctx = u.ctx := by
  obtain ⟨t, ht, hrep⟩ := ringExec_reported h g op body
  rw [hb] at hrep
  exact ⟨t, ht, hrep.ctx⟩

/-- A served command whose body writes one image leaves that image and every other one. -/
theorem ringExec_writesImage {m : Fin 64} {u : State} {r : Reply} {body : Body} {w : BitVec 2048} (h : c.served m s)
    (g op : Nat) (hb : body c s = (u, r)) (hu : u.ctx.ctx = (s.ctxPut n w).ctx.ctx) :
    ∃ t, ringExec g op body c s = .next t ∧ t.ctxAt n = w ∧ ∀ j, j ≠ n → t.ctxAt j = s.ctxAt j := by
  obtain ⟨t, ht, hctx⟩ := ringExec_ctx h g op hb
  have himg : t.ctx.ctx = (s.ctxPut n w).ctx.ctx := (congrArg CtxSt.ctx hctx).trans hu
  exact ⟨t, ht, (State.ctxAt_congr himg n).trans (Tbl.at0_set0_same _ _ _),
    fun j hj => (State.ctxAt_congr himg j).trans (Tbl.at0_set0_ne _ hj _)⟩

variable (hn : c.a0 17 0 = n) (hr : c.a0 63 18 = 0)
include hn hr

/-- CTX_ENABLE of a receive SA outside contracts (R150): RX_EN; DIR stays, so the SA is not a selected transmit context. -/
theorem ctxEnable_receive (hv : s.ctxValid n = true) (hk : ctxKind (s.ctxAt n) = 1) (hq : ctxQuar (s.ctxAt n) = false)
    (hd : isF (s.ctxAt n) C.dir = false) (href : s.ctxRef n = false) :
    ctxEnable c s = (s.ctxPut n (putF (s.ctxAt n) C.rxEn 1), {}) := by
  subst hn
  have hdir : isF ((s.ctxPut (c.a0 17 0) (putF (s.ctxAt (c.a0 17 0)) C.rxEn 1)).ctxAt (c.a0 17 0)) C.dir = false := by
    rw [State.ctxAt, State.ctxPut, State.setCtx_ctx, Tbl.at0_set0_same, isF_putF_ne _ _ _ _ (by decide) (by decide), hd]
  rw [State.ctxValid] at hv
  simp [ctxEnable, hr, hv, hk, hq, hd, href, State.isTxSelected_receive hdir]

theorem ctxRetire_receive (hv : s.ctxValid n = true) (hk : ctxKind (s.ctxAt n) = 1) (hd : isF (s.ctxAt n) C.dir = false) :
    ctxRetire c s = (s.ctxPut n (putF (putF (s.ctxAt n) C.txEn 0) C.rxEn 0), {}) := by
  subst hn
  rw [State.ctxValid] at hv
  simp [ctxRetire, hr, hv, hk, hd]

/-- CTX_FREE of a valid context that is disabled, unpinned and in no contract. -/
theorem ctxFree_idle (hv : s.ctxValid n = true) (href : s.ctxRef n = false) (hen : ctxEnabled (s.ctxAt n) = false)
    (hp : s.ctxPinned n = false) :
    ctxFree c s = ((s.ctxPut n (putF (s.ctxAt n) C.valid 0)).ctxUncache n, {}) := by
  subst hn
  rw [State.ctxValid] at hv
  simp [ctxFree, hr, hv, href, hen, hp]

theorem ctxClearCnt_macsec (hk : ctxKind (s.ctxAt n) = 1) (hq : ctxQuar (s.ctxAt n) = false) :
    ctxClearCnt c s = (s.ctxPut n (putF (putF (s.ctxAt n) (bytesAt 0x80 66) 0) C.mOvf 0), {}) := by
  subst hn
  simp [ctxClearCnt, hr, hk, hq]

/-- CTX_READ without SC_SUM. -/
theorem ctxRead_macsec (hk : ctxKind (s.ctxAt n) = 1) (hq : ctxQuar (s.ctxAt n) = false) (hsum : c.a1 0 0 = 0) :
    ctxRead c s = (s, { conts := leBytes 256 (s.ctxImage n).toNat }) := by
  subst hn
  simp [ctxRead, hr, hsum, State.ctxQuar_ctxImage hk, hq]

theorem ctxPin_room {g : Nat} (hv : s.ctxValid n = true) (hg : ctxGroup (s.ctxAt n) = some g) (hlt : g < 12)
    (hq : ctxQuar (s.ctxAt n) = false) (hp : s.ctxPinned n = false) (hroom : s.pinnedIn g < 12288)
    (hslots : (ctxSlots (s.ctxAt n)).all s.slotPinned = true) : ctxPin c s = (s.pinCtx n g false, {}) := by
  subst hn
  rw [State.ctxValid] at hv
  unfold ctxPin
  simp only [hg, hslots]
  simp [hr, hv, hq, hp, Nat.not_le.mpr hlt, Nat.not_le.mpr hroom]

theorem ctxUnpin_unreferenced (hv : s.ctxValid n = true) (href : s.ctxRef n = false) :
    ctxUnpin c s = (s.unpinned n, {}) := by
  subst hn
  simp [ctxUnpin, hr, hv, href, State.unpinned]

end

/-! ### The pin commands, as the command leaves the state -/

section
variable {s : State} {c : RingCmd} {m : Fin 64} {n : Nat}

/-- A command whose body pins a context leaves it pinned in the group, with its CONTRACT_REF. -/
theorem ringExec_pinCtx {g : Nat} {r : Reply} {body : Body} (h : c.served m s) (gr op : Nat) (hg : g < 12)
    (hb : body c s = (s.pinCtx n g false, r)) :
    ∃ t, ringExec gr op body c s = .next t ∧ t.ctxPinned n = true ∧ t.ctxRef n = s.ctxRef n ∧ t.ctxHoldGroup n = g := by
  obtain ⟨t, ht, hctx⟩ := ringExec_ctx h gr op hb
  have hhold : Tbl.atN t.ctx.hold n = commandHold (Tbl.atN s.ctx.hold n) g := by
    rw [hctx, State.atN_hold_pinCtx s n hg]
  refine ⟨t, ht, ?_, ?_, ?_⟩
  · rw [State.ctxPinned, hhold, natBit_commandHold _ _ (by decide)]
    exact Bool.or_true _
  · rw [State.ctxRef, hhold, natBit_commandHold _ _ (by decide)]
    exact Bool.or_false _
  · rw [State.ctxHoldGroup, hhold, natBits_commandHold _ hg]

/-- A command whose body ends a pin leaves every image and the pins of the other contexts. -/
theorem ringExec_unpinned {r : Reply} {body : Body} (h : c.served m s) (gr op : Nat) (hb : body c s = (s.unpinned n, r)) :
    ∃ t, ringExec gr op body c s = .next t ∧ t.ctxPinned n = false ∧ t.ctxAt n = s.ctxAt n ∧
      ∀ j, j ≠ n → t.ctxPinned j = s.ctxPinned j := by
  obtain ⟨t, ht, hctx⟩ := ringExec_ctx h gr op hb
  have hhold : t.ctx.hold = (s.unpinned n).ctx.hold := congrArg CtxSt.hold hctx
  have himg : t.ctx.ctx = s.ctx.ctx := (congrArg CtxSt.ctx hctx).trans (s.images_unpinned n)
  exact ⟨t, ht, (State.ctxPinned_congr hhold n).trans (s.ctxPinned_unpinned_same n), State.ctxAt_congr himg n,
    fun j hj => (State.ctxPinned_congr hhold j).trans (s.ctxPinned_unpinned_ne hj)⟩

end

end Sys2Proof.Machine

open Sys2Proof.Machine

/-- Settles O21: the checks of each command pass, so its body writes one image, or one hold for the pin commands, and the
completion only reports. -/
theorem contextCommandsComplete : Obligations.ContextCommandsComplete := by
  unfold Obligations.ContextCommandsComplete
  refine ⟨fun s m c k h hn hr hv hk hq => ⟨fun hd href => ?enable, fun hd => ?retire, fun href hen hp => ?free, ?clear,
    fun hsum => ?read⟩, fun s m c k h hn hr hv => ⟨fun g hg hlt hq hp hroom hslots => ?pin, fun href => ?unpin⟩⟩
  case enable => exact ringExec_writesImage h 1 2 (ctxEnable_receive hn hr hv hk hq hd href) rfl
  case retire => exact ringExec_writesImage h 1 3 (ctxRetire_receive hn hr hv hk hd) rfl
  case free => exact ringExec_writesImage h 1 5 (ctxFree_idle hn hr hv href hen hp) (State.images_ctxUncache _ k)
  case clear => exact ringExec_writesImage h 1 8 (ctxClearCnt_macsec hn hr hk hq) rfl
  case read =>
    have hrun := ringExec_served h 1 0 ctxRead
    rw [ctxRead_macsec hn hr hk hq hsum] at hrun
    exact hrun
  case pin => exact ringExec_pinCtx h 1 6 hlt (ctxPin_room hn hr hv hg hlt hq hp hroom hslots)
  case unpin => exact ringExec_unpinned h 1 7 (ctxUnpin_unreferenced hn hr hv href)
end

section
/-!
Slices (R174, R477 to R479, R482, R489, R493): what the power state of a slice reads after a write, what a slice reset leaves
in RST_STATUS, that the causes from 16 on take the device to FAULT, and what a failed core leaves.
-/
namespace Sys2Proof.Machine

/-! ### The power state of a slice (Table 21.2) -/

section
variable (s : State) {sl v : Nat}

theorem State.reg_congr {s t : State} (h : t.regs = s.regs) (a : Nat) : t.reg a = s.reg a := by
  unfold State.reg
  rw [h]

theorem State.sliceState_congr {t : State} (h : t.reg R.PWR_SLICE_STATUS = s.reg R.PWR_SLICE_STATUS) (k : Nat) :
    t.sliceState k = s.sliceState k := by
  unfold State.sliceState
  rw [h]

/-- The slice PLL's bit lies in another register than the slice states. -/
theorem State.sliceState_setSliceState (sl v k : Nat) :
    (s.setSliceState sl v).sliceState k = (s.put ⟨R.PWR_SLICE_STATUS, 2 * sl + 1, 2 * sl⟩ v).sliceState k :=
  State.sliceState_congr _ (State.reg_put_ne _ (by decide : R.PWR_SLICE_STATUS ≠ R.CLK_STATUS) _) k

theorem State.sliceState_setSliceState_same (hsl : sl < 16) (hv : v < 4) : (s.setSliceState sl v).sliceState sl = v := by
  rw [State.sliceState_setSliceState]
  refine (State.fld_put_same s ⟨R.PWR_SLICE_STATUS, 2 * sl + 1, 2 * sl⟩ v (by dsimp only; omega)).trans ?_
  have hw : 2 * sl + 1 + 1 - 2 * sl = 2 := by omega
  rw [hw]
  exact Nat.mod_eq_of_lt hv

theorem State.sliceState_setSliceState_ne (hsl : sl < 16) {k : Nat} (hk : k ≠ sl) (v : Nat) :
    (s.setSliceState sl v).sliceState k = s.sliceState k := by
  rw [State.sliceState_setSliceState]
  exact State.fld_put_ne s ⟨R.PWR_SLICE_STATUS, 2 * sl + 1, 2 * sl⟩ ⟨R.PWR_SLICE_STATUS, 2 * k + 1, 2 * k⟩ v
    (by dsimp only; omega) (.inr (by dsimp only; omega))

theorem State.power_setSliceState (sl v : Nat) : (s.setSliceState sl v).power = s.power := by
  rw [State.setSliceState, State.put_power, State.put_power]

/-- RST_STATUS is neither of the registers that a power state is written to. -/
theorem State.rstStatus_setSliceState (sl v : Nat) : (s.setSliceState sl v).reg R.RST_STATUS = s.reg R.RST_STATUS := by
  unfold State.setSliceState
  rw [State.reg_put_ne _ (by decide : R.RST_STATUS ≠ R.CLK_STATUS),
    State.reg_put_ne _ (by decide : R.RST_STATUS ≠ R.PWR_SLICE_STATUS)]

/-- Table 21.2 names four states. -/
theorem State.sliceWants_lt (sl : Nat) : s.sliceWants sl < 4 := by
  unfold State.sliceWants
  split_ifs <;> decide

/-- What a slice loses with its power is shown in CIPHER_STATUS and WET_GAUGE. -/
theorem State.powerStates_clearSlice (sl : Nat) : (s.clearSlice sl).reg R.PWR_SLICE_STATUS = s.reg R.PWR_SLICE_STATUS := by
  have hext : R.PWR_SLICE_STATUS ≠ R.CIPHER_STATUS sl := by unfold R.PWR_SLICE_STATUS R.CIPHER_STATUS; omega
  have hwet : R.PWR_SLICE_STATUS ≠ R.WET_GAUGE sl := by unfold R.PWR_SLICE_STATUS R.WET_GAUGE; omega
  have hregs : (s.clearSlice sl).regs =
      (((s.setExtra sl []).put (F.WET_GAUGE.TX_INFLIGHT sl) 0).put (F.WET_GAUGE.RX_INFLIGHT sl) 0).regs := by
    unfold State.clearSlice
    dsimp only
  rw [State.reg_congr hregs, State.reg_put_ne _ hwet, State.reg_put_ne _ hwet, State.setExtra, State.reg_put_ne _ hext]
  rfl

theorem State.powerStates_setCached (g : Nat) (l : List Nat) :
    (s.setCached g l).reg R.PWR_SLICE_STATUS = s.reg R.PWR_SLICE_STATUS := by
  have hcache : ∀ k, R.PWR_SLICE_STATUS ≠ R.CTX_CACHE_STATUS k := fun k => by
    unfold R.PWR_SLICE_STATUS R.CTX_CACHE_STATUS
    omega
  exact (State.reg_put_ne _ (hcache _) _).trans (State.reg_put_ne _ (hcache _) _)

end

/-! ### Waking and sleeping (R478, R479) -/

section
variable {s : State} {sl : Fin 13}

/-- The slice no longer wakes. -/
def State.wakeEnds (s : State) (sl : Nat) : State :=
  { s with power := { s.power with waking := s.power.waking.filter (· != sl) } }

theorem State.waking_wakeEnds (s : State) (sl : Nat) : (s.wakeEnds sl).power.waking.contains sl = false := by
  simp [State.wakeEnds]

theorem mem_addOnce (l : List Nat) (a : Nat) : a ∈ addOnce l a := by
  unfold addOnce
  split
  · assumption
  · simp

theorem exec_sliceWake_wants (hlo : 4 ≤ s.op.code) (hhi : s.op.code ≤ 6) (hw : s.sliceWants sl = 3) (hs : s.sliceState sl ≠ 3) :
    exec (.sliceWake sl) s = .next { s with power := { s.power with waking := addOnce s.power.waking sl } } :=
  if_pos (by simp [hlo, hhi, hw, hs])

theorem exec_sliceWakeDone_waking (h : s.power.waking.contains sl.val = true) :
    exec (.sliceWakeDone sl) s = .next (((s.refillHits (s.refillSource sl) sl).wakeEnds sl).setSliceState sl 3) :=
  if_neg (by simpa using h)

/-- What a slice that goes to OFF loses (R477); the other states keep it. -/
def State.sleepClears (s : State) (sl : Nat) : State :=
  if s.sliceWants sl = 0 then (((s.wakeEnds sl).clearSlice sl).setCached sl []) else s.wakeEnds sl

theorem exec_sliceSleep_wants (h3 : s.sliceWants sl ≠ 3) (hs : s.sliceWants sl ≠ s.sliceState sl) :
    exec (.sliceSleep sl) s = .next ((s.sleepClears sl).setSliceState sl (s.sliceWants sl)) :=
  if_neg (by simp [h3, hs])

theorem State.powerStates_sleepClears (s : State) (sl : Nat) :
    (s.sleepClears sl).reg R.PWR_SLICE_STATUS = s.reg R.PWR_SLICE_STATUS := by
  unfold State.sleepClears
  split
  · rw [State.powerStates_setCached, State.powerStates_clearSlice]
    rfl
  · rfl

theorem State.power_sleepClears (s : State) (sl : Nat) : (s.sleepClears sl).power = (s.wakeEnds sl).power := by
  unfold State.sleepClears
  split <;> rfl

end

/-! ### Slice resets (R489, R493) -/

section
variable (s : State) {sl : Nat}

/-- RST_STATUS as a slice reset that is asked for leaves it, `held` where it waits for a pass. -/
def State.showReset (s : State) (held sl : Nat) : State :=
  ((s.put F.RST_STATUS.SLICE_BUSY 1).put F.RST_STATUS.SLICE_HELD held).put F.RST_STATUS.SLICE sl

theorem State.busy_showReset (held sl : Nat) : (s.showReset held sl).on F.RST_STATUS.SLICE_BUSY = true := by
  unfold State.showReset State.on
  rw [State.fld_put_ne _ _ _ _ (by decide) (by decide), State.fld_put_ne _ _ _ _ (by decide) (by decide),
    State.fld_put_same _ _ _ (by decide)]
  rfl

theorem State.held_showReset (held sl : Nat) : (s.showReset held sl).fld F.RST_STATUS.SLICE_HELD = held % 2 := by
  unfold State.showReset
  rw [State.fld_put_ne _ _ _ _ (by decide) (by decide), State.fld_put_same _ _ _ (by decide)]
  rfl

theorem State.slice_showReset (held : Nat) (hsl : sl < 16) : (s.showReset held sl).fld F.RST_STATUS.SLICE = sl :=
  (State.fld_put_same _ _ _ (by decide)).trans (Nat.mod_eq_of_lt hsl)

theorem State.showReset_keeps (held sl : Nat) : (s.showReset held sl).power = s.power ∧ (s.showReset held sl).path = s.path ∧
    (s.showReset held sl).sched = s.sched := by
  rw [State.showReset]
  refine ⟨?_, ?_, ?_⟩
  · rw [State.put_power, State.put_power, State.put_power]
  · rw [State.put_path, State.put_path, State.put_path]
  · rw [State.put_sched, State.put_sched, State.put_sched]

/-- A slice reset that is carried out shows itself last. -/
theorem State.resetSlice_showReset (sl : Nat) : ∃ u : State, s.resetSlice sl = u.showReset 0 sl := ⟨_, rfl⟩

theorem State.askReset_idle (h : s.rubPhase = 0) (sl : Nat) : s.askReset sl = s.resetSlice sl :=
  if_neg (by simp [h])

/-- A reset of the slice under test waits for the end of the pass (R453). -/
theorem State.askReset_tested (hlo : 1 ≤ s.rubPhase) (hhi : s.rubPhase ≤ 5) (h : s.testing = sl) :
    s.askReset sl = ({ s with power := { s.power with held := some sl } } : State).showReset 1 sl :=
  if_pos (by simp [hlo, hhi, h])

theorem State.askReset_showReset (sl : Nat) : ∃ (u : State) (held : Nat), s.askReset sl = u.showReset held sl := by
  unfold State.askReset
  dsimp only
  split
  · exact ⟨{ s with power := { s.power with held := some sl } }, 1, rfl⟩
  · obtain ⟨u, hu⟩ := s.resetSlice_showReset sl
    exact ⟨u, 0, hu⟩

/-- Following the clock changes the scheduling state alone. -/
theorem State.regs_resync (p : Nat) : (s.resync p).regs = s.regs := by
  unfold State.resync
  split <;> rfl

theorem State.regs_each {α : Type} {f : α → State → State} (hf : ∀ x t, (f x t).regs = t.regs) (l : List α) :
    (s.each l f).regs = s.regs :=
  List.foldlRecOn (motive := fun t => t.regs = s.regs) l _ rfl fun t ht x _ => (hf x t).trans ht

theorem State.pwrEvent_bit (b object : Nat) (hb : b < 32) :
    natBit ((s.pwrEvent b object).reg R.PWR_EVENT).toNat b = true :=
  State.event_bit s _ _ _ _ _ _ _ hb (reportReg_central (by decide))

theorem State.rstStatus_pwrEvent (b object : Nat) : (s.pwrEvent b object).reg R.RST_STATUS = s.reg R.RST_STATUS :=
  State.event_reg s _ _ _ _ _ _ _ _ _ (by decide) (reportReg_central (by decide))

/-- RST_STATUS as the end of a slice reset leaves it. -/
def State.showResetEnd (s : State) : State := (s.put F.RST_STATUS.SLICE_BUSY 0).put F.RST_STATUS.SLICE 15

theorem State.busy_showResetEnd : s.showResetEnd.on F.RST_STATUS.SLICE_BUSY = false := by
  unfold State.showResetEnd State.on
  rw [State.fld_put_ne _ _ _ _ (by decide) (by decide), State.fld_put_same _ _ _ (by decide)]
  rfl

theorem State.slice_showResetEnd : s.showResetEnd.fld F.RST_STATUS.SLICE = 15 := State.fld_put_same _ _ _ (by decide)

/-- What follows in the end of a slice reset, power state, schedulers and event, leaves RST_STATUS. -/
theorem State.resetSliceDone_ends : ∃ u v : State, s.resetSliceDone = v.pwrEvent 0 (s.fld F.RST_STATUS.SLICE) ∧
    v.reg R.RST_STATUS = u.showResetEnd.reg R.RST_STATUS := by
  unfold State.resetSliceDone
  extract_lets sl s1 s2 s3 ps
  have hsched : (s3.each ps (fun p t => (t.setSch p { t.sch p with credit := [], creditAt := t.cyc }).resync p)).regs = s3.regs :=
    State.regs_each s3 (fun p t => by rw [State.regs_resync, State.setSch_regs]) ps
  have hpower : s3.reg R.RST_STATUS = s2.reg R.RST_STATUS := by
    unfold s3 State.when
    split
    · exact s2.rstStatus_setSliceState sl 3
    · rfl
  exact ⟨s1, _, rfl, (State.reg_congr hsched _).trans hpower⟩

/-- The end of a slice reset frees RST_STATUS and raises SLICE_RST_DONE. -/
theorem State.rstStatus_resetSliceDone : s.resetSliceDone.on F.RST_STATUS.SLICE_BUSY = false ∧
    s.resetSliceDone.fld F.RST_STATUS.SLICE = 15 ∧ natBit (s.resetSliceDone.reg R.PWR_EVENT).toNat 0 = true := by
  obtain ⟨u, v, he, hv⟩ := s.resetSliceDone_ends
  have hfld : ∀ hi lo, s.resetSliceDone.fld ⟨R.RST_STATUS, hi, lo⟩ = u.showResetEnd.fld ⟨R.RST_STATUS, hi, lo⟩ :=
    fun hi lo => by rw [State.fld, he, State.rstStatus_pwrEvent, hv, State.fld]
  refine ⟨?_, (hfld 3 0).trans u.slice_showResetEnd, ?_⟩
  · exact (congrArg (· == 1) (hfld 31 31)).trans u.busy_showResetEnd
  · rw [he]
    exact v.pwrEvent_bit 0 _ (by decide)

end

section
variable {s : State} {sl : Nat} {v : Word}

/-- SLICE_GO in an operational state that takes it: a slice that is out of range, retired or in reset is refused. -/
theorem exec_sliceReset_asks (hop : s.op = .setup ∨ s.op = .run ∨ s.op = .hold) (hgo : natBit v.toNat 30 = true)
    (hv : natBits v.toNat 3 0 = sl) :
    exec (.sliceReset v) s =
      if 12 < sl || s.sliceDead sl || s.on F.RST_STATUS.SLICE_BUSY then .next (s.pwrEvent 2 sl) else .next (s.askReset sl) := by
  subst hv
  exact if_neg (by rcases hop with h | h | h <;> simp [hgo, h])

theorem exec_sliceReset_taken (hop : s.op = .setup ∨ s.op = .run ∨ s.op = .hold) (hgo : natBit v.toNat 30 = true)
    (hv : natBits v.toNat 3 0 = sl) (hsl : sl < 13) (hdead : s.sliceDead sl = false)
    (hbusy : s.on F.RST_STATUS.SLICE_BUSY = false) : exec (.sliceReset v) s = .next (s.askReset sl) := by
  rw [exec_sliceReset_asks hop hgo hv]
  exact if_neg (by simp [hdead, hbusy]; omega)

theorem exec_sliceReset_outOfRange (hop : s.op = .setup ∨ s.op = .run ∨ s.op = .hold) (hgo : natBit v.toNat 30 = true)
    (h : 12 < natBits v.toNat 3 0) : exec (.sliceReset v) s = .next (s.pwrEvent 2 (natBits v.toNat 3 0)) := by
  rw [exec_sliceReset_asks hop hgo rfl]
  exact if_pos (by simp [h])

theorem exec_sliceResetDone_runs (hbusy : s.on F.RST_STATUS.SLICE_BUSY = true) (hheld : s.on F.RST_STATUS.SLICE_HELD = false) :
    exec .sliceResetDone s = .next s.resetSliceDone :=
  if_pos (by simp [hbusy, hheld])

/-- A lost slice clock asks for a reset of its slice, whatever ran before (R482). -/
theorem exec_slicePllUnlock_active {sl : Fin 13} (h : s.sliceState sl = 3) :
    ∃ u : State, exec (.slicePllUnlock sl) s = .next (u.askReset sl) :=
  ⟨_, if_neg (not_not_intro h)⟩

end

/-! ### Only alarms change the alarm controller -/

/-- The alarm controller holds `a`. -/
structure State.HasAlarm (s : State) (a : Alarm) : Prop where
  eq : s.alarm = a

section
variable {s t : State} {a : Alarm} {p n : Nat}

theorem State.HasAlarm.of (h : s.HasAlarm a) (e : t.alarm = s.alarm) : t.HasAlarm a := ⟨e.trans h.eq⟩

theorem State.HasAlarm.ite {c : Prop} [Decidable c] {u v : State} (hu : u.HasAlarm a) (hv : v.HasAlarm a) :
    (if c then u else v).HasAlarm a :=
  iteInduction (motive := fun t : State => t.HasAlarm a) (fun _ => hu) (fun _ => hv)

theorem State.HasAlarm.when {c : Bool} {f : State → State} (h : s.HasAlarm a) (hf : ∀ t, t.HasAlarm a → (f t).HasAlarm a) :
    (s.when c f).HasAlarm a :=
  .ite (hf s h) h

theorem State.HasAlarm.foldl {α : Type} {f : State → α → State} {l : List α} (h : s.HasAlarm a)
    (hf : ∀ t x, t.HasAlarm a → (f t x).HasAlarm a) : (l.foldl f s).HasAlarm a :=
  List.foldlRecOn (motive := fun t : State => t.HasAlarm a) l f h fun t ht x _ => hf t x ht

theorem State.HasAlarm.each {α : Type} {f : α → State → State} {l : List α} (h : s.HasAlarm a)
    (hf : ∀ x t, t.HasAlarm a → (f x t).HasAlarm a) : (s.each l f).HasAlarm a :=
  .foldl h fun t x => hf x t

theorem State.HasAlarm.reported (h : s.HasAlarm a) (hr : s.Reported t) : t.HasAlarm a := h.of hr.alarm

/-! Reporting, for numbers of rings and counters that the tables may not hold. -/

theorem State.HasAlarm.put {f : Fld} {v : Nat} (h : s.HasAlarm a) : (s.put f v).HasAlarm a := h.of (s.put_alarm f v)

theorem State.HasAlarm.emit {o : Out} (h : s.HasAlarm a) : (s.emit o).HasAlarm a := h.of (s.emit_alarm o)

theorem State.HasAlarm.setPath {x : PathSt} (h : s.HasAlarm a) : (s.setPath x).HasAlarm a := h.of (s.setPath_alarm x)

theorem State.HasAlarm.setPort {x : PortSt} (h : s.HasAlarm a) : (s.setPort p x).HasAlarm a := h.of (s.setPort_alarm p x)

theorem State.HasAlarm.event {ev en b block code o v0 v1 v2 : Nat} (h : s.HasAlarm a) :
    (s.event ev en b block code o v0 v1 v2).HasAlarm a :=
  h.of (State.event_reported s ev en b block code o v0 v1 v2).alarm

theorem State.HasAlarm.hostEvent {b object : Nat} (h : s.HasAlarm a) : (s.hostEvent b object).HasAlarm a := h.event

theorem State.HasAlarm.statAdd {i : Nat} (h : s.HasAlarm a) : (s.statAdd p i n).HasAlarm a := by
  obtain ⟨_, hr, -⟩ := s.statAdd_reported p i n
  exact h.of hr.alarm

theorem State.HasAlarm.stat {i : Nat} (h : s.HasAlarm a) : (s.stat p i).HasAlarm a := h.statAdd

theorem State.HasAlarm.overflow {r b : Nat} (h : s.HasAlarm a) : (s.overflow r b).HasAlarm a := by
  have hbit : ∀ q k, (s.bitOnly q k).HasAlarm a := fun q _ => h.of (s.setReg_alarm q _)
  unfold State.overflow
  extract_lets first s1 s2
  have h2 : s2.HasAlarm a := (hbit r b).of (s1.setReg_alarm R.PERF_EVENT _)
  exact .ite (hbit r b) (.ite (h2.reported (State.postWith_reported bitOnly_ok _ _)) h2)

theorem State.HasAlarm.blk (h : s.HasAlarm a) : (s.blk n).HasAlarm a := by
  have h1 : ∀ x, State.HasAlarm { s with perf := x } a := fun x => h.reported (.ofPerf s x)
  exact .ite (h1 _).overflow (h1 _)

theorem State.HasAlarm.cqWrite {head conts : List Byte} (h : s.HasAlarm a) : (s.cqWrite n head conts).HasAlarm a := by
  unfold State.cqWrite State.cqWriteWith
  extract_lets _ _ _ _ _ _ s1 s2 s3 r
  have h1 : s1.HasAlarm a := h.each fun _ _ ht => ht.emit
  have h3 : s3.HasAlarm a := h1.emit.put.put
  exact ((h3.reported (State.setRing_reported s3 n _)).reported (State.countWith_reported overflow_ok _ (by decide))).reported
    (State.signal_reported _ n)

theorem State.HasAlarm.txDone {tag result : Nat} (h : s.HasAlarm a) : (s.txDone n tag result).HasAlarm a := by
  unfold State.txDone
  extract_lets s1
  have h1 : s1.HasAlarm a := h.when fun _ ht => ht.blk.hostEvent
  exact .ite h1.cqWrite h1

/-! What leaves the device without being sent, and what a port drops with its link (R30, R32, R75). -/

theorem State.HasAlarm.hostDone {c : Copy} {result : Nat} (h : s.HasAlarm a) : (s.hostDone c result).HasAlarm a := by
  unfold State.hostDone
  split
  · exact h.txDone
  · exact h

theorem State.HasAlarm.ctLost {x : Option Nat} (h : s.HasAlarm a) : (s.ctLost x).HasAlarm a := by
  cases x with
  | none => exact h
  | some m =>
    have hput : ∀ w, (s.ctPut m w).HasAlarm a := fun _ => h.of rfl
    have hcount : (s.ctCount m 3).HasAlarm a := hput _
    exact hcount.event

theorem State.HasAlarm.setSch {x : SchedSt} (h : s.HasAlarm a) : (s.setSch p x).HasAlarm a := h.of (s.setSch_alarm p x)

theorem State.HasAlarm.copyGone {c : Copy} (h : s.HasAlarm a) : (s.copyGone p c).HasAlarm a := by
  unfold State.copyGone
  extract_lets s1 s2 s3 sl
  have h1 : s1.HasAlarm a := h.ctLost.hostDone
  have h2 : s2.HasAlarm a := by
    unfold s2
    split
    · exact h1.setSch
    · exact h1
  have h3 : s3.HasAlarm a := by
    refine .ite ?_ h2
    split
    · exact .ite h2.put h2
    · exact h2
  exact .ite h3.setPath.put h3

theorem State.HasAlarm.purge {test : Copy → Bool} {gone : Nat → Copy → State → State} (h : s.HasAlarm a)
    (hg : ∀ k c t, t.HasAlarm a → (gone k c t).HasAlarm a) : (s.purge p test gone).HasAlarm a :=
  h.each fun _ _ ht => ht.setPath.foldl fun _ _ hu => hg _ _ _ hu.copyGone

theorem State.HasAlarm.twinStart {m : Nat} {c : Copy} {spoiled : Bool} (h : s.HasAlarm a) :
    (s.twinStart p m c spoiled).HasAlarm a := by
  refine .ite h ?_
  dsimp only
  split
  · exact .ite h.setPath h.setPath
  · exact h.setPath

/-- The sending under way is cut off first, then the preempted one. -/
theorem State.HasAlarm.abortLine (h : s.HasAlarm a) : (s.abortLine p).HasAlarm a := by
  unfold State.abortLine
  extract_lets cut l
  have hcut : ∀ (x : Option Sending) (t : State), t.HasAlarm a → (cut t x).HasAlarm a := by
    rintro (_ | y) t ht
    · exact ht
    · exact (ht.copyGone.when fun _ hu => hu.twinStart).stat.emit
  exact hcut _ _ (hcut _ _ h.setPath)

theorem State.HasAlarm.dropQueues (h : s.HasAlarm a) : (s.dropQueues p).HasAlarm a := h.purge fun _ _ _ ht => ht.stat

theorem State.HasAlarm.refund {k len : Nat} {c : Colour} (h : s.HasAlarm a) : (s.refund k len c).HasAlarm a := by
  have hfill : ∀ x y, (s.setFills k x y).HasAlarm a := fun _ _ => h.of (s.setFlt_alarm _)
  cases c with
  | green => exact hfill _ _
  | yellow => exact hfill _ _
  | red => exact h

theorem State.HasAlarm.frameGone {f : FrameRec} {r : Nat} (h : s.HasAlarm a) : (s.frameGone f r).HasAlarm a := by
  unfold State.frameGone
  extract_lets s1 s2 s3
  have h1 : s1.HasAlarm a := h.each fun _ _ ht => ht.purge fun _ _ _ hu => hu
  have h2 : s2.HasAlarm a := h1.setPath
  have h3 : s3.HasAlarm a := by
    unfold s3
    split
    · exact h2.refund
    · exact h2
  exact .ite h3 h3.setPath

theorem State.HasAlarm.dropPartial (h : s.HasAlarm a) : (s.dropPartial p).HasAlarm a := h.each fun _ _ ht => ht.frameGone

theorem State.HasAlarm.endQuiet (h : s.HasAlarm a) : (s.endQuiet p).HasAlarm a := by
  unfold State.endQuiet
  split
  · exact h.statAdd.setPort
  · exact h

theorem State.HasAlarm.logRecord {kind : Nat} {e : BitVec 128} (h : s.HasAlarm a) : (s.logRecord kind e).HasAlarm a :=
  .ite (h.reported (s.dma_reported _ _)).put h

theorem State.HasAlarm.fdbRemove {pos kind : Nat} (h : s.HasAlarm a) : (s.fdbRemove pos kind).HasAlarm a := by
  have h1 : ∀ x, (s.setCls x).HasAlarm a := fun x => h.of (s.setCls_alarm x)
  exact .ite (h1 _) (h1 _).logRecord

theorem State.HasAlarm.flushOnDown (h : s.HasAlarm a) : (s.flushOnDown p).HasAlarm a :=
  .ite (h.each fun _ _ ht => ht.fdbRemove) h

theorem State.HasAlarm.leaveUp {next : Nat} (h : s.HasAlarm a) : (s.leaveUp p next).HasAlarm a :=
  h.put.stat.abortLine.dropQueues.dropPartial.endQuiet.flushOnDown.setPort.put.put.put.event

theorem State.HasAlarm.toLink {next : Nat} (h : s.HasAlarm a) : (s.toLink p next).HasAlarm a := .ite h.leaveUp h.setPort.put

/-! The way to FAULT (R305, R407). -/

theorem State.HasAlarm.setRole {r : Nat} (h : s.HasAlarm a) : (s.setRole r).HasAlarm a := .ite h h.put.event

theorem State.HasAlarm.yieldOut (h : s.HasAlarm a) : s.yieldOut.HasAlarm a := by
  have hstop : (s.when (s.role == 3) (fun t => t.emit .yield)).stopTwin.HasAlarm a :=
    (h.when fun _ ht => ht.emit).each fun _ _ ht => ht.abortLine.dropQueues
  exact .ite h (hstop.setRole.of (State.setPair_alarm _ _))

theorem State.HasAlarm.disablePorts (h : s.HasAlarm a) : s.disablePorts.HasAlarm a := h.each fun _ _ ht => ht.toLink

theorem State.HasAlarm.dropLath (h : s.HasAlarm a) : s.dropLath.HasAlarm a := h.put.put.put.put

theorem State.HasAlarm.setOpRub {op : OpState} {rub : RubSt} (h : s.HasAlarm a) :
    State.HasAlarm { s with op := op, rub := rub } a := ⟨h.eq⟩

theorem State.HasAlarm.enterFault (h : s.HasAlarm a) : s.enterFault.HasAlarm a :=
  h.yieldOut.disablePorts.dropLath.setOpRub

end

/-! ### The causes that take the device to FAULT (R431, R432) -/

section
variable {s : State} {k : Nat}

/-- Causes 16 to 21 have LOG alone in their sets. -/
theorem State.unionSet_fault (s : State) (hlo : 16 ≤ k) (hhi : k < 22) : s.unionSet (2 ^ k) = 1 := by
  have hmap : allBelow (fun j => (2 ^ k).testBit j) 22 = [k] := by
    interval_cases k <;> decide
  unfold State.unionSet
  rw [hmap, List.foldl_cons, List.foldl_nil, State.effSet, if_pos hlo]
  rfl

theorem State.setAlarmStatus_reported (s : State) (causes seq : Nat) :
    State.Reported { s with bat := { s.bat with status := s.bat.status ||| causes } } (s.setAlarmStatus causes seq) :=
  State.each_reported _ _ fun _ _ t => t.record_reported _ _ _ _ _ _

theorem State.postAlarm_reported (s : State) (r : LogRec) : s.Reported (s.postAlarm r) := by
  unfold State.postAlarm
  split
  · exact .refl s
  · exact s.record_reported _ _ _ _ _ _

/-- The record of an alarm as the LOG step stores, shows and posts it, over the battery domain `bat` (R436, R440). -/
def State.recordAlarm (s : State) (bat : Battery) (entry causes : Nat) (r : LogRec) : State :=
  ((({ s with bat := bat } : State).putLog entry r).setAlarmStatus causes r.seq).postAlarm r

/-- Recording an alarm leaves the operational state and the alarm controller. -/
theorem State.recordAlarm_alarm_op (s : State) (bat : Battery) (entry causes : Nat) (r : LogRec) :
    (s.recordAlarm bat entry causes r).alarm = s.alarm ∧ (s.recordAlarm bat entry causes r).op = s.op := by
  have h := ((({ s with bat := bat } : State).putLog entry r).setAlarmStatus_reported causes r.seq).trans
    (State.postAlarm_reported _ r)
  exact ⟨h.alarm, h.op⟩

/-- A first alarm with one of these causes takes the device to FAULT. -/
theorem State.alarmNow_fault (hlo : 16 ≤ k) (hhi : k < 22) (hb : s.op ≠ .battery) (hr : s.alarmRuns = none) (detail : Nat) :
    (s.alarmNow (2 ^ k) detail 0).op = .fault ∧ (s.alarmNow (2 ^ k) detail 0).alarm.present = s.alarm.present := by
  have hbat : (s.op == .battery) = false := by simpa using hb
  have hf : decide (2 ^ 16 ≤ 2 ^ k) = true := decide_eq_true (Nat.pow_le_pow_right (by decide) hlo)
  have hrespond : s.respond 1 true = s.enterFault := rfl
  unfold State.alarmNow
  dsimp only
  rw [hr, hbat, hf, s.unionSet_fault hlo hhi]
  simp only [Nat.or_zero, Bool.not_false, Bool.and_self, Bool.false_eq_true, if_false, hrespond]
  obtain ⟨ha, hop⟩ := State.recordAlarm_alarm_op s.enterFault _ (logEntry s.bat.logCount) (2 ^ k)
    (s.newRecord (2 ^ k) detail 1 0)
  exact ⟨hop, (congrArg Alarm.present ha).trans (congrArg Alarm.present (State.HasAlarm.enterFault ⟨rfl⟩).eq)⟩

/-- A cause from 16 on whose condition was absent takes the device to FAULT and is present. -/
theorem State.raise_fault (hlo : 16 ≤ k) (hhi : k < 22) (hop : 2 ≤ s.op.code) (hp : s.alarm.present.testBit k = false)
    (hr : s.alarmRuns = none) (detail : Nat) :
    (s.raise k detail).op = .fault ∧ (s.raise k detail).alarm.present.testBit k = true := by
  have hoff : s.op ≠ .off := fun e => by simp [e, OpState.code] at hop
  have hbat : s.op ≠ .battery := fun e => by simp [e, OpState.code] at hop
  have h9 : k ≠ 9 := by omega
  have hset : (natSet s.alarm.present k).testBit k = true := by simpa [natBit] using natBit_natSet s.alarm.present k k
  unfold State.raise
  rw [if_neg (by simp [hp, hoff])]
  extract_lets x s1 step s2
  rw [if_neg (by simp [h9])]
  have h2 : s2.op = s.op ∧ s2.alarm = s1.alarm ∧ s2.alarmRuns = s.alarmRuns := by
    unfold s2 State.when
    split
    · exact ⟨rfl, rfl, rfl⟩
    · exact ⟨rfl, rfl, rfl⟩
  obtain ⟨hop2, ha2, hr2⟩ := h2
  obtain ⟨hf, ha⟩ := State.alarmNow_fault (s := s2) hlo hhi (hop2 ▸ hbat) (hr2.trans hr) detail
  refine ⟨hf, ?_⟩
  rw [ha, ha2]
  exact hset

theorem exec_centralPllUnlock_runs (k : Fin 4) (hop : 2 ≤ s.op.code) (hk : k.val = 3 → s.config ≠ 0) :
    exec (.centralPllUnlock k) s = .next ((s.put ⟨R.CLK_STATUS, 31 - k.val, 31 - k.val⟩ 0).raise 16 k.val) :=
  if_neg (by simpa [Nat.not_lt.mpr hop] using hk)

end

/-! ### A failed core (R174) -/

section
variable {s : State} {sl : Fin 13} {k : Fin 6} {left : Nat}

/-- A core of a slice is counted, taken out of CORE_OK and reported. -/
def State.coreOut (s : State) (sl k left : Nat) : State :=
  ((s.blk (sliceCtr sl 4)).put (F.CIPHER_STATUS.CORE_OK sl) left).record 0x11 0 sl k 0 0

theorem State.coreOut_keeps (s : State) {sl left : Nat} (hsl : sl < 13) (k : Nat) (hl : left < 2 ^ 6) :
    (s.coreOut sl k left).fld (F.CIPHER_STATUS.CORE_OK sl) = left ∧ (s.coreOut sl k left).rub = s.rub ∧
      (s.coreOut sl k left).op = s.op := by
  have hblk := s.blk_reported (i := sliceCtr sl 4) (by unfold sliceCtr; omega)
  have hrec := ((s.blk (sliceCtr sl 4)).put (F.CIPHER_STATUS.CORE_OK sl) left).record_reported 0x11 0 sl k 0 0
  have hreg : reportReg (F.CIPHER_STATUS.CORE_OK sl).addr = false :=
    reportReg_central (by simp only [F.CIPHER_STATUS.CORE_OK, R.CIPHER_STATUS]; omega)
  refine ⟨?_, hrec.rub.trans hblk.rub, hrec.op.trans hblk.op⟩
  exact (hrec.fld hreg).trans ((State.fld_put_same _ _ _ (by simp [F.CIPHER_STATUS.CORE_OK])).trans (Nat.mod_eq_of_lt hl))

/-- A fault with five cores left marks the operation it meets, counts, and takes the core out of CORE_OK. -/
theorem exec_cipherCoreFault_five (hk : natBit (s.fld (F.CIPHER_STATUS.CORE_OK sl)) k = true) (hs : s.sliceState sl = 3)
    (hl : left = natClr (s.fld (F.CIPHER_STATUS.CORE_OK sl)) k) (h5 : 5 ≤ popCount left 6) :
    ∃ x : PathSt, exec (.cipherCoreFault sl k) s = .next ((s.setPath x).coreOut sl k left) := by
  subst hl
  show ∃ x : PathSt, execCipherCoreFault sl k s = _
  unfold execCipherCoreFault
  dsimp only
  rw [if_neg (by simp [hk, hs]), if_neg (Nat.not_lt.mpr h5)]
  split
  · exact ⟨_, rfl⟩
  · split
    · exact ⟨_, rfl⟩
    · exact ⟨s.path, rfl⟩
  · exact ⟨s.path, rfl⟩

/-- CORE_OK without one of its bits fits CORE_OK. -/
theorem State.natClr_coreOk_lt (s : State) (sl : Nat) (k : Fin 6) : natClr (s.fld (F.CIPHER_STATUS.CORE_OK sl)) k < 2 ^ 6 :=
  natPut_lt (s.fld_lt (F.CIPHER_STATUS.CORE_OK sl)) k.isLt

end

end Sys2Proof.Machine

open Sys2Proof.Machine

/-- Settles O55: each command's treatment in the state its premises name, read through the slice states, RST_STATUS, the alarm
controller and CORE_OK. -/
theorem slicesComplete : Obligations.SlicesComplete := by
  unfold Obligations.SlicesComplete
  intro s sl
  have hsl : sl.val < 16 := by omega
  have hne : ∀ k : Fin 13, k ≠ sl → k.val ≠ sl.val := fun k hk e => hk (Fin.ext e)
  refine ⟨fun hlo hhi hw hs => ?wake, fun hw => ?wakeDone, fun h3 hs => ?sleep,
    fun v hop hgo => ⟨fun hv hdead hbusy hph => ?reset, fun hv hdead hbusy hlo hhi ht => ?held, ?refused⟩,
    fun hbusy hheld => ?resetDone, fun hs => ?pll, fun k hop hk hp hr => ?central, fun k left hk hs hl h5 => ?core⟩
  case wake =>
    exact ⟨_, exec_sliceWake_wants hlo hhi hw hs, List.contains_iff_mem.mpr (mem_addOnce _ _), rfl⟩
  case wakeDone =>
    exact ⟨_, exec_sliceWakeDone_waking hw, State.sliceState_setSliceState_same _ hsl (by decide),
      by rw [State.power_setSliceState, State.waking_wakeEnds], fun k hk => State.sliceState_setSliceState_ne _ hsl (hne k hk) 3⟩
  case sleep =>
    refine ⟨_, exec_sliceSleep_wants h3 hs, State.sliceState_setSliceState_same _ hsl (s.sliceWants_lt sl), ?_, fun k hk => ?_⟩
    · rw [State.power_setSliceState, State.power_sleepClears, State.waking_wakeEnds]
    · exact (State.sliceState_setSliceState_ne _ hsl (hne k hk) _).trans
        (State.sliceState_congr s (s.powerStates_sleepClears sl) k)
  case reset =>
    obtain ⟨u, hu⟩ := s.resetSlice_showReset sl
    refine ⟨_, exec_sliceReset_taken hop hgo hv sl.isLt hdead hbusy, ?_⟩
    rw [s.askReset_idle hph, hu]
    exact ⟨u.busy_showReset 0 sl, by rw [State.on, u.held_showReset]; rfl, u.slice_showReset 0 hsl⟩
  case held =>
    refine ⟨_, exec_sliceReset_taken hop hgo hv sl.isLt hdead hbusy, ?_⟩
    rw [s.askReset_tested hlo hhi ht]
    obtain ⟨hpower, hpath, hsched⟩ := State.showReset_keeps { s with power := { s.power with held := some sl.val } } 1 sl
    exact ⟨congrArg Power.held hpower, by rw [State.on, State.held_showReset]; rfl, hpath, hsched⟩
  case refused => exact exec_sliceReset_outOfRange hop hgo
  case resetDone =>
    exact ⟨_, exec_sliceResetDone_runs hbusy hheld, s.rstStatus_resetSliceDone⟩
  case pll =>
    obtain ⟨u, hu⟩ := exec_slicePllUnlock_active hs
    obtain ⟨w, held, hw⟩ := u.askReset_showReset sl
    refine ⟨_, hu, ?_⟩
    rw [hw]
    exact ⟨w.busy_showReset held sl, w.slice_showReset held hsl⟩
  case central =>
    exact ⟨_, exec_centralPllUnlock_runs k hop hk, State.raise_fault (s := s.put _ 0) (by decide) (by decide) hop hp hr _⟩
  case core =>
    obtain ⟨x, hx⟩ := exec_cipherCoreFault_five hk hs hl h5
    exact ⟨_, hx, (s.setPath x).coreOut_keeps sl.isLt k (hl ▸ s.natClr_coreOk_lt sl k)⟩
end

section
/-!
The verdict of a wet MACsec frame (spec/08_wet_edge.md R185, R193 and Table 8.4): the reasons 2, 3 and 5, which no key
enters, then the reasons 6, 1 and 4, each tried when those before it do not apply: O10.
-/
namespace Sys2Proof.Machine

/-- Reason 4 or none: what the final replay check makes of the row of Table 4.7 (check 12 of Table 4.6). -/
def ReplayRow.verdict (n : Nat) : ReplayRow → Option (Nat × Tally)
  | .late => some (4, .ctx n 2)
  | .duplicate => some (4, .ctx n 3)
  | .ok | .delayed => none

theorem ReplayRow.verdict_eq_none {n : Nat} {r : ReplayRow} : r.verdict n = none ↔ r = .ok ∨ r = .delayed := by
  cases r <;> simp [ReplayRow.verdict]

section
variable {s : State} {f : FrameRec} {n pn : Nat} {enc : Bool}

/-! ### The reasons that no key enters: 2, 3 and 5 -/

theorem State.verdictOf_lineFailed (he : f.ended ≠ some 0) : s.verdictOf f = some (2, .quiet) :=
  if_pos he

theorem State.verdictOf_notReassembled (he : f.ended = some 0) (ha : f.asm ≠ 0) :
    s.verdictOf f = some (3, .stat f.port f.asm) :=
  (if_neg (not_not.mpr he)).trans (if_pos ha)

theorem State.verdictOf_coreFault (he : f.ended = some 0) (ha : f.asm = 0) (hf : f.fault = true) :
    s.verdictOf f = some (5, .quiet) :=
  (if_neg (not_not.mpr he)).trans ((if_neg (not_not.mpr ha)).trans (if_pos hf))

/-! ### The reasons of the association: 6, 1 and 4 -/

/-- A frame that the line, the reassembly and the cores have passed is judged by its association alone. -/
theorem State.verdictOf_macsec (hg : f.guard = .macsec n pn enc) (he : f.ended = some 0) (ha : f.asm = 0)
    (hf : f.fault = false) :
    s.verdictOf f =
      if f.lost || (isF (s.ctxAt n) C.valid && ctxQuar (s.ctxAt n)) then some (6, .blk (sliceCtr (s.inSlice f.port) 2))
      else if !f.tagOk then some (1, .ctx n 4)
      else if !saInUse (s.ctxAt n) f.port then some (4, .ctx n 5)
      else ((s.replayView n).row pn).verdict n := by
  simp only [State.verdictOf, he, ha, hf, hg]
  cases (s.replayView n).row pn <;> rfl

section
variable (hg : f.guard = .macsec n pn enc) (he : f.ended = some 0) (ha : f.asm = 0) (hf : f.fault = false)
include hg he ha hf

/-- Reason 6: the context was quarantined while the frame was wet, or is by the time of the verdict (R193). -/
theorem State.verdictOf_quarantined (hq : f.lost = true ∨ (isF (s.ctxAt n) C.valid && ctxQuar (s.ctxAt n)) = true) :
    s.verdictOf f = some (6, .blk (sliceCtr (s.inSlice f.port) 2)) :=
  (State.verdictOf_macsec hg he ha hf).trans (if_pos ((Bool.or_eq_true _ _).mpr hq))

variable (hl : f.lost = false) (hq : (isF (s.ctxAt n) C.valid && ctxQuar (s.ctxAt n)) = false)
include hl hq

theorem State.verdictOf_tagFailed (ht : f.tagOk = false) : s.verdictOf f = some (1, .ctx n 4) := by
  simp [State.verdictOf_macsec hg he ha hf, hl, hq, ht]

theorem State.verdictOf_saNotInUse (ht : f.tagOk = true) (hu : saInUse (s.ctxAt n) f.port = false) :
    s.verdictOf f = some (4, .ctx n 5) := by
  simp [State.verdictOf_macsec hg he ha hf, hl, hq, ht, hu]

/-- With the tag good and the association in use, the row of Table 4.7 alone decides. -/
theorem State.verdictOf_replayRow (ht : f.tagOk = true) (hu : saInUse (s.ctxAt n) f.port = true) :
    s.verdictOf f = ((s.replayView n).row pn).verdict n := by
  simp [State.verdictOf_macsec hg he ha hf, hl, hq, ht, hu]

end

end

end Sys2Proof.Machine

open Sys2Proof.Machine

/-- Settles O10: the reasons of Table 8.4 in their order, each reached because those before it do not apply; the last is read
off the row of Table 4.7 that the number falls in. -/
theorem verdictOrder : Obligations.VerdictOrder := by
  unfold Obligations.VerdictOrder
  intro s f n pn enc hg
  refine ⟨State.verdictOf_lineFailed, State.verdictOf_notReassembled, State.verdictOf_coreFault,
    fun he ha hf hl => State.verdictOf_quarantined hg he ha hf (.inl hl), fun he ha hf hl hq =>
      ⟨State.verdictOf_tagFailed hg he ha hf hl hq, State.verdictOf_saNotInUse hg he ha hf hl hq, fun ht hu => ?_⟩⟩
  have hrow : s.verdictOf f = ((s.replayView n).row pn).verdict n := State.verdictOf_replayRow hg he ha hf hl hq ht hu
  exact ⟨fun hr => hrow.trans (congrArg (ReplayRow.verdict n) hr), fun hr => hrow.trans (congrArg (ReplayRow.verdict n) hr),
    fun hr => hrow.trans (ReplayRow.verdict_eq_none.mpr hr)⟩
end

section
/-!
The key commands (spec/09_key_store.md R204 to R226): what reporting leaves of the key store, how a served key command is
answered, and what the body of each command makes of a state in which its checks pass.
-/
namespace Sys2Proof.Machine

/-! ### Slots and what is read of them -/

section
variable {s t : State} {k : Nat}

theorem State.slot_congr (h : t.key.slots = s.key.slots) (j : Nat) : t.slot j = s.slot j := by
  unfold State.slot
  rw [h]

theorem State.slot_setSlot_same (s : State) (k : Nat) (x : Slot) : (s.setSlot k x).slot k = x :=
  Tbl.getD_setD_same _ _ _

theorem State.slot_setSlot_ne (s : State) {j : Nat} (h : j ≠ k) (x : Slot) : (s.setSlot k x).slot j = s.slot j :=
  Tbl.getD_setD_ne _ h _

/-- The state with the attributes of a slot replaced, its key kept. -/
def State.setAttr (s : State) (k : Nat) (a : BitVec 128) : State := s.setSlot k { s.slot k with attr := a }

theorem State.attr_setAttr (s : State) (k : Nat) (a : BitVec 128) : ((s.setAttr k a).slot k).attr = a := by
  rw [State.setAttr, State.slot_setSlot_same]

theorem State.key_setAttr (s : State) (k : Nat) (a : BitVec 128) : ((s.setAttr k a).slot k).key = (s.slot k).key := by
  rw [State.setAttr, State.slot_setSlot_same]

theorem State.slotResident_congr (h : t.key = s.key) (j : Nat) : t.slotResident j = s.slotResident j :=
  congrArg (fun x : KeySt => decide (262144 ≤ j) || x.lru.contains j) h

theorem State.Reported.slot (h : s.Reported t) (j : Nat) : t.slot j = s.slot j :=
  State.slot_congr (congrArg KeySt.slots h.key) j

theorem State.Reported.slotResident (h : s.Reported t) (j : Nat) : t.slotResident j = s.slotResident j :=
  State.slotResident_congr h.key j

theorem State.Reported.refs (h : s.Reported t) (j : Nat) : t.refs j = s.refs j := by
  unfold State.refs
  rw [h.ctx]

theorem State.Reported.slotPinned (h : s.Reported t) (j : Nat) : t.slotPinned j = s.slotPinned j := by
  unfold State.slotPinned
  rw [h.slot]

theorem State.Reported.ctxRef (h : s.Reported t) (j : Nat) : t.ctxRef j = s.ctxRef j := by
  unfold State.ctxRef
  rw [h.ctx]

theorem State.Reported.attrImage (h : s.Reported t) (j : Nat) : t.attrImage j = s.attrImage j := by
  unfold State.attrImage
  rw [h.slot, h.slotResident, h.refs]

@[simp] theorem State.key_keyEvent (s : State) (b object v0 : Nat) : (s.keyEvent b object v0).key = s.key :=
  (State.event_reported s _ _ _ _ _ _ _ _ _).key

@[simp] theorem State.key_keyGauges (s : State) : s.keyGauges.key = s.key := rfl

/-- The events of a lowered use counter leave the key store (R210). -/
theorem State.key_usesEvents (s : State) (k old new : Nat) : (s.usesEvents k old new).key = s.key := by
  have key_when (t : State) (b : Bool) (e v : Nat) : (t.when b (fun u => u.keyEvent e k v)).key = t.key := by
    unfold State.when
    split
    · exact State.key_keyEvent _ _ _ _
    · rfl
  unfold State.usesEvents
  exact (key_when _ _ _ _).trans (key_when _ _ _ _)

/-- A filled slot without QUAR passes the check of a command that acts on one (R224, R226). -/
theorem State.filledCheck_eq_none (hv : s.slotValid k = true) (hq : isF (s.slot k).attr M.attrQuar = false) :
    s.filledCheck k = none := by
  rw [State.slotValid] at hv
  simp [State.filledCheck, hv, hq]

theorem State.Reported.filledCheck (h : s.Reported t) (j : Nat) : t.filledCheck j = s.filledCheck j := by
  unfold State.filledCheck
  rw [h.slot]

/-- Quarantining a filled slot sets QUAR and records it (R226). -/
theorem State.quarSlot_filled (hv : s.slotValid k = true) (hq : isF (s.slot k).attr M.attrQuar = false) :
    s.quarSlot k = (s.setAttr k (putF (s.slot k).attr M.attrQuar 1)).keyEvent 2 k (s.refs k) := by
  rw [State.slotValid] at hv
  simp [State.quarSlot, State.setAttr, hv, hq]

theorem execKeySlotUncorr_resident {x : Fin 263168} (h : s.slotResident x.val = true) :
    execKeySlotUncorr x s = .next (s.quarSlot x.val) := congrArg Host.Outcome.next (if_pos h)

theorem State.slot_quarSlot (hv : s.slotValid k = true) (hq : isF (s.slot k).attr M.attrQuar = false) (j : Nat) :
    (s.quarSlot k).slot j = (s.setAttr k (putF (s.slot k).attr M.attrQuar 1)).slot j := by
  rw [State.quarSlot_filled hv hq]
  exact State.slot_congr (congrArg KeySt.slots (State.key_keyEvent _ _ _ _)) j

end

theorem isF_putF_one {m : Nat} (w : BitVec m) (i : Nat) (h : i < m) : isF (putF w ⟨i, i⟩ 1) ⟨i, i⟩ = true := by
  simp [isF, getF_putF_same w ⟨i, i⟩ 1 h]

theorem isF_putF_zero {m : Nat} (w : BitVec m) (i : Nat) (h : i < m) : isF (putF w ⟨i, i⟩ 0) ⟨i, i⟩ = false := by
  simp [isF, getF_putF_same w ⟨i, i⟩ 0 h]

/-! ### How a served key command is answered (R224) -/

section
variable {s : State} {n : Fin 64} {c : RingCmd}

/-- What a key command's body sees: the state with the command counted as event 0x6A2. -/
theorem State.reported_keyCounted (s : State) : s.Reported (s.count 0x6A2) := State.count_reported s (by decide)

/-- A served key command finishes with what its body makes of the counted state. -/
theorem keyExec_served {t : State} {r : Reply} {body : Body} (h : c.served n s) (hrun : s.alarm.stopped.testBit 2 = false)
    (op : Nat) (hb : body c (s.count 0x6A2) = (t, r)) : keyExec op body c s = .next (t.finish n 2 op c r) := by
  unfold keyExec
  rw [hrun, if_neg Bool.false_ne_true, ringExec_served h, hb]

/-- A served key command leaves the key store that its body made. -/
theorem keyExec_key {t : State} {r : Reply} {body : Body} (h : c.served n s) (hrun : s.alarm.stopped.testBit 2 = false)
    (op : Nat) (hb : body c (s.count 0x6A2) = (t, r)) : ∃ v, keyExec op body c s = .next v ∧ v.key = t.key :=
  ⟨_, keyExec_served h hrun op hb, (State.finish_reported t n.isLt 2 op c r).key⟩

/-- A served key command whose body writes the attributes of one slot leaves them so written, and the slot's key. -/
theorem keyExec_writesAttr {t : State} {r : Reply} {body : Body} {k : Nat} {a : BitVec 128} (h : c.served n s)
    (hrun : s.alarm.stopped.testBit 2 = false) (op : Nat) (hb : body c (s.count 0x6A2) = (t, r))
    (ht : t.key = ((s.count 0x6A2).setAttr k a).key) :
    ∃ v, keyExec op body c s = .next v ∧ (v.slot k).attr = a ∧ (v.slot k).key = (s.slot k).key := by
  obtain ⟨v, hv, hkey⟩ := keyExec_key h hrun op hb
  have hslot : v.slot k = ((s.count 0x6A2).setAttr k a).slot k := State.slot_congr (congrArg KeySt.slots (hkey.trans ht)) k
  refine ⟨v, hv, ?_, ?_⟩
  · rw [hslot, State.attr_setAttr]
  · rw [hslot, State.key_setAttr, s.reported_keyCounted.slot]

end

@[simp] theorem orElse_none (s : State) (p : State × Reply) : orElse none s p = p := rfl

/-! ### Commands that fill a slot, where their checks pass (R216, R221, R222) -/

section
variable {s : State} {c : RingCmd}

/-- Without ROOT and with host slots in its arguments, a key command is no BAD_REQUEST. -/
theorem keyBad_hostSlots {usesKey : Bool} (hroot : c.a1 31 31 = 0) (hk : hostSlot (c.a0 63 0) = true)
    (hw : usesKey = true → hostSlot (c.a1 18 0) = true) : keyBad c usesKey = false := by
  cases usesKey
  · simp [keyBad, hroot, hk]
  · simp [keyBad, hroot, hk, hw rfl]

/-- What an import under wrapping key `w` makes of the state, given the key that it unwrapped, if any: slot `k` filled with
attributes `a`, or AUTH_FAIL; the wrapping key is used either way (R221, R222). -/
def State.imported (s : State) (w k : Nat) (a : BitVec 128) : Option (List Byte) → State × Reply
  | some key => (((s.touch w).spend w).fill k a (keyNat key) false, {})
  | none => ((s.touch w).spend w, { code := 10 })

/-- A served import finishes as the unwrapping decides. -/
theorem keyExec_imports {n : Fin 64} {w k : Nat} {a : BitVec 128} {body : Body} (h : c.served n s)
    (hrun : s.alarm.stopped.testBit 2 = false) (op : Nat) :
    ∀ {o : Option (List Byte)}, body c (s.count 0x6A2) = (s.count 0x6A2).imported w k a o →
      keyExec op body c s = .next (match o with
        | some key => ((((s.count 0x6A2).touch w).spend w).fill k a (keyNat key) false).finish n 2 op c {}
        | none => (((s.count 0x6A2).touch w).spend w).finish n 2 op c { code := 10 })
  | some _, hb => keyExec_served h hrun op hb
  | none, hb => keyExec_served h hrun op hb

section
variable (hbad : keyBad c true = false) (ha : attrOk (RingCmdAttr c) = true)
  (hw : s.useCheck (c.a1 18 0) K.wrap true = none) (hk : s.fillCheck (c.a0 18 0) true = none)
include hbad ha hw hk

/-- KEY_IMPORT_KW (R222): the slot's attributes are those given, without EXPORT (R223). -/
theorem keyImportKw_imports (hlen : 16 + (if isF (RingCmdAttr c) K.ksize then 40 else 24) ≤ c.cont.length) :
    keyImportKw c s = s.imported (c.a1 18 0) (c.a0 18 0) (putF (RingCmdAttr c) K.exportBit 0)
      (keyUnwrap (s.keyBytes (c.a1 18 0)) (slice c.cont 16 (if isF (RingCmdAttr c) K.ksize then 40 else 24))) := by
  simp only [keyImportKw, hbad, ha, hw, hk, Nat.not_lt.mpr hlen, orElse_none]
  rfl

/-- KEY_IMPORT_XW (R221): the slot's attributes are those of the blob. -/
theorem keyImportXw_imports {b : List Byte} (hb : c.cont.drop 16 = b) (hattr : attrOk (xwAttr b) = true)
    (hform : leAt b 0 1 = 1) (hlc : leAt b 2 1 = s.lc) (hlc5 : leAt b 2 1 ≤ 5)
    (hlen : 32 + (if leAt b 1 1 % 2 = 1 then 32 else 16) ≤ b.length) :
    keyImportXw c s = s.imported (c.a1 18 0) (c.a0 18 0) (xwAttr b)
      (xwUnwrap (s.keyBytes (c.a1 18 0)) (b.take (32 + (if leAt b 1 1 % 2 = 1 then 32 else 16)))) := by
  rw [hlc] at hlc5
  simp only [keyImportXw, hb, hbad, ha, hattr, hform, hlc, Nat.not_lt.mpr hlc5, Nat.not_lt.mpr hlen, hw, hk, ne_eq,
    not_true_eq_false, if_false, orElse_none]
  rfl

end

/-- KEY_GENERATE (R224): the slot is filled with the drawn bits that the key's size takes. -/
theorem keyGenerate_fills {v : BitVec 256} {t : State} (hbad : keyBad c false = false) (ha : attrOk (RingCmdAttr c) = true)
    (hk : s.fillCheck (c.a0 18 0) false = none) (hd : s.draw 256 = (v, t)) :
    keyGenerate c s = (t.fill (c.a0 18 0) (RingCmdAttr c)
      (BitVec.ofNat 256 (v.toNat % 2 ^ (if isF (RingCmdAttr c) K.ksize then 256 else 128))) false, {}) := by
  simp only [keyGenerate, hbad, ha, hk, hd, orElse_none]
  rfl

/-- KEY_DERIVE from a usable key of 128 or 256 bits (R216): the slot is filled with the derived key. -/
theorem keyDerive_fromSlot {bits ll cl : Nat} (hroot : c.a1 31 31 = 0) (hks : hostSlot (c.a0 63 0) = true)
    (hws : hostSlot (c.a1 18 0) = true) (ha : attrOk (RingCmdAttr c) = true) (hbits : leAt c.cont 16 2 = bits)
    (hll : leAt c.cont 18 1 = ll) (hcl : leAt c.cont 19 1 = cl) (hsize : bits = 128 ∨ bits = 256) (hll64 : ll ≤ 64)
    (hcl64 : cl ≤ 64) (hlen : 32 + ll + cl ≤ c.cont.length) (hw : s.useCheck (c.a1 18 0) K.derive true = none)
    (hk : s.fillCheck (c.a0 18 0) true = none) :
    keyDerive c s = (((s.touch (c.a1 18 0)).spend (c.a1 18 0)).fill (c.a0 18 0)
      (putF (RingCmdAttr c) K.ksize (if bits = 256 then 1 else 0))
      (keyNat (kdf (s.keyBytes (c.a1 18 0)) (slice c.cont 32 ll) (slice c.cont (32 + ll) cl) bits)) false, {}) := by
  subst hbits hll hcl
  have hsizeOk : (decide (leAt c.cont 16 2 = 128) || decide (leAt c.cont 16 2 = 256)) = true := by simpa using hsize
  simp [keyDerive, hroot, hks, hws, ha, hsizeOk, Nat.not_lt.mpr hll64, Nat.not_lt.mpr hcl64, Nat.not_lt.mpr hlen, hw, hk]

end

/-! ### Commands on a filled slot, where their checks pass (R205, R208, R211) -/

/-- What KEY_ATTR_REDUCE makes of a slot's attributes: the fields that it may lower, taken over (R208). -/
def reducedAttr (a old : BitVec 128) : BitVec 128 :=
  putF (putF (putF old M.usage (getF a M.usage)) K.exportBit (getF a K.exportBit)) K.uses (getF a K.uses)

/-- The attributes `a` lower those of a slot at most where they may: usage bits, EXPORT and USES (R208). -/
structure AttrLowers (a old : BitVec 128) : Prop where
  usage : getF a M.usage &&& (63 - getF old M.usage) = 0
  exports : getF a K.exportBit ≤ getF old K.exportBit
  ksize : getF a K.ksize = getF old K.ksize
  life : getF a K.life = getF old K.life
  lc : getF a K.lc = getF old K.lc
  uses : getF a K.uses ≤ getF old K.uses

section
variable {s : State} {c : RingCmd} {k : Nat} (hk : c.a0 18 0 = k) (hbad : keyBad c false = false)
include hk hbad

theorem keyAttrRead_image : keyAttrRead c s = (s, { conts := leBytes 16 (s.attrImage k).toNat }) := by
  simp [keyAttrRead, hk, hbad]

theorem keyAttrReduce_lowers (hf : s.filledCheck k = none) (ha : attrOk (RingCmdAttr c) = true)
    (hl : AttrLowers (RingCmdAttr c) (s.slot k).attr) :
    keyAttrReduce c s = ((s.setAttr k (reducedAttr (RingCmdAttr c) (s.slot k).attr)).usesEvents k
      (getF (s.slot k).attr K.uses) (getF (RingCmdAttr c) K.uses), {}) := by
  simp [keyAttrReduce, State.setAttr, reducedAttr, hk, hbad, hf, ha, hl.usage, hl.ksize, hl.life, hl.lc,
    Nat.not_lt.mpr hl.exports, Nat.not_lt.mpr hl.uses]

/-- KEY_PIN of a resident slot while fewer than 6,144 are pinned (R205): it is in its place already. -/
theorem keyPin_resident (hlt : k < 262144) (hf : s.filledCheck k = none) (hres : s.slotResident k = true)
    (hp : s.slotPinned k = false) (hroom : s.fld F.KEY_STATUS.PINNED < 6144) :
    keyPin c s = ((s.setAttr k (putF (s.slot k).attr M.attrPin 1)).keyGauges, {}) := by
  simp [keyPin, State.setAttr, hk, hbad, hf, hp, hres, State.when, State.slotPlace, Nat.not_le.mpr hlt, Nat.not_le.mpr hroom]

/-- KEY_UNPIN of a slot that no context of an accepted contract names (R148). -/
theorem keyUnpin_unprotected (hf : s.filledCheck k = none)
    (hct : s.ctx.ctx.any (fun e => isF e.2 C.valid && (ctxSlots e.2).contains k && s.ctxRef e.1) = false) :
    keyUnpin c s = ((s.setAttr k (putF (s.slot k).attr M.attrPin 0)).keyGauges, {}) := by
  subst hk
  unfold keyUnpin
  simp only [hbad, hf, hct, orElse_none]
  rfl

theorem keyFree_named (hr : s.refs k ≠ 0) : keyFree c s = refuse s 7 := by
  simp [keyFree, hk, hbad, hr]

end

/-- The state after KEY_FREE of a slot (R211): the slot is empty and has given up its on-die position. -/
def State.freed (s : State) (k : Nat) : State :=
  let s1 := s.setSlot k ⟨0, 0, false⟩
  (s1.setKey { s1.key with lru := s1.key.lru.filter (· != k) }).keyGauges

section
variable {s : State} {k : Nat}

theorem keyFree_unnamed {c : RingCmd} (hk : c.a0 18 0 = k) (hbad : keyBad c false = false) (hr : s.refs k = 0) :
    keyFree c s = (s.freed k, {}) := by
  simp [keyFree, State.freed, hk, hbad, hr]

theorem State.slots_freed (s : State) (k : Nat) : (s.freed k).key.slots = (s.setSlot k ⟨0, 0, false⟩).key.slots := rfl

theorem State.slot_freed_same (s : State) (k : Nat) : (s.freed k).slot k = ⟨0, 0, false⟩ :=
  (State.slot_congr (s.slots_freed k) k).trans (s.slot_setSlot_same k _)

theorem State.slot_freed_ne (s : State) {j : Nat} (h : j ≠ k) : (s.freed k).slot j = s.slot j :=
  (State.slot_congr (s.slots_freed k) j).trans (s.slot_setSlot_ne h _)

/-- A freed context slot has no on-die position. -/
theorem State.slotResident_freed (s : State) (hlt : k < 262144) : (s.freed k).slotResident k = false := by
  simp [State.slotResident, State.freed, Nat.not_le.mpr hlt]

end

/-- A context slot's number is the low field of ARG0. -/
theorem a0_slotField_of_lt {c : RingCmd} (h : c.a0 63 0 < 262144) : c.a0 18 0 = c.a0 63 0 := by
  unfold RingCmd.a0 natBits at *
  rw [Nat.shiftRight_zero] at *
  omega

theorem hostSlot_of_lt {k : Nat} (h : k < 262144) : hostSlot k = true := by
  simp [hostSlot, h]

end Sys2Proof.Machine

open Sys2Proof.Machine

/-- Settles O24: the checks of each command pass on the counted state, so its body fills the slot, or fails to verify what it
was given, and the command finishes with that. -/
theorem keyFillsComplete : Obligations.KeyFillsComplete := by
  unfold Obligations.KeyFillsComplete
  rintro s _ n c _ _ _ h hrun rfl rfl rfl rfl ha hroot hks hws
  have hbad : keyBad c true = false := keyBad_hostSlots hroot hks fun _ => hws
  refine ⟨fun hlen hw hk => ?importKw, fun b hb hattr hform hlc hlc5 hlen hw hk => ?importXw, fun v t hk hd => ?generate,
    fun bits ll cl hbits hll hcl hsize hll64 hcl64 hlen hw hk => ?derive⟩
  case importKw => exact keyExec_imports h hrun 0 (keyImportKw_imports hbad ha hw hk hlen)
  case importXw => exact keyExec_imports h hrun 1 (keyImportXw_imports hbad ha hw hk hb.symm hattr hform hlc hlc5 hlen)
  case generate =>
    have hbad : keyBad c false = false := keyBad_hostSlots hroot hks (nomatch ·)
    exact keyExec_served h hrun 2 (keyGenerate_fills hbad ha hk hd)
  case derive =>
    exact keyExec_served h hrun 3 (keyDerive_fromSlot hroot hks hws ha hbits.symm hll.symm hcl.symm hsize hll64 hcl64 hlen hw hk)

/-- Settles O26: a filled slot passes the checks of each command, whose body writes that slot alone; a slot that a context
names is refused and the key store stays. -/
theorem keySlotsComplete : Obligations.KeySlotsComplete := by
  unfold Obligations.KeySlotsComplete
  refine ⟨?filled, ?named⟩
  case filled =>
    rintro s n c k h hrun rfl hlt hroot hv hq
    have hk : c.a0 18 0 = c.a0 63 0 := a0_slotField_of_lt hlt
    have hbad : keyBad c false = false := keyBad_hostSlots hroot (hostSlot_of_lt hlt) (nomatch ·)
    have hu : s.Reported (s.count 0x6A2) := s.reported_keyCounted
    have hslot : (s.count 0x6A2).slot (c.a0 63 0) = s.slot (c.a0 63 0) := hu.slot _
    have hf : (s.count 0x6A2).filledCheck (c.a0 63 0) = none := (hu.filledCheck _).trans (State.filledCheck_eq_none hv hq)
    refine ⟨⟨_, rfl, ?read⟩, ?reduce, fun hres hp hroom => ?pin, fun hct => ?unpin, fun hr => ?free, ?uncorr⟩
    case read =>
      rw [← hu.attrImage]
      exact keyExec_served h hrun 8 (keyAttrRead_image hk hbad)
    case reduce =>
      rintro _ rfl ha husage hexp hksize hlife hlc huses
      have hl : AttrLowers (RingCmdAttr c) ((s.count 0x6A2).slot (c.a0 63 0)).attr := by
        rw [hslot]
        exact ⟨husage, hexp, hksize, hlife, hlc, huses⟩
      obtain ⟨t, ht, hattr, hkey⟩ :=
        keyExec_writesAttr h hrun 9 (keyAttrReduce_lowers hk hbad hf ha hl) (State.key_usesEvents _ _ _ _)
      rw [hslot] at hattr
      exact ⟨t, ht, hkey, hattr⟩
    case pin =>
      have hroom' : (s.count 0x6A2).fld F.KEY_STATUS.PINNED < 6144 := (hu.fld rfl).trans_lt hroom
      obtain ⟨t, ht, hattr, hkey⟩ := keyExec_writesAttr h hrun 10
        (keyPin_resident hk hbad hlt hf ((hu.slotResident _).trans hres) ((hu.slotPinned _).trans hp) hroom')
        (State.key_keyGauges _)
      exact ⟨t, ht, (congrArg (isF · M.attrPin) hattr).trans (isF_putF_one _ _ (by decide)), hkey⟩
    case unpin =>
      have hct' : (s.count 0x6A2).ctx.ctx.any (fun e => isF e.2 C.valid && (ctxSlots e.2).contains (c.a0 63 0) &&
          (s.count 0x6A2).ctxRef e.1) = false := by simpa only [hu.ctx, hu.ctxRef] using hct
      obtain ⟨t, ht, hattr, hkey⟩ :=
        keyExec_writesAttr h hrun 11 (keyUnpin_unprotected hk hbad hf hct') (State.key_keyGauges _)
      exact ⟨t, ht, (congrArg (isF · M.attrPin) hattr).trans (isF_putF_zero _ _ (by decide)), hkey⟩
    case free =>
      obtain ⟨t, ht, hkey⟩ := keyExec_key h hrun 12 (keyFree_unnamed hk hbad ((hu.refs _).trans hr))
      have hsame (j : Nat) : t.slot j = ((s.count 0x6A2).freed (c.a0 63 0)).slot j :=
        State.slot_congr (congrArg KeySt.slots hkey) j
      have hempty : t.slot (c.a0 63 0) = ⟨0, 0, false⟩ := (hsame _).trans (State.slot_freed_same _ _)
      exact ⟨t, ht, congrArg Slot.attr hempty, congrArg Slot.key hempty,
        (State.slotResident_congr hkey _).trans (State.slotResident_freed _ hlt),
        fun j hj => (hsame j).trans ((State.slot_freed_ne _ hj).trans (hu.slot j))⟩
    case uncorr =>
      intro x hx hres
      refine ⟨s.quarSlot (c.a0 63 0), ?_, ?_, ?_⟩
      · rw [← hx] at hres ⊢
        exact execKeySlotUncorr_resident hres
      · rw [State.slot_quarSlot hv hq, State.attr_setAttr]
        exact isF_putF_one _ _ (by decide)
      · rw [State.slot_quarSlot hv hq, State.key_setAttr]
  case named =>
    intro s n c h hrun hlt hroot hr
    have hbad : keyBad c false = false := keyBad_hostSlots hroot (hostSlot_of_lt hlt) (nomatch ·)
    have hu : s.Reported (s.count 0x6A2) := s.reported_keyCounted
    have hr' : (s.count 0x6A2).refs (c.a0 18 0) ≠ 0 := (hu.refs _).trans_ne hr
    exact ⟨_, keyExec_served h hrun 12 (keyFree_named rfl hbad hr'), rfl,
      (State.finish_reported _ n.isLt 2 12 c _).key.trans hu.key⟩
end

section
/-!
The step (R230, R437): a front command is carried out with the rest of the queue; on an empty queue a core cycle counts what
it samples, advances the clocks and ends wakes, and leaves the operational state, the boot state and the queue.
-/
namespace Sys2Proof.Machine

/-- What every member of a family of functions leaves alone, their run over a list leaves alone. -/
theorem State.each_keeps {α β : Type} (π : State → β) {f : α → State → State} (hf : ∀ x t, π (f x t) = π t) (s : State)
    (l : List α) : π (s.each l f) = π s :=
  List.foldlRecOn (motive := fun t => π t = π s) l _ rfl fun t ht x _ => (hf x t).trans ht

theorem step_empty {s : State} (h : s.pending = []) : step s = .next (tick s) := by
  unfold step
  rw [h]

theorem step_cons {s : State} {c : Instr} {rest : List Instr} (h : s.pending = c :: rest) :
    step s = exec c { s with pending := rest } := by
  unfold step
  rw [h]

/-! ### The battery domain's counter (R437, R480) -/

/-- Under VBAT a cycle adds 32,768 parts of 1,500,000,000 to the counter, which wraps to 0 after 48 bits. -/
theorem Battery.tick_adds {b : Battery} (hv : b.vbat = true) (hrtc : b.rtc < 2 ^ 48) :
    b.tick.rtc * 1500000000 + b.tick.rtcAcc = b.rtc * 1500000000 + b.rtcAcc + 32768 ∨ b.tick.rtc = 0 := by
  unfold Battery.tick
  rw [if_neg (by simp [hv])]
  dsimp only
  split
  · exact .inl (by dsimp only; omega)
  · dsimp only
    omega

/-! ### What a core cycle leaves -/

section
variable (s : State)

theorem State.conditions_lt {e : Nat} (h : e ∈ s.conditions) : e < 2048 := by
  simp only [State.conditions, allBelow, List.mem_append, List.mem_map, List.mem_filter, List.mem_range,
    List.mem_ite_nil_right, List.mem_singleton] at h
  rcases h with (⟨sl, ⟨hsl, -⟩, rfl⟩ | ⟨-, rfl⟩) | ⟨-, rfl⟩ <;> omega

theorem State.countTh_reported (k : Nat) : s.Reported (s.countTh k) := by
  unfold State.countTh
  dsimp only
  split
  · split
    · exact (State.Reported.ofPerf s _).trans (overflow_ok _ _ _ reportReg_thOvf)
    · exact .ofPerf s _
  · exact .refl s

/-- The conditions and threshold counters of a cycle are counted (R461, R463). -/
def State.sampled : State := (s.each s.conditions (fun e t => t.count e)).each (List.range 16) (fun k t => t.countTh k)

theorem State.sampled_reported : s.Reported s.sampled :=
  (State.each_reported _ s fun _ he t => t.count_reported (s.conditions_lt he)).trans
    (State.each_reported _ _ fun k _ t => t.countTh_reported k)

/-- The cycle count and, every second cycle, the working clock advance (R230). -/
def State.cycled : State :=
  if (s.cyc + 1) % 2 = 0 then State.advance { s with cyc := s.cyc + 1 } else { s with cyc := s.cyc + 1 }

theorem State.coreTick_eq : s.coreTick = s.sampled.cycled.endWakes := rfl

/-- The parts of the state of which the statement on an empty queue speaks. -/
def State.idleView : OpState × Boot × Battery × List Instr × Nat := (s.op, s.boot, s.bat, s.pending, s.cyc)

theorem State.idleView_cycled : s.cycled.idleView = (s.op, s.boot, s.bat, s.pending, s.cyc + 1) := by
  unfold State.cycled
  split <;> rfl

theorem State.idleView_endWakes : s.endWakes.idleView = s.idleView := by
  unfold State.endWakes
  exact State.each_keeps State.idleView (fun p t => by simp [State.idleView]) s _

/-- Of these, the core's part of a cycle changes the count of cycles alone. -/
theorem State.idleView_coreTick : s.coreTick.idleView = (s.op, s.boot, s.bat, s.pending, s.cyc + 1) := by
  have h := s.sampled_reported
  rw [State.coreTick_eq, State.idleView_endWakes, State.idleView_cycled, h.op, h.boot, h.bat, h.pending, h.cyc]

theorem tick_idleView : ∃ n, (tick s).idleView = (s.op, s.boot, s.bat.tick, s.pending, n) ∧
    (2 ≤ s.op.code → s.boot.inReset = none → n = s.cyc + 1) := by
  unfold tick
  dsimp only
  split
  · exact ⟨_, State.idleView_coreTick _, fun _ _ => rfl⟩
  · next h => exact ⟨s.cyc, rfl, fun hop hres => absurd (by simp [State.corePowered, hop, hres]) h⟩

end

end Sys2Proof.Machine

open Sys2Proof.Machine

/-- Settles O57: a front command is the step's own case, and a cycle on an empty queue keeps all the statement speaks of but
the cycle count and the battery domain's counter. -/
theorem stepRunsTheFrontCommand : Obligations.StepRunsTheFrontCommand := by
  unfold Obligations.StepRunsTheFrontCommand
  refine ⟨fun s c rest => step_cons, fun s hempty => ⟨tick s, step_empty hempty, rfl, ?_⟩⟩
  obtain ⟨n, hview, hcyc⟩ := tick_idleView s
  simp only [State.idleView, Prod.mk.injEq] at hview
  obtain ⟨hop, hboot, hbat, hpending, rfl⟩ := hview
  refine ⟨hpending.trans hempty, hop, hboot, hcyc, fun hv _ hrtc => ?_⟩
  rw [hbat]
  exact Battery.tick_adds hv hrtc
end

section
/-!
The working clock (R230 to R233, R237): what setting and stepping it leave, the snapshot, the rate, and the judgement of an
offset for LOCKED.
-/
namespace Sys2Proof.Machine

/-! ### Setting and stepping the clock (R231, R232) -/

section
variable (s : State)

/-- The value of the working clock: seconds, nanoseconds and the fraction. -/
def State.clock : Nat × Nat × Nat := (s.sec, s.ns, s.frac)

/-- Gate lists follow the clock; none of them moves it. -/
theorem State.clock_resync (p : Nat) : (s.resync p).clock = s.clock := by
  unfold State.resync
  split <;> rfl

theorem State.clock_timeEvent (b v0 : Nat) : (s.timeEvent b v0).clock = s.clock := by
  have h := s.event_reported R.TIME_EVENT R.TIME_EVENT_EN b 0x07 b 0 v0 0 0
  unfold State.timeEvent State.clock
  rw [h.sec, h.ns, h.frac]
  rfl

/-- Whatever the ports do beside it, the clock takes the instant set, with the fraction 0. -/
theorem State.clock_setClock {sec ns : Nat} (hsec : sec < 2 ^ 48) (hns : ns < 1000000000) :
    (s.setClock sec ns).clock = (sec, ns, 0) := by
  unfold State.setClock
  extract_lets old new d ports s1 s2
  have hset : s2.clock = (sec, ns, 0) := by
    have hnew : new = sec * 1000000000 + ns := by rw [← Nat.mod_eq_of_lt hsec]
    change (new / 1000000000, new % 1000000000, 0) = (sec, ns, 0)
    rw [hnew, Prod.mk.injEq, Prod.mk.injEq]
    omega
  have hports : (s2.each ports (fun p t => t.resync p)).clock = s2.clock :=
    State.each_keeps State.clock (fun p t => t.clock_resync p) s2 ports
  unfold State.when
  split
  · exact (State.clock_timeEvent _ 0 0).trans (hports.trans hset)
  · exact hports.trans hset

theorem State.clock_setFrac (f : Nat) : State.clock { s with frac := f } = (s.sec, s.ns, f) := rfl

/-- A step that ends at an instant of the clock reaches it and keeps the fraction. -/
theorem State.clock_stepClock {d : Int} {m : Nat} (hm : (m : Int) = s.now + d) (hlt : m < 2 ^ 48 * 1000000000) :
    (s.stepClock d).clock = (m / 1000000000, m % 1000000000, s.frac) := by
  have ht : ((s.now : Int) + d).toNat = m := by omega
  have hset := s.clock_setClock (sec := m / 1000000000) (ns := m % 1000000000) (by omega) (by omega)
  simp only [State.clock, Prod.mk.injEq] at hset
  obtain ⟨hsec, hns, -⟩ := hset
  unfold State.stepClock
  rw [ht, State.clock_setFrac, hsec, hns]

theorem State.now_of_clock {s : State} {sec ns frac : Nat} (h : s.clock = (sec, ns, frac)) :
    s.now = sec * 1000000000 + ns := by
  simp only [State.clock, Prod.mk.injEq] at h
  obtain ⟨hsec, hns, -⟩ := h
  rw [State.now, hsec, hns]

end

/-! ### The commands of the host (R230, R231) -/

section
variable {s : State}

/-- The instant in TIME_SET_*. -/
def State.setSeconds (s : State) : Nat := s.fld F.TIME_SET_SEC_HI.SEC * 2 ^ 32 + s.fld F.TIME_SET_SEC_LO.SEC

theorem State.setSeconds_lt (s : State) : s.setSeconds < 2 ^ 48 := by
  have hhi : s.fld F.TIME_SET_SEC_HI.SEC < 2 ^ 16 := s.fld_lt _
  have hlo : s.fld F.TIME_SET_SEC_LO.SEC < 2 ^ 32 := s.fld_lt _
  unfold State.setSeconds
  omega

theorem exec_timeSet_host (hopen : s.regsOpen = true) (hsrc : s.clockSrc = 6) :
    exec .timeSet s = .next (s.setClock s.setSeconds (s.fld F.TIME_SET_NS.NS)) :=
  if_pos (by simp [hopen, hsrc])

theorem exec_timeStep_host (hopen : s.regsOpen = true) (hsrc : s.clockSrc = 6) :
    exec .timeStep s = .next (s.stepClock (signed 32 (s.fld F.TIME_STEP.STEP))) :=
  if_pos (by simp [hopen, hsrc])

/-- TIME_SNAP_* as a snapshot leaves them (R230). -/
def State.snapped (s : State) : State :=
  ((s.put F.TIME_SNAP_SEC_HI.SEC (s.sec / 2 ^ 32)).put F.TIME_SNAP_SEC_LO.SEC (s.sec % 2 ^ 32)).put F.TIME_SNAP_NS.NS s.ns

theorem exec_timeSnap_open (hopen : s.regsOpen = true) : exec .timeSnap s = .next s.snapped := if_pos hopen

/-- The three registers of a snapshot hold the instant of the clock. -/
theorem State.fld_snapped (hsec : s.sec < 2 ^ 48) (hns : s.ns < 1000000000) :
    s.snapped.fld F.TIME_SNAP_SEC_HI.SEC = s.sec / 2 ^ 32 ∧ s.snapped.fld F.TIME_SNAP_SEC_LO.SEC = s.sec % 2 ^ 32 ∧
      s.snapped.fld F.TIME_SNAP_NS.NS = s.ns := by
  unfold State.snapped
  refine ⟨?_, ?_, ?_⟩
  · rw [State.fld_put_ne _ _ _ _ (by decide) (by decide), State.fld_put_ne _ _ _ _ (by decide) (by decide),
      State.fld_put_same _ _ _ (by decide)]
    exact Nat.mod_eq_of_lt (by simp only [F.TIME_SNAP_SEC_HI.SEC]; omega)
  · rw [State.fld_put_ne _ _ _ _ (by decide) (by decide), State.fld_put_same _ _ _ (by decide)]
    exact Nat.mod_mod _ _
  · rw [State.fld_put_same _ _ _ (by decide)]
    exact Nat.mod_eq_of_lt (by simp only [F.TIME_SNAP_NS.NS]; omega)

variable {v : Word}

theorem rateOkFor_iff : rateOkFor v = true ↔ (signed 32 v.toNat).natAbs ≤ 128000000 := decide_eq_true_iff

theorem exec_timeRateWrite_inRange (hopen : s.regsOpen = true) (hsrc : s.clockSrc = 6) (hv : rateOkFor v = true) :
    exec (.timeRateWrite v) s = .next (s.setReg R.TIME_RATE v) :=
  (if_neg (by simp [hopen, hsrc])).trans (if_pos hv)

theorem exec_timeRateWrite_outOfRange (hopen : s.regsOpen = true) (hsrc : s.clockSrc = 6) (hv : rateOkFor v = false) :
    exec (.timeRateWrite v) s = .next (s.timeEvent 4 0) :=
  (if_neg (by simp [hopen, hsrc])).trans (if_neg (by simp [hv]))

/-- A refused rate stays out of TIME_RATE and raises the event (R86). -/
theorem State.timeEvent_refuses (s : State) : (s.timeEvent 4 0).reg R.TIME_RATE = s.reg R.TIME_RATE ∧
    natBit ((s.timeEvent 4 0).reg R.TIME_EVENT).toNat 4 = true :=
  ⟨State.event_reg s _ _ _ _ _ _ _ _ _ (by decide) (reportReg_central (by decide)),
    State.event_bit s _ _ _ _ _ _ _ (by decide) (reportReg_central (by decide))⟩

end

/-! ### The sources (R233, R237) -/

section
variable {s : State}

theorem State.fld_timeEvent (s : State) (b v0 : Nat) {f : Fld} (hf : f.addr ≠ R.TIME_EVENT)
    (h : reportReg f.addr = false) : (s.timeEvent b v0).fld f = s.fld f := by
  unfold State.fld State.timeEvent
  rw [State.event_reg s _ _ _ _ _ _ _ _ _ hf h]

theorem State.locked_setLocked (s : State) (b : Bool) : (s.setLocked b).on F.TIME_STATUS.LOCKED = b := by
  unfold State.setLocked
  split
  · assumption
  · rw [State.on, State.fld_timeEvent _ _ _ (by decide) (reportReg_central (by decide)),
      State.fld_put_same _ _ _ (by decide)]
    cases b <;> rfl

/-- An offset of more than 1 µs ends the run of good updates and the lock. -/
theorem State.locked_lockUpdate_far {off : Int} (h : 1000 < off.natAbs) :
    (s.lockUpdate off).on F.TIME_STATUS.LOCKED = false := by
  have hfar : ¬ off.natAbs ≤ 100 := by omega
  unfold State.lockUpdate
  simp only [if_neg hfar, if_pos h, OfNat.zero_ne_ofNat, if_false]
  exact State.locked_setLocked _ false

theorem exec_clockSourceAdjust_pps {a : ClockAdjust} {v : Word} (hsrc : s.clockSrc = 4) (ha : a.rate = some v)
    (hv : rateOkFor v = true) :
    exec (.clockSourceAdjust a) s = .next ((s.lockUpdate a.offset).setReg R.TIME_RATE v) := by
  refine (if_neg (by simp [hsrc])).trans ?_
  rw [ha]
  dsimp only
  rw [if_pos hv]

theorem exec_tsCalDone_up {p : Fin 96} (h : s.link p = 3) :
    exec (.tsCalDone p) s = .next (s.put ⟨R.TS_CAL_OK (p.val / 32), p.val % 32, p.val % 32⟩ 1) :=
  if_pos h

/-- A one-bit field set reads as that bit of its register. -/
theorem State.natBit_put_one (s : State) (a : Nat) {b : Nat} (hb : b < 32) :
    natBit ((s.put ⟨a, b, b⟩ 1).reg a).toNat b = true := by
  rw [State.put, State.reg_setReg_same, natBit_toNat_ofNat hb, natBit, natPut_testBit]
  simp

end

end Sys2Proof.Machine

open Sys2Proof.Machine

/-- Settles O14: the ports' schedules follow the clock and none of them moves it; the registers of the clock's commands are
distinct, and no event or count writes them. -/
theorem clockCommandsComplete : Obligations.ClockCommandsComplete := by
  unfold Obligations.ClockCommandsComplete
  refine ⟨fun s hopen hsec hns => ⟨fun hsrc hset => ?set, fun m hsrc hm hlt => ?step, ?snap⟩,
    fun s v => ⟨fun hopen hsrc hv => ?rate, fun hopen hsrc hv => ?refused, fun a hsrc ha hv => ?adjust, fun p hp => ?cal⟩⟩
  case set =>
    have hclock := s.clock_setClock s.setSeconds_lt hset
    simp only [State.clock, Prod.mk.injEq] at hclock
    exact ⟨_, exec_timeSet_host hopen hsrc, hclock⟩
  case step =>
    have hclock := s.clock_stepClock hm hlt
    have hnow := State.now_of_clock hclock
    simp only [State.clock, Prod.mk.injEq] at hclock
    obtain ⟨-, hnanos, hfrac⟩ := hclock
    exact ⟨_, exec_timeStep_host hopen hsrc, by omega, by omega, hfrac⟩
  case snap =>
    obtain ⟨hhi, hlo, hnanos⟩ := s.fld_snapped hsec hns
    exact ⟨_, exec_timeSnap_open hopen, by rw [hhi, hlo]; omega, hnanos, rfl⟩
  case rate =>
    exact ⟨_, exec_timeRateWrite_inRange hopen hsrc (rateOkFor_iff.mpr hv), s.reg_setReg_same _ _,
      fun a ha => s.reg_setReg_ne ha v⟩
  case refused =>
    have hbad : rateOkFor v = false := by
      rw [← Bool.not_eq_true, rateOkFor_iff]
      omega
    exact ⟨_, exec_timeRateWrite_outOfRange hopen hsrc hbad, s.timeEvent_refuses⟩
  case adjust =>
    refine ⟨_, exec_clockSourceAdjust_pps hsrc ha (rateOkFor_iff.mpr hv), rfl, fun hfar => ?_⟩
    rw [State.on, State.fld_setReg_ne _ (by decide)]
    exact State.locked_lockUpdate_far hfar
  case cal =>
    exact ⟨_, exec_tsCalDone_up hp, s.natBit_put_one _ (Nat.mod_lt _ (by decide))⟩
end

section
/-!
Stream filters, meters and the tunnel table (R256, R257, R393, Table 5.7): what each of their commands writes, and the colour
of a frame by the fills of its meter's buckets.
-/
namespace Sys2Proof.Machine

/-- An index is the low field of ARG0 when no bit above the field is set. -/
theorem a0_low_of_lt {c : RingCmd} {hi : Nat} (h : c.a0 63 0 < 2 ^ (hi + 1)) : c.a0 hi 0 = c.a0 63 0 := by
  have hw : c.a0 63 0 = c.arg0.toNat := by
    simpa [RingCmd.a0, natBits] using c.arg0.isLt
  rw [hw] at h ⊢
  simpa [RingCmd.a0, natBits] using Nat.mod_eq_of_lt h

/-! ### What a served command of these tables leaves -/

section
variable {s u : State} {n : Fin 64} {c : RingCmd} {body : Body} {r : Reply}

/-- A served command finishes with the state and the reply of its body. -/
theorem ringExec_served_of (h : c.served n s) (g op : Nat) (hb : body c s = (u, r)) :
    ringExec g op body c s = .next (u.finish n g op c r) := by
  rw [ringExec_served h, hb]

/-- A served command leaves the filter block that its body made. -/
theorem ringExec_flt (h : c.served n s) (g op : Nat) (hb : body c s = (u, r)) :
    ∃ t, ringExec g op body c s = .next t ∧ t.flt = u.flt := by
  obtain ⟨t, ht, hrep⟩ := ringExec_reported h g op body
  rw [hb] at hrep
  exact ⟨t, ht, hrep.flt⟩

/-- A served command whose body writes one entry of a table of the block leaves that entry and every other one. -/
theorem ringExec_writesEntry {m k : Nat} {tbl : FilterSt → Tbl (BitVec m)} {e : BitVec m} (h : c.served n s) (g op : Nat)
    (hb : body c s = (u, r)) (hu : tbl u.flt = Tbl.set0 (tbl s.flt) k e) :
    ∃ t, ringExec g op body c s = .next t ∧ t.flt = u.flt ∧ Tbl.at0 (tbl t.flt) k = e ∧
      ∀ j, j ≠ k → Tbl.at0 (tbl t.flt) j = Tbl.at0 (tbl s.flt) j := by
  obtain ⟨t, ht, hflt⟩ := ringExec_flt h g op hb
  refine ⟨t, ht, hflt, ?_⟩
  rw [hflt, hu]
  exact ⟨Tbl.at0_set0_same _ _ _, fun j hj => Tbl.at0_set0_ne _ hj _⟩

end

/-! ### Entries as they are stored -/

section
variable (s : State) (c : RingCmd) (k : Nat)

/-- A filter entry as FLT_WRITE stores it: reserved bits 0, BLOCKED kept. -/
def State.fltImage : BitVec 64 :=
  putF (putF (BitVec.ofNat 64 (leAt c.cont 0 8)) ⟨45, 14⟩ 0) L.blocked (getF (s.fltAt k) L.blocked)

/-- A meter entry as MTR_WRITE stores it: reserved bits 0, MARK_RED kept. -/
def State.mtrImage : BitVec 128 :=
  putF (putF (BitVec.ofNat 128 (leAt c.cont 0 16)) ⟨27, 0⟩ 0) L.markRed (getF (s.mtrAt k) L.markRed)

theorem State.blocked_fltImage : getF (s.fltImage c k) L.blocked = getF (s.fltAt k) L.blocked :=
  (getF_putF_same _ _ _ (by decide)).trans (Nat.mod_eq_of_lt (natBits_lt _ _ _))

theorem State.markRed_mtrImage : getF (s.mtrImage c k) L.markRed = getF (s.mtrAt k) L.markRed :=
  (getF_putF_same _ _ _ (by decide)).trans (Nat.mod_eq_of_lt (natBits_lt _ _ _))

/-- A field of a filter that is neither reserved nor BLOCKED is the host's. -/
theorem State.getF_fltImage {f : BF} (hr : 45 < f.lo ∨ f.hi < 14) (hb : 61 < f.lo ∨ f.hi < 61) :
    getF (s.fltImage c k) f = getF (BitVec.ofNat 64 (leAt c.cont 0 8)) f :=
  (getF_putF_ne _ _ _ _ (by decide) hb).trans (getF_putF_ne _ _ _ _ (by decide) hr)

/-- A field of a meter above MARK_RED is the host's. -/
theorem State.getF_mtrImage {f : BF} (hf : 28 < f.lo) :
    getF (s.mtrImage c k) f = getF (BitVec.ofNat 128 (leAt c.cont 0 16)) f :=
  (getF_putF_ne _ _ _ _ (by decide) (.inl hf)).trans (getF_putF_ne _ _ _ _ (by decide) (.inl (Nat.lt_of_succ_lt hf)))

end

/-! ### The bodies where their checks pass -/

section
variable {s : State} {c : RingCmd} {k : Nat}

/-- The state with filter entry `k` written. -/
def State.fltPut (s : State) (k : Nat) (e : BitVec 64) : State := s.setFlt { s.flt with flt := Tbl.set0 s.flt.flt k e }

/-- The state with meter entry `k` written. -/
def State.mtrPut (s : State) (k : Nat) (e : BitVec 128) : State := s.setFlt { s.flt with mtr := Tbl.set0 s.flt.mtr k e }

/-- The state with the counters of filter `k` at 0. -/
def State.fltCleared (s : State) (k : Nat) : State :=
  s.setFlt { s.flt with ctr := (List.range 7).foldl (fun t j => Tbl.setN t (8 * k + j) 0) s.flt.ctr }

section
variable (hk : c.a0 13 0 = k) (hlt : c.a0 63 0 < 16384)
include hk hlt

theorem fltWrite_unheld (hh : s.filterHeld k = false) : fltWrite c s = (s.fltPut k (s.fltImage c k), {}) := by
  subst hk
  simp [fltWrite, Nat.not_le.mpr hlt, hh, State.fltPut, State.fltImage]

theorem fltUnblock_unheld (hh : s.filterHeld k = false) :
    fltUnblock c s = (s.fltPut k (putF (s.fltAt k) L.blocked 0), {}) := by
  subst hk
  simp [fltUnblock, Nat.not_le.mpr hlt, hh, State.fltPut]

theorem fltClearCnt_unheld (hh : s.filterHeld k = false) : fltClearCnt c s = (s.fltCleared k, {}) := by
  subst hk
  simp [fltClearCnt, Nat.not_le.mpr hlt, hh, State.fltCleared]

theorem mtrWrite_unheld (hh : s.meterHeld k = false) : mtrWrite c s = ((s.mtrPut k (s.mtrImage c k)).setFills k
    (getF (s.mtrImage c k) L.cbs * fillUnit) (getF (s.mtrImage c k) L.ebs * fillUnit), {}) := by
  subst hk
  simp [mtrWrite, Nat.not_le.mpr hlt, hh, State.mtrPut, State.mtrImage]

theorem mtrUnmark_unheld (hh : s.meterHeld k = false) :
    mtrUnmark c s = (s.mtrPut k (putF (s.mtrAt k) L.markRed 0), {}) := by
  subst hk
  simp [mtrUnmark, Nat.not_le.mpr hlt, hh, State.mtrPut]

theorem mtrRead_inRange : mtrRead c s = (s, { conts := leBytes 16 (s.mtrAt k).toNat }) := by
  subst hk
  exact if_neg (Nat.not_le.mpr hlt)

end

theorem fltRead_keeps (c : RingCmd) (s : State) : (fltRead c s).1 = s := by
  unfold fltRead
  dsimp only
  split <;> rfl

/-- A tunnel header as TUN_WRITE stores it: reserved bits 0. -/
def tunImage (c : RingCmd) : BitVec 1024 :=
  putF (putF (BitVec.ofNat 1024 (leAt c.cont 0 128)) ⟨1020, 1016⟩ 0) ⟨1007, 528⟩ 0

/-- The state with tunnel header `k` written. -/
def State.tunPut (s : State) (k : Nat) (e : BitVec 1024) : State := s.setFlt { s.flt with tun := Tbl.set0 s.flt.tun k e }

theorem State.tun_tunPut (s : State) (k : Nat) (e : BitVec 1024) : (s.tunPut k e).flt.tun = Tbl.set0 s.flt.tun k e := rfl

theorem tunWrite_agrees (hlt : c.a0 63 0 < 4096) (hok : tunOk (tunImage c) = true) :
    tunWrite c s = (s.tunPut (c.a0 11 0) (tunImage c), {}) := by
  have hpass : (decide (4096 ≤ c.a0 63 0) || !tunOk (tunImage c)) = false := by simp [hok, hlt]
  exact if_neg (ne_true_of_eq_false hpass)

theorem tunWrite_disagrees (hbad : tunOk (tunImage c) = false) : tunWrite c s = (s, { code := 6 }) := by
  have hrefused : (decide (4096 ≤ c.a0 63 0) || !tunOk (tunImage c)) = true := by simp [hbad]
  exact if_pos hrefused

theorem tunRead_inRange (hlt : c.a0 63 0 < 4096) :
    tunRead c s = (s, { conts := leBytes 128 (s.tunAt (c.a0 11 0)).toNat }) :=
  if_neg (Nat.not_le.mpr hlt)

end

/-! ### Counters and fills -/

/-- Entries set to 0 one after the other all read 0 afterwards. -/
theorem Tbl.atN_foldl_setN_zero (f : Nat → Nat) {i : Nat} (l : List Nat) (t : Tbl Nat) (h : i ∈ l ∨ Tbl.atN t (f i) = 0) :
    Tbl.atN (l.foldl (fun t j => Tbl.setN t (f j) 0) t) (f i) = 0 := by
  induction l generalizing t with
  | nil => exact h.resolve_left (by simp)
  | cons j l ih =>
    refine ih _ ?_
    by_cases e : f i = f j
    · exact .inr (by rw [e, Tbl.atN_setN_same])
    · rw [Tbl.atN_setN_ne _ e]
      exact h.imp_left fun hm => (List.mem_cons.mp hm).resolve_left fun hij => e (congrArg f hij)

section
variable (s : State) (k : Nat)

theorem State.ctr_fltCleared {j : Nat} (hj : j < 7) : Tbl.atN (s.fltCleared k).flt.ctr (8 * k + j) = 0 :=
  Tbl.atN_foldl_setN_zero (8 * k + ·) _ _ (.inl (List.mem_range.mpr hj))

theorem State.fltAt_congr {t u : State} (h : t.flt = u.flt) (j : Nat) : t.fltAt j = u.fltAt j :=
  congrArg (fun f : FilterSt => Tbl.at0 f.flt j) h

theorem State.fltAt_fltCleared (j : Nat) : (s.fltCleared k).fltAt j = s.fltAt j := rfl

/-- The committed bucket of a meter whose fills are stored. -/
theorem State.fill_setFills (c x : Nat) : Tbl.atN (s.setFills k c x).flt.fill (2 * k) = c := by
  rw [State.setFills, State.setFlt_flt, Tbl.atN_setN_ne _ (by omega), Tbl.atN_setN_same]

theorem State.mtrAt_setFills (c x j : Nat) : (s.setFills k c x).mtrAt j = s.mtrAt j := rfl

theorem State.mtrAt_mtrPut (e : BitVec 128) : (s.mtrPut k e).mtrAt k = e := Tbl.at0_set0_same _ _ _

/-- A red frame marks its meter, whose entry is `e`, where MARK_RED_EN is 1 (R257). -/
def State.redMarked (e : BitVec 128) : State := if isF e L.markRedEn then s.mtrPut k (putF e L.markRed 1) else s

theorem State.fill_redMarked (e : BitVec 128) : (s.redMarked k e).flt.fill = s.flt.fill := by
  unfold State.redMarked
  split
  · rw [State.mtrPut, State.setFlt_flt]
  · rfl

theorem State.isF_redMarked {e : BitVec 128} (he : s.mtrAt k = e) (hm : isF e L.markRed = false) :
    isF ((s.redMarked k e).mtrAt k) L.markRed = isF e L.markRedEn := by
  unfold State.redMarked
  split
  · next hen =>
    rw [State.mtrAt_mtrPut, hen]
    exact isF_putF_one _ _ (by decide)
  · next hen => rw [he, hm, eq_false_of_ne_true hen]

end

/-! ### The colour of a frame (R257) -/

section
variable {s : State} {k len c x : Nat} (hf : s.mtrFills k = (c, x))
include hf

theorem State.colour_marked (hm : isF (s.mtrAt k) L.markRed = true) : s.colour k len = (s.setFills k c x, .red) := by
  unfold State.colour
  rw [hf]
  exact if_pos hm

variable (hm : isF (s.mtrAt k) L.markRed = false)
include hm

theorem State.colour_green (hc : len * fillUnit ≤ c) :
    s.colour k len = (s.setFills k (c - len * fillUnit) x, .green) := by
  unfold State.colour
  rw [hf]
  simp [hm, hc]

theorem State.colour_yellow (hc : c < len * fillUnit) (hx : len * fillUnit ≤ x) :
    s.colour k len = (s.setFills k c (x - len * fillUnit), .yellow) := by
  unfold State.colour
  rw [hf]
  simp [hm, Nat.not_le.mpr hc, hx]

/-- A frame that fits neither bucket is red. -/
theorem State.colour_red (hc : c < len * fillUnit) (hx : x < len * fillUnit) :
    s.colour k len = ((s.setFills k c x).redMarked k (s.mtrAt k), .red) := by
  unfold State.colour
  rw [hf]
  simp [hm, Nat.not_le.mpr hc, Nat.not_le.mpr hx, State.redMarked, State.mtrPut]

/-- Such a frame charges neither bucket, and marks the meter where MARK_RED_EN is 1. -/
theorem State.colour_red_leaves (hc : c < len * fillUnit) (hx : x < len * fillUnit) :
    (s.colour k len).2 = .red ∧ Tbl.atN (s.colour k len).1.flt.fill (2 * k) = c ∧
      isF ((s.colour k len).1.mtrAt k) L.markRed = isF (s.mtrAt k) L.markRedEn := by
  have hfill : Tbl.atN ((s.setFills k c x).redMarked k (s.mtrAt k)).flt.fill (2 * k) = c := by
    rw [State.fill_redMarked, State.fill_setFills]
  have hmark := (s.setFills k c x).isF_redMarked k (s.mtrAt_setFills k c x k) hm
  rw [State.colour_red hf hm hc hx]
  exact ⟨rfl, hfill, hmark⟩

end

end Sys2Proof.Machine

open Sys2Proof.Machine

/-- Settles O20: each command writes one entry of its table or counters beside it; the colour follows the three comparisons
of the frame's length with the fills. -/
theorem filtersMetersAndTunnelsComplete : Obligations.FiltersMetersAndTunnelsComplete := by
  unfold Obligations.FiltersMetersAndTunnelsComplete
  refine ⟨?tables, fun s k len c x hf => ⟨State.colour_green hf, State.colour_yellow hf, State.colour_red_leaves hf,
    fun hm => congrArg Prod.snd (State.colour_marked hf hm)⟩, ?tunnels⟩
  case tables =>
    rintro s n c k h rfl hlt
    have hk : c.a0 13 0 = c.a0 63 0 := a0_low_of_lt hlt
    refine ⟨fun hheld => ⟨?write, ?unblock, ?clear⟩, fun hheld => ⟨?meter, ?unmark⟩,
      ringExec_served_of h 4 3 (mtrRead_inRange hk hlt), ?read⟩
    case write =>
      obtain ⟨t, ht, -, he, hne⟩ := ringExec_writesEntry (tbl := FilterSt.flt) h 4 0 (fltWrite_unheld hk hlt hheld) rfl
      have hat : t.fltAt (c.a0 63 0) = s.fltImage c (c.a0 63 0) := he
      refine ⟨t, ht, ?_, ?_, ?_, hne⟩
      · rw [hat, State.blocked_fltImage]
      · rw [hat, State.getF_fltImage _ _ _ (by decide) (by decide)]
      · rw [hat, State.getF_fltImage _ _ _ (by decide) (by decide)]
    case unblock =>
      obtain ⟨t, ht, -, he⟩ := ringExec_writesEntry (tbl := FilterSt.flt) h 4 4 (fltUnblock_unheld hk hlt hheld) rfl
      exact ⟨t, ht, he⟩
    case clear =>
      obtain ⟨t, ht, hflt⟩ := ringExec_flt h 4 6 (fltClearCnt_unheld hk hlt hheld)
      refine ⟨t, ht, fun j hj => ?_, (State.fltAt_congr hflt _).trans (s.fltAt_fltCleared _ _)⟩
      rw [hflt]
      exact s.ctr_fltCleared _ hj
    case meter =>
      obtain ⟨t, ht, hflt, he, hne⟩ :=
        ringExec_writesEntry (tbl := FilterSt.mtr) h 4 2 (mtrWrite_unheld hk hlt hheld) rfl
      have hat : t.mtrAt (c.a0 63 0) = s.mtrImage c (c.a0 63 0) := he
      refine ⟨t, ht, ?_, ?_, ?_, hne⟩
      · rw [hat, State.markRed_mtrImage]
      · rw [hat, State.getF_mtrImage _ _ _ (by decide)]
      · rw [hat, hflt, State.fill_setFills]
    case unmark =>
      obtain ⟨t, ht, -, he⟩ := ringExec_writesEntry (tbl := FilterSt.mtr) h 4 5 (mtrUnmark_unheld hk hlt hheld) rfl
      exact ⟨t, ht, he⟩
    case read =>
      obtain ⟨t, ht, hrep⟩ := ringExec_reported h 4 1 fltRead
      rw [fltRead_keeps] at hrep
      exact ⟨t, ht, hrep⟩
  case tunnels =>
    intro s n c h hlt
    have hk : c.a0 11 0 = c.a0 63 0 := a0_low_of_lt hlt
    refine ⟨?_, ringExec_served_of h 5 1 (tunRead_inRange hlt)⟩
    intro e he
    obtain rfl : e = tunImage c := he
    refine ⟨fun hok => ?_, fun hbad => ringExec_served_of h 5 0 (tunWrite_disagrees hbad)⟩
    obtain ⟨t, ht, -, he⟩ := ringExec_writesEntry (tbl := FilterSt.tun) h 5 0 (tunWrite_agrees hlt hok) (s.tun_tunPut _ _)
    rw [hk] at he
    exact ⟨t, ht, he⟩
end

section
/-!
The contract commands (R264 to R270, R274): the decision of an admission that passes checks 1 to 3 of Table 11.2, and what a
withdrawal leaves in the contract images and in the stream table.
-/
namespace Sys2Proof.Machine

/-! ### Admission (R265, R266) -/

/-- The image that CT_ADMIT carries, as the device takes it. -/
def ctImage (c : RingCmd) : BitVec 1024 := ctFields (BitVec.ofNat 1024 (leAt c.cont 0 128))

/-- A path that does not lead to just the given egress ports. -/
def pathStrays (egs : List Nat) (x : Nat × Option (List Nat × List Nat × Option Nat)) : Bool :=
  match x.2 with
  | some (_, l, _) => l != egs
  | none => true

/-- The forwarding keys of a path. -/
def pathKeys (x : Nat × Option (List Nat × List Nat × Option Nat)) : List Nat :=
  match x.2 with
  | some (k, _, _) => k
  | none => []

section
variable (s : State) (w : BitVec 1024)

/-- The stream entry of an image. -/
def State.ctEntry : BitVec 256 := s.streamAt (getF w V.stream)

/-- The path of an image's stream from each of its ingress ports (check 3). -/
def State.ctPaths : List (Nat × Option (List Nat × List Nat × Option Nat)) :=
  (ctIns w).map (fun p => (p, s.ctPath (s.ctEntry w) (getF w V.stream) p))

/-- The contexts that a contract of this image would pin. -/
def State.ctHolds : List (Nat × Nat) :=
  s.ctContexts (s.ctEntry w) (ctIns w) (ctEgs w) ((s.ctPaths w).map (fun x => (x.1, x.2.bind (fun y => y.2.2))))

/-- What a contract of this image would depend on. -/
def State.ctNeeds : CtUse :=
  ⟨((s.ctPaths w).flatMap pathKeys).foldl addOnce [], (s.ctHolds w).map (·.1),
    (ctEgs w).map (fun q => (q, s.ctLen (s.ctEntry w) (getF w V.maxLen) (ctIns w) q)),
    (ctEgs w).filter (s.ctCut (s.ctEntry w) (getF w V.stream) (ctIns w))⟩

/-- The refusal of an image by checks 4 to 10. -/
def State.ctShort : Option (Nat × Nat) := s.ctRefusal w (s.ctEntry w) (s.ctNeeds w) (s.ctHolds w)

/-- The refusal of contract `k` by checks 11 and 12. -/
def State.ctUntimed (k : Nat) : Option (Nat × Nat) :=
  s.judge (s.planOf k w (s.ctNeeds w).lens (s.ctNeeds w).cut) ((ctEgs w).flatMap s.ctLists)

/-- An admission passes checks 1 to 3: the image is in range, the contract FREE, the stream valid and in no contract, and its
paths lead from every ingress port to just the egress ports, none of them in a loop. -/
structure State.CtReachable (k : Nat) : Prop where
  image : ctImageOk w = true
  free : s.accepted k = false
  valid : isF (s.ctEntry w) E.strValid = true
  uncontracted : isF (s.ctEntry w) E.strContracted = false
  egress : ctEgs w ≠ []
  unlooped : (ctIns w ++ ctEgs w).any (fun p => s.fld (F.PORT_MODE.LOOPBACK p) != 0) = false
  routed : (s.ctPaths w).any (pathStrays (ctEgs w)) = false

/-- The decision of checks 4 to 12: the first refusal, or acceptance. -/
def State.ctDecide (k : Nat) : State × Reply :=
  match s.ctShort w with
  | some (code, r) => refuseAt s code r
  | none =>
    match s.ctUntimed w k with
    | some (code, r) => refuseAt s code r
    | none => (s.accept k w (s.ctNeeds w) (s.ctHolds w), {})

end

section
variable {s : State} {c : RingCmd} {w : BitVec 1024} {k : Nat}

theorem State.ctDecide_short {code r : Nat} (h : s.ctShort w = some (code, r)) :
    s.ctDecide w k = (s, { code := code, r0 := r }) := by
  rw [State.ctDecide, h]
  rfl

theorem State.ctDecide_untimed {code r : Nat} (h : s.ctShort w = none) (ht : s.ctUntimed w k = some (code, r)) :
    s.ctDecide w k = (s, { code := code, r0 := r }) := by
  rw [State.ctDecide, h, ht]
  rfl

theorem State.ctDecide_accepts (h : s.ctShort w = none) (ht : s.ctUntimed w k = none) :
    s.ctDecide w k = (s.accept k w (s.ctNeeds w) (s.ctHolds w), {}) := by
  rw [State.ctDecide, h, ht]

variable (hk : c.a0 13 0 = k) (hlt : c.a0 63 0 < 16384)
include hk hlt

/-- CT_ADMIT of an image that passes checks 1 to 3 is decided by checks 4 to 12. -/
theorem ctAdmit_reachable (h : s.CtReachable (ctImage c) k) : ctAdmit c s = s.ctDecide (ctImage c) k := by
  subst hk
  obtain ⟨himage, hfree, hvalid, huncontracted, hegress, hunlooped, hrouted⟩ := h
  have check1 : (decide (16384 ≤ c.a0 63 0) || !ctImageOk (ctImage c)) = false := by simp [hlt, himage]
  have check2 : (!isF (s.ctEntry (ctImage c)) E.strValid || isF (s.ctEntry (ctImage c)) E.strContracted) = false := by
    simp [hvalid, huncontracted]
  have check3 : (decide (ctEgs (ctImage c) = []) ||
      (ctIns (ctImage c) ++ ctEgs (ctImage c)).any (fun p => s.fld (F.PORT_MODE.LOOPBACK p) != 0) ||
      (s.ctPaths (ctImage c)).any (pathStrays (ctEgs (ctImage c)))) = false := by
    simp only [hegress, hunlooped, hrouted, decide_false, Bool.or_false]
  refine (if_neg (ne_true_of_eq_false check1)).trans ((if_neg (ne_true_of_eq_false hfree)).trans
    ((if_neg (ne_true_of_eq_false check2)).trans ((if_neg (ne_true_of_eq_false check3)).trans ?_)))
  extract_lets keys ctxs u
  generalize htimed : s.judge _ _ = untimed
  generalize hshort : s.ctRefusal _ _ _ _ = short
  revert untimed short
  refine forall_abstracted fun untimed htimed => forall_abstracted fun short hshort => ?_
  rcases short with _ | ⟨code, r⟩
  · rcases untimed with _ | ⟨code, r⟩
    · exact (State.ctDecide_accepts hshort htimed).symm
    · exact (State.ctDecide_untimed hshort htimed).symm
  · exact (State.ctDecide_short hshort).symm

/-! ### Commands on an accepted contract (R265, R274) -/

theorem ctRead_accepted (ha : s.accepted k = true) : ctRead c s = (s, { conts := leBytes 128 (s.ctAt k).toNat }) := by
  subst hk
  simp [ctRead, Nat.not_le.mpr hlt, ha]

theorem ctClearCnt_accepted (ha : s.accepted k = true) :
    ctClearCnt c s = (s.ctPut k (putF (ctFields (s.ctAt k)) V.state 1), {}) := by
  subst hk
  simp [ctClearCnt, Nat.not_le.mpr hlt, ha]

end

/-! ### Contract images and stream entries -/

section
variable (s : State)

/-- The contract images and the stream table: what names a contract, beside the entries and contexts that it protects. -/
def State.ctTables : Tbl (BitVec 1024) × Tbl (BitVec 256) := (s.ct.ct, s.cls.stream)

theorem State.ctTables_ctPut (k : Nat) (w : BitVec 1024) :
    (s.ctPut k w).ctTables = (Tbl.set0 s.ct.ct k w, s.cls.stream) := rfl

theorem State.ctTables_setCtUse (x : Tbl CtUse) :
    ({ s with ct := { s.ct with use := x } } : State).ctTables = s.ctTables := rfl

theorem State.ctTables_setCls (x : ClassSt) : (s.setCls x).ctTables = (s.ct.ct, x.stream) := rfl

theorem State.ctTables_fdbPut (pos : Nat) (e : BitVec 128) : (s.fdbPut pos e).ctTables = s.ctTables :=
  s.ctTables_setCls _

theorem State.ctTables_ctxUncache (n : Nat) : (s.ctxUncache n).ctTables = s.ctTables := by
  refine State.each_keeps State.ctTables (fun g t => ?_) s _
  split
  · rfl
  · rfl

/-- Ending a context's CONTRACT_REF keeps every contract and every stream. -/
theorem State.ctTables_unrefCtx (n : Nat) : (s.unrefCtx n).ctTables = s.ctTables := by
  unfold State.unrefCtx
  dsimp only
  split
  · rfl
  · exact State.ctTables_ctxUncache _ n

theorem State.ct_ctPut (k : Nat) (w : BitVec 1024) : (s.ctPut k w).ct.ct = Tbl.set0 s.ct.ct k w := rfl

/-- A contract is accepted when its STATE is 1 (Table 11.1). -/
theorem State.accepted_eq (k : Nat) : s.accepted k = isF (s.ctAt k) V.state := rfl

/-- An image written with STATE 0 is FREE. -/
theorem isF_state_zero (w : BitVec 1024) : isF (putF w V.state 0) V.state = false := by
  rw [isF, getF_putF_same _ _ _ (by decide)]
  rfl

/-- A stream entry as a withdrawal leaves it. -/
def streamReleased (e : BitVec 256) : BitVec 256 := putF (putF e E.strContracted 0) E.strContract 0

theorem isF_streamReleased (e : BitVec 256) : isF (streamReleased e) E.strContracted = false :=
  (isF_putF_ne _ _ _ _ (by decide) (by decide)).trans (isF_putF_zero e 254 (by decide))

end

/-- The withdrawal of an accepted contract sets its STATE to FREE and releases its stream; giving back forwarding entries and
contexts touches neither table. -/
theorem ctTables_ctWithdraw {s : State} {c : RingCmd} {k : Nat} (hk : c.a0 13 0 = k) (hlt : c.a0 63 0 < 16384)
    (ha : s.accepted k = true) : (ctWithdraw c s).1.ctTables =
      (Tbl.set0 s.ct.ct k (putF (s.ctAt k) V.state 0), Tbl.set0 s.cls.stream (getF (s.ctAt k) V.stream)
        (streamReleased (s.streamAt (getF (s.ctAt k) V.stream)))) := by
  subst hk
  have hfound : (!s.accepted (c.a0 13 0)) = false := by rw [ha]; rfl
  unfold ctWithdraw
  rw [if_neg (Nat.not_le.mpr hlt), if_neg (ne_true_of_eq_false hfound)]
  extract_lets w u h s1 _ s2 e _ s3 others s4
  have hs2 : s2.ctTables = (Tbl.set0 s.ct.ct (c.a0 13 0) (putF w V.state 0), s.cls.stream) :=
    (s1.ctTables_setCtUse _).trans (s.ctTables_ctPut _ _)
  obtain ⟨hct, hstream⟩ := Prod.mk.inj hs2
  have hs3 : s3.ctTables = (s2.ct.ct, Tbl.set0 s2.cls.stream h (streamReleased (Tbl.at0 s2.cls.stream h))) :=
    s2.ctTables_setCls _
  have hs4 : s4.ctTables = s3.ctTables := by
    refine State.each_keeps State.ctTables (fun key t => ?_) _ _
    split
    · exact t.ctTables_fdbPut _ _
    · rfl
  rw [hct, hstream] at hs3
  exact (State.each_keeps State.ctTables (fun n t => t.ctTables_unrefCtx n) _ _).trans (hs4.trans hs3)

end Sys2Proof.Machine

open Sys2Proof.Machine

/-- Settles O28: an image that passes checks 1 to 3 is decided by the later ones; the commands on an accepted contract write
its image alone, and a withdrawal its stream entry with it. -/
theorem contractCommandsComplete : Obligations.ContractCommandsComplete := by
  unfold Obligations.ContractCommandsComplete
  rintro s n c k h rfl hlt
  have hk : c.a0 13 0 = c.a0 63 0 := a0_low_of_lt hlt
  refine ⟨?admission, fun ha => ⟨?withdraw, ringExec_served_of h 7 2 (ctRead_accepted hk hlt ha), ?clear⟩⟩
  case admission =>
    rintro w e ins egs paths keys ctxs u rfl himage hfree rfl hvalid huncontracted rfl rfl rfl hegress hunlooped hrouted
      rfl rfl rfl
    have hrun := ctAdmit_reachable hk hlt ⟨himage, hfree, hvalid, huncontracted, hegress, hunlooped, hrouted⟩
    exact ⟨fun hshort htimed => ringExec_served_of h 7 0 (hrun.trans (State.ctDecide_accepts hshort htimed)),
      fun code r hshort => ringExec_served_of h 7 0 (hrun.trans (State.ctDecide_short hshort))⟩
  case withdraw =>
    obtain ⟨t, ht, hrep⟩ := ringExec_reported h 7 1 ctWithdraw
    obtain ⟨hct, hstream⟩ := Prod.mk.inj (ctTables_ctWithdraw hk hlt ha)
    rw [← hrep.ct] at hct
    rw [← hrep.cls] at hstream
    refine ⟨t, ht, ?_, ?_, fun j hj => ?_⟩
    · rw [State.accepted_eq, State.ctAt, hct, Tbl.at0_set0_same, isF_state_zero]
    · rw [State.streamAt, hstream, Tbl.at0_set0_same, isF_streamReleased]
    · rw [State.ctAt, hct, Tbl.at0_set0_ne _ hj, State.ctAt]
  case clear =>
    obtain ⟨t, ht, hrep⟩ := ringExec_reported h 7 3 ctClearCnt
    rw [ctClearCnt_accepted hk hlt ha] at hrep
    refine ⟨t, ht, ?_, fun j hj => ?_⟩
    · rw [State.ctAt, hrep.ct, State.ct_ctPut, Tbl.at0_set0_same]
    · rw [State.ctAt, hrep.ct, State.ct_ctPut, Tbl.at0_set0_ne _ hj, State.ctAt]
end

section
/-!
Burned fuses stay burned (R418, R423, R487). The fuse array is written in three places: a burn that ends or is cut short adds
bits, ROM completes the groups of the life cycle, and a reset carries the array over; every other function of the model leaves
it. So `State.Burned.f` says that `s.f` has burned the bits that `s` has, and `f_burned` says so of a result, an answer or a
treatment `f`, in the order of the model and along the branches of each definition. A function that is only a store beside the
fuses has no lemma of its own: `State.Burned.beside`, `setReg`, `put` and `event` speak of it by its definition.
-/
namespace Sys2Proof.Machine

/-- The fuses `bits` are burned. -/
def State.Burned (bits : BitVec 1600) (s : State) : Prop := bits &&& s.boot.fuses = bits

variable {bits : BitVec 1600}

/-! ### What a result holds -/

/-- The state that comes first in a result has the bits burned. -/
def FstBurned (bits : BitVec 1600) {α : Type} (p : State × α) : Prop := p.1.Burned bits

/-- The state of a result that may fail has them burned. -/
def OptBurned (bits : BitVec 1600) (o : Option State) : Prop := ∀ t, o = some t → t.Burned bits

/-- The state of a result that may be an error code has them burned. -/
def ExcBurned (bits : BitVec 1600) (e : Except Nat State) : Prop := ∀ t, e = .ok t → t.Burned bits

/-- The state that an outcome goes on in has them burned. -/
def ResBurned (bits : BitVec 1600) (r : Res) : Prop := ∀ t, r = .next t → t.Burned bits

/-- A block engine's treatment of a command keeps the bits burned. -/
def BodyBurned (bits : BitVec 1600) (b : Body) : Prop := ∀ c s, s.Burned bits → FstBurned bits (b c s)

section
variable {s t : State} {α β : Type} {c : Prop} [Decidable c]

theorem State.Burned.ite {a b : State} (ha : a.Burned bits) (hb : b.Burned bits) : (if c then a else b).Burned bits :=
  iteInduction (motive := State.Burned bits) (fun _ => ha) (fun _ => hb)

/-- Only the fuses count: a change beside the boot state keeps the bits. -/
theorem State.Burned.beside {op : OpState} {straps : Straps} {regs : Tbl Word} {bat : Battery} {alarm : Alarm} {host : HostIf}
    {perf : Perf} {power : Power} {ports : Tbl PortSt} {cls : ClassSt} {ctx : CtxSt} {key : KeySt} {dom : DomSt}
    {pair : PairSt} {mem : MemSt} {rub : RubSt} {time : TimeSt} {sched : Tbl SchedSt} {flt : FilterSt} {ct : ContractSt}
    {rcv : RecoverySt} {path : PathSt} {cyc sec ns frac res free : Nat} {out : List Out} {pending : List Instr}
      (h : s.Burned bits) :
    State.Burned bits ⟨op, straps, regs, s.boot, bat, alarm, host, perf, power, ports, cls, ctx, key, dom, pair, mem, rub, time,
        sched, flt, ct, rcv, path, cyc, sec, ns, frac, res, free, out, pending⟩ := h

theorem State.Burned.setReg {a : Nat} {w : Word} (h : s.Burned bits) : (s.setReg a w).Burned bits := h.beside

theorem State.Burned.put {f : Fld} {v : Nat} (h : s.Burned bits) : (s.put f v).Burned bits := h.beside

theorem State.Burned.foldl {f : State → β → State} {l : List β} (h : s.Burned bits) (hf : ∀ t x, t.Burned bits →
  (f t x).Burned bits) :
    (l.foldl f s).Burned bits :=
  List.foldlRecOn (motive := State.Burned bits) l f h fun t ht x _ => hf t x ht

theorem State.Burned.each {f : β → State → State} {l : List β} (h : s.Burned bits) (hf : ∀ x t, t.Burned bits →
  (f x t).Burned bits) :
    (s.each l f).Burned bits := State.Burned.foldl h fun t x => hf x t

theorem FstBurned.mk {x : α} (h : s.Burned bits) : FstBurned bits (s, x) := h

theorem FstBurned.fst {p : State × α} (h : FstBurned bits p) : p.1.Burned bits := h

theorem FstBurned.fst_of {p : State × α} {x : α} (h : FstBurned bits p) (e : p = (t, x)) : t.Burned bits := by
  subst e
  exact h

theorem FstBurned.ite {p q : State × α} (hp : FstBurned bits p) (hq : FstBurned bits q) : FstBurned bits (if c then p else q) :=
  iteInduction (motive := FstBurned bits) (fun _ => hp) (fun _ => hq)

theorem FstBurned.foldl {f : State × α → β → State × α} {l : List β} {p : State × α} (h : FstBurned bits p)
    (hf : ∀ p x, FstBurned bits p → FstBurned bits (f p x)) : FstBurned bits (l.foldl f p) :=
  List.foldlRecOn (motive := FstBurned bits) l f h fun q hq x _ => hf q x hq

theorem OptBurned.none : OptBurned bits none := fun _ e => nomatch e

theorem OptBurned.some (h : s.Burned bits) : OptBurned bits (some s) := fun _ e => Option.some.inj e ▸ h

theorem OptBurned.of {o : Option State} (h : OptBurned bits o) (e : o = Option.some t) : t.Burned bits := h t e

theorem OptBurned.ite {o o' : Option State} (h : OptBurned bits o) (h' : OptBurned bits o') :
    OptBurned bits (if c then o else o') :=
  iteInduction (motive := OptBurned bits) (fun _ => h) (fun _ => h')

theorem ExcBurned.error {n : Nat} : ExcBurned bits (.error n) := fun _ e => nomatch e

theorem ExcBurned.ok (h : s.Burned bits) : ExcBurned bits (.ok s) := fun _ e => Except.ok.inj e ▸ h

theorem ExcBurned.of {r : Except Nat State} (h : ExcBurned bits r) (e : r = .ok t) : t.Burned bits := h t e

theorem ExcBurned.ite {r r' : Except Nat State} (h : ExcBurned bits r) (h' : ExcBurned bits r') :
    ExcBurned bits (if c then r else r') :=
  iteInduction (motive := ExcBurned bits) (fun _ => h) (fun _ => h')

theorem ResBurned.next (h : s.Burned bits) : ResBurned bits (.next s) := fun _ e => Host.Outcome.next.inj e ▸ h

theorem ResBurned.fault {f : Fault} : ResBurned bits (.fault f) := fun _ e => nomatch e

theorem ResBurned.of {r : Res} (h : ResBurned bits r) (e : r = .next t) : t.Burned bits := h t e

theorem ResBurned.ite {r r' : Res} (h : ResBurned bits r) (h' : ResBurned bits r') : ResBurned bits (if c then r else r') :=
  iteInduction (motive := ResBurned bits) (fun _ => h) (fun _ => h')

end

variable {s : State}

/-! ### The functions of Machine/Ops -/

theorem State.Burned.when {c : Bool} {f : State → State} (h : s.Burned bits) (hf : ∀ t, t.Burned bits → (f t).Burned bits) :
    (s.when c f).Burned bits :=
  .ite (hf _ h) h

theorem State.Burned.emit {o : Out} (h : s.Burned bits) : (s.emit o).Burned bits := h.beside

theorem State.Burned.message {fn v : Nat} (h : s.Burned bits) : (s.message fn v).Burned bits := .ite h.beside h.emit

theorem State.Burned.signal {n : Nat} (h : s.Burned bits) : (s.signal n).Burned bits := .ite h.beside.message h

theorem State.Burned.countWith {ovf : State → Nat → Nat → State} {e : Nat}
    (hovf : ∀ t r b, t.Burned bits → (ovf t r b).Burned bits) (h : s.Burned bits) : (s.countWith ovf e).Burned bits :=
  .ite h.beside (.ite (hovf _ _ _ h.beside.beside) h.beside.beside)

theorem State.Burned.blkAddWith {ovf : State → Nat → Nat → State} {i n : Nat}
    (hovf : ∀ t r b, t.Burned bits → (ovf t r b).Burned bits) (h : s.Burned bits) : (s.blkAddWith ovf i n).Burned bits :=
  .ite (hovf _ _ _ h.beside) h.beside

theorem State.Burned.cqWriteWith {ovf : State → Nat → Nat → State} {n : Nat} {head conts : List Byte}
    (hovf : ∀ t r b, t.Burned bits → (ovf t r b).Burned bits) (h : s.Burned bits) :
      (s.cqWriteWith ovf n head conts).Burned bits := by
  unfold State.cqWriteWith
  extract_lets _ _ _ _ _ _ s1
  have h1 : s1.Burned bits := h.each (fun _ _ h1 => h1.emit)
  exact (h1.emit.put.put.beside.countWith hovf).signal

theorem State.Burned.onRing {ovf : State → Nat → Nat → State} {ring kind dst seq : Nat} {payload : List Byte}
    (hovf : ∀ t r b, t.Burned bits → (ovf t r b).Burned bits) (h : s.Burned bits) :
      (s.onRing ovf ring kind dst seq payload).Burned bits :=
  .ite (.ite (h.emit.countWith hovf) h) (.ite (h.emit.countWith hovf) h)

theorem State.Burned.lathAgain {ovf : State → Nat → Nat → State} {kind dst seq : Nat} {payload : List Byte}
    (hovf : ∀ t r b, t.Burned bits → (ovf t r b).Burned bits) (h : s.Burned bits) :
      (s.lathAgain ovf kind dst seq payload).Burned bits :=
  .ite ((h.onRing hovf).onRing hovf) (h.onRing hovf)

theorem State.Burned.lathSendWith {ovf : State → Nat → Nat → State} {kind dst : Nat} {payload : List Byte}
    (hovf : ∀ t r b, t.Burned bits → (ovf t r b).Burned bits) (h : s.Burned bits) :
      (s.lathSendWith ovf kind dst payload).Burned bits :=
  h.beside.lathAgain hovf

theorem State.Burned.unicastWith {ovf : State → Nat → Nat → State} {kind dst : Nat} {payload : List Byte}
    {owner : Option (Nat × Nat)} (hovf : ∀ t r b, t.Burned bits → (ovf t r b).Burned bits) (h : s.Burned bits) :
    (s.unicastWith ovf kind dst payload owner).Burned bits :=
  (h.lathSendWith hovf).beside

theorem State.Burned.postTo {ovf : State → Nat → Nat → State} {r : EvRec} {n : Nat}
    (hovf : ∀ t r b, t.Burned bits → (ovf t r b).Burned bits) (h : s.Burned bits) : (s.postTo ovf r n).Burned bits :=
  .ite h (.ite (h.blkAddWith hovf).beside ((h.beside.cqWriteWith hovf).countWith hovf))

theorem State.Burned.postWith {ovf : State → Nat → Nat → State} {r : EvRec}
    (hovf : ∀ t r b, t.Burned bits → (ovf t r b).Burned bits) (h : s.Burned bits) : (s.postWith ovf r).Burned bits := by
  refine .ite (h.unicastWith hovf) ?_
  split
  · exact .ite h.beside h.beside
  · exact h.each (fun _ _ h1 => h1.postTo hovf)

theorem State.Burned.overflow {r b : Nat} (h : s.Burned bits) : (s.overflow r b).Burned bits :=
  .ite h.setReg (.ite (h.setReg.setReg.postWith (fun _ _ _ h1 => h1.setReg)) h.setReg.setReg)

theorem State.Burned.count {e : Nat} (h : s.Burned bits) : (s.count e).Burned bits := h.countWith (fun _ _ _ h1 => h1.overflow)

theorem State.Burned.blkAdd {i n : Nat} (h : s.Burned bits) : (s.blkAdd i n).Burned bits :=
  h.blkAddWith (fun _ _ _ h1 => h1.overflow)

theorem State.Burned.cqWrite {n : Nat} {head conts : List Byte} (h : s.Burned bits) : (s.cqWrite n head conts).Burned bits :=
  h.cqWriteWith (fun _ _ _ h1 => h1.overflow)

theorem State.Burned.post {r : EvRec} (h : s.Burned bits) : (s.post r).Burned bits := h.postWith (fun _ _ _ h1 => h1.overflow)

theorem State.Burned.lathSend {kind dst : Nat} {payload : List Byte} (h : s.Burned bits) :
    (s.lathSend kind dst payload).Burned bits :=
  h.lathSendWith (fun _ _ _ h1 => h1.overflow)

theorem State.Burned.unicast {kind dst : Nat} {payload : List Byte} {owner : Option (Nat × Nat)} (h : s.Burned bits) :
    (s.unicast kind dst payload owner).Burned bits :=
  h.unicastWith (fun _ _ _ h1 => h1.overflow)

theorem State.Burned.dma {addr : Nat} {bytes : List Byte} (h : s.Burned bits) : (s.dma addr bytes).Burned bits :=
  .ite h.unicast h.emit

theorem State.Burned.event {ev en b block code object v0 v1 v2 : Nat} (h : s.Burned bits) :
    (s.event ev en b block code object v0 v1 v2).Burned bits :=
  .ite h.setReg.post h.setReg

theorem State.Burned.statAdd {p i n : Nat} (h : s.Burned bits) : (s.statAdd p i n).Burned bits :=
  .ite (.ite h.beside.setReg.event (.ite h.beside.setReg.event h.beside.setReg.event)) h.beside

theorem State.Burned.stat {p i : Nat} (h : s.Burned bits) : (s.stat p i).Burned bits := h.statAdd

theorem State.Burned.rubEvent {b object : Nat} (h : s.Burned bits) : (s.rubEvent b object).Burned bits := h.event

theorem State.Burned.stnEvent {b : Nat} (h : s.Burned bits) : (s.stnEvent b).Burned bits := .ite h.setReg.post h.setReg

theorem State.Burned.unpoison {lo hi : Nat} (h : s.Burned bits) : (s.unpoison lo hi).Burned bits := h.beside

/-! ### The functions of Machine/Rings -/

theorem refuse_burned {code : Nat} (h : s.Burned bits) : FstBurned bits (refuse s code) := .mk h

theorem refuseAt_burned {code r0 : Nat} (h : s.Burned bits) : FstBurned bits (refuseAt s code r0) := .mk h

theorem dmaError_burned (h : s.Burned bits) : FstBurned bits (dmaError s) := .mk h

theorem State.Burned.flush {n : Nat} : ∀ {k : Nat} {s : State}, s.Burned bits → (s.flush n k).Burned bits
  | 0, _, h => h
  | k + 1, s, h => by
    unfold State.flush
    split
    · split
      · exact .flush (.ite h.beside.cqWrite h.beside)
      · exact h
    · exact h

theorem State.Burned.completeOrder1 {n order : Nat} {d : Completion} (h : s.Burned bits) :
    (s.completeOrder1 n order d).Burned bits := by
  unfold State.completeOrder1
  dsimp only
  split
  · exact h.beside.flush
  · exact h

theorem State.Burned.settle : ∀ {k : Nat} {s : State}, s.Burned bits → (s.settle k).Burned bits
  | 0, _, h => h
  | k + 1, s, h => by
    unfold State.settle
    split
    · exact h.beside.completeOrder1.settle
    · exact h

theorem State.Burned.complete {n : Nat} {tag : BitVec 16} {d : Completion} (h : s.Burned bits) :
    (s.complete n tag d).Burned bits := by
  unfold State.complete
  extract_lets _ _ _ _ s1
  have h1 : s1.Burned bits := .ite h.beside h
  exact h1.beside.flush.settle

theorem State.Burned.completeOrder {n order : Nat} {d : Completion} (h : s.Burned bits) :
    (s.completeOrder n order d).Burned bits :=
  h.completeOrder1.settle

theorem runLocal_burned {group op : Nat} {body : Body} {c : RingCmd} (hbody : BodyBurned bits body) (h : s.Burned bits) :
    FstBurned bits (runLocal group op body c s) :=
  .ite (refuse_burned h) (.ite (refuse_burned h) (.ite (.ite (refuse_burned h) (.ite (refuse_burned h) (.mk h.beside.put)))
      (.ite (refuse_burned h) (hbody _ _ h))))

theorem State.Burned.owe {n group op : Nat} {tag : BitVec 16} (h : s.Burned bits) : FstBurned bits (s.owe n tag group op) := by
  unfold State.owe
  split
  · exact .mk h
  · exact .mk h.beside.beside

theorem State.Burned.broadcastAnswer {ring order j : Nat} {d : Completion} (h : s.Burned bits) :
    (s.broadcastAnswer ring order j d).Burned bits := by
  unfold State.broadcastAnswer
  split
  · exact h
  · exact .ite h.beside.completeOrder h.beside

theorem State.Burned.finish {n group op : Nat} {c : RingCmd} {r : Reply} (h : s.Burned bits) :
    (s.finish n group op c r).Burned bits := by
  unfold State.finish
  extract_lets s1
  have h1 : s1.Burned bits := .ite h h.dma
  exact h1.complete

theorem State.Burned.broadcastCmd {n group op : Nat} {body : Body} {c : RingCmd} (h : s.Burned bits)
  (hbody : BodyBurned bits body) :
    (s.broadcastCmd n group op body c).Burned bits := by
  have howe : FstBurned bits (s.owe n c.tag group op) := h.owe
  have hrun : ∀ t, t.Burned bits → FstBurned bits (runLocal group op body c t) := fun _ => runLocal_burned hbody
  -- Unfolded as a constant, before its arguments: otherwise the kernel would evaluate the matches to compare them.
  generalize hf : State.broadcastCmd = f
  delta State.broadcastCmd at hf
  subst hf
  beta_reduce
  revert hrun
  generalize runLocal group op body c = run
  revert run
  refine forall_abstracted fun run hrun => ?_
  revert howe
  generalize s.owe n c.tag group op = q
  revert q
  refine forall_abstracted fun q hq => ?_
  split
  extract_lets _ _ s2 s3
  have h2 : s2.Burned bits := (hq.fst_of rfl).beside
  have h3 : s3.Burned bits := h2.each fun _ _ h1 => h1.unicast
  split
  rename_i s4 _ e
  have h4 : s4.Burned bits := (hrun _ h3).fst_of e
  exact State.Burned.broadcastAnswer (.ite h4 h4.dma)

theorem State.Burned.relayCmd {n group op target : Nat} {c : RingCmd} (h : s.Burned bits) :
    (s.relayCmd n group op target c).Burned bits :=
  h.owe.fst.unicast

theorem ringRun_burned {group op : Nat} {body : Body} {c : RingCmd} (hbody : BodyBurned bits body) (h : s.Burned bits) :
    (ringRun group op body c s).Burned bits := by
  unfold ringRun
  split
  · exact .ite h.complete (.ite h (.ite h (.ite h.complete (.ite (runLocal_burned hbody h).fst.finish
        (.ite (h.broadcastCmd hbody) (.ite h.relayCmd h.complete))))))
  · exact (runLocal_burned hbody h).fst

theorem ringExec_burned {group op : Nat} {body : Body} {c : RingCmd} (hbody : BodyBurned bits body) (h : s.Burned bits) :
    ResBurned bits (ringExec group op body c s) :=
  .next (ringRun_burned hbody h)

/-! ### The functions of Machine/Tables -/

theorem State.Burned.logRecord {kind : Nat} {e : BitVec 128} (h : s.Burned bits) : (s.logRecord kind e).Burned bits :=
  .ite h.dma.put h

theorem State.Burned.logAt {kind pos : Nat} (h : s.Burned bits) : (s.logAt kind pos).Burned bits := .ite h.beside.logRecord h

theorem State.Burned.fdbRemove {pos kind : Nat} (h : s.Burned bits) : (s.fdbRemove pos kind).Burned bits :=
  .ite h.beside h.beside.logRecord

theorem State.Burned.moveEntry {src dst : Nat} (h : s.Burned bits) : (s.moveEntry src dst).Burned bits :=
  h.beside.beside.beside.beside.beside.blkAdd.count

theorem State.Burned.runPath : ∀ {l : List Nat} {s : State}, s.Burned bits → (s.runPath l).Burned bits
  | [], _, h => h
  | [_], _, h => h
  | _ :: _ :: _, _, h => by
    unfold State.runPath
    exact h.moveEntry.runPath

theorem State.Burned.fdbInsert {e : BitVec 128} (h : s.Burned bits) : FstBurned bits (s.fdbInsert e) := by
  unfold State.fdbInsert
  dsimp only
  split
  · exact .mk h.beside.beside
  · exact .mk h.runPath.beside.beside
  · exact .mk h

theorem State.Burned.stashMove {pos : Nat} (h : s.Burned bits) : (s.stashMove pos).Burned bits := by
  refine .ite ?_ h
  split
  · exact h.moveEntry
  · exact h

theorem tceDone_burned {pos : Nat} (h : s.Burned bits) : FstBurned bits (tceDone s pos) := .mk h

theorem tceReadPos_burned : BodyBurned bits tceReadPos := fun _ _ h => .ite (refuse_burned h) (.mk h)

theorem tceSearch_burned : BodyBurned bits tceSearch := by
  intro _ s h
  refine .ite (refuse_burned h) ?_
  split
  · exact .mk h
  · exact refuse_burned h

theorem tceInsert_burned : BodyBurned bits tceInsert := by
  intro _ s h
  refine .ite (refuse_burned h) ?_
  split
  · exact refuseAt_burned h
  · refine .ite ?_ ?_
    · dsimp only
      split
      · exact tceDone_burned (.ite (h.fdbInsert.fst_of ‹_›) (h.fdbInsert.fst_of ‹_›).logAt)
      · exact refuse_burned h
    · split
      · exact tceDone_burned h.beside
      · exact refuse_burned h

theorem tceUpdate_burned : BodyBurned bits tceUpdate := by
  intro _ s h
  refine .ite (refuse_burned h) ?_
  split
  · exact refuse_burned h
  · exact .ite (.ite (refuse_burned h) (tceDone_burned (.ite h.beside h.beside.logAt))) (tceDone_burned h.beside)

theorem tceDelete_burned : BodyBurned bits tceDelete := by
  intro _ s h
  refine .ite (refuse_burned h) ?_
  split
  · exact refuse_burned h
  · exact .ite (.ite (refuse_burned h) (tceDone_burned h.fdbRemove)) (tceDone_burned h.beside)

theorem State.Burned.fdbFlush {kind : Nat} {hit : BitVec 128 → Bool} (h : s.Burned bits) : (s.fdbFlush kind hit).Burned bits :=
  h.each (fun _ _ h1 => h1.fdbRemove)

theorem tceFlush_burned : BodyBurned bits tceFlush := fun _ _ h => .ite (refuse_burned h) (.mk h.fdbFlush)

theorem tceWritePos_burned : BodyBurned bits tceWritePos :=
  fun _ _ h => .ite (refuse_burned h) (.ite (.ite (refuse_burned h) (tceDone_burned h.beside))
      (.ite (tceDone_burned h.beside) (tceDone_burned h.beside)))

theorem State.Burned.faceAnswer {r : Reply} (h : s.Burned bits) : (s.faceAnswer r).Burned bits :=
  .ite h.beside.put.put.put (h.beside.put.put.put.each (fun _ _ h1 => h1.setReg))

theorem tceRun_burned {op : Nat} {body : Body} {c : RingCmd} (hbody : BodyBurned bits body) (h : s.Burned bits) :
    (tceRun op body c s).Burned bits := by
  unfold tceRun
  split
  · split
    · exact .ite (hbody _ _ h.count).fst.faceAnswer h
    · exact h
  · exact ringRun_burned (fun _ _ h1 => hbody _ _ h1.count) h

theorem execMoveRegisterClear_burned (h : s.Burned bits) : ResBurned bits (execMoveRegisterClear s) := by
  unfold execMoveRegisterClear
  dsimp only
  split
  · exact .next (tceRun_burned tceInsert_burned h.beside.beside)
  · exact .next h.beside

theorem State.Burned.learnRequest {r : LearnReq} (h : s.Burned bits) : (s.learnRequest r).Burned bits :=
  .ite h.count.beside (.ite h.count.beside h.count.blkAdd.event)

theorem execLearnQueueServe_burned (h : s.Burned bits) : ResBurned bits (execLearnQueueServe s) := by
  unfold execLearnQueueServe
  split
  · exact .next h
  · dsimp only
    split
    · exact .ite (.next h.beside.count) (.ite (.next h.beside.count.beside) (.next h.beside.count.beside.beside.logAt.blkAdd))
    · split
      · exact .next h
      · split
        · exact .next (h.beside.count.fdbInsert.fst_of ‹_›).logAt.blkAdd
        · exact .next (h.beside.count.fdbInsert.fst_of ‹_›).blkAdd.event

theorem execAgeSweepVisit_burned {pos : Fin 65568} (h : s.Burned bits) : ResBurned bits (execAgeSweepVisit pos s) := by
  refine .ite (.next (.ite h.stashMove h)) ?_
  suffices h1 : State.Burned bits _ by
    exact .next (.ite h1.stashMove h1)
  exact .ite h.beside.beside (.ite h.beside h.fdbRemove.blkAdd)

theorem State.Burned.bgcRepair {d : Diff} (h : s.Burned bits) : (s.bgcRepair d).Burned bits := by
  unfold State.bgcRepair
  dsimp only
  split
  · split
    · exact (h.fdbInsert.fst_of ‹_›).blkAdd
    · exact (h.fdbInsert.fst_of ‹_›)
  · exact h.beside.blkAdd
  · exact h.fdbRemove.blkAdd
  · split
    · exact h.beside.blkAdd
    · exact h
  · exact h.beside.blkAdd
  · exact h.beside.blkAdd
  · exact h.beside.blkAdd
  · exact h.beside.blkAdd
  · exact h

theorem State.Burned.bgcPost {d : Diff} (h : s.Burned bits) : (s.bgcPost d).Burned bits :=
  .ite (.ite h.setReg.blkAdd.post h.setReg.blkAdd.post) h.setReg.blkAdd

/-! ### The functions of Machine/Contexts -/

theorem State.Burned.ctxPut {n : Nat} {w : BitVec 2048} (h : s.Burned bits) : (s.ctxPut n w).Burned bits := h.beside

theorem State.Burned.keyGauges (h : s.Burned bits) : s.keyGauges.Burned bits := h.put.put

theorem State.Burned.slotPlace {k : Nat} (h : s.Burned bits) : OptBurned bits (s.slotPlace k) := by
  refine .ite (.some h) (.ite (.some h.beside.keyGauges) ?_)
  split
  · exact .some h.beside.count.keyGauges
  · exact .none

theorem State.Burned.slotsPlace : ∀ {l : List Nat} {s : State}, s.Burned bits → OptBurned bits (s.slotsPlace l)
  | [], _, h => .some h
  | k :: rest, s, h => by
    unfold State.slotsPlace
    refine .ite ?_ h.slotsPlace
    split
    · exact (h.slotPlace.of ‹_›).slotsPlace
    · exact .none

theorem State.Burned.setCached {g : Nat} {l : List Nat} (h : s.Burned bits) : (s.setCached g l).Burned bits := h.beside.put.put

theorem State.Burned.ctxPlace {g n : Nat} (h : s.Burned bits) : (s.ctxPlace g n).Burned bits := by
  refine .ite h.setCached (.ite h.setCached ?_)
  split
  · exact h.setCached.count
  · exact h

theorem State.Burned.keepResident {n : Nat} (h : s.Burned bits) : OptBurned bits (s.keepResident n) := by
  unfold State.keepResident
  split
  · split
    · exact .some (h.slotsPlace.of ‹_›).ctxPlace
    · exact .some (h.slotsPlace.of ‹_›)
  · exact .none

theorem State.Burned.ctxUncache {n : Nat} (h : s.Burned bits) : (s.ctxUncache n).Burned bits :=
  h.each (fun _ _ h1 => .ite h1.setCached h1)

theorem State.Burned.quarantine {n cause : Nat} (h : s.Burned bits) : (s.quarantine n cause).Burned bits := .ite h h.ctxPut.post

theorem State.Burned.setTxGen {n g : Nat} (h : s.Burned bits) : (s.setTxGen n g).Burned bits := .ite h h.ctxPut

theorem State.Burned.setFlip {f : Nat} {x : FlipSet} (h : s.Burned bits) : (s.setFlip f x).Burned bits := h.beside.put

theorem State.Burned.setPend {m : FlipMember} {f : Nat} {on : Bool} (h : s.Burned bits) : (s.setPend m f on).Burned bits := by
  unfold State.setPend
  split
  · exact h.beside
  · exact h.ctxPut

theorem State.Burned.flipMember {x : FlipMember} (h : s.Burned bits) : (s.flipMember x).Burned bits := by
  unfold State.flipMember
  split
  · exact h.beside
  · exact h.setTxGen

theorem State.Burned.fireFlip {f t : Nat} (h : s.Burned bits) : (s.fireFlip f t).Burned bits :=
  (h.each (fun _ _ h1 => h1.flipMember)).setFlip

theorem ctxInstall_burned : BodyBurned bits ctxInstall := by
  intro _ s h
  refine .ite (refuse_burned h) (.ite (refuse_burned h) (.ite (refuse_burned h)
      (.ite (refuse_burned h) (.ite (refuse_burned h) (.ite (refuse_burned h)
      (.ite (refuse_burned h) (.ite (refuse_burned h) (.ite (refuse_burned h) (.ite (refuse_burned h) ?_)))))))))
  extract_lets _ s1
  have h1 : s1.Burned bits := .unpoison (.ctxPut (.ite h.ctxUncache h))
  refine .ite ?_ (.mk h1)
  split
  · exact .mk (h1.keepResident.of ‹_›)
  · exact refuse_burned h

theorem ctxRead_burned : BodyBurned bits ctxRead :=
  fun _ _ h => .ite (refuse_burned h) (.ite (refuse_burned h) (.ite (.mk h) (.mk h)))

theorem ctxEnable_burned : BodyBurned bits ctxEnable := by
  intro _ s h
  refine .ite (refuse_burned h) (.ite (refuse_burned h) (.ite (refuse_burned h)
      (.ite (refuse_burned h) (.ite (.ite ?_ (.mk h.ctxPut)) (.mk h.ctxPut)))))
  split
  · exact .mk (h.ctxPut.keepResident.of ‹_›)
  · exact refuse_burned h

theorem ctxRetire_burned : BodyBurned bits ctxRetire :=
  fun _ _ h => .ite (refuse_burned h) (.ite (refuse_burned h) (.ite (.ite (refuse_burned h) (.mk h.ctxPut))
      (.ite (refuse_burned h) (.mk h.ctxPut))))

theorem ctxSelect_burned : BodyBurned bits ctxSelect := by
  intro _ s h
  refine .ite (.ite (refuse_burned h) (.ite (refuse_burned h) (.ite (refuse_burned h) ?_)))
      (.ite (refuse_burned h) (.ite (refuse_burned h) (.ite (refuse_burned h) (.mk h.setTxGen))))
  split
  · exact .mk (h.beside.keepResident.of ‹_›)
  · exact refuse_burned h

theorem ctxFree_burned : BodyBurned bits ctxFree :=
  fun _ _ h => .ite (refuse_burned h) (.ite (.mk h) (.ite (refuse_burned h) (.ite (refuse_burned h) (.mk h.ctxPut.ctxUncache))))

theorem State.Burned.pinCtx {n g : Nat} {ref : Bool} (h : s.Burned bits) : (s.pinCtx n g ref).Burned bits := by
  unfold State.pinCtx
  extract_lets _ s1
  have h1 : s1.Burned bits := .ite h.ctxPut h
  exact h1.beside.ctxPlace

theorem State.Burned.unrefCtx {n : Nat} (h : s.Burned bits) : (s.unrefCtx n).Burned bits := .ite h.beside h.beside.ctxUncache

theorem ctxPin_burned : BodyBurned bits ctxPin :=
  fun _ _ h => .ite (refuse_burned h) (.ite (refuse_burned h) (.ite (refuse_burned h)
      (.ite (refuse_burned h) (.ite (.mk h) (.ite (refuse_burned h) (.ite (refuse_burned h) (.mk h.pinCtx)))))))

theorem ctxUnpin_burned : BodyBurned bits ctxUnpin :=
  fun _ _ h => .ite (refuse_burned h) (.ite (refuse_burned h) (.ite (refuse_burned h) (.mk h.beside.setCached)))

theorem ctxClearCnt_burned : BodyBurned bits ctxClearCnt :=
  fun _ _ h => .ite (refuse_burned h) (.ite (refuse_burned h) (.mk h.ctxPut))

theorem scmAdd_burned : BodyBurned bits scmAdd := by
  intro _ s h
  refine .ite (refuse_burned h) (.ite (refuse_burned h) ?_)
  split
  · exact .mk h.beside.put
  · exact refuse_burned h

theorem scmDelete_burned : BodyBurned bits scmDelete := by
  intro _ s h
  refine .ite (refuse_burned h) ?_
  split
  · exact refuse_burned h
  · exact .ite (refuse_burned h) (.mk h.beside.put)

theorem flipAdd_burned : BodyBurned bits flipAdd :=
  fun _ _ h => .ite (refuse_burned h) (.ite (.ite (refuse_burned h) (.ite (refuse_burned h)
      (.ite (refuse_burned h) (.ite (refuse_burned h) (.mk h.setPend.setFlip)))))
      (.ite (refuse_burned h) (.ite (refuse_burned h) (.ite (refuse_burned h) (.ite (refuse_burned h)
        (.mk h.setPend.setFlip))))))

theorem State.Burned.keepAll : ∀ {l : List Nat} {s : State}, s.Burned bits → OptBurned bits (s.keepAll l)
  | [], _, h => .some h
  | n :: rest, s, h => by
    unfold State.keepAll
    split
    · exact (h.keepResident.of ‹_›).keepAll
    · exact .none

theorem flipArm_burned : BodyBurned bits flipArm := by
  intro _ s h
  refine .ite (refuse_burned h) (.ite (refuse_burned h) ?_)
  dsimp only
  split
  · exact refuse_burned h
  · exact .mk (h.keepAll.of ‹_›).setFlip

theorem flipCancel_burned : BodyBurned bits flipCancel :=
  fun _ _ h => .ite (refuse_burned h) (.ite (refuse_burned h) (.mk (h.each (fun _ _ h1 => h1.setPend)).setFlip))

theorem flipStatus_burned : BodyBurned bits flipStatus := fun _ _ h => .ite (refuse_burned h) (.mk h)

theorem secyTxRead_burned : BodyBurned bits secyTxRead := fun _ _ h => .ite (refuse_burned h) (.mk h)

theorem State.Burned.lockWrite {differs : Bool} (h : s.Burned bits) : (s.lockWrite differs).Burned bits := .ite h.event h

theorem execCtxLeapLoWrite_burned {v : Word} (h : s.Burned bits) : ResBurned bits (execCtxLeapLoWrite v s) :=
  .ite (.next h.beside) (.next h.lockWrite)

theorem execCtxLeapHiWrite_burned {v : Word} (h : s.Burned bits) : ResBurned bits (execCtxLeapHiWrite v s) :=
  .ite (.ite (.next h.beside.put.put) (.next h.beside.post)) (.next h.lockWrite)

/-! ### The functions of Machine/Keys -/

theorem State.Burned.usesEvents {k old new : Nat} (h : s.Burned bits) : (s.usesEvents k old new).Burned bits := by
  unfold State.usesEvents
  extract_lets _ s1
  have h1 : s1.Burned bits := h.when (fun _ h1 => h1.event)
  exact h1.when (fun _ h2 => h2.event)

theorem State.Burned.spend {k : Nat} (h : s.Burned bits) : (s.spend k).Burned bits := .ite h h.beside.usesEvents

theorem State.Burned.touch {k : Nat} (h : s.Burned bits) : (s.touch k).Burned bits := by
  refine .ite (.ite h.beside h) ?_
  dsimp only
  split
  · exact (h.count.slotPlace.of ‹_›)
  · exact h.count

theorem State.Burned.fill {k : Nat} {attr : BitVec 128} {key : BitVec 256} {fromRoot : Bool} (h : s.Burned bits) :
    (s.fill k attr key fromRoot).Burned bits := by
  unfold State.fill
  extract_lets _ _ _ s1
  have h1 : s1.Burned bits := .ite h.beside.unpoison h.beside
  split
  · exact (h1.slotPlace.of ‹_›)
  · exact h1

theorem State.Burned.formSlot {d usage id : Nat} {label : String} (h : s.Burned bits) :
    (s.formSlot d usage label id).Burned bits :=
  .ite h.beside h.beside

theorem State.Burned.formPair (h : s.Burned bits) : s.formPair.Burned bits := h.formSlot.formSlot

theorem State.Burned.formRootKeys (h : s.Burned bits) : s.formRootKeys.Burned bits := h.beside.formPair.formSlot

theorem State.Burned.quarSlot {k : Nat} (h : s.Burned bits) : (s.quarSlot k).Burned bits := .ite h h.beside.event

theorem orElse_burned {o : Option Nat} {k : State × Reply} (h : s.Burned bits) (h0 : FstBurned bits k) :
    FstBurned bits (orElse o s k) := by
  unfold orElse
  split
  · exact refuse_burned h
  · exact h0

theorem keyImportKw_burned : BodyBurned bits keyImportKw := by
  intro _ s h
  refine .ite (refuse_burned h) (orElse_burned h (orElse_burned h ?_))
  dsimp only
  split
  · exact .mk h.touch.spend.fill
  · exact .mk h.touch.spend

theorem keyImportXw_burned : BodyBurned bits keyImportXw := by
  intro _ s h
  refine .ite (refuse_burned h) (orElse_burned h (orElse_burned h (.ite (refuse_burned h) ?_)))
  dsimp only
  split
  · exact .mk h.touch.spend.fill
  · exact .mk h.touch.spend

theorem keyGenerate_burned : BodyBurned bits keyGenerate :=
  fun _ _ h => .ite (refuse_burned h) (orElse_burned h (.mk h.beside.fill))

theorem keyDerive_burned : BodyBurned bits keyDerive :=
  fun _ _ h => .ite (refuse_burned h) (.ite (.ite (refuse_burned h) (.ite (refuse_burned h) (orElse_burned h (.mk h.fill))))
      (orElse_burned h (orElse_burned h (.mk h.touch.spend.fill))))

theorem keyExport_burned {form : State → Nat → Nat → List Byte} : BodyBurned bits (keyExport form) :=
  fun _ _ h => .ite (refuse_burned h) (orElse_burned h (orElse_burned h (.mk h.touch.spend.touch)))

theorem keyExportKw_burned : BodyBurned bits keyExportKw := fun _ _ h => keyExport_burned _ _ h

theorem keyExportXw_burned : BodyBurned bits keyExportXw := fun _ _ h => keyExport_burned _ _ h

theorem keyCmac_burned {bit : BF} {answer : List Byte → RingCmd → Reply} : BodyBurned bits (keyCmac bit answer) := by
  intro _ s h
  refine .ite (refuse_burned h) ?_
  split
  · exact dmaError_burned h
  · exact orElse_burned h (.mk h.touch.spend)

theorem keyCmacGen_burned : BodyBurned bits keyCmacGen := fun _ _ h => keyCmac_burned _ _ h

theorem keyCmacVerify_burned : BodyBurned bits keyCmacVerify := fun _ _ h => keyCmac_burned _ _ h

theorem keyAttrRead_burned : BodyBurned bits keyAttrRead := fun _ _ h => .ite (refuse_burned h) (.mk h)

theorem keyAttrReduce_burned : BodyBurned bits keyAttrReduce :=
  fun _ _ h => .ite (refuse_burned h) (orElse_burned h (.mk h.beside.usesEvents))

theorem keyPin_burned : BodyBurned bits keyPin := by
  intro _ s h
  refine .ite (refuse_burned h) (orElse_burned h (.ite (.mk h) (.ite (refuse_burned h) ?_)))
  split
  · exact .mk ((h.when (fun _ h1 => h1.count)).slotPlace.of ‹_›).beside.keyGauges
  · exact refuse_burned h

theorem keyUnpin_burned : BodyBurned bits keyUnpin :=
  fun _ _ h => .ite (refuse_burned h) (orElse_burned h (.ite (refuse_burned h) (.mk h.beside.keyGauges)))

theorem keyFree_burned : BodyBurned bits keyFree :=
  fun _ _ h => .ite (refuse_burned h) (.ite (refuse_burned h) (.mk h.beside.beside.keyGauges))

theorem rootInject_burned : BodyBurned bits rootInject := by
  intro _ s h
  refine .ite (refuse_burned h) ?_
  split
  · exact refuse_burned h
  · exact .ite (refuse_burned h) (.mk h.beside.formRootKeys.event)

theorem rootErase_burned : BodyBurned bits rootErase := by
  intro _ s h
  refine .ite (refuse_burned h) ?_
  split
  · exact refuse_burned h
  · exact .mk h.beside.beside

theorem rootStatus_burned : BodyBurned bits rootStatus := fun _ _ h => .ite (refuse_burned h) (.mk h)

theorem keyExec_burned {op : Nat} {body : Body} {c : RingCmd} (hbody : BodyBurned bits body) (h : s.Burned bits) :
    ResBurned bits (keyExec op body c s) :=
  .ite (.next h) (ringExec_burned (fun _ _ h1 => hbody _ _ h1.count) h)

theorem execKeyGroupIdWrite_burned {v : Word} (h : s.Burned bits) : ResBurned bits (execKeyGroupIdWrite v s) :=
  .ite (.next ((h.put.put.when (fun _ h1 => h1.formPair)).when (fun _ h1 => h1.formSlot))) (.next h.lockWrite)

/-! ### The functions of Machine/GateOps -/

theorem State.Burned.setStart {p : Nat} {g : Start} (h : s.Burned bits) : (s.setStart p g).Burned bits := h.beside

theorem State.Burned.dropStart {p mac : Nat} (h : s.Burned bits) : (s.dropStart p mac).Burned bits := h.beside

/-! ### The functions of Machine/Recovery -/

theorem srcRead_burned : BodyBurned bits srcRead := fun _ _ h => .ite (refuse_burned h) (.mk h)

theorem srcWrite_burned : BodyBurned bits srcWrite :=
  fun _ _ h => .ite (refuse_burned h) (.ite (refuse_burned h) (.mk h.beside))

theorem State.Burned.stnPost {k kind ch smp detail sec ns tail : Nat} (h : s.Burned bits) :
    (s.stnPost k kind ch smp detail sec ns tail).Burned bits :=
  .ite h.post h

theorem State.Burned.stnOnce {k slot : Nat} {f : State → State} (h : s.Burned bits) (hf : ∀ t, t.Burned bits →
  (f t).Burned bits) :
    (s.stnOnce k slot f).Burned bits :=
  .ite h (hf _ h.beside)

theorem State.Burned.stnQueue {a : Asdu} (h : s.Burned bits) : (s.stnQueue a).Burned bits := .ite h.blkAdd.stnEvent h.beside.put

theorem State.Burned.stnContinuity {a : Asdu} (h : s.Burned bits) : (s.stnContinuity a).Burned bits := by
  unfold State.stnContinuity
  dsimp only
  split
  · exact h.beside
  · exact .ite h.beside (.ite h.beside.beside.stnPost h.beside.stnPost)

theorem State.Burned.stnTiming {a : Asdu} (h : s.Burned bits) : (s.stnTiming a).Burned bits :=
  .ite (.ite (h.beside.stnOnce (fun _ h1 => h1.stnPost)) (.ite (h.beside.stnOnce (fun _ h1 => h1.stnPost)) h)) h

theorem State.Burned.stnQuality {a : Asdu} (h : s.Burned bits) : (s.stnQuality a).Burned bits := by
  unfold State.stnQuality
  extract_lets _ _ _ s1
  have h1 : s1.Burned bits := h.beside.when (fun _ h1 => h1.beside)
  exact h1.each (fun _ _ h2 => .ite h2.stnPost (.ite h2.stnPost h2))

theorem State.Burned.stnCompare {lo sec ns : Nat} {x y : Sample} (h : s.Burned bits) :
    (s.stnCompare lo x y sec ns).Burned bits :=
  h.each (fun _ _ h1 => .ite h1 (.ite h1.beside.stnPost (.ite h1.beside.stnPost h1.beside)))

theorem State.Burned.stnMiss {k : Nat} {x : Sample} (h : s.Burned bits) : (s.stnMiss k x).Burned bits := by
  unfold State.stnMiss
  exact h.beside.stnOnce (fun _ h1 => h1.stnPost)

theorem State.Burned.stnPair {a : Asdu} {values : List ℤ} {bad : Nat} (h : s.Burned bits) :
    (s.stnPair a values bad).Burned bits := by
  unfold State.stnPair
  split
  · exact h
  · extract_lets x dj
    split
    · exact .ite h.beside.stnCompare h.beside.stnCompare
    · refine .ite ?_ h.beside
      split
      · exact h.beside.stnMiss
      · exact h.beside

theorem execStnAsduExamine_burned (h : s.Burned bits) : ResBurned bits (execStnAsduExamine s) := by
  unfold execStnAsduExamine
  split
  · exact .next h
  · exact .ite (.next h.beside.put) (.ite (.next h.beside.put.blkAdd.stnPost)
        (.next h.beside.put.beside.beside.stnContinuity.stnTiming.stnQuality.stnPair))

theorem execStnPairWaitExpire_burned {k : Fin 4096} {smp : BitVec 16} (h : s.Burned bits) :
    ResBurned bits (execStnPairWaitExpire k smp s) := by
  unfold execStnPairWaitExpire
  dsimp only
  split
  · exact .next h
  · exact .next h.beside.stnMiss

theorem stnRead_burned : BodyBurned bits stnRead := fun _ _ h => .ite (refuse_burned h) (.mk h)

theorem stnWrite_burned : BodyBurned bits stnWrite :=
  fun _ _ h => .ite (refuse_burned h) (.ite (refuse_burned h) (.mk h.beside.beside))

theorem stnClearCnt_burned : BodyBurned bits stnClearCnt := fun _ _ h => .ite (refuse_burned h) (.mk h.beside)

/-! ### The functions of Machine/Filters -/

theorem State.Burned.colour {k len : Nat} (h : s.Burned bits) : FstBurned bits (s.colour k len) :=
  .ite (.mk h.beside) (.ite (.mk h.beside) (.ite (.mk h.beside) (.mk (.ite h.beside.beside h.beside))))

theorem State.Burned.refund {k len : Nat} {c : Colour} (h : s.Burned bits) : (s.refund k len c).Burned bits := by
  unfold State.refund
  extract_lets _
  split
  split
  · exact h.beside
  · exact h.beside
  · exact h

theorem fltWrite_burned : BodyBurned bits fltWrite :=
  fun _ _ h => .ite (refuse_burned h) (.ite (refuse_burned h) (.mk h.beside))

theorem fltRead_burned : BodyBurned bits fltRead := fun _ _ h => .ite (refuse_burned h) (.mk h)

theorem mtrWrite_burned : BodyBurned bits mtrWrite :=
  fun _ _ h => .ite (refuse_burned h) (.ite (refuse_burned h) (.mk h.beside.beside))

theorem mtrRead_burned : BodyBurned bits mtrRead := fun _ _ h => .ite (refuse_burned h) (.mk h)

theorem fltUnblock_burned : BodyBurned bits fltUnblock :=
  fun _ _ h => .ite (refuse_burned h) (.ite (refuse_burned h) (.mk h.beside))

theorem mtrUnmark_burned : BodyBurned bits mtrUnmark :=
  fun _ _ h => .ite (refuse_burned h) (.ite (refuse_burned h) (.mk h.beside))

theorem fltClearCnt_burned : BodyBurned bits fltClearCnt :=
  fun _ _ h => .ite (refuse_burned h) (.ite (refuse_burned h) (.mk h.beside))

/-! ### The functions of Machine/Path -/

theorem State.Burned.setFrame {f : FrameRec} (h : s.Burned bits) : (s.setFrame f).Burned bits := h.beside

theorem State.Burned.setQueue {p c : Nat} {q : List Copy} (h : s.Burned bits) : (s.setQueue p c q).Burned bits := h.beside

theorem State.Burned.setLine {p : Nat} {l : LineSt} (h : s.Burned bits) : (s.setLine p l).Burned bits := h.beside

theorem State.Burned.reap {id : Nat} (h : s.Burned bits) : (s.reap id).Burned bits := .ite h h.beside

theorem State.Burned.tally {x : Tally} (h : s.Burned bits) : (s.tally x).Burned bits := by
  unfold State.tally
  split
  · exact h
  · exact h.blkAdd
  · exact h.stat
  · exact h.ctxPut
  · exact h.beside

theorem State.Burned.settleLater {f : FrameRec} (h : s.Burned bits) : (s.settleLater f).Burned bits :=
  (h.each (fun _ _ h1 => h1.tally)).each (fun _ _ h1 => h1.count)

theorem State.Burned.ctLost {x : Option Nat} (h : s.Burned bits) : (s.ctLost x).Burned bits := by
  unfold State.ctLost
  split
  · exact h
  · exact h.beside.event

theorem State.Burned.ctNonconf {x : Option Nat} (h : s.Burned bits) : (s.ctNonconf x).Burned bits := by
  unfold State.ctNonconf
  split
  · exact h
  · exact h.beside

theorem State.Burned.ctDelivered {n res : Nat} (h : s.Burned bits) : (s.ctDelivered n res).Burned bits :=
  .ite h.beside.beside h.beside.beside.event

theorem State.Burned.txDone {ring tag result : Nat} (h : s.Burned bits) : (s.txDone ring tag result).Burned bits := by
  unfold State.txDone
  extract_lets s1
  have h1 : s1.Burned bits := h.when (fun _ h1 => h1.blkAdd.event)
  exact .ite h1.cqWrite h1

theorem State.Burned.hostDone {c : Copy} {result : Nat} (h : s.Burned bits) : (s.hostDone c result).Burned bits := by
  unfold State.hostDone
  split
  · exact h.txDone
  · exact h

theorem State.Burned.takeToken {r : Nat} (h : s.Burned bits) : OptBurned bits (s.takeToken r) :=
  .ite (.some h) (.ite .none (.some h.beside))

theorem State.Burned.pf2Write {frame : List Byte} {i : RxInfo} (h : s.Burned bits) : (s.pf2Write frame i).Burned bits := by
  refine .ite h.blkAdd.event ?_
  split
  · exact h.blkAdd.event
  · refine .ite h.blkAdd.event ?_
    split
    · exact h.blkAdd.event
    · exact .count (FstBurned.fst (.foldl (.mk (h.takeToken.of ‹_›).beside) (fun _ _ h1 => .mk h1.fst.emit.cqWrite)))

theorem State.Burned.pf2Deliver {frame : List Byte} {i : RxInfo} (h : s.Burned bits) : (s.pf2Deliver frame i).Burned bits :=
  .ite h.lathSend h.pf2Write

theorem State.Burned.twinStart {p m : Nat} {c : Copy} {spoiled : Bool} (h : s.Burned bits) :
    (s.twinStart p m c spoiled).Burned bits := by
  refine .ite h ?_
  dsimp only
  split
  · exact .ite h.beside h.beside
  · exact h.beside

theorem State.Burned.setExtra {sl : Nat} {l : List Extra} (h : s.Burned bits) : (s.setExtra sl l).Burned bits := h.beside.put

theorem State.Burned.copyGone {p : Nat} {c : Copy} (h : s.Burned bits) : (s.copyGone p c).Burned bits := by
  unfold State.copyGone
  extract_lets _ s2 s3
  have h1 : s2.Burned bits := by
    unfold s2
    split
    · exact h.ctLost.hostDone.dropStart
    · exact h.ctLost.hostDone
  have h2 : s3.Burned bits := by
    refine .ite ?_ h1
    split
    · exact .ite h1.put h1
    · exact h1
  exact .ite h2.setExtra h2

theorem State.Burned.purge {p : Nat} {test : Copy → Bool} {gone : Nat → Copy → State → State} (h : s.Burned bits)
    (hgone : ∀ q c t, t.Burned bits → (gone q c t).Burned bits) : (s.purge p test gone).Burned bits :=
  h.each (fun _ _ h1 => h1.setQueue.foldl (fun _ _ h2 => hgone _ _ _ h2.copyGone))

theorem State.Burned.discardStored {id : Nat} (h : s.Burned bits) : (s.discardStored id).Burned bits :=
  h.each (fun _ _ h1 => h1.purge (fun _ _ _ h2 => h2))

theorem State.Burned.abortLine {p : Nat} (h : s.Burned bits) : (s.abortLine p).Burned bits := by
  unfold State.abortLine
  dsimp only
  split
  · refine .emit (.stat (.when (.copyGone ?_) (fun _ h1 => h1.twinStart)))
    split
    · exact (h.setLine.copyGone.when (fun _ h1 => h1.twinStart)).stat.emit
    · exact h.setLine
  · split
    · exact (h.setLine.copyGone.when (fun _ h1 => h1.twinStart)).stat.emit
    · exact h.setLine

theorem State.Burned.dropQueues {p : Nat} (h : s.Burned bits) : (s.dropQueues p).Burned bits :=
  h.purge (fun _ _ _ h1 => h1.stat)

theorem State.Burned.frameGone {f : FrameRec} {r : Nat} (h : s.Burned bits) : (s.frameGone f r).Burned bits := by
  unfold State.frameGone
  extract_lets _ s2 s3
  have h1 : s2.Burned bits := h.discardStored.setFrame
  have h2 : s3.Burned bits := by
    unfold s3
    split
    · exact h1.refund
    · exact h1
  exact h2.reap

/-! ### The functions of Machine/Perf -/

theorem State.Burned.showSnapshot (h : s.Burned bits) : s.showSnapshot.Burned bits := by
  unfold State.showSnapshot
  split
  · exact h
  · split
    · exact h.beside.put
    · exact h.beside

theorem State.Burned.dumpLoss (h : s.Burned bits) : s.dumpLoss.Burned bits := h.beside.blkAdd.event

theorem State.Burned.snapshot {periodic : Bool} (h : s.Burned bits) : (s.snapshot periodic).Burned bits :=
  .ite h.showSnapshot.dumpLoss h.showSnapshot.beside.beside

theorem execSnapAtFire_burned (h : s.Burned bits) : ResBurned bits (execSnapAtFire s) := by
  unfold execSnapAtFire
  split
  · exact .ite (.next h.beside.snapshot) (.next h)
  · exact .next h

theorem State.Burned.dumpRecord {b : Nat} (h : s.Burned bits) : (s.dumpRecord b).Burned bits := by
  unfold State.dumpRecord
  split
  · exact h
  · refine .ite h.beside.dumpLoss ?_
    extract_lets _ _ _ s2
    have h1 : s2.Burned bits := h.beside.when (fun _ h1 => h1.dma)
    exact (h1.dma.put.beside.when (fun _ h2 => h2.event)).event

theorem execDumpRecordWrite_burned (h : s.Burned bits) : ResBurned bits (execDumpRecordWrite s) := by
  refine .ite (.next h) ?_
  split
  · exact .next h.dumpRecord
  · exact .next h

theorem perfSnapshot_burned : BodyBurned bits perfSnapshot := fun _ _ h => .mk h.snapshot

theorem perfSnapAt_burned : BodyBurned bits perfSnapAt :=
  fun _ _ h => .ite (refuse_burned h) (.ite (refuse_burned h) (.mk h.beside))

theorem perfDump_burned : BodyBurned bits perfDump := by
  intro _ s h
  unfold perfDump
  split
  · exact .mk h.dumpRecord
  · exact refuse_burned h

theorem perfRead_burned : BodyBurned bits perfRead := fun _ _ h => .ite (refuse_burned h) (.mk h)

/-! ### The functions of Machine/Ports -/

theorem State.Burned.applyTw {p : Nat} (h : s.Burned bits) : (s.applyTw p).Burned bits := .ite h h.beside.put.event

theorem State.Burned.sleepTx {p : Nat} (h : s.Burned bits) : (s.sleepTx p).Burned bits := h.beside.put.stat.emit

theorem State.Burned.endQuiet {p : Nat} (h : s.Burned bits) : (s.endQuiet p).Burned bits := by
  unfold State.endQuiet
  split
  · exact h.statAdd.beside
  · exact h

theorem State.Burned.wakeTx {p : Nat} (h : s.Burned bits) : (s.wakeTx p).Burned bits := .ite h.endQuiet.beside.emit h

theorem State.Burned.wakeOnQueue {p : Nat} (h : s.Burned bits) : (s.wakeOnQueue p).Burned bits := .ite h h.wakeTx

theorem State.Burned.startVerify {p : Nat} (h : s.Burned bits) : (s.startVerify p).Burned bits := h.beside.put

theorem State.Burned.enterUp {p : Nat} (h : s.Burned bits) : (s.enterUp p).Burned bits := by
  unfold State.enterUp
  extract_lets _ _ s2
  have h1 : s2.Burned bits := .ite h.put.beside h.put.beside.startVerify
  exact h1.put.event

theorem State.Burned.flushOnDown {p : Nat} (h : s.Burned bits) : (s.flushOnDown p).Burned bits := .ite h.fdbFlush h

theorem State.Burned.dropPartial {p : Nat} (h : s.Burned bits) : (s.dropPartial p).Burned bits :=
  h.each (fun _ _ h1 => h1.frameGone)

theorem State.Burned.leaveUp {p next : Nat} (h : s.Burned bits) : (s.leaveUp p next).Burned bits :=
  h.put.stat.abortLine.dropQueues.dropPartial.endQuiet.flushOnDown.beside.put.put.put.event

theorem State.Burned.toLink {p next : Nat} (h : s.Burned bits) : (s.toLink p next).Burned bits := .ite h.leaveUp h.beside.put

theorem State.Burned.modeRefused {p code : Nat} (h : s.Burned bits) : (s.modeRefused p code).Burned bits := h.put.event

theorem execPortModeWrite_burned {p : Fin 96} {v : Word} (h : s.Burned bits) : ResBurned bits (execPortModeWrite p v s) :=
  .ite (.ite (.next h.modeRefused) (.next h.setReg.toLink.put.put.put)) (.next h.lockWrite)

theorem State.Burned.seekOn {p : Nat} (h : s.Burned bits) : (s.seekOn p).Burned bits := .ite h.put h

theorem State.Burned.failAssembly {p i : Nat} (h : s.Burned bits) : (s.failAssembly p i).Burned bits := by
  unfold State.failAssembly
  dsimp only
  split
  · exact .ite h.beside.setFrame h.beside.stat.frameGone
  · exact h.beside.stat

theorem State.Burned.firstFragment {p : Nat} {f : Fragment} (h : s.Burned bits) : (s.firstFragment p f).Burned bits := by
  unfold State.firstFragment
  extract_lets s1
  have h1 : s1.Burned bits := .ite h.failAssembly h
  exact .ite h1.beside.stat h1.failAssembly

theorem execMmFragmentReceive_burned {p : Fin 96} {f : Fragment} (h : s.Burned bits) :
    ResBurned bits (execMmFragmentReceive p f s) := by
  refine .ite (.next h) ?_
  split
  · exact .next h.firstFragment
  · exact .next h.failAssembly
  · exact .next h.failAssembly
  · exact .ite (.next h.failAssembly) (.ite (.next h.beside.stat) (.next h.beside.stat))

theorem execSpoilMarkerReceive_burned {p : Fin 96} (h : s.Burned bits) : ResBurned bits (execSpoilMarkerReceive p s) := by
  unfold execSpoilMarkerReceive
  extract_lets _
  split
  · exact .next h
  · split
    · exact .next h.beside.setFrame
    · exact .next h.beside.beside.stat

theorem execTwReqWrite_burned {p : Fin 96} {v : Word} (h : s.Burned bits) : ResBurned bits (execTwReqWrite p v s) := by
  refine .ite (.next h.modeRefused) (.ite ?_ (.next h))
  extract_lets s1
  have h1 : s1.Burned bits := .ite h.setReg h.lockWrite.put
  exact .next (.ite h1 h1.applyTw)

theorem execErroredBlockReceive_burned {p : Fin 96} {k : LineError} (h : s.Burned bits) :
    ResBurned bits (execErroredBlockReceive p k s) := by
  refine .ite (.next h) ?_
  split
  · exact .next h.stat
  · exact .next h.stat
  · exact .next h.stat.event

/-! ### The functions of Machine/Protect -/

theorem State.Burned.warnCtx {n : Nat} (h : s.Burned bits) : (s.warnCtx n).Burned bits := h.ctxPut.post

theorem State.Burned.exhaustCtx {n : Nat} (h : s.Burned bits) : (s.exhaustCtx n).Burned bits := h.ctxPut.post

theorem State.Burned.replaySet {n pn : Nat} (h : s.Burned bits) : (s.replaySet n pn).Burned bits :=
  (h.ctxPut.when (fun _ h1 => h1.warnCtx)).when (fun _ h1 => h1.exhaustCtx)

theorem State.Burned.leap {n : Nat} (h : s.Burned bits) : (s.leap n).Burned bits := by
  refine .ite h ?_
  extract_lets _ _ _ _ _ _ _ s3
  have h1 : s3.Burned bits := h.beside.ctxPut.when (fun _ h1 => h1.warnCtx)
  exact h1.when (fun _ h2 => h2.exhaustCtx)

theorem State.Burned.take {n : Nat} (h : s.Burned bits) : FstBurned bits (s.take n) :=
  .ite (.mk h.exhaustCtx) (.mk (h.ctxPut.when (fun _ h1 => h1.warnCtx)))

theorem State.Burned.keyRefused {sl : Nat} (h : s.Burned bits) : (s.keyRefused sl).Burned bits := h.blkAdd.count

theorem State.Burned.deliver {sl : Nat} {us : List KeyUse} (h : s.Burned bits) : (s.deliver sl us).Burned bits :=
  h.each (fun _ _ h1 => h1.spend.touch.count)

/-! ### The functions of Machine/Queue -/

theorem State.Burned.lookCtx {g n : Nat} (h : s.Burned bits) : FstBurned bits (s.lookCtx g n) :=
  .ite (.mk h.ctxPlace.count) (.mk h.count)

theorem State.Burned.fetchCtx {g n : Nat} {id : Option Nat} (h : s.Burned bits) : OptBurned bits (s.fetchCtx g n id) :=
  .ite .none (.ite (.some h.beside) (.ite .none (.some h.beside.blkAdd)))

theorem State.Burned.startUnwrap {sl k : Nat} {id : Option Nat} (h : s.Burned bits) : (s.startUnwrap sl k id).Burned bits :=
  .ite h.beside h.beside.blkAdd.count

theorem State.Burned.genAdmit {p prof n : Nat} {c : Copy} (h : s.Burned bits) : FstBurned bits (s.genAdmit p prof n c) := by
  refine .ite (.mk h) (.ite (.mk h) (.ite (.mk h.ctxPut) (.ite (.mk h.ctxPut) (.ite (.mk h.ctxPut) (.ite ?_ ?_)))))
  · split
    · exact .mk (.ite h.ctxPut.lookCtx.fst.startUnwrap h.ctxPut.lookCtx.fst.startUnwrap.setExtra)
    · exact .mk (.ite h.ctxPut.lookCtx.fst h.ctxPut.lookCtx.fst.setExtra)
  · split
    · exact .mk (.ite (h.ctxPut.lookCtx.fst.fetchCtx.of ‹_›) (h.ctxPut.lookCtx.fst.fetchCtx.of ‹_›).setExtra)
    · exact .mk h.ctxPut.lookCtx.fst

theorem State.Burned.wakeCopies {g : Nat} (h : s.Burned bits) : (s.wakeCopies g).Burned bits := by
  refine h.each (fun _ _ h1 => h1.foldl (fun _ _ h2 => ?_))
  split
  · refine .ite h2.setQueue.copyGone.blkAdd (.ite h2 ?_)
    split
    · exact h2.startUnwrap
    · exact h2.setQueue
  · exact h2

theorem execExtraWorkDone_burned {sl : Fin 13} (h : s.Burned bits) : ResBurned bits (execExtraWorkDone sl s) := by
  unfold execExtraWorkDone
  split
  · exact .next h
  · exact .next h.setExtra
  · exact .ite (.next h.setExtra) (.next (h.setExtra.each (fun _ _ h1 => h1.setQueue)))

theorem State.Burned.enqueue {s0 : State} {p k vid : Nat} {c : Copy} (h : s0.Burned bits) :
    (s0.enqueue p k vid c).Burned bits :=
  .ite h.beside.beside.setQueue.wakeOnQueue h.beside.setQueue.wakeOnQueue

theorem State.Burned.serial (h : s.Burned bits) : FstBurned bits (s.serial) := .mk h.beside

theorem State.Burned.redBox {id : Nat} {handle : Option Nat} {inPort j : Nat} (h : s.Burned bits) :
    (s.redBox id handle inPort j).Burned bits := by
  refine .ite h (State.Burned.each ?_ fun _ _ h1 => h1.setQueue)
  split
  · exact h.beside
  · exact h.put

theorem State.Burned.release {f : FrameRec} (h : s.Burned bits) : (s.release f).Burned bits := by
  unfold State.release
  extract_lets s1
  have h1 : s1.Burned bits := h.each (fun _ _ h1 => h1.redBox)
  exact h1.each (fun _ _ h2 => h2.foldl (fun _ _ h3 => .ite
    (.ite h3.setQueue.blkAdd.count h3.setQueue.copyGone.blkAdd) h3.setQueue))

theorem State.Burned.discardDup {id : Nat} (h : s.Burned bits) : (s.discardDup id).Burned bits :=
  h.each (fun _ _ h1 => h1.setQueue.foldl (fun _ _ h2 => h2.copyGone))

theorem execDbfReadDone_burned {p : Fin 96} {k : Fin 8} {ok : Bool} (h : s.Burned bits) :
    ResBurned bits (execDbfReadDone p k ok s) := by
  unfold execDbfReadDone
  dsimp only
  split
  · exact .next h
  · exact .ite (.next h.count.setQueue) (.next h.count.setQueue.copyGone.blkAdd)

/-! ### The functions of Machine/Alarms -/
/-- A boot state whose fuses hold the bits, whatever stands beside it. -/
theorem State.Burned.boots {op : OpState} {straps : Straps} {regs : Tbl Word} {boot : Boot} {bat : Battery} {alarm : Alarm}
    {host : HostIf} {perf : Perf} {power : Power} {ports : Tbl PortSt} {cls : ClassSt} {ctx : CtxSt} {key : KeySt} {dom : DomSt}
    {pair : PairSt} {mem : MemSt} {rub : RubSt} {time : TimeSt} {sched : Tbl SchedSt} {flt : FilterSt} {ct : ContractSt}
    {rcv : RecoverySt} {path : PathSt} {cyc sec ns frac res free : Nat} {out : List Out} {pending : List Instr}
    (h : bits &&& boot.fuses = bits) :
    State.Burned bits ⟨op, straps, regs, boot, bat, alarm, host, perf, power, ports, cls, ctx, key, dom, pair, mem, rub, time,
        sched, flt, ct, rcv, path, cyc, sec, ns, frac, res, free, out, pending⟩ := h

theorem State.Burned.setRole {r : Nat} (h : s.Burned bits) : (s.setRole r).Burned bits := .ite h h.put.event

theorem State.Burned.takeOver (h : s.Burned bits) : s.takeOver.Burned bits := h.setRole.beside.beside.blkAdd.event

theorem State.Burned.stopTwin (h : s.Burned bits) : s.stopTwin.Burned bits := h.each (fun _ _ h1 => h1.abortLine.dropQueues)

theorem State.Burned.yieldOut (h : s.Burned bits) : s.yieldOut.Burned bits :=
  .ite h (h.when (fun _ h1 => h1.emit)).stopTwin.setRole.beside

theorem State.Burned.enterHold (h : s.Burned bits) : s.enterHold.Burned bits := h.yieldOut.beside

theorem State.Burned.dropLath (h : s.Burned bits) : s.dropLath.Burned bits := h.put.put.put.put

theorem State.Burned.disablePorts (h : s.Burned bits) : s.disablePorts.Burned bits := h.each (fun _ _ h1 => h1.toLink)

theorem State.Burned.enterFault (h : s.Burned bits) : s.enterFault.Burned bits := h.yieldOut.disablePorts.dropLath.beside

theorem State.Burned.shutDebug (h : s.Burned bits) : s.shutDebug.Burned bits := State.Burned.put (.boots h)

theorem State.Burned.doErase (h : s.Burned bits) : s.doErase.Burned bits := h.beside.beside.keyGauges

theorem State.Burned.zeroKeys (h : s.Burned bits) : s.zeroKeys.Burned bits := h.beside.keyGauges.put

theorem State.Burned.doContain (h : s.Burned bits) : s.doContain.Burned bits :=
  .ite h.shutDebug.enterHold (.ite (.boots h.shutDebug) h.shutDebug)

theorem State.Burned.doPurge (h : s.Burned bits) : s.doPurge.Burned bits := h.beside.zeroKeys.disablePorts.dropLath.beside

theorem State.Burned.respond {set : Nat} {fault : Bool} (h : s.Burned bits) : (s.respond set fault).Burned bits := by
  unfold State.respond
  extract_lets s1 s2
  have h1 : s1.Burned bits := h.when (fun _ h1 => h1.doErase)
  have h2 : s2.Burned bits := h1.when (fun _ h2 => h2.doPurge)
  exact .ite h2.enterFault (h2.when (fun _ h3 => h3.doContain))

theorem State.Burned.postAlarm {r : LogRec} (h : s.Burned bits) : (s.postAlarm r).Burned bits := .ite h h.post

theorem State.Burned.setAlarmStatus {causes seq : Nat} (h : s.Burned bits) : (s.setAlarmStatus causes seq).Burned bits :=
  h.beside.each (fun _ _ h1 => h1.post)

theorem State.Burned.alarmNow {causes detail force : Nat} (h : s.Burned bits) :
    (s.alarmNow causes detail force).Burned bits := by
  unfold State.alarmNow
  dsimp only
  split
  · split
    · exact h.respond.beside.setAlarmStatus.postAlarm.beside.beside
    · exact h
  · exact h.respond.beside.beside.setAlarmStatus.postAlarm.beside

theorem State.Burned.raise {k detail : Nat} (h : s.Burned bits) : (s.raise k detail).Burned bits := by
  refine .ite h ?_
  extract_lets _ _ _ s2
  have h1 : s2.Burned bits := h.beside.when (fun _ h1 => h1.put)
  exact h1.alarmNow

theorem State.Burned.stopMachine {r : Nat} (h : s.Burned bits) : (s.stopMachine r).Burned bits :=
  .ite h.beside.shutDebug h.beside

theorem execTestWindowEnd_burned {d : Fin 15} {tripped genuine : Bool} (h : s.Burned bits) :
    ResBurned bits (execTestWindowEnd d tripped genuine s) := by
  refine .ite (.next h) ?_
  extract_lets _ _ s2
  have h1 : s2.Burned bits := h.beside.when (fun _ h1 => h1.put.raise)
  exact .next (h1.when (fun _ h2 => h2.beside.raise))

theorem execFloorCmd_burned (h : s.Burned bits) : ResBurned bits (execFloorCmd s) :=
  .ite (.next h) (.ite (.next h.put) (.next (State.Burned.put (.boots h))))

theorem execHealthKick_burned (h : s.Burned bits) : ResBurned bits (execHealthKick s) := .ite (.next h.beside) (.next h)

/-! ### The functions of Machine/Memory -/

theorem State.Burned.memOccur {b addr v1 : Nat} (h : s.Burned bits) : (s.memOccur b addr v1).Burned bits :=
  .ite h.put.put.event.beside.post h.put.put.event

theorem State.Burned.zeroStatLine {i : Nat} (h : s.Burned bits) : (s.zeroStatLine i).Burned bits := by
  refine .ite h.beside ?_
  dsimp only
  split
  · exact .ite h.beside h
  · exact h

theorem State.Burned.loseStaged (h : s.Burned bits) : s.loseStaged.Burned bits := by
  unfold State.loseStaged
  split
  · split
    · exact h.beside.blkAdd.event
    · exact h
  · exact h

theorem State.Burned.poisonData {k lo hi : Nat} (h : s.Burned bits) : (s.poisonData k lo hi).Burned bits :=
  .ite (h.each (fun _ _ h1 => h1.beside.quarantine)) (.ite (h.each (fun _ _ h1 => h1.beside.quarSlot))
      (.ite h.beside.raise (.ite (h.each (fun _ _ h1 => h1.zeroStatLine)) (.ite h.beside.loseStaged h.beside))))

theorem State.Burned.nodeTouch {n : Nat} {dirty : Bool} (h : s.Burned bits) : (s.nodeTouch n dirty).Burned bits :=
  .ite h h.beside

theorem State.Burned.walk {n : Nat} : ∀ {k : Nat} {s : State}, s.Burned bits → (s.walk n k).Burned bits
  | 0, _, h => h
  | k + 1, s, h => by
    unfold State.walk
    refine .ite h.nodeTouch.count ?_
    split
    · exact h.count.walk.nodeTouch
    · exact h.count

theorem State.Burned.bump {n c : Nat} : ∀ {k : Nat} {s : State}, s.Burned bits → ExcBurned bits (s.bump n c k)
  | 0, _, _ => .error
  | k + 1, s, h => by
    unfold State.bump
    extract_lets _
    split
    · exact .error
    · extract_lets s1 s2
      have h1 : s2.Burned bits := (h.beside.when fun _ h1 => h1.count).nodeTouch
      split
      · exact h1.bump
      · exact .ite (.ok h1.beside) .error

theorem State.Burned.majorLimit {n : Nat} (h : s.Burned bits) : (s.majorLimit n).Burned bits := h.event.raise

theorem State.Burned.loseNode {n : Nat} (h : s.Burned bits) : (s.loseNode n).Burned bits := .ite h.beside h.beside

theorem execNodeRebuildDone_burned {n : Nat} (h : s.Burned bits) : ResBurned bits (execNodeRebuildDone n s) := by
  refine .ite (.next h) (.ite (.next h.majorLimit) ?_)
  extract_lets _ _ _ _ s1 _ _ s2
  have h1 : s1.Burned bits := h.beside
  have h2 : s2.Burned bits := by
    unfold s2
    split
    · split
      · exact h1.bump.of ‹_›
      · exact h1.majorLimit
    · exact .ite h1.beside h1.majorLimit
  split
  extract_lets s3
  have h3 : s3.Burned bits := by
    unfold s3
    split
    · exact h2.poisonData
    · exact h2
  exact .next h3.blkAdd.memOccur

theorem State.Burned.accessRefused {r : Requester} {l : Nat} (h : s.Burned bits) : (s.accessRefused r l).Burned bits :=
  h.emit.when (fun _ h1 => h1.memOccur)

theorem State.Burned.badData {k l : Nat} {tag : Bool} (h : s.Burned bits) : (s.badData k l tag).Burned bits :=
  .ite (.ite h (h.blkAdd.memOccur.poisonData.when (fun _ h1 => h1.raise))) (.ite h.blkAdd.memOccur h.blkAdd.memOccur.poisonData)

theorem State.Burned.badNode {n : Nat} {tag : Bool} (h : s.Burned bits) : (s.badNode n tag).Burned bits :=
  .ite h.blkAdd.memOccur.loseNode.raise h.blkAdd.memOccur.loseNode

theorem State.Burned.badTags {l : Nat} (h : s.Burned bits) : (s.badTags l).Burned bits := by
  refine h.blkAdd.memOccur.each (fun _ _ h1 => ?_)
  split
  · exact .ite (.ite h1.loseNode h1) (.ite h1 h1.poisonData)
  · exact h1

theorem State.Burned.readData {k : Nat} {m : MemRead} (h : s.Burned bits) : (s.readData k m).Burned bits := by
  unfold State.readData
  extract_lets _ s1
  have h1 : s1.Burned bits := (h.when (fun _ h1 => h1.walk)).count
  refine .ite h1.emit (.ite h1.blkAdd.event.emit ?_)
  split
  · exact h1.emit
  · exact h1.blkAdd.emit
  · exact h1.badData.emit
  · exact .ite h1.emit h1.badData.emit

theorem State.Burned.readMeta {k : Nat} {m : MemRead} (h : s.Burned bits) : (s.readMeta k m).Burned bits := by
  refine .ite (.ite h.count ?_) ?_
  · split
    · exact h.count.nodeTouch
    · exact h.count.blkAdd.nodeTouch
    · exact h.count.badNode
    · exact h.count.badNode
  · split
    · exact h.badTags
    · exact h.blkAdd
    · exact h

theorem State.Burned.readLine {k : Nat} {m : MemRead} (h : s.Burned bits) : (s.readLine k m).Burned bits :=
  .ite h.readMeta h.readData

theorem execMemReadDone_burned {m : MemRead} (h : s.Burned bits) : ResBurned bits (execMemReadDone m s) := by
  unfold execMemReadDone
  split
  · exact .fault
  · exact .ite (.next h.accessRefused) (.ite (.next h.accessRefused) (.ite (.next h) (.next h.readLine)))

theorem execScrubRead_burned {m : MemRead} (h : s.Burned bits) : ResBurned bits (execScrubRead m s) := by
  unfold execScrubRead
  split
  · exact .fault
  · exact .ite (.next h) (.ite (.next h) (.next h.count.readLine))

theorem State.Burned.storeLine {k : Nat} {w : MemWrite} (h : s.Burned bits) : (s.storeLine k w).Burned bits := .ite h.beside h

theorem State.Burned.writeLine {k : Nat} {w : MemWrite} (h : s.Burned bits) : (s.writeLine k w).Burned bits := by
  refine .ite ?_ h.storeLine.unpoison
  split
  · exact (h.walk.bump.of ‹_›).storeLine.unpoison
  · exact h.majorLimit.emit

theorem execMemLineWrite_burned {w : MemWrite} (h : s.Burned bits) : ResBurned bits (execMemLineWrite w s) := by
  unfold execMemLineWrite
  split
  · exact .fault
  · refine .ite (.next h.accessRefused) (.ite (.next h) (.ite (.next h.emit)
        (.ite (.next h.count.writeLine) (.ite (.next h.count.blkAdd.event.blkAdd.memOccur.emit) ?_))))
    split
    · exact .next h.count.writeLine
    · exact .next h.count.blkAdd.writeLine
    · exact .next (h.count.badData.when (fun _ h1 => h1.blkAdd.memOccur)).emit
    · exact .ite (.next h.count.writeLine) (.next h.count.badData.blkAdd.memOccur.emit)

theorem execMcuCoreFault_burned {k : Fin 4} {line : Nat} (h : s.Burned bits) : ResBurned bits (execMcuCoreFault k line s) := by
  unfold execMcuCoreFault
  extract_lets _ s2
  have h1 : s2.Burned bits := by
    unfold s2
    split
    · exact .ite (.ite h.put.badNode h.put) (.ite h.put h.put.badData)
    · exact h.put
  exact .next h1.raise

theorem execSkimStart_burned {v : Word} (h : s.Burned bits) : ResBurned bits (execSkimStart v s) := by
  refine .ite (.next h) (.ite (.next h.event) (.ite (.next h.put.put) ?_))
  extract_lets _ s2
  have h1 : s2.Burned bits := h.put.put.each (fun _ _ h1 => h1.put.beside)
  exact .next h1.beside.put.put.put

theorem execSkimGroupMove_burned (h : s.Burned bits) : ResBurned bits (execSkimGroupMove s) := by
  unfold execSkimGroupMove
  split
  · exact .next h
  · refine .ite (.next h) ?_
    split
    · exact .next h
    · refine .ite (.next h) ?_
      extract_lets _ s1 s2
      have h1 : s1.Burned bits := h.each (fun _ _ h1 => (h1.when (fun _ h2 => h2.blkAdd.event)).count)
      have h2 : s2.Burned bits := (h1.each (fun _ _ h2 => h2.count)).count
      exact .ite (.next h2.put) (.ite (.next h2.put.put.put.beside.put.put.put.event)
          (.next h2.put.put.put.beside.put))

theorem execDbufTWrite_burned {v : Word} (h : s.Burned bits) : ResBurned bits (execDbufTWrite v s) := by
  unfold execDbufTWrite
  refine .ite (.ite (.next h.event) (.ite (.next h) ?_)) (.next h.lockWrite)
  extract_lets s1 ids s2 s3 s4 cut
  have h1 : s1.Burned bits := h.put.put
  have h2 : s2.Burned bits := State.Burned.beside h1
  have h3 : s3.Burned bits := h2.each fun _ _ h => h.put
  have h4 : s4.Burned bits := h3.each fun _ _ h => h.put
  exact .next h4.beside.beside

theorem State.Burned.firstRaw (h : s.Burned bits) : s.firstRaw.Burned bits := by
  unfold State.firstRaw
  extract_lets _ s1 _ _ s3
  have h1 : s1.Burned bits := h.each (fun _ _ h1 => h1.put)
  have h2 : s3.Burned bits := .ite h1.beside.enterHold h1.beside
  exact h2.event

theorem execRawDebugAccess_burned {a : RawAccess} (h : s.Burned bits) : ResBurned bits (execRawDebugAccess a s) := by
  unfold execRawDebugAccess
  split
  · exact .fault
  · refine .ite (.next h.accessRefused) ?_
    extract_lets s1
    have h1 : s1.Burned bits := .ite h h.firstRaw
    exact .next h1.beside.emit

/-! ### The functions of Machine/Receive -/

theorem State.Burned.arrive {ct p t : Nat} (h : s.Burned bits) : FstBurned bits (s.arrive ct p t) := by
  unfold State.arrive
  dsimp only
  split
  · exact .mk h
  · exact .mk h.beside

theorem State.Burned.filter {f : FrameRec} (h : s.Burned bits) : FstBurned bits (s.filter f) := by
  refine .ite (.mk h) (.ite (.mk (.ite h.beside h)) (.ite (.mk h) (.ite (.mk h) ?_)))
  dsimp only
  split
  · exact .mk (h.colour.fst_of ‹_›)
  · exact .ite (.mk (h.colour.fst_of ‹_›)) (.mk (h.colour.fst_of ‹_›))
  · exact .mk (.ite (h.colour.fst_of ‹_›).ctNonconf (h.colour.fst_of ‹_›))

theorem State.Burned.checkKeys {f : FrameRec} {n j : Nat} {us : List KeyUse} {next : State → FrameRec → State × FrameRec}
    (h : s.Burned bits) (hnext : ∀ t g, t.Burned bits → FstBurned bits (next t g)) : FstBurned bits
      (s.checkKeys f n j us next) := by
  unfold State.checkKeys
  dsimp only
  split
  · exact .mk h.startUnwrap
  · exact .ite (.mk h.keyRefused) (hnext _ _ h)

theorem State.Burned.preCheck {f : FrameRec} {n pn : Nat} {guard : Guard} (h : s.Burned bits) :
    FstBurned bits (s.preCheck f n pn guard) := by
  unfold State.preCheck
  split
  · exact .mk h
  · exact .mk h
  · exact h.filter

theorem State.Burned.useCtx {f : FrameRec} {n : Nat} (h : s.Burned bits) : FstBurned bits (s.useCtx f n) := by
  refine .ite (.ite (.mk h) ?_) ?_
  · split
    · exact .mk h
    · exact h.checkKeys (fun _ _ h1 => h1.preCheck)
  · split
    · exact .mk h
    · exact .ite (.mk h) (h.checkKeys (fun _ _ h1 => h1.preCheck))

theorem State.Burned.selectCtx {f : FrameRec} {n : Nat} (h : s.Burned bits) : FstBurned bits (s.selectCtx f n) := by
  refine .ite (.mk h) (.ite h.lookCtx.fst.useCtx ?_)
  split
  · exact .mk (h.lookCtx.fst.fetchCtx.of ‹_›)
  · exact .mk h.lookCtx.fst

theorem State.Burned.macHead {f : FrameRec} (h : s.Burned bits) : FstBurned bits (s.macHead f) := by
  refine .ite (.mk h) ?_
  split
  · exact .mk h
  · refine .ite (.mk h) ?_
    split
    · exact .mk h
    · exact h.selectCtx

theorem State.Burned.profHead {f : FrameRec} {prof : Nat} (h : s.Burned bits) : FstBurned bits (s.profHead f prof) :=
  .ite (.mk h) (.ite h.selectCtx (.ite (.mk h) (.ite (.mk h) h.ctxPut.selectCtx)))

theorem State.Burned.headChecks {f : FrameRec} (h : s.Burned bits) : FstBurned bits (s.headChecks f) := by
  unfold State.headChecks
  split
  · exact .mk h
  · exact h.macHead
  · exact h.profHead
  · exact h.filter

theorem State.Burned.head {f : FrameRec} (h : s.Burned bits) : FstBurned bits (s.head f) :=
  .ite (.mk h) (.ite (.mk h) (.ite (.mk h) (.ite (.mk h) (.headChecks (FstBurned.fst (.ite h.arrive (.mk h)))))))

theorem State.Burned.countLater {f : FrameRec} {t : Tally} (h : s.Burned bits) : FstBurned bits (s.countLater f t) :=
  .ite (.mk h.tally) (.mk h)

theorem State.Burned.forwardCopy {f : FrameRec} {p : Nat} (h : s.Burned bits) : FstBurned bits (s.forwardCopy f p) := by
  unfold State.forwardCopy
  extract_lets _
  split
  rename_i s0 _ e
  have h0 : s0.Burned bits := h.serial.fst_of e
  extract_lets _ c0 _
  refine .ite (.mk h.blkAdd.ctLost) (.ite h0.countLater ?_)
  split
  rename_i s1 r e1
  have h1 : s1.Burned bits := (FstBurned.ite h0.genAdmit (.mk h0)).fst_of e1
  split
  · split
    rename_i s2 _ e2
    exact .mk (h1.countLater.fst_of e2).ctLost
  · extract_lets m path s2 _ s3
    have h2 : s2.Burned bits := by
      unfold s2
      clear_value m
      split
      · exact h1.setStart
      · exact h1
    clear_value path
    have h3 : s3.Burned bits := h2.enqueue
    split
    · exact .mk (h3.put.when fun _ h4 => h4.put)
    · exact .mk h3
    · exact .mk h3
    · exact .mk h3

theorem State.Burned.decide_ {f : FrameRec} (h : s.Burned bits) : FstBurned bits (s.decide_ f) :=
  .ite (.mk h) (.ite (.mk h) (.foldl (.mk (FstBurned.fst (.foldl (.mk h) (fun _ _ h1 => h1.fst.countLater))))
      (fun _ _ h1 => h1.fst.forwardCopy)))

theorem State.Burned.srcJudge {f : FrameRec} {i q : Nat} (h : s.Burned bits) : FstBurned bits (s.srcJudge f i q) := by
  unfold State.srcJudge
  dsimp only
  split
  · exact .mk h.count
  · exact .mk h.count
  · exact .mk h.count.count
  · exact .mk h.count.count

theorem State.Burned.srcRecord {f : FrameRec} (h : s.Burned bits) : (s.srcRecord f).Burned bits := by
  unfold State.srcRecord
  split
  · exact .ite h.beside h.beside
  · split
    · exact h.blkAdd
    · exact h

theorem State.Burned.stencil {f : FrameRec} (h : s.Burned bits) : (s.stencil f).Burned bits :=
  .ite (h.each (fun _ _ h1 => h1.count.stnQueue)) h

theorem State.Burned.learn {f : FrameRec} (h : s.Burned bits) : (s.learn f).Burned bits := by
  refine .ite ?_ h
  split
  · exact h.count.learnRequest
  · exact .ite h.beside (.ite h.blkAdd h.count.learnRequest)

theorem State.Burned.rxStats {f : FrameRec} {bad : Nat} (h : s.Burned bits) : (s.rxStats f bad).Burned bits :=
  .ite h.statAdd.stat (.ite h.statAdd.stat h.statAdd.statAdd.stat.stat.stat)

theorem State.Burned.trap {f : FrameRec} (h : s.Burned bits) : (s.trap f).Burned bits := .ite h.pf2Deliver (.ite h.pf2Deliver h)

theorem State.Burned.ptpStamp {f : FrameRec} (h : s.Burned bits) : (s.ptpStamp f).Burned bits := by
  unfold State.ptpStamp
  split
  · exact .ite h.count h
  · exact h

theorem State.Burned.wetVerdict {f : FrameRec} {set : Bool} (h : s.Burned bits) : (s.wetVerdict f set).Burned bits := by
  unfold State.wetVerdict
  extract_lets _ s1
  have h1 : s1.Burned bits := h.each (fun _ _ h1 => .ite h1.put.blkAdd.count.blkAdd.count h1.put.blkAdd.count)
  exact h1.when (fun _ h2 => h2.put)

theorem State.Burned.recordSet {f : FrameRec} (h : s.Burned bits) : (s.recordSet f).Burned bits := h.srcRecord.stencil

theorem State.Burned.sendOn {f : FrameRec} (h : s.Burned bits) : (s.sendOn f).Burned bits := .ite h.release h.discardDup

theorem State.Burned.freeHeld {i q : Nat} (h : s.Burned bits) : (s.freeHeld i q).Burned bits := by
  refine h.foldl (fun _ _ h1 => ?_)
  split
  · exact h1
  · refine .ite h1 ?_
    suffices h2 : State.Burned bits _ by
      exact .ite (.reap (.sendOn (.recordSet (.ite h2 h2.discardDup)))) (.ite h2 h2.discardDup)
    exact h1.srcJudge.fst.setFrame

theorem State.Burned.setFrameDone {f0 : FrameRec} (h : s.Burned bits) : (s.setFrameDone f0).Burned bits := by
  unfold State.setFrameDone
  extract_lets f s0 row s1 s2 s4 s5 s6 s7 s8 s9
  have h0 : s0.Burned bits := h.setFrame.wetVerdict
  have h1 : s1.Burned bits := by
    unfold s1
    split
    · exact h0.replaySet
    · exact h0.replaySet
    · exact h0
  have h2 : s2.Burned bits := .ite h1 h1.recordSet
  have h4 : s4.Burned bits := h2.learn.settleLater.ctNonconf
  have h5 : s5.Burned bits := h4.rxStats
  have h6 : s6.Burned bits := by
    unfold s6
    split
    · exact h5.ctxPut.statAdd
    · exact h5.ctxPut
    · exact h5
  have h7 : s7.Burned bits := h6.ptpStamp.trap
  have h8 : s8.Burned bits := h7.sendOn
  have h9 : s9.Burned bits := by
    unfold s9
    split
    · exact h8.freeHeld
    · exact h8
  exact .ite h7 h9.reap

theorem State.Burned.spoilFrame {f0 : FrameRec} {reason : Nat} {drop : Tally} (h : s.Burned bits) :
    (s.spoilFrame f0 reason drop).Burned bits := by
  unfold State.spoilFrame
  extract_lets _ _ _ _ s1 s2 s3 _ s5
  have h1 : s1.Burned bits := h.setFrame.wetVerdict.settleLater
  have h2 : s2.Burned bits := .ite h1.rxStats.tally.ctNonconf (.ite h1.rxStats h1.tally)
  have h3 : s3.Burned bits := by
    unfold s3
    split
    · exact h2.refund
    · exact h2
  have h4 : s5.Burned bits := by
    unfold s5
    split
    · exact .ite h3.discardStored h3.discardStored.freeHeld
    · exact h3.discardStored
  exact h4.reap

theorem execFrameWet_burned {id : Nat} (h : s.Burned bits) : ResBurned bits (execFrameWet id s) := by
  unfold execFrameWet
  split
  · exact .next h
  · refine .ite (.next h) ?_
    extract_lets _ opened
    clear_value opened
    split
    extract_lets s1 s2 _
    have h2 : s2.Burned bits := .ite h.deliver.setExtra h.deliver
    split
    rename_i s3 f2 e
    have h3 : s3.Burned bits := by
      split at e
      · exact (FstBurned.mk h2.srcJudge.fst).fst_of e
      · exact (FstBurned.mk h2).fst_of e
    exact .next h3.decide_.fst.setFrame

theorem execForwardingLookupDone_burned {id : Nat} (h : s.Burned bits) : ResBurned bits (execForwardingLookupDone id s) := by
  unfold execForwardingLookupDone
  split
  · exact .next h
  · refine .ite (.next h) ?_
    suffices h1 : State.Burned bits _ by
      exact .ite (.next h1.trap.sendOn.reap) (.next h1)
    exact h.count.decide_.fst.setFrame

theorem State.Burned.forget {id : Nat} (h : s.Burned bits) : (s.forget id).Burned bits := h.beside.beside.beside

theorem State.Burned.finishDropped {f : FrameRec} (h : s.Burned bits) : (s.finishDropped f).Burned bits :=
  .ite h.forget.rxStats (h.forget.rxStats.settleLater.tally.when (fun _ h1 => h1.each (fun _ _ h2 => h2.ctLost)))

theorem execFrameEndReceive_burned {id : Nat} {e : RxEnd} (h : s.Burned bits) :
    ResBurned bits (execFrameEndReceive id e s) := by
  unfold execFrameEndReceive
  split
  · exact .next h
  · refine .ite (.next h) (.ite (.ite ?_ (.next h.beside.finishDropped))
        (.ite (.ite (.next (h.beside.forget.rxStats.when (fun _ h1 => ?_))) (.next h.beside.setFrame))
        (.ite (.next h.beside.setFrame.spoilFrame) ?_)))
    · suffices h1 : State.Burned bits _ by
        exact .ite (.next h1) (.next h1.stat.pf2Deliver)
      exact h.beside.forget.rxStats
    · split
      · exact h1.refund
      · exact h1
    · suffices h1 : State.Burned bits _ by
        exact .ite (.next h1) (.next (h1.when (fun _ h2 => h2.beside)))
      refine .setFrameDone (.setFrame (FstBurned.fst ?_))
      split
      · exact h.beside.srcJudge
      · exact .mk h.beside

theorem execFrameVerdict_burned {id : Nat} (h : s.Burned bits) : ResBurned bits (execFrameVerdict id s) := by
  unfold execFrameVerdict
  split
  · exact .next h
  · refine .ite (.next h) ?_
    extract_lets _ s1
    have h1 : s1.Burned bits := .ite h.setExtra h
    split
    · exact .ite (.next h1.setFrameDone) (.next (h1.setFrameDone.when (fun _ h2 => h2.beside)))
    · exact .next h1.spoilFrame

theorem State.Burned.resume {id : Nat} {go : State → FrameRec → Nat → State × FrameRec} (h : s.Burned bits)
    (hgo : ∀ t g m, t.Burned bits → FstBurned bits (go t g m)) : (s.resume id go).Burned bits := by
  unfold State.resume
  split
  · exact h
  · split
    · exact h
    · split
      rename_i s1 g e
      have h1 : s1.Burned bits := (hgo _ _ _ h).fst_of e
      split
      · exact h1.finishDropped
      · exact h1.decide_.fst.setFrame

theorem execContextFetchDone_burned {g : Fin 12} {n : Fin 262144} {ok : Bool} (h : s.Burned bits) :
    ResBurned bits (execContextFetchDone g n ok s) := by
  unfold execContextFetchDone
  dsimp only
  split
  · exact .next h
  · exact .next (.wakeCopies (.each (.ite (.ite h.beside.ctxPlace h.beside)
        (.ite h.beside.quarantine h.beside.ctxPut)) (fun _ _ h1 => h1.resume
        (fun _ _ _ h2 => .ite (.mk h2) h2.useCtx))))

theorem execKeyUnwrapDone_burned {k : Fin 262144} {ok : Bool} (h : s.Burned bits) :
    ResBurned bits (execKeyUnwrapDone k ok s) := by
  unfold execKeyUnwrapDone
  split
  · exact .next h
  · extract_lets _ s1 placed
    have hp : OptBurned bits placed := .ite h.beside.slotPlace (.some h.beside.quarSlot)
    cases e : placed with
    | none => exact .next h
    | some s2 =>
      exact .next (((hp.of e).each fun _ _ h3 => h3.resume fun _ _ _ h4 => h4.useCtx).each fun _ _ h3 => h3.wakeCopies)

/-! ### The functions of Machine/Transmit -/

theorem State.Burned.unqueue {p k : Nat} {c : Copy} (h : s.Burned bits) : (s.unqueue p k c).Burned bits := h.beside.setQueue

theorem State.Burned.dropNeverFit {p k : Nat} : ∀ {n : Nat} {s : State}, s.Burned bits → (s.dropNeverFit p k n).Burned bits
  | 0, _, h => h
  | n + 1, s, h => by
    unfold State.dropNeverFit
    split
    · exact .ite h.unqueue.copyGone.blkAdd.event.dropNeverFit h
    · exact h

theorem State.Burned.ptpOut {p m : Nat} {c : Copy} {committed : Bool} (h : s.Burned bits) :
    FstBurned bits (s.ptpOut p c m committed) := by
  refine .ite (.mk h) ?_
  split
  · extract_lets s1
    have h1 : s1.Burned bits := .ite h.count h
    refine .ite (.mk h1) (.ite (.ite (.mk h1) (.ite (.ite (.mk h1.beside) (.mk h1.beside.blkAdd)) (.mk h1))) (.ite ?_ (.mk h1)))
    split
    · exact .mk h1.beside
    · exact .mk h1
  · exact .mk h

theorem State.Burned.dropOut {p : Nat} {c : Copy} {f : State → State} (h : s.Burned bits) (hf : ∀ t, t.Burned bits →
  (f t).Burned bits) :
    FstBurned bits (s.dropOut p c f) :=
  .mk (hf _ h.copyGone)

theorem State.Burned.generate {p n : Nat} {c : Copy} (h : s.Burned bits) : FstBurned bits (s.generate p c n) :=
  .ite (.mk h.leap.blkAdd) (.ite (.mk h.leap.ctxPut) (.ite (.mk h.leap)
      (.ite (.mk h.leap.keyRefused) (.mk h.leap.deliver.take.fst))))

theorem State.Burned.protectOut {p : Nat} {c : Copy} (h : s.Burned bits) : FstBurned bits (s.protectOut p c) := by
  unfold State.protectOut
  extract_lets sl mac n s0 w
  have h0 : s0.Burned bits := .ite h.leap h
  refine .ite (h.dropOut fun _ h1 => h1.stat) (.ite (h0.dropOut fun _ h1 => h1.stat) (.ite (h0.dropOut fun _ h1 => h1.blkAdd)
    (.ite (h0.dropOut fun _ h1 => h1.ctxPut) (.ite (h0.dropOut fun _ h1 => h1.ctxPut.keyRefused) ?_))))
  split
  rename_i s1 inner e
  have h1 : s1.Burned bits := by
    split at e
    · exact h0.generate.fst_of e
    · exact (FstBurned.mk h0).fst_of e
  split
  · exact h1.dropOut fun _ h2 => h2
  · exact .ite (.mk h1.deliver.take.fst) (.mk h1)

theorem State.Burned.lineStart {p : Nat} {x : Sending} (h : s.Burned bits) : (s.lineStart p x).Burned bits := h.setLine.count

theorem State.Burned.startCopy {p k m : Nat} {c : Copy} {cut end_ : Option Nat} {committed : Bool} (h : s.Burned bits) :
    (s.startCopy p k c m cut end_ committed).Burned bits := by
  refine .ite h.hostDone.blkAdd ?_
  split
  rename_i s1 r e
  have h1 : s1.Burned bits := h.ptpOut.fst_of e
  split
  · exact h1.copyGone
  · split
    rename_i s2 w e2
    have h2 : s2.Burned bits := h1.protectOut.fst_of e2
    split
    · exact h2
    · exact h2.lineStart

theorem execTxCommit_burned {p : Fin 96} {start : Nat} (h : s.Burned bits) : ResBurned bits (execTxCommit p start s) := by
  refine .ite (.next h) ?_
  split
  · exact .next h.setStart
  · split
    · exact .next h.setStart
    · exact .next (h.when (fun _ h1 => h1.setStart))

theorem execTransmitStart_burned {p : Fin 96} (h : s.Burned bits) : ResBurned bits (execTransmitStart p s) := by
  refine .ite (.next h) ?_
  suffices h1 : State.Burned bits _ by
    dsimp only
    split
    · split
      · exact .next h1
      · exact .next (h1.when (fun _ h2 => h2.setLine))
    · refine .ite (.next h1) ?_
      suffices h2 : State.Burned bits _ by
        split
        · exact .next h2
        · exact .next (.startCopy (.ite h2.unqueue.beside h2.unqueue))
        · split
          · exact .next h2.setLine.lineStart
          · exact .next h2
      split
      · exact h1.dropStart
      · exact h1
  exact h.beside.each (fun _ _ h1 => h1.dropNeverFit)

theorem execReservedStart_burned {p : Fin 96} {ct : Fin 16384} (h : s.Burned bits) :
    ResBurned bits (execReservedStart p ct s) := by
  unfold execReservedStart
  extract_lets p ct
  split
  · exact .next h
  · extract_lets holder empty s1 next
    clear_value holder
    have he : ∀ t, t.Burned bits → (empty t).Burned bits := fun _ h1 => h1.dropStart.blkAdd.count
    split
    · exact .next (he _ h)
    · refine .ite ?_ ?_
      · extract_lets s2
        have h2 : s2.Burned bits := by
          unfold s2
          clear_value next
          split
          · exact (he _ h).setStart
          · exact he _ h
        exact .next h2.setQueue
      · split
        · split
          · exact .next h.setLine
          · exact .next h
        · exact .next h.unqueue.dropStart.startCopy

theorem State.Burned.tailOf {p : Nat} {x : Sending} (h : s.Burned bits) : FstBurned bits (s.tailOf p x) := by
  unfold State.tailOf
  split
  · exact .mk h
  · exact .mk h
  · refine .ite (.mk h) ?_
    split
    · exact .mk h
    · exact .ite (.mk h.blkAdd.event) (.mk h)

theorem execTailRelease_burned {id : Nat} {p : Fin 96} (h : s.Burned bits) : ResBurned bits (execTailRelease id p s) := by
  unfold execTailRelease
  dsimp only
  split
  · exact .next h
  · exact .ite (.next h) (.ite (.next h) (.next h.tailOf.fst.setLine))

theorem State.Burned.wetLeaves {p : Nat} {c : Copy} (h : s.Burned bits) : (s.wetLeaves p c).Burned bits := by
  unfold State.wetLeaves
  split
  · exact .ite (h.put.blkAdd.count.when (fun _ h1 => h1.put)) h
  · exact h

theorem State.Burned.txStats {p : Nat} {wire : List Byte} {stomped : Bool} (h : s.Burned bits) :
    (s.txStats p wire stomped).Burned bits :=
  .ite h.statAdd.stat.stat h.statAdd.stat.stat.stat

theorem State.Burned.fragmentEnd {p : Nat} {x : Sending} (h : s.Burned bits) : (s.fragmentEnd p x).Burned bits :=
  .ite h.setLine h.setLine.stat.emit

theorem State.Burned.frameEnd {s0 : State} {p : Nat} {x : Sending} (h : s0.Burned bits) : (s0.frameEnd p x).Burned bits := by
  unfold State.frameEnd
  split
  rename_i s tail e
  have h0 : s.Burned bits := h.tailOf.fst_of e
  extract_lets _ _ _ _ _ s1 _ s2 s3 s4 s5 s6 s7 s8
  have h1 : s1.Burned bits := h0.setLine.wetLeaves
  have h2 : s2.Burned bits := .ite h1.blkAdd (h1.emit.txStats.blkAdd.when (fun _ h2 => h2.emit))
  have h3 : s3.Burned bits := by
    unfold s3
    split
    · exact h2.ctxPut.statAdd
    · exact h2
  have h4 : s4.Burned bits := by
    unfold s4
    split
    · exact h3.ctxPut
    · exact h3
  have h5 : s5.Burned bits := h4.when (fun _ h5 => h5.blkAdd.count)
  have h6 : s6.Burned bits := by
    unfold s6
    split
    · exact .ite h5.ctLost h5.ctDelivered
    · exact h5
  have h7 : s7.Burned bits := h6.when (fun _ h7 => h7.twinStart)
  have h8 : s8.Burned bits := h7.hostDone.when (fun _ h8 => h8.count)
  split
  · exact .ite h8.reap h8
  · exact h8

theorem execTxEnd_burned {p : Fin 96} (h : s.Burned bits) : ResBurned bits (execTxEnd p s) := by
  unfold execTxEnd
  extract_lets p s1
  split
  · exact .next h
  · extract_lets _ _ s2 _ s3
    have h2 : s2.Burned bits := .ite h.beside.beside h.beside
    have h3 : s3.Burned bits := .ite h2.blkAdd.event h2
    exact .next (.ite h3.frameEnd h3.fragmentEnd)

/-! ### The functions of Machine/Contracts -/

theorem State.Burned.accept {ct : Nat} {w : BitVec 1024} {u : CtUse} {ctxs : List (Nat × Nat)} (h : s.Burned bits) :
    (s.accept ct w u ctxs).Burned bits := by
  unfold State.accept
  extract_lets _ _ _ _ s2 s3
  have h1 : s2.Burned bits := by
    refine h.beside.each (fun _ _ h1 => ?_)
    split
    · exact h1.beside
    · exact h1
  have h2 : s3.Burned bits := h1.each (fun _ _ h2 => h2.pinCtx)
  exact h2.beside.beside

theorem ctAdmit_burned : BodyBurned bits ctAdmit := by
  intro c s h
  unfold ctAdmit
  refine .ite (refuse_burned h) (.ite (refuse_burned h) (.ite (refuse_burned h) (.ite (refuse_burned h) ?_)))
  extract_lets _ ctxs u
  generalize s.judge _ _ = j
  revert j
  refine forall_abstracted fun j => ?_
  split
  · exact refuseAt_burned h
  · split
    · exact refuseAt_burned h
    · exact .mk h.accept

theorem ctWithdraw_burned : BodyBurned bits ctWithdraw := by
  intro _ s h
  refine .ite (refuse_burned h) (.ite (refuse_burned h) ?_)
  extract_lets _ _ _ _ _ _ _ _ _ _ s4
  have h1 : s4.Burned bits := by
    refine h.beside.beside.beside.each (fun _ _ h1 => ?_)
    split
    · exact h1.beside
    · exact h1
  exact .mk (h1.each (fun _ _ h2 => h2.unrefCtx))

theorem ctRead_burned : BodyBurned bits ctRead := fun _ _ h => .ite (refuse_burned h) (.ite (refuse_burned h) (.mk h))

theorem ctClearCnt_burned : BodyBurned bits ctClearCnt :=
  fun _ _ h => .ite (refuse_burned h) (.ite (refuse_burned h) (.mk h.beside))

/-! ### The functions of Machine/Gates -/

theorem State.Burned.fireLate {p t f : Nat} (h : s.Burned bits) : (s.fireLate p t f).Burned bits :=
  .ite h.fireFlip.post.blkAdd h

theorem State.Burned.stepEntry {p : Nat} {e : BitVec 64} (h : s.Burned bits) : (s.stepEntry p e).Burned bits := h.beside.count

theorem State.Burned.setGates {p : Nat} {e : BitVec 64} {hold : Option Bool} (h : s.Burned bits) :
    (s.setGates p e hold).Burned bits :=
  h.beside.beside.stepEntry

theorem execGateSetGates_burned {p : Fin 96} (h : s.Burned bits) : ResBurned bits (execGateSetGates p s) := by
  unfold execGateSetGates
  split
  · exact .next h.setGates
  · exact .next h

theorem execGateSetHold_burned {p : Fin 96} (h : s.Burned bits) : ResBurned bits (execGateSetHold p s) := by
  unfold execGateSetHold
  dsimp only
  split
  · exact .next h
  · refine .ite (.next h.setGates) (.next (.when ?_ (fun _ h1 => h1.stat)))
    split
    · split
      · exact h.setGates.setLine
      · exact h.setGates
    · exact h.setGates

theorem execGateSetRelease_burned {p : Fin 96} (h : s.Burned bits) : ResBurned bits (execGateSetRelease p s) := by
  unfold execGateSetRelease
  split
  · exact .next h.setGates
  · exact .next h

theorem execGateKeyflip_burned {p : Fin 96} (h : s.Burned bits) : ResBurned bits (execGateKeyflip p s) := by
  unfold execGateKeyflip
  dsimp only
  split
  · exact .next h
  · exact .next (h.when (fun _ h1 => h1.fireFlip)).stepEntry

theorem execGateReserve_burned {p : Fin 96} (h : s.Burned bits) : ResBurned bits (execGateReserve p s) := by
  unfold execGateReserve
  dsimp only
  split
  · exact .next h
  · exact .next (h.when (fun _ h1 => h1.setStart)).stepEntry

theorem State.Burned.reassign {p : Nat} (h : s.Burned bits) : (s.reassign p).Burned bits := by
  refine h.each (fun _ _ h1 => h1.foldl (fun _ _ h2 => ?_))
  split
  · refine .ite h2 (.setQueue ?_)
    split
    · exact h2.dropStart.setStart
    · exact h2.dropStart
  · exact h2

theorem State.Burned.swapBanks {p at_ : Nat} (h : s.Burned bits) : (s.swapBanks p at_).Burned bits :=
  h.beside.beside.put.put.put.reassign.event.each (fun _ _ h1 => h1.dropNeverFit)

theorem execGclConfigChange_burned {p : Fin 96} (h : s.Burned bits) : ResBurned bits (execGclConfigChange p s) := by
  unfold execGclConfigChange
  split
  · exact .ite (.next h.swapBanks) (.next h)
  · exact .next h

theorem State.Burned.schedule {p c : Nat} (h : s.Burned bits) : (s.schedule p c).Burned bits := by
  unfold State.schedule
  exact h.beside.put.reassign.when fun _ h1 => h1.wakeTx

theorem gclWrite_burned : BodyBurned bits gclWrite := by
  intro _ s h
  unfold gclWrite
  split
  · refine .ite (refuse_burned h) ?_
    split
    · exact dmaError_burned h
    · exact .ite (refuse_burned h) (.mk h.beside.beside)
  · exact refuse_burned h

theorem gclRead_burned : BodyBurned bits gclRead := by
  intro _ s h
  unfold gclRead
  split
  · exact .mk h
  · exact refuse_burned h

theorem gclParams_burned : BodyBurned bits gclParams := by
  intro _ s h
  unfold gclParams
  split
  · exact refuse_burned h
  · exact .ite (refuse_burned h) (.ite (refuse_burned h) (.mk h.beside.beside))

theorem gclChange_burned : BodyBurned bits gclChange := by
  intro _ s h
  unfold gclChange
  split
  · exact refuse_burned h
  · refine .ite (refuse_burned h) (.ite (refuse_burned h) ?_)
    split
    · exact refuse_burned h
    · split
      · exact .mk h.event
      · exact .mk h.schedule

theorem gclCancel_burned : BodyBurned bits gclCancel := by
  intro _ s h
  unfold gclCancel
  split
  · exact refuse_burned h
  · exact .ite (refuse_burned h) (.mk h.beside.put.reassign)

theorem gclStatus_burned : BodyBurned bits gclStatus := by
  intro _ s h
  unfold gclStatus
  split
  · exact refuse_burned h
  · exact .mk h

/-! ### The functions of Machine/Time -/

theorem State.Burned.skipFlips {p old new : Nat} (h : s.Burned bits) : (s.skipFlips p old new).Burned bits :=
  .ite h (h.each (fun _ _ h1 => .ite h1.setFlip h1))

theorem State.Burned.resync {p : Nat} (h : s.Burned bits) : (s.resync p).Burned bits := .ite h h.beside.beside

theorem State.Burned.moveStarts {p : Nat} {d : ℤ} (h : s.Burned bits) : (s.moveStarts p d).Burned bits :=
  h.beside.each (fun _ _ h1 => h1.setQueue)

theorem State.Burned.setClock {sec ns : Nat} (h : s.Burned bits) : (s.setClock sec ns).Burned bits := by
  unfold State.setClock
  extract_lets _ _ _ _ s1
  have h1 : s1.Burned bits := h.each (fun _ _ h1 => h1.moveStarts.when (fun _ h2 => h2.skipFlips))
  exact (h1.beside.each (fun _ _ h2 => h2.resync)).when (fun _ h2 => h2.event)

theorem State.Burned.stepClock {d : ℤ} (h : s.Burned bits) : (s.stepClock d).Burned bits := h.setClock.beside

theorem execTimeSet_burned (h : s.Burned bits) : ResBurned bits (execTimeSet s) := .ite (.next h.setClock) (.next h)

theorem execTimeStep_burned (h : s.Burned bits) : ResBurned bits (execTimeStep s) := .ite (.next h.stepClock) (.next h)

theorem execTimeSnap_burned (h : s.Burned bits) : ResBurned bits (execTimeSnap s) := .ite (.next h.put.put.put) (.next h)

theorem execTimeRateWrite_burned {v : Word} (h : s.Burned bits) : ResBurned bits (execTimeRateWrite v s) :=
  .ite (.next h) (.ite (.next h.setReg) (.next h.event))

theorem State.Burned.setLocked {on : Bool} (h : s.Burned bits) : (s.setLocked on).Burned bits := .ite h h.put.event

theorem State.Burned.lockUpdate {off : ℤ} (h : s.Burned bits) : (s.lockUpdate off).Burned bits :=
  .ite h.beside.setLocked (.ite h.beside.setLocked h.beside)

theorem execClockSourceAdjust_burned {a : ClockAdjust} (h : s.Burned bits) : ResBurned bits (execClockSourceAdjust a s) := by
  refine .ite (.next h) ?_
  dsimp only
  split
  · exact .next (.ite h.lockUpdate.setReg h.lockUpdate)
  · exact .ite (.next h.lockUpdate.stepClock) (.next h.lockUpdate)

theorem execTodOutSend_burned (h : s.Burned bits) : ResBurned bits (execTodOutSend s) := by
  unfold execTodOutSend
  split
  · exact .next h
  · exact .ite (.next h) (.next h.beside.beside.beside.beside.emit)

theorem execTodInReceive_burned {msg : List Byte} (h : s.Burned bits) : ResBurned bits (execTodInReceive msg s) := by
  refine .ite (.next h) ?_
  dsimp only
  split
  · exact .ite (.next h.beside) (.next h.blkAdd.event)
  · exact .next h.blkAdd.event

theorem ptpGet_burned : BodyBurned bits ptpGet := by
  intro _ s h
  unfold ptpGet
  split
  · exact refuse_burned h
  · exact .ite (refuse_burned h) (.mk h)

theorem ptpSet_burned : BodyBurned bits ptpSet := by
  intro _ s h
  unfold ptpSet
  split
  · exact refuse_burned h
  · exact .ite (refuse_burned h) (.mk h.beside)

theorem tunWrite_burned : BodyBurned bits tunWrite := fun _ _ h => .ite (refuse_burned h) (.mk h.beside)

theorem tunRead_burned : BodyBurned bits tunRead := fun _ _ h => .ite (refuse_burned h) (.mk h)

/-! ### The functions of Machine/Slices -/

theorem State.Burned.setSliceState {sl v : Nat} (h : s.Burned bits) : (s.setSliceState sl v).Burned bits := h.put.put

theorem State.Burned.clearSlice {sl : Nat} (h : s.Burned bits) : (s.clearSlice sl).Burned bits := h.setExtra.put.put.beside

theorem State.Burned.resetPort {p : Nat} (h : s.Burned bits) : (s.resetPort p).Burned bits := by
  unfold State.resetPort
  extract_lets _ s1 s2
  have h1 : s1.Burned bits := h.each (fun _ _ h1 => h1.frameGone.blkAdd)
  have h2 : s2.Burned bits := (h1.purge (fun _ _ _ h2 => h2.blkAdd)).abortLine
  exact h2.beside

theorem State.Burned.resetSlice {sl : Nat} (h : s.Burned bits) : (s.resetSlice sl).Burned bits := by
  unfold State.resetSlice
  extract_lets _ _ s1 s2 s3
  have h1 : s1.Burned bits := h.each (fun _ _ h1 => h1.resetPort)
  have h2 : s2.Burned bits := h1.each (fun _ _ h2 => h2.quarantine)
  have h3 : s3.Burned bits := h2.each (fun _ _ h3 => h3.setCached.beside)
  exact h3.clearSlice.put.put.put

theorem State.Burned.askReset {sl : Nat} (h : s.Burned bits) : (s.askReset sl).Burned bits :=
  .ite h.beside.put.put.put h.resetSlice

theorem execSliceReset_burned {v : Word} (h : s.Burned bits) : ResBurned bits (execSliceReset v s) :=
  .ite (.next h) (.ite (.next h.event) (.next h.askReset))

theorem State.Burned.resetSliceDone (h : s.Burned bits) : s.resetSliceDone.Burned bits := by
  unfold State.resetSliceDone
  extract_lets _ _ _ s3
  have h1 : s3.Burned bits := h.beside.put.put.when (fun _ h1 => h1.setSliceState)
  exact (h1.each (fun _ _ h2 => h2.beside.resync)).event

theorem State.Burned.setRub {x : RubSt} (h : s.Burned bits) : (s.setRub x).Burned bits := h.beside

theorem State.Burned.moveGauge {a b : Fld} {n : Nat} (h : s.Burned bits) : (s.moveGauge a b n).Burned bits := h.put.put

theorem State.Burned.steer {g src dst : Nat} {ingress : Bool} (h : s.Burned bits) :
    (s.steer g src dst ingress).Burned bits := by
  unfold State.steer
  extract_lets _ _ _ s3
  have h1 : s3.Burned bits := h.setExtra.setExtra.put.moveGauge.when (fun _ h1 => h1.moveGauge)
  exact h1.setCached

theorem State.Burned.startRetire {sl : Nat} (h : s.Burned bits) : (s.startRetire sl).Burned bits := h.setRub.put

theorem State.Burned.retireNow {sl : Nat} (h : s.Burned bits) : (s.retireNow sl).Burned bits :=
  .ite h.put.put.setRub.put.rubEvent (.rubEvent (.put (.setSliceState
      (.setSliceState (.ite h.put.put.setRub h.put.put.setRub.steer)))))

theorem State.Burned.releaseHeld (h : s.Burned bits) : s.releaseHeld.Burned bits := by
  unfold State.releaseHeld
  split
  · exact h.beside.resetSlice
  · exact h

theorem State.Burned.endPass {sl result : Nat} (h : s.Burned bits) : (s.endPass sl result).Burned bits := by
  unfold State.endPass
  extract_lets s1 s2 s3 o _ s4 s5
  have h2 : s2.Burned bits := h.put.put.put.put
  have h3 : s3.Burned bits := by
    unfold s3
    split <;> exact h2.blkAdd.rubEvent
  have h4 : s4.Burned bits := h3.setRub.setSliceState
  have h5 : s5.Burned bits := .ite h4 h4.setSliceState
  clear_value o
  split
  · exact h5.releaseHeld.startRetire
  · exact h5.releaseHeld

theorem State.Burned.startPass {temp : ℤ} (h : s.Burned bits) : (s.startPass temp).Burned bits :=
  .ite h (.ite h.put.put.blkAdd.rubEvent h.setRub.put.put.put)

theorem execRubDrainDone_burned (h : s.Burned bits) : ResBurned bits (execRubDrainDone s) := by
  refine .ite (.next h) ?_
  dsimp only
  suffices h1 : State.Burned bits _ by
    exact .ite (.next h1.retireNow) (.next h1.put)
  exact h.beside.put.put.setRub

theorem State.Burned.needRetire {sl : Nat} (h : s.Burned bits) : (s.needRetire sl).Burned bits := by
  refine .ite h (.ite h.raise (.ite h.retireNow (.ite h.startRetire (.ite (.ite h h.raise) (.ite
    (.ite h.setRub h.setRub) ?_)))))
  dsimp only
  split
  · exact h.setRub.setRub.put
  · exact h.setRub
  · exact h.setRub
  · exact h.setRub.endPass

theorem execCipherCoreFault_burned {sl : Fin 13} {k : Fin 6} (h : s.Burned bits) :
    ResBurned bits (execCipherCoreFault sl k s) := by
  unfold execCipherCoreFault
  extract_lets _ _ _ _ s1 _ s2
  have h1 : s1.Burned bits := by
    unfold s1
    split
    · exact h.setFrame
    · split
      · exact h.setLine
      · exact h
    · exact h
  have h2 : s2.Burned bits := h1.blkAdd.put.post
  exact .ite (.next h) (.next (.ite h2.needRetire h2))

/-! ### The functions of Machine/Reset -/

/-- Burned bits added to the array are beside those that it holds. -/
theorem State.Burned.or (h : s.Burned bits) (m : BitVec 1600) : bits &&& (s.boot.fuses ||| m) = bits := by
  unfold State.Burned at h
  rw [BitVec.and_or_distrib_left, h]
  ext i
  simp only [BitVec.getElem_or, BitVec.getElem_and, Bool.or_eq_left_iff_imp, Bool.and_eq_true]
  exact fun hb => hb.1

theorem State.setBoot_burned (s : State) {b : Boot} (h : bits &&& b.fuses = bits) : (s.setBoot b).Burned bits := h

/-- A boot state with the fuses that the device has. -/
theorem State.Burned.setBoot {image header : List Byte} {burn : Option (Nat × BitVec 1600)} {deferred : Option ResetKind}
    {inReset : Option (ResetKind × Bool)} {blocked shut stripped ran : Bool} (h : s.Burned bits) :
    (s.setBoot ⟨s.boot.fuses, image, header, burn, deferred, inReset, blocked, shut, stripped, ran⟩).Burned bits := h

/-- A reset keeps the fuse array (R488). -/
theorem State.Burned.wiped (h : s.Burned bits) : s.wiped.Burned bits := h

theorem State.Burned.cutBurn (h : s.Burned bits) : s.cutBurn.Burned bits := by
  unfold State.cutBurn
  split
  · exact State.setBoot_burned _ (h.or _)
  · exact h

theorem State.Burned.carryReset {kind : ResetKind} {samples : Bool} (h : s.Burned bits) :
    (s.carryReset kind samples).Burned bits :=
  h.cutBurn.wiped.setBoot.put

theorem State.Burned.raiseReset {kind : ResetKind} (h : s.Burned bits) : (s.raiseReset kind).Burned bits := by
  unfold State.raiseReset
  split
  · exact h.setBoot.put
  · exact .ite h.setBoot h.carryReset

theorem State.Burned.warmReset (h : s.Burned bits) : s.warmReset.Burned bits :=
  .ite (h.when (fun _ h1 => h1.emit)).raiseReset (.ite h.raiseReset h)

theorem State.Burned.runLatch (h : s.Burned bits) : s.runLatch.Burned bits :=
  .ite h ((h.when (fun _ h1 => h1.zeroKeys.dropLath)).when (fun _ h1 => h1.shutDebug.put)).beside

/-- Completing the groups of the life cycle adds bits (R418). -/
theorem State.Burned.completeLc (h : s.Burned bits) : bits &&& Sys2Proof.Machine.completeLc s.boot.fuses = bits :=
  List.foldlRecOn (motive := fun w : BitVec 1600 => bits &&& w = bits) _ _ h fun w hw _ _ =>
    iteInduction (motive := fun w : BitVec 1600 => bits &&& w = bits) (fun _ => hw)
      (fun _ => State.Burned.or (s := s.setBoot { s.boot with fuses := w }) hw _)

theorem State.Burned.romSteps (h : s.Burned bits) : s.romSteps.Burned bits :=
  have h1 := s.setBoot_burned
    (b := { s.boot with fuses := Sys2Proof.Machine.completeLc s.boot.fuses, romRun := true }) h.completeLc
  .ite h1.raise (h1.put.beside.runLatch.each (fun _ _ h1 => h1.beside)).put.put.setSliceState

theorem execResetRelease_burned {pins : Straps} (h : s.Burned bits) : ResBurned bits (execResetRelease pins s) := by
  unfold execResetRelease
  split
  · exact .next h
  · next sample _ =>
    extract_lets _ _ _ s1
    have h1 : s1.Burned bits := .boots h
    exact .next h1.put.romSteps

theorem State.Burned.unsealRoot (h : s.Burned bits) : s.unsealRoot.Burned bits := by
  refine .ite h ?_
  split
  · exact .ite h.formRootKeys h.beside.event
  · exact h

theorem execRomDone_burned (h : s.Burned bits) : ResBurned bits (execRomDone s) := by
  refine .ite (.next h) ?_
  extract_lets s1
  have h1 : s1.Burned bits := .ite h h.romSteps
  exact .ite (.next h1) (.next h1.unsealRoot.beside.beside)

/-! ### The functions of Machine/Host -/

theorem execUcieTrainDone_burned {t : UcieTrain} (h : s.Burned bits) : ResBurned bits (execUcieTrainDone t s) := by
  refine .ite (.next h) ?_
  dsimp only
  suffices h1 : State.Burned bits _ by
    exact .ite (.ite (.next h1.beside) (.next h1.event)) (.next h1)
  exact .ite h.put.put.put.beside.event.blkAdd h.put.put.put

theorem State.Burned.stopRing {n : Nat} (h : s.Burned bits) : (s.stopRing n).Burned bits := .ite h.put.put h.put

theorem execUcieLinkDown_burned (h : s.Burned bits) : ResBurned bits (execUcieLinkDown s) := by
  refine .ite (.next h) ?_
  extract_lets _ _ _ s3
  have h1 : s3.Burned bits := h.put.put.beside.each (fun _ _ h1 => h1.beside.stopRing)
  clear_value s3
  exact .ite (.next h1.setBoot.put) (.ite (.next h1.beside) (.next h1))

theorem State.Burned.ringErr {n code : Nat} (h : s.Burned bits) : (s.ringErr n code).Burned bits := h.put.event.stopRing

theorem execHostReadTimeout_burned {r : HostReadUse} (h : s.Burned bits) : ResBurned bits (execHostReadTimeout r s) := by
  unfold execHostReadTimeout
  split
  · exact .ite (.next h.ringErr) (.next h)
  · exact .ite (.next h.setBoot.put) (.next h)
  · exact .next h

theorem State.Burned.drainHold {n : Nat} (h : s.Burned bits) : (s.drainHold n).Burned bits :=
  h.beside.each (fun _ _ h1 => h1.postTo (fun _ _ _ h2 => h2.overflow))

theorem execRingEnable_burned {n : Fin 64} (h : s.Burned bits) : ResBurned bits (execRingEnable n s) :=
  .ite (.next h) (.ite (.next h) (.ite (.next h.ringErr) (.next (h.put.put.beside.when (fun _ h1 => h1.drainHold)))))

theorem execRingDisable_burned {n : Fin 64} (h : s.Burned bits) : ResBurned bits (execRingDisable n s) :=
  .ite (.next h.put) (.next h)

theorem State.Burned.resetRing {n : Nat} (h : s.Burned bits) : (s.resetRing n).Burned bits := h.put.put.put.put.beside

theorem execRingReset_burned {n : Fin 64} (h : s.Burned bits) : ResBurned bits (execRingReset n s) :=
  .ite (.next h.resetRing) (.next h)

theorem execFunctionLevelReset_burned {fn : Fin 3} (h : s.Burned bits) : ResBurned bits (execFunctionLevelReset fn s) := by
  refine .ite (.next h.warmReset) (.ite (.next h) ?_)
  extract_lets _ s1 s2
  have h1 : s1.Burned bits := h.each (fun _ _ h1 => h1.put.put.resetRing)
  have h2 : s2.Burned bits := .ite (h1.each (fun _ _ h2 => h2.purge (fun _ _ _ h3 => h3))) h1
  exact .next h2.beside

theorem execSqTailDoorbell_burned {fn : Fin 3} {n : Fin 64} {v : Word} (h : s.Burned bits) :
    ResBurned bits (execSqTailDoorbell fn n v s) :=
  .ite (.next h.beside.count) (.next h)

theorem execCqHeadDoorbell_burned {fn : Fin 3} {n : Fin 64} {v : Word} (h : s.Burned bits) :
    ResBurned bits (execCqHeadDoorbell fn n v s) :=
  .ite (.next h) (.ite (.next h.beside.count.beside.message) (.next h.beside.count))

theorem State.Burned.takeSlots {n k : Nat} (h : s.Burned bits) : (s.takeSlots n k).Burned bits :=
  h.each (fun _ _ h1 => h1.put.count)

theorem execCmdFetch_burned {n : Fin 64} {slots : List Byte} (h : s.Burned bits) : ResBurned bits (execCmdFetch n slots s) := by
  refine .ite (.next h) (.ite (.ite (.next h) (.next h.takeSlots.beside)) (.ite (.next h) (.ite (.next h) ?_)))
  extract_lets _ _ _ _ _ s2
  have h1 : s2.Burned bits := h.takeSlots.beside.beside
  exact .next (.ite h1.flush h1)

theorem State.Burned.pf2Queue {p k : Nat} {frame : List Byte} {unctrl : Bool} {host : Option (Nat × Nat)} (h : s.Burned bits) :
    (s.pf2Queue p k frame unctrl host).Burned bits :=
  .ite h.serial.fst.hostDone.stat (.ite h.serial.fst.hostDone.blkAdd
      (.ite (.ite h.serial.fst.enqueue.blkAdd.count h.serial.fst.hostDone.blkAdd) h.serial.fst.enqueue))

theorem execPf2TxFetch_burned {n : Fin 64} {d : List Byte} {frame : Option (List Byte)} (h : s.Burned bits) :
    ResBurned bits (execPf2TxFetch n d frame s) := by
  refine .ite (.next h) ?_
  dsimp only
  split
  · exact .next h.takeSlots.ringErr
  · exact .ite (.next h.takeSlots.txDone) (.ite (.ite (.next h.takeSlots.txDone) (.next h.takeSlots.lathSend.txDone))
        (.ite (.next h.takeSlots.txDone) (.next h.takeSlots.pf2Queue)))

theorem execExcSteerWrite_burned {r : Fin 4} {v : Word} (h : s.Burned bits) : ResBurned bits (execExcSteerWrite r v s) :=
  .ite (.next h) (.next h.put.put.beside)

theorem execFence_burned {c : RingCmd} (h : s.Burned bits) : ResBurned bits (execFence c s) := by
  unfold execFence
  split
  · exact .ite (.next h.owe.fst.beside.settle) (ringExec_burned (fun _ _ h1 => .mk h1) h)
  · exact ringExec_burned (fun _ _ h1 => .mk h1) h

/-! ### The functions of Machine/Pair -/

theorem State.Burned.pairSendOn {path : Nat} {k : Kind} {payload : List Byte} (h : s.Burned bits) :
    (s.pairSendOn path k payload).Burned bits :=
  h.emit.count

theorem State.Burned.authFail (h : s.Burned bits) : s.authFail.Burned bits := h.beside.blkAdd

theorem State.Burned.dropRefill (h : s.Burned bits) : s.dropRefill.Burned bits := by
  unfold State.dropRefill
  extract_lets s1 s2 _ _ _ _ s5
  have h1 : s1.Burned bits := h.each (fun _ _ h1 => h1.ctxPut.beside.ctxUncache)
  have h2 : s2.Burned bits := h1.each (fun _ _ h2 => h2.beside)
  have h3 : s5.Burned bits := h2.beside.keyGauges.beside.put.each (fun _ _ h3 => h3.beside)
  exact h3.beside

theorem State.Burned.refillFail (h : s.Burned bits) : s.refillFail.Burned bits := h.dropRefill.setRole.event

theorem State.Burned.refillWrite {d : List Byte} (h : s.Burned bits) : OptBurned bits (s.refillWrite d) := by
  unfold State.refillWrite
  extract_lets _ _ _ _ _ _ t1 _ _ _ at_
  split
  · split
    · exact .ite .none (.some h.fill.beside.keyGauges.beside)
    · exact .none
  · have h1 : t1.Burned bits := h.ctxPut.unpoison.when (fun _ h1 => h1.pinCtx)
    exact .some h1.beside
  · clear_value at_
    split
    · exact .some h.beside.put.beside
    · exact .some h
  · exact .some h.beside.beside
  · exact .some h.setRole.beside.event
  · exact .some h

theorem execRefillRecordReceive_burned {l : LathLink} {r : LathRec} (h : s.Burned bits) :
    ResBurned bits (execRefillRecordReceive l r s) := by
  refine .ite (.next h) (.ite (.next (h.count.authFail.when (fun _ h1 => h1.refillFail))) (.ite (.next h.count) ?_))
  split
  · exact .next (h.count.refillWrite.of ‹_›)
  · exact .next h.count.refillFail

theorem State.Burned.bothLost (h : s.Burned bits) : s.bothLost.Burned bits :=
  .ite h.takeOver (.ite h.setRole.event (.ite h.refillFail h))

theorem State.Burned.missPath {path : Nat} (h : s.Burned bits) : (s.missPath path).Burned bits :=
  .ite ((h.beside.when (fun _ h1 => h1.put.blkAdd.event)).when (fun _ h1 => h1.bothLost)) h.beside

theorem State.Burned.goodPath {path : Nat} (h : s.Burned bits) : (s.goodPath path).Burned bits :=
  .ite h.beside.put.event h.beside

theorem State.Burned.becomeActive {role : Nat} (h : s.Burned bits) : (s.becomeActive role).Burned bits := h.setRole.beside

theorem State.Burned.hearRole (h : s.Burned bits) : s.hearRole.Burned bits :=
  .ite (.ite h.setRole (.ite (.ite h.setRole h.becomeActive) h))
      (.ite (.ite h.setRole (.ite (h.event.when (fun _ h1 => h1.setRole.event)) h)) h)

theorem State.Burned.skewCheck {path clock : Nat} (h : s.Burned bits) : (s.skewCheck path clock).Burned bits :=
  .ite h.beside.event h

theorem State.Burned.pairRun (h : s.Burned bits) : s.pairRun.Burned bits := .ite h (.ite h.beside.setRole h.beside)

theorem State.Burned.storeCheckpoint {d : List Byte} {i : Nat} (h : s.Burned bits) : (s.storeCheckpoint d i).Burned bits :=
  .ite h.ctxPut h

theorem execPairCheckpointReceive_burned {l : LathLink} {r : LathRec} (h : s.Burned bits) :
    ResBurned bits (execPairCheckpointReceive l r s) := by
  refine .ite (.next h) (.ite (.next h.count.authFail) (.ite (.next h.count) ?_))
  extract_lets _ s1
  have h1 : s1.Burned bits := h.count.each (fun _ _ h1 => h1.storeCheckpoint)
  exact .next (h1.when (fun _ h2 => h2.beside))

theorem execDemoteCheckpointStart_burned (h : s.Burned bits) : ResBurned bits (execDemoteCheckpointStart s) := by
  unfold execDemoteCheckpointStart
  split
  · exact .ite (.next h.beside.pairSendOn) (.next h)
  · exact .next h

theorem State.Burned.handoverDone {code : Nat} (h : s.Burned bits) : (s.handoverDone code).Burned bits := by
  unfold State.handoverDone
  dsimp only
  split
  · exact h.beside.completeOrder
  · exact h.beside

theorem execPairHandover_burned (h : s.Burned bits) : ResBurned bits (execPairHandover s) := by
  unfold execPairHandover
  split
  · exact .ite (.next h.handoverDone.setRole.event) (.ite (.next h.setRole.beside.beside.event) (.next h.handoverDone))
  · exact .next h

theorem State.Burned.digestCompare {p cycle sum count sum' count' : Nat} (h : s.Burned bits) :
    (s.digestCompare p cycle sum count sum' count').Burned bits :=
  .ite h.blkAdd (.ite h.blkAdd h.blkAdd.beside.event)

theorem State.Burned.digestMatch {p : Nat} (h : s.Burned bits) : (s.digestMatch p).Burned bits :=
  h.beside.each (fun _ _ h1 => h1.digestCompare)

theorem execDigestSend_burned {p : Fin 96} (h : s.Burned bits) : ResBurned bits (execDigestSend p s) := by
  refine .ite (.next h) (.ite (.next h.beside) ?_)
  extract_lets _ s2
  have h1 : s2.Burned bits := by
    unfold s2
    split
    · exact h.beside.pairSendOn
    · exact h.beside
  exact .next h1.digestMatch

theorem pairStatus_burned : BodyBurned bits pairStatus := fun _ _ h => .ite (refuse_burned h) (.mk h)

theorem pairRefill_burned : BodyBurned bits pairRefill :=
  fun _ _ h => .ite (refuse_burned h) (.ite (refuse_burned h) (.ite (refuse_burned h) (.mk h.setRole.beside.pairSendOn)))

theorem execPairDemote_burned {c : RingCmd} (h : s.Burned bits) : ResBurned bits (execPairDemote c s) := by
  unfold execPairDemote
  dsimp only
  split
  · exact .ite (.next h.owe.fst.beside) (ringExec_burned (fun _ _ h1 => refuse_burned h1) h)
  · exact .next h

/-! ### The functions of Machine/Screed -/

theorem badOp_burned : BodyBurned bits badOp := fun _ _ h => refuse_burned h

theorem counted_burned {e : Nat} {b : Body} (hb : BodyBurned bits b) : BodyBurned bits (counted e b) :=
  fun c _ h => hb c _ h.count

/-- An entry of a list of treatments, or the answer to an operation that it lacks. -/
theorem BodyBurned.getD {l : List Body} {op : Nat} (hl : ∀ b ∈ l, BodyBurned bits b) : BodyBurned bits (l.getD op badOp) := by
  rw [List.getD_eq_getElem?_getD]
  cases e : l[op]? with
  | none => exact badOp_burned
  | some b => exact hl b (List.mem_of_getElem? e)

theorem ringBody_burned (group op : Nat) : BodyBurned bits (ringBody group op) := by
  unfold ringBody
  split
  · exact counted_burned (.getD (by simp [tceReadPos_burned, tceSearch_burned, tceInsert_burned, tceUpdate_burned,
    tceDelete_burned, tceFlush_burned,
        tceWritePos_burned]))
  · exact .getD (by simp [ctxRead_burned, ctxInstall_burned, ctxEnable_burned, ctxRetire_burned, ctxSelect_burned,
    ctxFree_burned, ctxPin_burned, ctxUnpin_burned,
      ctxClearCnt_burned, scmAdd_burned, scmDelete_burned, flipAdd_burned, flipArm_burned, flipCancel_burned,
        flipStatus_burned, secyTxRead_burned])
  · exact counted_burned (.getD (by simp [keyImportKw_burned, keyImportXw_burned, keyGenerate_burned, keyDerive_burned,
    keyExportKw_burned,
        keyExportXw_burned,
      keyCmacGen_burned, keyCmacVerify_burned, keyAttrRead_burned, keyAttrReduce_burned, keyPin_burned, keyUnpin_burned,
        keyFree_burned, rootInject_burned,
      rootErase_burned, rootStatus_burned]))
  · exact .getD (by simp [gclWrite_burned, gclRead_burned, gclParams_burned, gclChange_burned, gclCancel_burned,
    gclStatus_burned])
  · exact .getD (by simp [fltWrite_burned, fltRead_burned, mtrWrite_burned, mtrRead_burned, fltUnblock_burned,
    mtrUnmark_burned, fltClearCnt_burned])
  · exact .getD (by simp [tunWrite_burned, tunRead_burned])
  · exact .getD (by simp [srcRead_burned, srcWrite_burned, stnRead_burned, stnWrite_burned, stnClearCnt_burned])
  · exact .getD (by simp [ctAdmit_burned, ctWithdraw_burned, ctRead_burned, ctClearCnt_burned])
  · exact .getD (by simp [ptpGet_burned, ptpSet_burned])
  · exact .getD (by simp [perfSnapshot_burned, perfSnapAt_burned, perfDump_burned, perfRead_burned])
  · split
    · exact fun _ _ h => .mk h
    · exact badOp_burned
  · exact badOp_burned

theorem State.Burned.replay {j : Nat × Nat × RingCmd} (h : s.Burned bits) : (s.replay j).Burned bits :=
  .ite h (FstBurned.fst (ringBody_burned _ _ _ _ h))

/-! ### The functions of Machine/Boot -/

theorem execFwLoadGo_burned {img : Option (List Byte)} (h : s.Burned bits) : ResBurned bits (execFwLoadGo img s) := by
  refine .ite (.next h) ?_
  split <;> exact .next h.setBoot.put

theorem execFwVerifyDone_burned (h : s.Burned bits) : ResBurned bits (execFwVerifyDone s) := by
  refine .ite (.next h) ?_
  extract_lets _ s1 _ s2
  have h0 : s1.Burned bits := h.put
  clear_value s1
  have h1 : s2.Burned bits := .ite h0.setBoot.put h0.setBoot
  exact .next (h1.when (fun _ h2 => h2.lathSend))

theorem State.Burned.postNotice (h : s.Burned bits) : s.postNotice.Burned bits := by
  unfold State.postNotice
  split
  · exact h.beside.post
  · exact h

theorem State.Burned.relayFirmware (h : s.Burned bits) : s.relayFirmware.Burned bits :=
  h.lathSend.each (fun _ _ h1 => h1.lathSend)

theorem execRunReq_burned (h : s.Burned bits) : ResBurned bits (execRunReq s) := by
  refine .ite (.next h) ?_
  extract_lets _ s2 _ s3
  have h1 : s2.Burned bits := by
    unfold s2
    split
    · exact .ite h.beside.put h.beside
    · exact h.beside
  have h2 : s3.Burned bits := h1.pairRun.when (fun _ h2 => h2.startRetire)
  exact .next (h2.when (fun _ h3 => h3.relayFirmware))

theorem execHoldReq_burned (h : s.Burned bits) : ResBurned bits (execHoldReq s) := .ite (.next h.enterHold) (.next h)

theorem State.Burned.fuseBurn {op : Nat} {mask : BitVec 1600} (h : s.Burned bits) : (s.fuseBurn op mask).Burned bits :=
  h.setBoot.put

theorem State.Burned.fuseGo {k : State → State} (h : s.Burned bits) (hk : ∀ t, t.Burned bits → (k t).Burned bits) :
    ResBurned bits (s.fuseGo k) :=
  .ite (.next h) (.ite (.next h.put) (.next (hk _ h)))

theorem execArbCommit_burned (h : s.Burned bits) : ResBurned bits (execArbCommit s) :=
  h.fuseGo (fun _ h1 => .ite h1.put h1.fuseBurn)

theorem execOwnerHash_burned {buf : Option (List Byte)} (h : s.Burned bits) : ResBurned bits (execOwnerHash buf s) := by
  refine h.fuseGo (fun _ h1 => .ite h1.put (.ite h1.put ?_))
  split
  · exact h1.put
  · exact .ite h1.put h1.fuseBurn

theorem execLcAdvance_burned {buf : Option (List Byte)} (h : s.Burned bits) : ResBurned bits (execLcAdvance buf s) := by
  refine h.fuseGo (fun _ h1 => ?_)
  split
  · exact h1.put
  · refine .ite h1.put ?_
    split
    · exact h1.put
    · exact .ite h1.put (.ite h1.put h1.fuseBurn)

theorem execDbufMinT_burned (h : s.Burned bits) : ResBurned bits (execDbufMinT s) := h.fuseGo (fun _ h1 => h1.fuseBurn)

theorem execFuseBurnDone_burned (h : s.Burned bits) : ResBurned bits (execFuseBurnDone s) := by
  unfold execFuseBurnDone
  split
  · exact .next h
  · next m _ =>
    extract_lets _ s1 s2 s3
    have h0 : s1.Burned bits := s.setBoot_burned (h.or m)
    have h1 : s2.Burned bits := .ite h0.put.put h0.put.put
    have h2 : s3.Burned bits := .ite h1.raiseReset h1.event
    split
    · exact .next h2.raiseReset
    · exact .next h2

theorem execAttGo_burned (h : s.Burned bits) : ResBurned bits (execAttGo s) :=
  .ite (.next h) (.ite (.next h.put) (.ite (.next h.put) (.next h.put)))

theorem execAttDone_burned {ok : Bool} (h : s.Burned bits) : ResBurned bits (execAttDone ok s) := by
  refine .ite (.next h) ?_
  extract_lets _ s1
  have h1 : s1.Burned bits := h.when (fun _ h1 => h1.dma)
  exact .next h1.put.put.event

/-! ### The functions of Machine/Regfile -/

theorem goOn_burned {r : Res} (h : s.Burned bits) (h0 : ResBurned bits r) : (goOn s r).Burned bits := by
  unfold goOn
  split
  · exact h0 _ rfl
  · exact h

theorem State.Burned.cfgRefused {a : Nat} (h : s.Burned bits) : (s.cfgRefused a).Burned bits := by
  refine .ite (.ite h.modeRefused (.ite h.event (.ite h.event h))) ?_
  split
  · exact h.event
  · exact h.event
  · exact h.event
  · exact h.event
  · exact h.post
  · exact h.event
  · exact h.event
  · exact h.stnEvent
  · exact h.event
  · exact h.event
  · exact h.event
  · exact h.rubEvent
  · exact h.event
  · exact h

theorem State.Burned.mmFollows {p old : Nat} (h : s.Burned bits) : (s.mmFollows p old).Burned bits := .ite h h.put

theorem State.Burned.schedFollows {p : Nat} (h : s.Burned bits) : (s.schedFollows p).Burned bits := .ite h.resync h.beside

theorem State.Burned.afterWrite {a old : Nat} (h : s.Burned bits) : (s.afterWrite a old).Burned bits :=
  .ite (.ite h.mmFollows (.ite h.schedFollows h)) (.ite (.ite h h.beside.setLocked) h)

theorem State.Burned.plainWrite {a v : Nat} (h : s.Burned bits) : (s.plainWrite a v).Burned bits := by
  unfold State.plainWrite
  split
  · exact h
  · exact .ite h.lockWrite.cfgRefused h.lockWrite.setReg.afterWrite

theorem State.Burned.rstWrite {v : Word} (h : s.Burned bits) : (s.rstWrite v).Burned bits :=
  .ite h (.ite h.event (.ite h.warmReset (goOn_burned h (execSliceReset_burned h))))

theorem State.Burned.ringCtlWrite {n : Nat} {v : Word} (h : s.Burned bits) : (s.ringCtlWrite n v).Burned bits := by
  unfold State.ringCtlWrite
  extract_lets _ s1
  have h1 : s1.Burned bits := .ite (goOn_burned h (execRingReset_burned h)) h
  exact .ite (goOn_burned h1 (execRingEnable_burned h1)) (goOn_burned h1 (execRingDisable_burned h1))

theorem State.Burned.bootCtlWrite {v : Word} (h : s.Burned bits) : (s.bootCtlWrite v).Burned bits := by
  unfold State.bootCtlWrite
  extract_lets s1
  have h1 : s1.Burned bits := .ite (goOn_burned h (execRunReq_burned h)) h
  exact .ite (goOn_burned h1 (execHoldReq_burned h1)) h1

theorem State.Burned.fuseCmdWrite {v : Word} (h : s.Burned bits) : (s.fuseCmdWrite v).Burned bits := by
  refine .ite h ?_
  split
  · exact goOn_burned h (execArbCommit_burned h)
  · exact h
  · exact h
  · exact goOn_burned h (execDbufMinT_burned h)
  · exact goOn_burned h (h.fuseGo (fun _ h1 => h1.put))

theorem State.Burned.tceWrite {v : Word} (h : s.Burned bits) : (s.tceWrite v).Burned bits :=
  .ite h (.ite (.ite h.put (.ite h.put.faceAnswer h.put.beside)) (.ite h.put.put.event h))

theorem State.Burned.encWrite {v : Word} (h : s.Burned bits) : (s.encWrite v).Burned bits := .ite (.ite h h.beside) h.lockWrite

theorem State.Burned.alarmStatusWrite {v : Word} (h : s.Burned bits) : (s.alarmStatusWrite v).Burned bits := .ite h.beside h

theorem State.Burned.timeCtlWrite {v : Word} (h : s.Burned bits) : (s.timeCtlWrite v).Burned bits := by
  refine .ite h.plainWrite ?_
  suffices h1 : State.Burned bits _ by
    suffices h2 : State.Burned bits _ by
      exact .ite (goOn_burned h2 (execTimeStep_burned h2)) h2
    exact .ite (goOn_burned h1 (execTimeSet_burned h1)) h1
  exact .ite (goOn_burned h.plainWrite (execTimeSnap_burned h.plainWrite)) h.plainWrite

theorem State.Burned.ownWrite {a : Nat} {v : Word} (h : s.Burned bits) : OptBurned bits (s.ownWrite a v) := by
  refine .ite (.some h.rstWrite) (.ite (.some h.bootCtlWrite)
      (.ite (.some h.fuseCmdWrite) (.ite (.some (.ite (goOn_burned h (execAttGo_burned h)) h))
      (.ite (.some (.ite (goOn_burned h (execFloorCmd_burned h)) h))
      (.ite (.some (.ite (goOn_burned h (execHealthKick_burned h)) h))
      (.ite (.some h.alarmStatusWrite) (.ite (.some h.encWrite)
      (.ite (.some h.tceWrite) (.ite (.some (goOn_burned h (execCtxLeapLoWrite_burned h)))
      (.ite (.some (goOn_burned h (execCtxLeapHiWrite_burned h))) (.ite (.some (goOn_burned h (execKeyGroupIdWrite_burned h)))
      (.ite (.some h.timeCtlWrite) (.ite (.some (goOn_burned h (execTimeRateWrite_burned h)))
      (.ite (.some (.ite h.setReg h)) (.ite (.some (goOn_burned h (execDbufTWrite_burned h)))
      (.ite (.some (goOn_burned h (execSkimStart_burned h))) ?_))))))))))))))))
  split
  · exact .some (goOn_burned h (execExcSteerWrite_burned h))
  · exact .ite (.some h.ringCtlWrite) .none

theorem State.Burned.pf0Write {a : Nat} {v : Word} (h : s.Burned bits) : (s.pf0Write a v).Burned bits := by
  refine .ite h (.ite h (.ite h (.ite (goOn_burned h (execPortModeWrite_burned h)) (.ite (goOn_burned h
    (execTwReqWrite_burned h)) ?_))))
  split
  · exact (h.ownWrite.of ‹_›)
  · exact h.plainWrite

/-! ### The functions of Machine/Domain -/

theorem State.Burned.domAuthFail {src : Nat} (h : s.Burned bits) : (s.domAuthFail src).Burned bits := h.blkAdd.event

theorem onAuth_burned {k : Kind} {l : LathLink} {r : LathRec} {act : State → State} (h : s.Burned bits)
    (hact : ∀ t, t.Burned bits → (act t).Burned bits) : ResBurned bits (onAuth k l r s act) := by
  refine .ite (.next h) (.ite (.next h.count) (.ite (.next h.count.domAuthFail) ?_))
  extract_lets s2
  have h1 : s2.Burned bits := .ite h.count h.count.lathSend
  exact .ite (.next h1) (.next (hact _ h1.beside))

theorem onPlain_burned {k : Kind} {l : LathLink} {r : LathRec} {may : State → Bool} {act : State → State} (h : s.Burned bits)
    (hact : ∀ t, t.Burned bits → (act t).Burned bits) : ResBurned bits (onPlain k l r s may act) :=
  .ite (.next h) (.ite (.next h.count) (.next (hact _ h.count.beside)))

theorem State.Burned.setPresent {map : Nat} (h : s.Burned bits) : (s.setPresent map).Burned bits := h.put.put.put

theorem State.Burned.claimCheck {j flags : Nat} (h : s.Burned bits) : (s.claimCheck j flags).Burned bits :=
  .ite h.beside.event h

theorem execDiscoverReceive_burned {l : LathLink} {r : LathRec} (h : s.Burned bits) :
    ResBurned bits (execDiscoverReceive l r s) := by
  refine .ite (.next h) (.ite (.next h.count.beside.event) ?_)
  extract_lets _ _ _ _ _ s3
  have h1 : s3.Burned bits := h.count.beside.when (fun _ h1 => h1.setPresent)
  exact .next (h1.claimCheck.when (fun _ h2 => h2.relayFirmware))

theorem execRingLinkRestore_burned {l : LathLink} (h : s.Burned bits) : ResBurned bits (execRingLinkRestore l s) := by
  refine .ite (.next h) ?_
  extract_lets _ s2
  have h1 : s2.Burned bits := h.put.when (fun _ h1 => h1.put)
  exact .next h1.lathSend

theorem State.Burned.passOn {l : LathLink} {r : LathRec} (h : s.Burned bits) : (s.passOn l r).Burned bits := .ite h h.emit.count

theorem State.Burned.prepareDone {x : Prep} {d : Reply} (h : s.Burned bits) : (s.prepareDone x d).Burned bits := by
  unfold State.prepareDone
  dsimp only
  split
  · exact h.beside.completeOrder
  · exact h.beside

theorem State.Burned.activateAck {j : Nat} (h : s.Burned bits) : (s.activateAck j).Burned bits := by
  unfold State.activateAck
  split
  · exact h
  · exact .ite h.beside h.beside.beside.prepareDone

theorem execAckReceive_burned {l : LathLink} {r : LathRec} (h : s.Burned bits) : ResBurned bits (execAckReceive l r s) := by
  refine onAuth_burned h fun _ h1 => ?_
  extract_lets _
  split
  · exact h1
  · refine .ite h1.activateAck (.ite h1.beside ?_)
    split
    · exact h1.beside.completeOrder
    · exact h1.beside

theorem State.Burned.relayAnswer {owner : Option (Nat × Nat)} {j : Nat} {d : Completion} (h : s.Burned bits) :
    (s.relayAnswer owner j d).Burned bits := by
  unfold State.relayAnswer
  split
  · exact h
  · exact .ite h.broadcastAnswer h.completeOrder

theorem State.Burned.readOver {q : Nat} {v : Word} (h : s.Burned bits) : (s.readOver q v).Burned bits := h.beside.emit

theorem State.Burned.relayFail {j : Nat} (h : s.Burned bits) : (s.relayFail j).Burned bits := h.when (fun _ h1 => h1.event)

theorem State.Burned.relayLost {x : Relay} (h : s.Burned bits) : (s.relayLost x).Burned bits := by
  refine .ite ?_ (.relayFail (.ite h.beside.relayAnswer.readOver h.beside.relayAnswer))
  split
  · exact h.beside.prepareDone
  · exact h.beside

theorem execRecordAckTimeout_burned {seq : BitVec 32} (h : s.Burned bits) : ResBurned bits (execRecordAckTimeout seq s) := by
  unfold execRecordAckTimeout
  split
  · exact .next h
  · exact .ite (.next (h.beside.lathAgain (fun _ _ _ h1 => h1.overflow)).blkAdd.count) (.next h.relayLost)

theorem State.Burned.relayWrite {x : Nat} {v : Word} (h : s.Burned bits) : (s.relayWrite x v).Burned bits :=
  .ite h (.ite h.pf0Write (.ite h.event h.unicast))

theorem State.Burned.hostRead {a : Nat} (h : s.Burned bits) : (s.hostRead a).2.Burned bits := by
  unfold State.hostRead
  split
  · exact h
  · split
    · exact h.put
    · exact h

theorem execRelayWindowRead_burned {x : BitVec 23} (h : s.Burned bits) : ResBurned bits (execRelayWindowRead x s) := by
  unfold execRelayWindowRead
  extract_lets a
  refine .ite (.next h.emit) (.ite (.next h.emit) (.ite ?_ (.ite (.next h.emit.event) (.next h.unicast.beside))))
  have h1 : (s.hostRead a).2.Burned bits := h.hostRead
  generalize s.hostRead a = r at h1 ⊢
  split
  exact .next h1.emit

theorem execRegRecordReceive_burned {l : LathLink} {r : LathRec} (h : s.Burned bits) :
    ResBurned bits (execRegRecordReceive l r s) := by
  refine onAuth_burned h fun t h1 => ?_
  extract_lets a
  refine .ite h1 ?_
  split
  · have h2 : (t.hostRead a).2.Burned bits := h1.hostRead
    generalize t.hostRead a = r at h2 ⊢
    split
    exact h2.unicast
  · exact .ite h1.pf0Write h1
  · exact h1

theorem execRelayReadTimeout_burned {seq : BitVec 32} (h : s.Burned bits) : ResBurned bits (execRelayReadTimeout seq s) := by
  unfold execRelayReadTimeout
  split
  · exact .next h.readOver.relayFail
  · exact .next h

theorem State.Burned.discard (h : s.Burned bits) : s.discard.Burned bits := h.beside.put.each (fun _ _ h1 => h1.beside)

theorem State.Burned.runRelayed {g op : Nat} {c : RingCmd} (h : s.Burned bits) : FstBurned bits (s.runRelayed g op c) :=
  .ite (.mk h) (.ite (.mk h.discard) (runLocal_burned (ringBody_burned g op) h))

theorem execDmaRecordReceive_burned {l : LathLink} {r : LathRec} (h : s.Burned bits) :
    ResBurned bits (execDmaRecordReceive l r s) := by
  unfold execDmaRecordReceive
  extract_lets k
  refine onAuth_burned h fun t h1 => ?_
  clear_value k
  refine .ite h1 ?_
  split
  · extract_lets _
    split
    · exact h1.beside.relayAnswer
    · exact h1
  · extract_lets _ s1
    have h2 : s1.Burned bits := .ite h1.beside h1
    exact h2.post
  · exact h1.emit

theorem execFwStartReceive_burned {l : LathLink} {r : LathRec} (h : s.Burned bits) :
    ResBurned bits (execFwStartReceive l r s) := by
  refine onPlain_burned h (fun _ h1 => ?_)
  extract_lets _ s1
  have h2 : s1.Burned bits := .ite h1 h1.put.formSlot
  clear_value s1
  exact h2.beside.setBoot.put

theorem execFwDataReceive_burned {l : LathLink} {r : LathRec} (h : s.Burned bits) :
    ResBurned bits (execFwDataReceive l r s) := by
  refine .ite (.next h) (.ite (.next h.count.passOn) ?_)
  extract_lets s2
  have h1 : s2.Burned bits := h.count.passOn.beside
  clear_value s2
  exact .ite (.next h1.setBoot) (.next h1)

theorem State.Burned.screedOutcome {j : Nat} {good : Bool} (h : s.Burned bits) : (s.screedOutcome j good).Burned bits :=
  .ite h.beside (.ite h.beside.raise.event.put h.beside)

theorem State.Burned.screedJudge {j : Nat} {x : Screed} (h : s.Burned bits) : (s.screedJudge j x).Burned bits :=
  .ite h.beside.screedOutcome h.beside

theorem State.Burned.closeInterval (h : s.Burned bits) : s.closeInterval.Burned bits := by
  refine .ite h ?_
  extract_lets _ s1
  have h1 : s1.Burned bits := h.each (fun _ _ h1 => h1.screedOutcome)
  exact h1.beside

theorem State.Burned.unfreeze (h : s.Burned bits) : s.unfreeze.Burned bits := h.beside.event

theorem State.Burned.abortPrep {x : Prep} {code map : Nat} (h : s.Burned bits) : (s.abortPrep x code map).Burned bits :=
  h.lathSend.put.unfreeze.prepareDone.beside

theorem State.Burned.applyStaged (h : s.Burned bits) : s.applyStaged.Burned bits := by
  unfold State.applyStaged
  extract_lets s1 s2 s3 _ _ _ _ s6
  have h1 : s1.Burned bits := h.each (fun _ _ h1 => h1.replay)
  have h2 : s2.Burned bits := h1.each (fun _ _ h2 => (ctWithdraw_burned _ _ h2).fst)
  have h3 : s3.Burned bits := h2.each (fun _ _ h3 => (ctAdmit_burned _ _ h3).fst)
  have h4 : s6.Burned bits := by
    unfold s6
    split
    · exact h3.put.put.beside.beside.put
    · exact h3.put.put.beside
  exact h4.event

theorem State.Burned.activate {t : Nat} (h : s.Burned bits) : (s.activate t).Burned bits := by
  refine .ite h (.ite h.beside ?_)
  extract_lets _ s2
  have h1 : s2.Burned bits := by
    refine h.event.each (fun _ _ h1 => ?_)
    split
    · exact h1.schedule
    · exact h1
  exact h1.applyStaged

theorem execActivation_burned (h : s.Burned bits) : ResBurned bits (execActivation s) := by
  unfold execActivation
  split
  · exact .next h
  · exact .ite (.next h) (.next (h.each (fun _ _ h1 => h1.swapBanks)).applyStaged)

theorem State.Burned.sendActivate {x : Prep} (h : s.Burned bits) : (s.sendActivate x).Burned bits :=
  h.lathSend.beside.activateAck.activate

theorem State.Burned.takeReport {j code : Nat} {stg : BitVec 128} (h : s.Burned bits) :
    (s.takeReport j code stg).Burned bits := by
  unfold State.takeReport
  split
  · exact h
  · exact .ite h (.ite h.beside (.ite h.beside.abortPrep (.ite h.beside.sendActivate h.beside.abortPrep)))

theorem execPrepTimeout_burned (h : s.Burned bits) : ResBurned bits (execPrepTimeout s) := by
  unfold execPrepTimeout
  split
  · exact .ite (.next h.abortPrep) (.next h)
  · exact .next h

theorem domExec_burned {op : Nat} {body : Body} {c : RingCmd} (hbody : BodyBurned bits body) (h : s.Burned bits) :
    ResBurned bits (domExec op body c s) :=
  ringExec_burned (fun _ _ h1 => .ite (hbody _ _ h1) (refuse_burned h1)) h

theorem domStatus_burned : BodyBurned bits domStatus := fun _ _ h => .ite (refuse_burned h) (.mk h)

theorem domExpect_burned : BodyBurned bits domExpect := by
  intro _ s h
  unfold domExpect
  dsimp only
  split
  · exact dmaError_burned h
  · exact .ite (refuse_burned h) (.mk h.beside.put)

theorem State.Burned.startPrepare {c : RingCmd} {owner : Nat × Nat} (h : s.Burned bits) :
    (s.startPrepare c owner).Burned bits :=
  h.beside.put.lathSend.beside.takeReport

theorem execDomPrepare_burned {c : RingCmd} (h : s.Burned bits) : ResBurned bits (execDomPrepare c s) := by
  unfold execDomPrepare
  split
  · exact .next h.owe.fst.startPrepare
  · exact ringExec_burned (fun _ _ h1 => .mk h1) h
  · exact ringExec_burned (fun _ _ h1 => refuse_burned h1) h

theorem domAbort_burned : BodyBurned bits domAbort := by
  intro _ s h
  unfold domAbort
  split
  · exact .mk h
  · exact .ite (refuse_burned h) (.mk h.beside.abortPrep)

theorem execDomDiscard_burned {c : RingCmd} (h : s.Burned bits) : ResBurned bits (execDomDiscard c s) := by
  unfold execDomDiscard
  extract_lets _ _ _ s1
  split
  · exact ringExec_burned (fun _ _ h1 => refuse_burned h1) h
  · refine .ite (ringExec_burned (fun _ _ h1 => refuse_burned h1) h) ?_
    have h1 : s1.Burned bits := h.when (fun _ h1 => h1.discard)
    exact .ite (ringExec_burned (fun _ _ h2 => .mk h2) h1) (.next (h1.owe.fst.beside.each (fun _ _ h2 => h2.unicast)))

theorem domRelease_burned : BodyBurned bits domRelease := fun _ _ h => .ite (refuse_burned h) (.mk h.put)

theorem execDomReset_burned {c : RingCmd} (h : s.Burned bits) : ResBurned bits (execDomReset c s) := by
  unfold execDomReset
  dsimp only
  split
  · exact ringExec_burned (fun _ _ h1 => refuse_burned h1) h
  · exact .ite (ringExec_burned (fun _ _ h1 => .mk h1.lathSend) h)
        (.ite (ringExec_burned (fun _ _ h1 => refuse_burned h1) h) (.next h.owe.fst.unicast))

/-! ### The functions of Machine/Access -/

theorem State.Burned.unmask {fn v : Nat} (h : s.Burned bits) : (s.unmask fn v).Burned bits := .ite h.beside.emit h

theorem State.Burned.msixWrite {fn x size v : Nat} (h : s.Burned bits) : (s.msixWrite fn x size v).Burned bits :=
  .ite h h.beside.unmask

theorem State.Burned.bar2Write {fn : Fin 3} {x size v : Nat} (h : s.Burned bits) : (s.bar2Write fn x size v).Burned bits :=
  .ite (.ite h (.ite (goOn_burned h (execSqTailDoorbell_burned h)) (goOn_burned h (execCqHeadDoorbell_burned h))))
    (.ite h.msixWrite h)

theorem State.Burned.bar0Write {x size v : Nat} (h : s.Burned bits) : (s.bar0Write x size v).Burned bits :=
  .ite h (.ite h.pf0Write (.ite h.relayWrite h))

/-! ### The dispatch -/

/-- The dispatch has one arm per instruction, and each of them keeps the burned bits. -/
theorem exec_burned {i : Instr} (h : s.Burned bits) : ResBurned bits (exec i s) := by
  unfold exec
  split
  · exact .ite (.next h) (.ite (.next h.bar2Write) (.ite (.next h.bar0Write) (.next h)))
  · exact execPortModeWrite_burned h
  · exact .next h.emit.put
  · exact .ite (.next h.beside.seekOn) (.next h)
  · exact .ite (.next h.event) (.next h)
  · exact .ite (.next h.beside.seekOn) (.next h)
  · exact .ite (.next h.beside) (.next h)
  · exact .ite (.next h.toLink) (.next h)
  · exact .ite (.next h.enterUp) (.next h)
  · exact .ite (.next h.beside) (.next h)
  · exact .ite (.next h.leaveUp) (.next h)
  · exact .ite (.next h.toLink.event) (.next h)
  · exact .ite (.next h.toLink) (.next h)
  · exact .ite (.next h.toLink.event) (.next h)
  · exact .ite (.next h.enterUp) (.next h)
  · exact .ite (.next h.beside.emit) (.next h)
  · exact .ite (.next h.put.event) (.next h)
  · exact .ite (.next h.put.event) (.next h)
  · exact execMmFragmentReceive_burned h
  · exact .ite (.next h.sleepTx) (.next h)
  · exact .next h.wakeTx
  · exact .ite (.next h.sleepTx) (.next h)
  · exact .ite (.next h.put.stat) (.next h)
  · exact execTwReqWrite_burned h
  · exact .next h.applyTw
  · exact .ite (.next h) (.ite (.next h.blkAdd) (.next h.count.beside.head.fst.setFrame))
  · exact execContextFetchDone_burned h
  · exact execKeyUnwrapDone_burned h
  · exact execFrameWet_burned h
  · exact execForwardingLookupDone_burned h
  · exact execFrameEndReceive_burned h
  · exact execFrameVerdict_burned h
  · exact execStnAsduExamine_burned h
  · exact execStnPairWaitExpire_burned h
  · exact .ite (.next h.beside) (.next h)
  · exact execTxCommit_burned h
  · exact execTransmitStart_burned h
  · exact execReservedStart_burned h
  · exact execTailRelease_burned h
  · exact execTxEnd_burned h
  · exact execExtraWorkDone_burned h
  · exact execDbfReadDone_burned h
  · exact .ite (.next h) (.ite (.next h) (.next (h.beside.each (fun _ _ h1 => h1.fireLate))))
  · exact execGateSetGates_burned h
  · exact execGateSetHold_burned h
  · exact execGateSetRelease_burned h
  · exact execGateKeyflip_burned h
  · exact execGateReserve_burned h
  · exact execGclConfigChange_burned h
  · exact ringExec_burned gclWrite_burned h
  · exact ringExec_burned gclRead_burned h
  · exact ringExec_burned gclParams_burned h
  · exact ringExec_burned gclChange_burned h
  · exact ringExec_burned gclCancel_burned h
  · exact ringExec_burned gclStatus_burned h
  · exact .ite (.next (h.each (fun _ _ h1 => h1.setPend)).setFlip.post) (.next h)
  · exact execCipherCoreFault_burned h
  · exact execMcuCoreFault_burned h
  · exact .next (tceRun_burned tceReadPos_burned h)
  · exact .next (tceRun_burned tceSearch_burned h)
  · exact .ite (.next h.beside) (.next (tceRun_burned tceInsert_burned h))
  · exact execMoveRegisterClear_burned h
  · exact .next (tceRun_burned tceUpdate_burned h)
  · exact .next (tceRun_burned tceDelete_burned h)
  · exact .next (tceRun_burned tceFlush_burned h)
  · exact .next (tceRun_burned tceWritePos_burned h)
  · exact execLearnQueueServe_burned h
  · exact execAgeSweepVisit_burned h
  · exact .ite (.next h.beside.blkAdd) (.next h)
  · exact .next (h.beside.each (fun _ _ h1 => .ite h1.bgcPost.bgcRepair h1.bgcPost))
  · exact ringExec_burned ctxRead_burned h
  · exact ringExec_burned ctxInstall_burned h
  · exact ringExec_burned ctxEnable_burned h
  · exact ringExec_burned ctxRetire_burned h
  · exact ringExec_burned ctxSelect_burned h
  · exact ringExec_burned ctxFree_burned h
  · exact ringExec_burned ctxPin_burned h
  · exact ringExec_burned ctxUnpin_burned h
  · exact ringExec_burned ctxClearCnt_burned h
  · exact ringExec_burned scmAdd_burned h
  · exact ringExec_burned scmDelete_burned h
  · exact ringExec_burned flipAdd_burned h
  · exact ringExec_burned flipArm_burned h
  · exact ringExec_burned flipCancel_burned h
  · exact ringExec_burned flipStatus_burned h
  · exact ringExec_burned secyTxRead_burned h
  · exact execCtxLeapLoWrite_burned h
  · exact execCtxLeapHiWrite_burned h
  · exact keyExec_burned keyImportKw_burned h
  · exact keyExec_burned keyImportXw_burned h
  · exact .ite (keyExec_burned keyGenerate_burned h) (.next h.beside)
  · exact keyExec_burned keyDerive_burned h
  · exact keyExec_burned keyExportKw_burned h
  · exact keyExec_burned keyExportXw_burned h
  · exact keyExec_burned keyCmacGen_burned h
  · exact keyExec_burned keyCmacVerify_burned h
  · exact keyExec_burned keyAttrRead_burned h
  · exact keyExec_burned keyAttrReduce_burned h
  · exact keyExec_burned keyPin_burned h
  · exact keyExec_burned keyUnpin_burned h
  · exact keyExec_burned keyFree_burned h
  · exact keyExec_burned rootInject_burned h
  · exact keyExec_burned rootErase_burned h
  · exact keyExec_burned rootStatus_burned h
  · exact execKeyGroupIdWrite_burned h
  · exact .ite (.next h) (.next (h.beside.each (fun _ _ h1 => ringRun_burned (fun _ _ h2 => refuse_burned h2) h1)).raise)
  · exact .next (.ite h.quarSlot h)
  · exact execTimeSet_burned h
  · exact execTimeStep_burned h
  · exact execTimeSnap_burned h
  · exact execTimeRateWrite_burned h
  · exact execClockSourceAdjust_burned h
  · exact .next h.beside.put.put
  · exact .ite (.next h.beside.beside.setLocked) (.next h.beside)
  · exact .ite (.next h.beside.emit) (.next h)
  · exact .ite (.next h.beside.emit) (.next h)
  · exact execTodOutSend_burned h
  · exact execTodInReceive_burned h
  · exact .ite (.next h.put) (.next h)
  · exact .next h.beside
  · exact ringExec_burned ptpGet_burned h
  · exact ringExec_burned ptpSet_burned h
  · exact ringExec_burned fltWrite_burned h
  · exact ringExec_burned fltRead_burned h
  · exact ringExec_burned mtrWrite_burned h
  · exact ringExec_burned mtrRead_burned h
  · exact ringExec_burned fltUnblock_burned h
  · exact ringExec_burned mtrUnmark_burned h
  · exact ringExec_burned fltClearCnt_burned h
  · exact ringExec_burned tunWrite_burned h
  · exact ringExec_burned tunRead_burned h
  · exact ringExec_burned ctAdmit_burned h
  · exact ringExec_burned ctWithdraw_burned h
  · exact ringExec_burned ctRead_burned h
  · exact ringExec_burned ctClearCnt_burned h
  · exact ringExec_burned srcRead_burned h
  · exact ringExec_burned srcWrite_burned h
  · exact ringExec_burned stnRead_burned h
  · exact ringExec_burned stnWrite_burned h
  · exact ringExec_burned stnClearCnt_burned h
  · exact ringExec_burned pairStatus_burned h
  · exact execPairDemote_burned h
  · exact ringExec_burned pairRefill_burned h
  · exact .ite (.next h.pairSendOn.pairSendOn) (.next h)
  · exact .ite (.next h) (.ite (.next h.count.authFail.missPath) (.next (h.count.put.goodPath.beside.when
    (fun _ h1 => h1.hearRole)).skewCheck))
  · exact .ite (.next h.missPath) (.next h)
  · exact .ite (.ite (.next h.beside) (.ite (.next h.beside.setRole.event) (.next h.beside.becomeActive))) (.next h)
  · exact .ite (.next h) (.ite (.next h.count.authFail) (.next (h.count.when (fun _ h1 => h1.takeOver))))
  · exact .ite (.next h.pairSendOn) (.next h)
  · exact execPairCheckpointReceive_burned h
  · exact execDemoteCheckpointStart_burned h
  · exact .ite (.next h.handoverDone) (.next h)
  · exact execPairHandover_burned h
  · exact execDigestSend_burned h
  · exact .ite (.next h) (.ite (.next h.count.authFail) (.ite (.next h.count) (.ite (.next h.count.beside.digestMatch)
    (.next h.count))))
  · exact .ite (.next h.beside.blkAdd) (.next h)
  · exact execRefillRecordReceive_burned h
  · exact .ite (.next h.lathSend) (.next h)
  · exact execDiscoverReceive_burned h
  · exact .ite (.next h) (.next h.beside.put.setPresent)
  · exact .ite (.next h.put.put.event) (.next h)
  · exact execRingLinkRestore_burned h
  · exact .ite (.next h) (.next h.passOn)
  · exact execAckReceive_burned h
  · exact execRecordAckTimeout_burned h
  · exact .next h.relayWrite
  · exact execRelayWindowRead_burned h
  · exact onAuth_burned h (fun _ h1 => .ite h1.readOver h1)
  · exact execRelayReadTimeout_burned h
  · exact onAuth_burned h (fun _ h1 => .ite h1 (.unicast (.ite h1.runRelayed.fst h1.runRelayed.fst.dma)))
  · exact onAuth_burned h (fun _ h1 => .ite h1.pf2Write (.ite h1 h1.pf2Queue))
  · exact execFwStartReceive_burned h
  · exact execFwDataReceive_burned h
  · exact onPlain_burned h (fun _ h1 => h1.beside)
  · exact .ite (.next h.lathSend) (.next h)
  · exact .ite (.next h) (.ite (.ite (.next h.beside.setPresent.event) (.next h)) (.ite (.next h.put.event) (.next h)))
  · exact onAuth_burned h (fun _ h1 => .ite h1 h1.raiseReset)
  · exact .ite (.next h) (.next h.lathSend.beside.screedJudge.closeInterval)
  · exact onAuth_burned h (fun _ h1 => h1.beside.screedJudge)
  · exact onAuth_burned h (fun _ h1 => .ite h1 h1.beside.unicast)
  · exact onAuth_burned h (fun _ h1 => .ite h1.takeReport h1)
  · exact execPrepTimeout_burned h
  · exact onAuth_burned h (fun _ h1 => .ite h1.unfreeze h1)
  · exact onAuth_burned h (fun _ h1 => .ite h1 h1.lathSend.activate)
  · exact execActivation_burned h
  · exact domExec_burned domStatus_burned h
  · exact domExec_burned domExpect_burned h
  · exact execDomPrepare_burned h
  · exact domExec_burned domAbort_burned h
  · exact execDomDiscard_burned h
  · exact domExec_burned domRelease_burned h
  · exact execDomReset_burned h
  · exact .ite (.next h.raise.blkAdd.event) (.next h)
  · exact execMemReadDone_burned h
  · exact execNodeRebuildDone_burned h
  · exact execMemLineWrite_burned h
  · exact .next h.beside.raise
  · exact execScrubRead_burned h
  · exact .ite (.next h) (.next h.put.event)
  · exact execSkimStart_burned h
  · exact execSkimGroupMove_burned h
  · exact .ite (.next (State.Burned.put (.boots h))) (.next h)
  · exact execDbufTWrite_burned h
  · exact execRawDebugAccess_burned h
  · exact execUcieTrainDone_burned h
  · exact .ite (.next h.put) (.next h)
  · exact execUcieLinkDown_burned h
  · exact execHostReadTimeout_burned h
  · exact execFunctionLevelReset_burned h
  · exact execSqTailDoorbell_burned h
  · exact execCqHeadDoorbell_burned h
  · exact execCmdFetch_burned h
  · exact execRingEnable_burned h
  · exact execRingDisable_burned h
  · exact .ite (.next h.put) (.next h)
  · exact execRingReset_burned h
  · exact execPf2TxFetch_burned h
  · exact .ite (.next h.beside.message) (.next h)
  · exact execExcSteerWrite_burned h
  · exact ringExec_burned (fun _ _ h1 => .mk h1) h
  · exact execFence_burned h
  · exact .ite (.next h) (.next h.beside.carryReset)
  · exact .next h.beside
  · exact .next h.beside
  · exact .ite (.next h) (.next h.cutBurn.wiped.beside)
  · exact .ite (.next h.raiseReset) (.next h)
  · exact .next h.warmReset
  · exact execResetRelease_burned h
  · exact execRomDone_burned h
  · exact execFwLoadGo_burned h
  · exact execFwVerifyDone_burned h
  · exact .ite (.next h) (.next h.beside.beside.beside.setReg.post.postNotice)
  · exact execRunReq_burned h
  · exact execHoldReq_burned h
  · exact execArbCommit_burned h
  · exact execOwnerHash_burned h
  · exact execLcAdvance_burned h
  · exact execDbufMinT_burned h
  · exact execFuseBurnDone_burned h
  · exact execAttGo_burned h
  · exact execAttDone_burned h
  · exact .ite (.next h) (.next (h.when (fun _ h1 => h1.stopMachine)).raise)
  · exact .next h.beside
  · exact .ite (.next h.beside.beside) (.next h)
  · exact .ite (.next h.beside) (.next h)
  · exact execTestWindowEnd_burned h
  · exact execFloorCmd_burned h
  · exact execHealthKick_burned h
  · exact .next h.beside
  · exact .ite (.next h.startPass) (.next h)
  · exact .next h.startPass
  · exact .ite (.next h.startPass) (.next h)
  · exact .ite (.next h) (.ite (.next h.setSliceState.put) (.next h.setRub.setSliceState.put))
  · exact .ite (.next h) (.next h.setRub.put.put)
  · exact .ite (.next h) (.next h.steer.put.setSliceState)
  · exact .ite (.next h) (.next h.endPass)
  · exact execRubDrainDone_burned h
  · exact .ite (.next h) (.ite (.next h.put.put.put.put.put.retireNow) (.ite (.ite (.next h.put.put.put.put.put.put.retireNow)
    (.next h.put.put.put.put.put.setRub.put)) (.next h.put.put.put.put.put.setRub.put)))
  · exact .ite (.next h) (.ite (.next h.beside.endPass) (.next h.beside.setRub))
  · exact .ite (.next h) (.next h.steer.put.put.endPass)
  · exact .next h
  · exact ringExec_burned perfSnapshot_burned h
  · exact ringExec_burned perfSnapAt_burned h
  · exact ringExec_burned perfDump_burned h
  · exact ringExec_burned perfRead_burned h
  · exact .ite (.next h.snapshot) (.next h)
  · exact execSnapAtFire_burned h
  · exact .next h.showSnapshot
  · exact execDumpRecordWrite_burned h
  · exact .ite (.next h) (.ite (.next h.blkAdd.event) (.ite (.next h.beside.post) (.next h.beside.post)))
  · exact .ite (.next h.beside) (.next h)
  · exact .ite (.next h) (.next h.beside.beside.setSliceState)
  · exact .ite (.next h) (.next (.setSliceState (.ite h.beside.clearSlice.setCached h.beside)))
  · exact .ite (.next h) (.next (h.put.event.when (fun _ h1 => h1.resetSliceDone)).askReset)
  · exact .ite (.next h) (.next h.put.raise)
  · exact execSliceReset_burned h
  · exact .ite (.next h.resetSliceDone) (.next h)
  · exact .ite (.next h) (.ite (.next h.count.authFail) (.ite (.next h.count) (.next (h.count.each
    (fun _ _ h1 => h1.pairSendOn)))))
  · exact onAuth_burned h (fun _ h1 => .ite h1.beside.setPresent (.ite h1.beside.put h1.beside))
  · exact execRegRecordReceive_burned h
  · exact execDmaRecordReceive_burned h
  · exact execSpoilMarkerReceive_burned h
  · exact .next (h.beside.each (fun _ _ h1 => ringRun_burned (fun _ _ h2 => keyGenerate_burned _ _ h2.count) h1))
  · exact .next h.put
  · exact execErroredBlockReceive_burned h

/-! ### The functions of Machine/Tick -/

theorem State.Burned.countTh {k : Nat} (h : s.Burned bits) : (s.countTh k).Burned bits :=
  .ite (.ite h.beside.overflow h.beside) h

theorem State.Burned.endWakes (h : s.Burned bits) : s.endWakes.Burned bits := h.each (fun _ _ h1 => h1.beside.put)

theorem State.Burned.coreTick (h : s.Burned bits) : s.coreTick.Burned bits := by
  unfold State.coreTick
  extract_lets s1 _ s3
  have h1 : s1.Burned bits := (h.each (fun _ _ h1 => h1.count)).each (fun _ _ h1 => h1.countTh)
  have h2 : s3.Burned bits := .ite h1.beside.beside h1.beside
  exact h2.endWakes

theorem tick_burned (h : s.Burned bits) : (tick s).Burned bits := .ite h.beside.coreTick h.beside

/-! ### The functions of Machine/Step -/

theorem step_burned (h : s.Burned bits) : ResBurned bits (step s) := by
  unfold step
  split
  · exact .next (tick_burned h)
  · exact exec_burned h.beside

end Sys2Proof.Machine

/-- Settles O60: the bits burned before a step are among those burned after it, along every arm of the dispatch. -/
theorem fusesOnlyGainBits : Obligations.FusesOnlyGainBits := by
  unfold Obligations.FusesOnlyGainBits
  intro s t e
  have h : s.Burned s.boot.fuses := BitVec.and_self
  exact (Sys2Proof.Machine.step_burned h).of e
end

section
/-!
SUPPORT. What a report and an event leave (R50, R397): the registers beside their own, and the state beside the register file.
-/
namespace Sys2Proof.Machine

section
variable {s t : State}

theorem State.now_congr (hs : t.sec = s.sec) (hn : t.ns = s.ns) : t.now = s.now := by
  unfold State.now
  rw [hs, hn]

theorem State.Reported.now (h : s.Reported t) : t.now = s.now := State.now_congr h.sec h.ns

theorem State.Reported.config (h : s.Reported t) : t.config = s.config := by
  unfold State.config
  rw [h.straps]

theorem State.Reported.on (h : s.Reported t) {f : Fld} (hf : reportReg f.addr = false) : t.on f = s.on f := by
  unfold State.on
  rw [h.fld hf]

/-- An event reports from the state in which its bit is set. -/
theorem State.Reported.event (s : State) (ev en b block code o v0 v1 v2 : Nat) :
    ∃ u : State, u.Reported (s.event ev en b block code o v0 v1 v2) ∧ ∃ r, u = { s with regs := r } :=
  ⟨_, s.event_reported ev en b block code o v0 v1 v2, _, rfl⟩

/-- A field of another register is not touched by an event. -/
theorem State.fld_event (s : State) (ev en b block code o v0 v1 v2 : Nat) {f : Fld} (hf : f.addr ≠ ev)
    (h : reportReg f.addr = false) : (s.event ev en b block code o v0 v1 v2).fld f = s.fld f := by
  unfold State.fld
  rw [State.event_reg s ev en b block code o v0 v1 v2 hf h]

/-- A one-bit field stored reads as the bit. -/
theorem State.on_put_same (s : State) (f : Fld) (v : Nat) (hf : f.hi < 32) :
    (s.put f v).on f = (v % 2 ^ (f.hi + 1 - f.lo) == 1) := by
  unfold State.on
  rw [State.fld_put_same s f v hf]

theorem State.on_put_ne (s : State) (f g : Fld) (v : Nat) (hf : f.hi < 32)
    (hd : g.addr ≠ f.addr ∨ f.hi < g.lo ∨ g.hi < f.lo) : (s.put f v).on g = s.on g := by
  unfold State.on
  rw [State.fld_put_ne s f g v hf hd]

end

end Sys2Proof.Machine
end

section
/-!
The roles of a coat pair (R301 to R306): what an event, a change of role and a path's loss leave of the role, of the partner's
role, of the paths and of the pair state, and the treatment of each of the pair's messages in the states that O31 names.
-/
namespace Sys2Proof.Machine

/-! ### What a member's standing is read from -/

section
variable {s t : State}

/-- What the roles are decided by: PAIR_STATUS, the pair state, the clock, the straps and the operational state. -/
def State.standing (s : State) : Word × PairSt × Nat × Nat × Straps × OpState :=
  (s.reg R.PAIR_STATUS, s.pair, s.sec, s.ns, s.straps, s.op)

theorem State.standing_eq (h : t.standing = s.standing) : t.reg R.PAIR_STATUS = s.reg R.PAIR_STATUS ∧ t.pair = s.pair ∧
    t.sec = s.sec ∧ t.ns = s.ns ∧ t.straps = s.straps ∧ t.op = s.op := by
  simpa only [State.standing, Prod.mk.injEq] using h

/-- A field of PAIR_STATUS. -/
theorem State.fld_of_standing (h : t.standing = s.standing) (hi lo : Nat) :
    t.fld ⟨R.PAIR_STATUS, hi, lo⟩ = s.fld ⟨R.PAIR_STATUS, hi, lo⟩ := by
  unfold State.fld
  rw [(State.standing_eq h).1]

theorem State.role_of_standing (h : t.standing = s.standing) : t.role = s.role := State.fld_of_standing h 31 29

theorem State.partnerRole_of_standing (h : t.standing = s.standing) : t.partnerRole = s.partnerRole :=
  State.fld_of_standing h 23 21

theorem State.pathA_of_standing (h : t.standing = s.standing) : t.pathOk 0 = s.pathOk 0 :=
  congrArg (· == 1) (State.fld_of_standing h 25 25)

theorem State.pair_of_standing (h : t.standing = s.standing) : t.pair = s.pair := (State.standing_eq h).2.1

theorem State.now_of_standing (h : t.standing = s.standing) : t.now = s.now := by
  obtain ⟨-, -, hsec, hns, -⟩ := State.standing_eq h
  exact State.now_congr hsec hns

theorem State.op_of_standing (h : t.standing = s.standing) : t.op = s.op := by
  obtain ⟨-, -, -, -, -, hop⟩ := State.standing_eq h
  exact hop

@[simp] theorem State.role_setPair (s : State) (x : PairSt) : (s.setPair x).role = s.role := rfl

@[simp] theorem State.role_setCtx (s : State) (x : CtxSt) : (s.setCtx x).role = s.role := rfl

@[simp] theorem State.partnerRole_setPair (s : State) (x : PairSt) : (s.setPair x).partnerRole = s.partnerRole := rfl

@[simp] theorem State.standing_setCtx (s : State) (x : CtxSt) : (s.setCtx x).standing = s.standing := rfl

theorem reportReg_pairStatus : reportReg R.PAIR_STATUS = false := reportReg_central (by decide)

theorem State.Reported.standing (h : s.Reported t) : t.standing = s.standing := by
  unfold State.standing
  rw [h.regs _ reportReg_pairStatus, h.pair, h.sec, h.ns, h.straps, h.op]

theorem State.standing_pairEvent (s : State) (b object v0 : Nat) : (s.pairEvent b object v0).standing = s.standing := by
  refine (State.event_reported s _ _ _ _ _ _ _ _ _).standing.trans ?_
  unfold State.standing
  rw [State.reg_setReg_ne s (by decide)]
  rfl

theorem State.standing_blk (s : State) {i : Nat} (hi : i < 8192) : (s.blk i).standing = s.standing := (s.blk_reported hi).standing

theorem State.pairEvent_bit (s : State) {b : Nat} (object v0 : Nat) (hb : b < 32) :
    natBit ((s.pairEvent b object v0).reg R.PAIR_EVENT).toNat b = true :=
  State.event_bit s _ _ _ _ _ _ _ hb (reportReg_central (by decide))

end

/-! ### A change of role -/

section
variable (s : State) {r : Nat}

theorem State.role_setRole (hr : r < 8) : (s.setRole r).role = r := by
  unfold State.setRole
  split
  · assumption
  · rw [State.role_of_standing (State.standing_pairEvent _ _ _ _)]
    exact (State.fld_put_same s _ r (by decide)).trans (Nat.mod_eq_of_lt hr)

/-- A change of role leaves the partner's role, the paths, the pair state, the clock and the operational state. -/
theorem State.setRole_keeps (r : Nat) : (s.setRole r).partnerRole = s.partnerRole ∧ (s.setRole r).pair = s.pair ∧
    (s.setRole r).now = s.now ∧ (s.setRole r).op = s.op := by
  unfold State.setRole
  split
  · exact ⟨rfl, rfl, rfl, rfl⟩
  · have h := State.standing_pairEvent (s.put F.PAIR_STATUS.ROLE r) 0 0 r
    have hp : (s.put F.PAIR_STATUS.ROLE r).partnerRole = s.partnerRole :=
      State.fld_put_ne s F.PAIR_STATUS.ROLE F.PAIR_STATUS.PARTNER_ROLE r (by decide) (by decide)
    rw [State.partnerRole_of_standing h, State.pair_of_standing h, State.now_of_standing h, State.op_of_standing h]
    exact ⟨hp, s.put_pair _ _, s.put_now _ _, s.put_op _ _⟩

/-- The takeover of R304: the role, its instants and the event. -/
theorem State.takeOver_effect : s.takeOver.role = 4 ∧ s.takeOver.pair = { s.pair with since := s.now, txFrom := s.now + 2000 } ∧
    natBit (s.takeOver.reg R.PAIR_EVENT).toNat 3 = true := by
  have h : s.takeOver.standing = ((s.setRole 4).setPair { s.pair with since := s.now, txFrom := s.now + 2000 }).standing := by
    unfold State.takeOver
    rw [State.standing_pairEvent, State.standing_blk _ (by decide), State.standing_setCtx]
  exact ⟨by rw [State.role_of_standing h, State.role_setPair, s.role_setRole (by decide)],
    by rw [State.pair_of_standing h, State.setPair_pair], State.pairEvent_bit _ _ _ (by decide)⟩

/-- Entry to service: the role and its instants; the partner's role and the rest of the pair state stay. -/
theorem State.becomeActive_effect (hr : r < 8) : (s.becomeActive r).role = r ∧
    (s.becomeActive r).pair = { s.pair with since := s.now, txFrom := s.now } ∧
    (s.becomeActive r).partnerRole = s.partnerRole :=
  ⟨(State.role_setPair _ _).trans (s.role_setRole hr), State.setPair_pair _ _,
    (State.partnerRole_setPair _ _).trans (s.setRole_keeps r).1⟩

end

/-! ### The third heartbeat missed on path A -/

section
variable {s : State}

/-- Path A after its third miss (R303). -/
def State.lostPathA (s : State) : State :=
  (s.setPair { s.pair with missA := s.pair.missA + 1, goodA := 0 }).when (s.pathOk 0)
    (fun t => ((t.put (pathFld 0) 0).blk 64).pairEvent 1 0 0)

theorem State.lostPathA_keeps (s : State) : s.lostPathA.role = s.role ∧
    s.lostPathA.pair = { s.pair with missA := s.pair.missA + 1, goodA := 0 } ∧ s.lostPathA.now = s.now := by
  unfold State.lostPathA State.when
  split
  · have h : ∀ u : State, (((u.put (pathFld 0) 0).blk 64).pairEvent 1 0 0).standing = (u.put (pathFld 0) 0).standing := fun u =>
      (State.standing_pairEvent _ _ _ _).trans (State.standing_blk _ (by decide))
    exact ⟨(State.role_of_standing (h _)).trans (State.fld_put_ne _ _ _ _ (by decide) (by decide)),
      (State.pair_of_standing (h _)).trans rfl, (State.now_of_standing (h _)).trans (State.put_now _ _ _)⟩
  · exact ⟨rfl, rfl, rfl⟩

/-- A path that was good is no longer good, which PATH_LOST reports. -/
theorem State.lostPathA_path (h : s.pathOk 0 = true) : s.lostPathA.pathOk 0 = false ∧
    natBit (s.lostPathA.reg R.PAIR_EVENT).toNat 1 = true := by
  unfold State.lostPathA State.when
  rw [if_pos h]
  exact ⟨(State.pathA_of_standing ((State.standing_pairEvent _ _ _ _).trans (State.standing_blk _ (by decide)))).trans
    (State.on_put_same _ F.PAIR_STATUS.PATH_A_OK 0 (by decide)), State.pairEvent_bit _ _ _ (by decide)⟩

theorem State.pairUp_of_run (hc : s.config = 1) (hop : s.op = .run) : s.pairUp = true := by
  simp [State.pairUp, hc, hop, OpState.code]

theorem State.missPath_third (hm : s.pair.missA = 2) :
    s.missPath 0 = s.lostPathA.when (decide (3 ≤ s.pair.missB)) State.bothLost := by
  have hpair : s.lostPathA.pair = { s.pair with missA := s.pair.missA + 1, goodA := 0 } := s.lostPathA_keeps.2.1
  have hpath : ∀ x, (s.setPair x).pathOk 0 = s.pathOk 0 := fun _ => rfl
  unfold State.lostPathA at hpair ⊢
  unfold State.missPath
  simp only [↓reduceIte, State.setPair_pair, hm, hpath, Nat.add_zero] at hpair ⊢
  rw [hpair]
  simp only [Nat.reduceAdd, Nat.le_refl, decide_true, Bool.true_and]

theorem exec_pairHbMiss_third {l : LathLink} (hup : s.pairUp = true) (hl : s.lathPath l = 0) (hm : s.pair.missA = 2) :
    exec (.pairHbMiss l) s = .next (s.lostPathA.when (decide (3 ≤ s.pair.missB)) State.bothLost) := by
  show execPairHbMiss l s = _
  rw [execPairHbMiss, if_pos hup, hl, State.missPath_third hm]

end

/-! ### An authenticated heartbeat -/

section
variable {s : State} {path : Nat}

/-- The pair state after a good heartbeat on a path (R303). -/
def PairSt.heardOn (x : PairSt) (path : Nat) : PairSt :=
  if path = 0 then { x with missA := 0, goodA := x.goodA + 1, heard := true }
  else { x with missB := 0, goodB := x.goodB + 1, heard := true }

theorem State.goodPath_keeps (s : State) (path : Nat) : (s.goodPath path).role = s.role ∧
    (s.goodPath path).partnerRole = s.partnerRole ∧ (s.goodPath path).pair = s.pair.heardOn path ∧
    (s.goodPath path).op = s.op := by
  unfold State.goodPath
  extract_lets x s1 good
  split
  · have h := State.standing_pairEvent (s1.put (pathFld path) 1) 2 path 0
    have hd : ∀ f : Fld, f.hi < 24 ∨ 25 < f.lo → (s1.put (pathFld path) 1).fld f = s1.fld f := fun f hf => by
      unfold pathFld
      split
      · exact State.fld_put_ne s1 _ f 1 (by decide) (.inr (by simp only [F.PAIR_STATUS.PATH_A_OK]; omega))
      · exact State.fld_put_ne s1 _ f 1 (by decide) (.inr (by simp only [F.PAIR_STATUS.PATH_B_OK]; omega))
    exact ⟨(State.role_of_standing h).trans (hd F.PAIR_STATUS.ROLE (by decide)),
      (State.partnerRole_of_standing h).trans (hd F.PAIR_STATUS.PARTNER_ROLE (by decide)),
      (State.pair_of_standing h).trans rfl, (State.op_of_standing h).trans rfl⟩
  · exact ⟨rfl, rfl, rfl, rfl⟩

/-- The skew check only posts, and notes the second in which it did. -/
theorem State.skewCheck_keeps (s : State) (path clock : Nat) : (s.skewCheck path clock).role = s.role ∧
    (s.skewCheck path clock).partnerRole = s.partnerRole ∧
    ∃ n, (s.skewCheck path clock).pair = { s.pair with skewAt := n } := by
  unfold State.skewCheck
  extract_lets there off
  split
  · have h := State.standing_pairEvent (s.setPair { s.pair with skewAt := s.sec + 1 }) 9 path 0
    exact ⟨(State.role_of_standing h).trans rfl, (State.partnerRole_of_standing h).trans rfl, s.sec + 1,
      (State.pair_of_standing h).trans (State.setPair_pair _ _)⟩
  · exact ⟨rfl, rfl, s.pair.skewAt, rfl⟩

/-- Hearing the partner's role decides this member's role and its instants alone. -/
theorem State.hearRole_keeps (s : State) : s.hearRole.partnerRole = s.partnerRole ∧
    ∃ since txFrom, s.hearRole.pair = { s.pair with since := since, txFrom := txFrom } := by
  have hset : ∀ r, (s.setRole r).partnerRole = s.partnerRole ∧
      ∃ since txFrom, (s.setRole r).pair = { s.pair with since := since, txFrom := txFrom } := fun r =>
    ⟨(s.setRole_keeps r).1, s.pair.since, s.pair.txFrom, (s.setRole_keeps r).2.1⟩
  have hsame : s.partnerRole = s.partnerRole ∧ ∃ since txFrom, s.pair = { s.pair with since := since, txFrom := txFrom } :=
    ⟨rfl, s.pair.since, s.pair.txFrom, rfl⟩
  unfold State.hearRole
  extract_lets r mbr s1 yields
  split
  · split
    · exact hset 2
    · split
      · split
        · exact hset 2
        · exact ⟨(s.becomeActive_effect (by decide)).2.2, _, _, rfl⟩
      · exact hsame
  · split
    · split
      · exact hset 3
      · split
        · have h1 : s1.standing = s.standing := State.standing_pairEvent _ _ _ _
          unfold State.when
          split
          · have h2 := State.standing_pairEvent (s1.setRole 2) 5 0 0
            refine ⟨(State.partnerRole_of_standing h2).trans ((s1.setRole_keeps 2).1.trans (State.partnerRole_of_standing h1)),
              s.pair.since, s.pair.txFrom, ?_⟩
            exact (State.pair_of_standing h2).trans ((s1.setRole_keeps 2).2.1.trans (State.pair_of_standing h1))
          · exact ⟨State.partnerRole_of_standing h1, s.pair.since, s.pair.txFrom, State.pair_of_standing h1⟩
        · exact hsame
    · exact hsame

theorem State.hearRole_offline (hr : s.role = 0) (hp : s.partnerRole = 3) : s.hearRole.role = 2 := by
  unfold State.hearRole
  rw [if_pos hr, if_pos (.inl hp)]
  exact s.role_setRole (by decide)

theorem State.hearRole_alone (hr : s.role = 4) (hp : s.partnerRole = 2) : s.hearRole.role = 3 := by
  unfold State.hearRole
  rw [if_neg (by omega), if_pos (.inr hr), if_pos hp]
  exact s.role_setRole (by decide)

theorem State.hearRole_standby (hr : s.role = 2) : s.hearRole.role = 2 := by
  unfold State.hearRole
  rw [if_neg (by omega), if_neg (by omega)]
  exact hr

/-- What is counted when a record arrives on a lath link. -/
theorem State.arrival_reported (s : State) (l : LathLink) : s.Reported (s.count (0x6D2 + b2n (l == .b))) :=
  State.count_reported s (by cases l <;> decide)

/-- A member that hears an authenticated heartbeat: the partner's role is stored, and its path counts it. -/
def State.hears (s : State) (l : LathLink) (r : LathRec) : State :=
  let s1 := ((s.count (0x6D2 + b2n (l == .b))).put F.PAIR_STATUS.PARTNER_ROLE (leAt r.payload 0 1 % 8)).goodPath (s.lathPath l)
  s1.setPair { s1.pair with partnerSince := instantOf (slice r.payload 1 10) }

theorem State.hears_effect (s : State) (l : LathLink) (r : LathRec) : (s.hears l r).role = s.role ∧
    (s.hears l r).partnerRole = leAt r.payload 0 1 % 8 ∧
    (s.hears l r).pair = { s.pair.heardOn (s.lathPath l) with partnerSince := instantOf (slice r.payload 1 10) } ∧
    (s.hears l r).op = s.op := by
  have h0 := (s.arrival_reported l).standing
  unfold State.hears
  extract_lets s1
  obtain ⟨hrole, hpartner, hpair, hop⟩ := State.goodPath_keeps
    ((s.count (0x6D2 + b2n (l == .b))).put F.PAIR_STATUS.PARTNER_ROLE (leAt r.payload 0 1 % 8)) (s.lathPath l)
  refine ⟨?_, ?_, ?_, hop.trans ((State.put_op _ _ _).trans (State.op_of_standing h0))⟩
  · exact hrole.trans ((State.fld_put_ne _ _ _ _ (by decide) (by decide)).trans (State.role_of_standing h0))
  · exact hpartner.trans ((State.fld_put_same _ _ _ (by decide)).trans (Nat.mod_eq_of_lt (Nat.mod_lt _ (by decide))))
  · refine (State.setPair_pair _ _).trans (congrArg
      (fun x : PairSt => { x with partnerSince := instantOf (slice r.payload 1 10) }) 
      (hpair.trans (congrArg (fun x : PairSt => x.heardOn (s.lathPath l)) ?_)))
    exact (State.put_pair _ _ _).trans (State.pair_of_standing h0)

theorem exec_pairHbReceive_authentic {l : LathLink} {r : LathRec} (hc : s.config = 1) (hop : s.op = .run) (ha : r.authOk = true) :
    exec (.pairHbReceive l r) s =
      .next ((s.hears l r).hearRole.skewCheck (s.lathPath l) (instantOf (slice r.payload 11 10))) := by
  have hrun : ((s.hears l r).op == .run) = true := by rw [(s.hears_effect l r).2.2.2, hop]; rfl
  show execPairHbReceive l r s = _
  unfold execPairHbReceive
  rw [if_neg (by simp [State.pairUp_of_run hc hop])]
  extract_lets path s0
  rw [if_neg (by simp [ha])]
  show Host.Outcome.next (((s.hears l r).when ((s.hears l r).op == .run) State.hearRole).skewCheck _ _) = _
  rw [hrun]
  rfl

end

/-! ### Sending, starting alone, YIELD -/

section
variable {s : State}

/-- A message sent on a path is sent, and the rest is reporting. -/
theorem State.pairSendOn_sends (s : State) (path : Nat) (k : Kind) (p : List Byte) : s.Reported (s.pairSendOn path k p) ∧
    .lath (s.linkOf path) k.num 0 0 p ∈ (s.pairSendOn path k p).out := by
  have h1 := s.emit_reported (.lath (s.linkOf path) k.num 0 0 p)
  have h2 : State.Reported (s.emit (.lath (s.linkOf path) k.num 0 0 p)) (s.pairSendOn path k p) :=
    State.count_reported _ (by cases s.linkOf path <;> decide)
  exact ⟨h1.trans h2, h2.out.subset (by simp [State.emit])⟩

theorem exec_pairStartWait_runs (hc : s.config = 1) (hop : s.op = .run) (hw : s.pair.waiting = true) (hr : s.role = 0) :
    exec .pairStartWait s = .next
      (if s.pair.failed && !s.pair.heard then ((s.setPair { s.pair with waiting := false }).setRole 5).pairEvent 8 0 0
        else (s.setPair { s.pair with waiting := false }).becomeActive 4) := by
  show execPairStartWait s = _
  unfold execPairStartWait
  rw [if_pos (by simp [hc, hop, hw])]
  extract_lets
  rw [if_neg (fun h => h ((State.role_setPair _ _).trans hr))]
  split
  next h => exact congrArg Host.Outcome.next (if_pos h).symm
  next h => exact congrArg Host.Outcome.next (if_neg h).symm

theorem exec_yieldReceive_standby {l : LathLink} {r : LathRec} (hup : s.pairUp = true) (ha : r.authOk = true) (hr : s.role = 2) :
    exec (.yieldReceive l r) s = .next (s.count (0x6D2 + b2n (l == .b))).takeOver := by
  have hr0 : (s.count (0x6D2 + b2n (l == .b))).role = 2 := (State.role_of_standing (s.arrival_reported l).standing).trans hr
  show execYieldReceive l r s = _
  simp [execYieldReceive, hup, ha, hr0, State.when]

end

end Sys2Proof.Machine

open Sys2Proof.Machine

/-- Settles O31: each message's treatment in the state its premises name, read through PAIR_STATUS, PAIR_EVENT and the pair
state. -/
theorem pairRolesComplete : Obligations.PairRolesComplete := by
  unfold Obligations.PairRolesComplete
  refine ⟨fun s hc hop => ⟨?send, fun l hl hm hb hp => ?miss, fun l hl hm hb hr => ?takeover, fun l hl hm hb hr => ?alone,
    fun hw hr hf => ?start, fun hw hr hf hh => ?blocked, fun l r ha hr => ?yield⟩, fun s l r hc hop ha => ?hears⟩
  case send =>
    have hrun : exec .pairHbSend s = .next
        ((s.pairSendOn 0 .pairHb (leBytes 1 s.role ++ instantBytes s.pair.since ++ instantBytes s.now)).pairSendOn 1 .pairHb
          (leBytes 1 s.role ++ instantBytes s.pair.since ++ instantBytes s.now)) := if_pos (by simp [hc, hop])
    generalize leBytes 1 s.role ++ instantBytes s.pair.since ++ instantBytes s.now = d at hrun ⊢
    obtain ⟨h0, ho0⟩ := s.pairSendOn_sends 0 .pairHb d
    obtain ⟨h1, ho1⟩ := (s.pairSendOn 0 .pairHb d).pairSendOn_sends 1 .pairHb d
    have hlink : (s.pairSendOn 0 .pairHb d).linkOf 1 = s.linkOf 1 := by unfold State.linkOf; rw [h0.straps]
    exact ⟨_, hrun, h0.trans h1, h1.out.subset ho0, hlink ▸ ho1⟩
  case miss =>
    refine ⟨_, exec_pairHbMiss_third (State.pairUp_of_run hc hop) hl hm, ?_⟩
    have hb3 : decide (3 ≤ s.pair.missB) = false := decide_eq_false (by omega)
    rw [hb3]
    exact ⟨(State.lostPathA_path hp).1, s.lostPathA_keeps.1, (State.lostPathA_path hp).2⟩
  case takeover =>
    obtain ⟨hrole, hpair, hnow⟩ := s.lostPathA_keeps
    obtain ⟨ht, hp, hbit⟩ := s.lostPathA.takeOver_effect
    refine ⟨s.lostPathA.takeOver, ?_, ht, ?_, ?_, hbit⟩
    · rw [exec_pairHbMiss_third (State.pairUp_of_run hc hop) hl hm, decide_eq_true hb]
      exact congrArg Host.Outcome.next (if_pos (hrole.trans hr))
    · rw [hp, hnow]
    · rw [hp, hnow]
  case alone =>
    have hrole := s.lostPathA_keeps.1.trans hr
    refine ⟨(s.lostPathA.setRole 4).pairEvent 4 0 0, ?_, ?_, State.pairEvent_bit _ _ _ (by decide)⟩
    · rw [exec_pairHbMiss_third (State.pairUp_of_run hc hop) hl hm, decide_eq_true hb]
      show Host.Outcome.next s.lostPathA.bothLost = _
      unfold State.bothLost
      rw [if_neg (by omega), if_pos hrole]
    · exact (State.role_of_standing (State.standing_pairEvent _ _ _ _)).trans (State.role_setRole _ (by decide))
  case start =>
    refine ⟨(s.setPair { s.pair with waiting := false }).becomeActive 4, ?_, State.role_setRole _ (by decide), rfl, rfl⟩
    rw [exec_pairStartWait_runs hc hop hw hr, if_neg (by simp [hf])]
  case blocked =>
    have h := State.standing_pairEvent ((s.setPair { s.pair with waiting := false }).setRole 5) 8 0 0
    refine ⟨_, (exec_pairStartWait_runs hc hop hw hr).trans (by rw [if_pos (by simp [hf, hh])]), ?_, ?_⟩
    · exact (State.role_of_standing h).trans (State.role_setRole _ (by decide))
    · rw [State.pair_of_standing h, (State.setRole_keeps _ 5).2.1]
      rfl
  case yield =>
    obtain ⟨ht, hp, -⟩ := (s.count (0x6D2 + b2n (l == .b))).takeOver_effect
    refine ⟨_, exec_yieldReceive_standby (State.pairUp_of_run hc hop) ha hr, ht, ?_⟩
    rw [hp, State.now_of_standing (s.arrival_reported l).standing]
  case hears =>
    obtain ⟨hrole, hpartner, hpair, -⟩ := s.hears_effect l r
    obtain ⟨hrole2, hpartner2, n, hpair2⟩ := (s.hears l r).hearRole.skewCheck_keeps (s.lathPath l)
      (instantOf (slice r.payload 11 10))
    obtain ⟨hpartner1, since, txFrom, hpair1⟩ := (s.hears l r).hearRole_keeps
    refine ⟨_, exec_pairHbReceive_authentic hc hop ha, hpartner2.trans (hpartner1.trans hpartner), fun hl => ?_, fun hl => ?_, ?_,
      fun hr hp => ?_, fun hr hp => ?_, fun hr => ?_⟩
    · rw [hpair2, hpair1, hpair, PairSt.heardOn, if_pos hl]
      exact ⟨rfl, rfl⟩
    · rw [hpair2, hpair1, hpair, PairSt.heardOn, if_neg hl]
      exact ⟨rfl, rfl⟩
    · rw [hpair2, hpair1, hpair, PairSt.heardOn]
      split <;> rfl
    · exact hrole2.trans (State.hearRole_offline (hrole.trans hr) (hpartner.trans hp))
    · exact hrole2.trans (State.hearRole_alone (hrole.trans hr) (hpartner.trans hp))
    · exact hrole2.trans (State.hearRole_standby (hrole.trans hr))
end

section
/-!
SUPPORT. Values of the state that no report writes (R50, R386, R397, R464): counting, event records, lath records and completions
leave each of them, beside what `State.Reported` already says.
-/
namespace Sys2Proof.Machine

/-- The registers that a report or a completion may write: RING_HEADS of a pair and the PERF block, whatever the number of the
pair or the counter. -/
def Reporting (a : Nat) : Prop := (0x4400 ≤ a ∧ a % 0x40 = 0x20) ∨ 0x13000 ≤ a

theorem reporting_heads (n : Nat) : Reporting (R.RING_HEADS n) := .inl (by unfold R.RING_HEADS; omega)

theorem reporting_perf (k : Nat) : Reporting (R.PERF_OVF k) ∧ Reporting (R.PERF_BOVF k) ∧ Reporting R.PERF_EVENT :=
  ⟨.inr (by unfold R.PERF_OVF; omega), .inr (by unfold R.PERF_BOVF; omega), .inr (by decide)⟩

/-- A value that depends on nothing that a report or a completion writes. -/
structure Unreported {α : Type} (v : State → α) : Prop where
  reg : ∀ (s : State) (a : Nat) (w : Word), Reporting a → v (s.setReg a w) = v s
  emit : ∀ (s : State) (o : Out), v (s.emit o) = v s
  counted : ∀ (s : State) (x y : Tbl Nat), v { s with perf := { s.perf with ev := x, evSeen := y } } = v s
  blocked : ∀ (s : State) (x : Tbl Nat), v { s with perf := { s.perf with blk := x } } = v s
  rings : ∀ (s : State) (x : Tbl Ring), v { s with host := { s.host with rings := x } } = v s
  held : ∀ (s : State) (x : Tbl Nat) (y : List EvRec) (b : Bool),
    v { s with host := { s.host with pba := x, hold := y, holdLost := b } } = v s
  relayed : ∀ (s : State) (q : Nat) (l : List Relay), v { s with dom := { s.dom with seq := q, relays := l } } = v s

theorem unreported_reg {a : Nat} (ha : ¬ Reporting a) : Unreported (fun t => t.reg a) :=
  ⟨fun s b w hr => State.reg_setReg_ne (a := b) (b := a) s (fun e => ha (e ▸ hr)) w, fun _ _ => rfl,
    fun _ _ _ => rfl, fun _ _ => rfl, fun _ _ => rfl,
    fun _ _ _ _ => rfl, fun _ _ _ => rfl⟩

section
variable {α : Type} {v : State → α} (h : Unreported v) (s : State)
include h

theorem Unreported.put {f : Fld} (hf : Reporting f.addr) (x : Nat) : v (s.put f x) = v s := h.reg s _ _ hf

theorem Unreported.setRing (n : Nat) (r : Ring) : v (s.setRing n r) = v s := h.rings s _

theorem Unreported.message (fn i : Nat) : v (s.message fn i) = v s := by
  unfold State.message
  extract_lets
  split
  · exact h.held s _ _ _
  · exact h.emit s _

theorem Unreported.signal (n : Nat) : v (s.signal n) = v s := by
  unfold State.signal
  extract_lets r
  split
  · exact (h.message _ _ _).trans (h.setRing s _ _)
  · rfl

end

theorem State.when_same {α : Type} {v : State → α} {s : State} {f : State → State} (hf : ∀ t, v (f t) = v t) (c : Bool) :
    v (s.when c f) = v s := by
  unfold State.when
  split
  · exact hf s
  · rfl

/-! ### Over any way of noting a wrap -/

section
variable {α : Type} {v : State → α} {ovf : State → Nat → Nat → State} (h : Unreported v) (ho : ∀ s r b, Reporting r → v (ovf s r b) = v s)
  (s : State)
include h ho

theorem Unreported.countWith (e : Nat) : v (s.countWith ovf e) = v s := by
  unfold State.countWith
  extract_lets edge seen adds perf s1 w perf1 s2
  have h1 : v s1 = v s := h.counted s _ _
  have h2 : v s2 = v s := (h.counted s1 _ _).trans h1
  split
  · exact h1
  · split
    · exact (ho s2 _ _ (reporting_perf _).1).trans h2
    · exact h2

theorem Unreported.blkAddWith (i n : Nat) : v (s.blkAddWith ovf i n) = v s := by
  unfold State.blkAddWith
  extract_lets w perf s1
  split
  · exact (ho s1 _ _ (reporting_perf _).2.1).trans (h.blocked s _)
  · exact h.blocked s _

theorem Unreported.cqWriteWith (n : Nat) (head conts : List Byte) : v (s.cqWriteWith ovf n head conts) = v s := by
  unfold State.cqWriteWith
  extract_lets size k w ph word w' s1 s2 s3 r
  have h1 : v s1 = v s := State.each_keeps v (fun _ t => h.emit t _) s _
  have h3 : v s3 = v s := (h.put _ (reporting_heads n) _).trans ((h.put _ (reporting_heads n) _).trans ((h.emit s1 _).trans h1))
  exact (h.signal _ _).trans ((h.countWith ho _ _).trans ((h.setRing s3 _ _).trans h3))

theorem Unreported.onRing (ring kind dst seq : Nat) (p : List Byte) : v (s.onRing ovf ring kind dst seq p) = v s := by
  unfold State.onRing
  split
  · split
    · exact (h.countWith ho _ _).trans (h.emit s _)
    · rfl
  · split
    · exact (h.countWith ho _ _).trans (h.emit s _)
    · rfl

theorem Unreported.lathAgain (kind dst seq : Nat) (p : List Byte) : v (s.lathAgain ovf kind dst seq p) = v s := by
  unfold State.lathAgain
  split
  · exact (h.onRing ho _ _ _ _ _ _).trans (h.onRing ho s _ _ _ _ _)
  · exact h.onRing ho s _ _ _ _ _

theorem Unreported.lathSendWith (kind dst : Nat) (p : List Byte) : v (s.lathSendWith ovf kind dst p) = v s :=
  (h.lathAgain ho _ _ _ _ _).trans (h.relayed s _ s.dom.relays)

theorem Unreported.unicastWith (kind dst : Nat) (p : List Byte) (o : Option (Nat × Nat)) :
    v (s.unicastWith ovf kind dst p o) = v s := by
  unfold State.unicastWith
  extract_lets q s1
  exact (h.relayed s1 s1.dom.seq _).trans (h.lathSendWith ho s _ _ _)

theorem Unreported.postTo (r : EvRec) (n : Nat) : v (s.postTo ovf r n) = v s := by
  unfold State.postTo
  extract_lets k q
  split
  · rfl
  · split
    · exact (h.setRing _ _ _).trans (h.blkAddWith ho s _ _)
    · exact (h.countWith ho _ _).trans ((h.cqWriteWith ho _ _ _ _).trans (h.setRing s _ _))

theorem Unreported.postWith (r : EvRec) : v (s.postWith ovf r) = v s := by
  unfold State.postWith
  split
  · exact h.unicastWith ho s _ _ _ _
  · split
    · split
      · exact h.held s s.host.pba _ _
      · exact h.held s s.host.pba s.host.hold _
    · exact State.each_keeps v (fun n t => h.postTo ho t r n) s _

end

/-! ### The operations as the meanings use them -/

section
variable {α : Type} {v : State → α} (h : Unreported v) (s : State)
include h

theorem Unreported.bitOnly {r : Nat} (hr : Reporting r) (b : Nat) : v (s.bitOnly r b) = v s := h.reg s _ _ hr

theorem Unreported.overflow {r : Nat} (hr : Reporting r) (b : Nat) : v (s.overflow r b) = v s := by
  unfold State.overflow
  extract_lets first s1 s2
  have h1 : v s1 = v s := h.bitOnly s hr _
  have h2 : v s2 = v s := (h.bitOnly s1 (reporting_perf 0).2.2 _).trans h1
  split
  · exact h1
  · split
    · exact (h.postWith (fun t _ _ hr => h.bitOnly t hr _) s2 _).trans h2
    · exact h2

theorem Unreported.count (e : Nat) : v (s.count e) = v s := h.countWith (fun t _ _ hr => h.overflow t hr _) s e

theorem Unreported.blk (i : Nat) : v (s.blk i) = v s := h.blkAddWith (fun t _ _ hr => h.overflow t hr _) s i 1

theorem Unreported.cqWrite (n : Nat) (head conts : List Byte) : v (s.cqWrite n head conts) = v s :=
  h.cqWriteWith (fun t _ _ hr => h.overflow t hr _) s n head conts

theorem Unreported.record (b c o v0 v1 v2 : Nat) : v (s.record b c o v0 v1 v2) = v s := h.postWith (fun t _ _ hr => h.overflow t hr _) s _

theorem Unreported.lathSend (kind dst : Nat) (p : List Byte) : v (s.lathSend kind dst p) = v s :=
  h.lathSendWith (fun t _ _ hr => h.overflow t hr _) s _ _ _

theorem Unreported.unicast (kind dst : Nat) (p : List Byte) (o : Option (Nat × Nat)) : v (s.unicast kind dst p o) = v s :=
  h.unicastWith (fun t _ _ hr => h.overflow t hr _) s _ _ _ _

theorem Unreported.dma (a : Nat) (b : List Byte) : v (s.dma a b) = v s := by
  unfold State.dma
  split
  · exact h.unicast s _ _ _ _
  · exact h.emit s _

/-- An event, for a value that does not depend on the event's register. -/
theorem Unreported.event {ev : Nat} (he : ∀ w, v (s.setReg ev w) = v s) (en b block code o v0 v1 v2 : Nat) :
    v (s.event ev en b block code o v0 v1 v2) = v s := by
  unfold State.event
  extract_lets was s1
  split
  · exact (h.record s1 _ _ _ _ _ _).trans (he _)
  · exact he _

theorem Unreported.flush (n : Nat) : ∀ (k : Nat) (s : State), v (s.flush n k) = v s
  | 0, _ => rfl
  | k + 1, s => by
    unfold State.flush
    split
    · split
      · extract_lets r s1 s2
        have h1 : v s1 = v s := h.setRing s _ _
        refine (Unreported.flush n k s2).trans (Eq.trans ?_ h1)
        show v (if _ then _ else _) = _
        split
        · exact h.cqWrite s1 _ _ _
        · rfl
      · rfl
    · rfl

theorem Unreported.completeOrder1 (n k : Nat) (d : Completion) : v (s.completeOrder1 n k d) = v s := by
  unfold State.completeOrder1
  extract_lets r
  split
  · exact (h.flush _ _ _).trans (h.setRing s _ _)
  · rfl

end

end Sys2Proof.Machine
end

section
/-!
Snapshots, dumps and samples (R467 to R473): the bank that a snapshot takes, what a dump and the loss of a snapshot leave of the
banks, and the PERF commands that nothing refuses.
-/
namespace Sys2Proof.Machine

section
variable {s : State}

/-! ### Values that the dump engine's reports leave -/

theorem unreported_bank (b : Nat) : Unreported (fun t : State => t.bank b) :=
  ⟨fun _ _ _ _ => rfl, fun _ _ => rfl, fun _ _ _ => rfl, fun _ _ => rfl, fun _ _ => rfl, fun _ _ _ _ => rfl, fun _ _ _ => rfl⟩

theorem unreported_snapAt : Unreported (fun t : State => t.perf.snapAt) :=
  ⟨fun _ _ _ _ => rfl, fun _ _ => rfl, fun _ _ _ => rfl, fun _ _ => rfl, fun _ _ => rfl, fun _ _ _ _ => rfl, fun _ _ _ => rfl⟩

theorem State.bank_perfEvent (s : State) (e b : Nat) : (s.perfEvent e).bank b = s.bank b :=
  (unreported_bank b).event s (fun _ => rfl) _ _ _ _ _ _ _ _

/-- The tail and the loss flag are beside the banks. -/
theorem State.bank_dumped (t : State) (v b : Nat) :
    ((t.put F.PERF_DUMP_TAIL.TAIL v).setPerf { t.perf with dumpLost := false }).bank b = t.bank b := rfl

theorem State.bank_setBank_same (s : State) (b : Nat) (x : Option Snapshot) : (s.setBank b x).bank b = x :=
  Tbl.getD_setD_same (d := fun _ => none) _ _ _

theorem State.bank_dumpLoss (s : State) (b : Nat) : s.dumpLoss.bank b = s.bank b :=
  ((unreported_bank b).event _ (fun _ => rfl) _ _ _ _ _ _ _ _).trans ((unreported_bank b).blk _ _)

theorem State.snapAt_dumpLoss (s : State) : s.dumpLoss.perf.snapAt = s.perf.snapAt :=
  (unreported_snapAt.event _ (fun _ => rfl) _ _ _ _ _ _ _ _).trans (unreported_snapAt.blk _ _)

/-- The dumped snapshot is the only change that a dump makes to its bank (R469). -/
theorem State.bank_dumpRecord {b : Nat} {x : Snapshot} (hx : s.bank b = some x) :
    (s.dumpRecord b).bank b = some { x with dumped := true } := by
  have hv := unreported_bank b
  unfold State.dumpRecord
  split
  next h => rw [h] at hx; cases hx
  next y hy =>
    obtain rfl : y = x := Option.some.inj (hy.symm.trans hx)
    extract_lets areas len size head tail base rest skip free_ s1 bad flags at_ s2 s3 perf s4
    have h1 : s1.bank b = some { y with dumped := true } := s.bank_setBank_same b _
    have h2 : s2.bank b = s1.bank b := State.when_same (v := fun t => t.bank b) (fun t => hv.dma t _ _) _
    have h3 : s3.bank b = s2.bank b := hv.dma s2 _ _
    have h4 : s4.bank b = s3.bank b := s3.bank_dumped _ b
    have h5 : (s4.when bad (fun t => t.perfEvent 1)).bank b = s4.bank b :=
      State.when_same (v := fun t => t.bank b) (fun t => t.bank_perfEvent 1 b) bad
    split
    · exact (s1.bank_dumpLoss b).trans h1
    · exact (State.bank_perfEvent _ 5 b).trans (h5.trans (h4.trans (h3.trans (h2.trans h1))))

/-! ### A snapshot -/

/-- The bank that the next snapshot takes: the one that does not hold the latest one (R468). -/
def State.nextBank (s : State) : Nat := match s.perf.view with | some w => 1 - w | none => 0

/-- The bank that the next snapshot takes holds one that has still to be dumped (R468). -/
def State.bankBusy (s : State) : Bool := match s.bank s.nextBank with | some x => !x.dumped | none => false

theorem State.bankBusy_of_dumped (hd : ∀ x, s.bank s.nextBank = some x → x.dumped = true) : s.bankBusy = false := by
  unfold State.bankBusy
  split
  next x hx => simp [hd x hx]
  next => rfl

/-- What a snapshot taken now holds (R467). -/
def State.snapshotNow (s : State) (periodic : Bool) : Snapshot :=
  ⟨(s.perf.lastSeq + 1) % 2 ^ 32, s.sec, s.ns, s.cyc, periodic, !s.on F.PERF_CTL.DUMP_EN, s.perf.ev, s.perf.th, s.perf.stat,
    s.perf.blk, s.ovfWords, []⟩

/-- Completing the snapshot being written changes the view, PERF_SNAP_SEQ and nothing else of the counters. -/
theorem State.showSnapshot_keeps (s : State) : s.showSnapshot.sec = s.sec ∧ s.showSnapshot.ns = s.ns ∧
    s.showSnapshot.perf = { s.perf with writing := s.showSnapshot.perf.writing, view := s.showSnapshot.perf.view } := by
  unfold State.showSnapshot
  split
  next h => exact ⟨rfl, rfl, rfl⟩
  next b h =>
    split
    · exact ⟨rfl, rfl, rfl⟩
    · exact ⟨rfl, rfl, rfl⟩

theorem State.snapshot_eq (s : State) (periodic : Bool) : s.snapshot periodic =
    if s.showSnapshot.bankBusy then s.showSnapshot.dumpLoss
    else (s.showSnapshot.setBank s.showSnapshot.nextBank (some (s.showSnapshot.snapshotNow periodic))).setPerf
      { (s.showSnapshot.setBank s.showSnapshot.nextBank (some (s.showSnapshot.snapshotNow periodic))).perf with
        lastSeq := (s.showSnapshot.perf.lastSeq + 1) % 2 ^ 32, writing := some s.showSnapshot.nextBank } := rfl

/-- A snapshot whose bank has nothing left to dump is taken. -/
theorem State.snapshot_taken (periodic : Bool)
    (hd : ∀ x, s.showSnapshot.bank s.showSnapshot.nextBank = some x → x.dumped = true) : s.snapshot periodic =
    (s.showSnapshot.setBank s.showSnapshot.nextBank (some (s.showSnapshot.snapshotNow periodic))).setPerf
      { (s.showSnapshot.setBank s.showSnapshot.nextBank (some (s.showSnapshot.snapshotNow periodic))).perf with
        lastSeq := (s.showSnapshot.perf.lastSeq + 1) % 2 ^ 32, writing := some s.showSnapshot.nextBank } := by
  rw [State.snapshot_eq, State.bankBusy_of_dumped hd]
  rfl

/-- A snapshot leaves the instant of PERF_SNAP_AT. -/
theorem State.snapAt_snapshot (s : State) (periodic : Bool) : (s.snapshot periodic).perf.snapAt = s.perf.snapAt := by
  have hshow : s.showSnapshot.perf.snapAt = s.perf.snapAt := by rw [s.showSnapshot_keeps.2.2]
  rw [State.snapshot_eq]
  split
  · exact (State.snapAt_dumpLoss _).trans hshow
  · exact hshow

/-! ### The commands -/

theorem perfSnapAt_accepted {c : RingCmd} (hn : s.perf.snapAt = none) (h4 : leAt c.cont 6 4 < 1000000000)
    (ht : s.now + 10000 ≤ instantOf c.cont) :
    perfSnapAt c s = (s.setPerf { s.perf with snapAt := some (leAt c.cont 0 6, leAt c.cont 6 4) }, {}) := by
  unfold perfSnapAt
  have h1 : (leAt c.cont 6 4 ≥ 1000000000 || decide (instantOf c.cont < s.now + 10000)) = false := by
    simp only [ge_iff_le, Bool.or_eq_false_iff, decide_eq_false_iff_not]
    omega
  rw [if_neg (ne_true_of_eq_false h1), hn]
  rfl

theorem perfRead_accepted {c : RingCmd} (ha : c.a0 30 16 + c.arg1.toNat ≤ areaSize (c.a0 1 0))
    (hb : 8 * c.arg1.toNat ≤ c.bufLen.toNat) : 
    perfRead c s = (s, { bufOut :=
      (List.range c.arg1.toNat).flatMap (fun i => leBytes 8 (s.liveEntry (c.a0 1 0) (c.a0 30 16 + i))) }) := by
  unfold perfRead
  have h1 : (areaSize (c.a0 1 0) < c.a0 30 16 + c.arg1.toNat || decide (c.bufLen.toNat < 8 * c.arg1.toNat)) = false := by
    simp only [Bool.or_eq_false_iff, decide_eq_false_iff_not]
    omega
  exact if_neg (ne_true_of_eq_false h1)

/-- An enabled sampler below its rate, in the second it counts (R472). -/
theorem exec_perfSample_below (j : Fin 2) (x : SampleInfo) (hen : s.on (F.PERF_SAMPLE_CFG.EN j.val) = true)
    (hok : sampleEventOk j (s.fld (F.PERF_SAMPLE_CFG.EVENT j.val)) = true) (hr : Tbl.atN s.perf.rate j.val < 100000)
    (hf : s.cyc < Tbl.atN s.perf.rateFrom j.val + 1500000000) : exec (.perfSample j x) s = .next ((s.setPerf { s.perf with
        rate := Tbl.setN s.perf.rate j.val (Tbl.atN s.perf.rate j.val + 1),
        rateFrom := Tbl.setN s.perf.rateFrom j.val (Tbl.atN s.perf.rateFrom j.val) }).record 0x0F (1 + j.val)
      (if j.val = 0 then x.object.toNat % 4 else x.object.toNat)
      (if j.val = 0 then x.v0.toNat % 2 ^ 24 + s.fld (F.PERF_SAMPLE_CFG.EVENT j.val) * 2 ^ 32 else x.v0.toNat)
      (if j.val = 0 then 0 else x.v1.toNat) (if j.val = 0 then 0 else x.v2.toNat)) := by
  have hfresh : decide (Tbl.atN s.perf.rateFrom j.val + 1500000000 ≤ s.cyc) = false := decide_eq_false (by omega)
  show execPerfSample j x s = _
  simp only [execPerfSample, hfresh, hen, hok, Bool.not_true, Bool.or_self, Bool.false_eq_true, if_false,
    if_neg (Nat.not_le.mpr hr)]
  match j with
  | 0 => rfl
  | 1 => rfl

end

end Sys2Proof.Machine

open Sys2Proof.Machine

/-- Settles O56: a snapshot, a dump and each PERF command by the state that the meaning of each gives. -/
theorem countersComplete : Obligations.CountersComplete := by
  unfold Obligations.CountersComplete
  refine fun s => ⟨?taken, ?shown, ?fires, ?dumps, fun n c hc => ⟨?arms, ?dump, ?read⟩, ?sample⟩
  case taken =>
    rintro per b v rfl rfl hd
    have heq := State.snapshot_taken per hd
    obtain ⟨hsec, hns, hperf⟩ := s.showSnapshot_keeps
    refine ⟨s.snapshot per, s.showSnapshot.snapshotNow per, rfl, ?_, ?_, ?_, ?_, ?_, ?_, ?_, ?_, hsec, hns, ?_, ?_⟩
    · rw [heq]
      rfl
    · rw [heq]
      exact State.bank_setBank_same s.showSnapshot s.showSnapshot.nextBank (some (s.showSnapshot.snapshotNow per))
    · exact (congrArg Perf.ev hperf).trans rfl
    · exact (congrArg Perf.th hperf).trans rfl
    · exact (congrArg Perf.stat hperf).trans rfl
    · exact (congrArg Perf.blk hperf).trans rfl
    · exact (congrArg (fun y : Perf => (y.lastSeq + 1) % 2 ^ 32) hperf).trans rfl
    · rw [heq]
      rfl
    · rintro rfl hen
      exact if_pos hen
    · rintro rfl n c hc
      have hlast : (s.snapshot false).perf.lastSeq = (s.showSnapshot.snapshotNow false).seq := by
        rw [heq]
        rfl
      rw [← hlast]
      exact ringExec_served_of hc 11 0 rfl
  case shown =>
    intro b x hw hx hseq
    have hshow : s.showSnapshot = (s.setPerf { s.perf with writing := none, view := some b }).put F.PERF_SNAP_SEQ.SEQ x.seq := by
      simp only [State.showSnapshot, hw, hx]
    refine ⟨s.showSnapshot, rfl, ?_, ?_⟩
    · rw [hshow]
      rfl
    · rw [hshow, State.fld_put_same _ _ _ (by decide)]
      exact Nat.mod_eq_of_lt hseq
  case fires =>
    intro t0 hs ht
    refine ⟨(s.setPerf { s.perf with snapAt := none }).snapshot false, ?_, State.snapAt_snapshot _ _, rfl⟩
    show execSnapAtFire s = _
    simp only [execSnapAtFire, hs, if_pos ht]
  case dumps =>
    intro b x hen hb hx
    refine ⟨s.dumpRecord b, ?_, rfl, State.bank_dumpRecord hx⟩
    show execDumpRecordWrite s = _
    simp [execDumpRecordWrite, hen, hb]
  case arms =>
    intro hn h4 ht
    exact ⟨_, ringExec_served_of hc 11 1 (perfSnapAt_accepted hn h4 ht), rfl⟩
  case dump =>
    intro b hb
    exact ringExec_served_of hc 11 2 (by simp only [perfDump, hb])
  case read => exact fun ha hb => ringExec_served_of hc 11 3 (perfRead_accepted ha hb)
  case sample =>
    rintro j x e rfl hen hok hr hf
    exact exec_perfSample_below j x hen hok hr hf
end

section
/-!
SUPPORT. The registers of the ring pairs and of the host block beside what reporting writes there (R382 to R384), and the ring of a
pair after another one's is replaced.
-/
namespace Sys2Proof.Machine

/-- Of a ring's registers, reporting writes RING_HEADS alone. -/
theorem reportReg_ring {a : Nat} (h1 : 0x4400 ≤ a) (h2 : a < 0x5400) (h3 : a % 0x40 ≠ 0x20) : reportReg a = false := by
  unfold reportReg R.PERF_EVENT R.PERF_TH_OVF R.PERF_OVF R.PERF_BOVF R.RING_HEADS
  simp only [Bool.or_eq_false_iff, beq_eq_false_iff_ne, Bool.and_eq_false_iff, decide_eq_false_iff_not]
  refine ⟨⟨⟨⟨?_, ?_⟩, ?_⟩, ?_⟩, .inr ?_⟩ <;> omega

theorem reportReg_ringStatus (n : Fin 64) : reportReg (R.RING_STATUS n) = false :=
  reportReg_ring (by simp only [R.RING_STATUS]; omega) (by simp only [R.RING_STATUS]; omega) (by simp only [R.RING_STATUS]; omega)

theorem reportReg_ringCtl (n : Fin 64) : reportReg (R.RING_CTL n) = false :=
  reportReg_ring (by simp only [R.RING_CTL]; omega) (by simp only [R.RING_CTL]; omega) (by simp only [R.RING_CTL]; omega)

theorem reportReg_hostStatus : reportReg R.HOST_STATUS = false := reportReg_central (by decide)

theorem reportReg_hostEvent : reportReg R.HOST_EVENT = false := reportReg_central (by decide)

section
variable (s : State)

@[simp] theorem State.ring_setRing_same (n : Nat) (r : Ring) : (s.setRing n r).ring n = r :=
  Tbl.getD_setD_same (d := fun _ => Ring.idle) _ _ _

theorem State.ring_setRing_ne {m n : Nat} (h : m ≠ n) (r : Ring) : (s.setRing n r).ring m = s.ring m :=
  Tbl.getD_setD_ne (d := fun _ => Ring.idle) _ h _

theorem State.fld_setRing (n : Nat) (r : Ring) (f : Fld) : (s.setRing n r).fld f = s.fld f := rfl

theorem State.on_setRing (n : Nat) (r : Ring) (f : Fld) : (s.setRing n r).on f = s.on f := rfl

theorem State.fld_setHost (h : HostIf) (f : Fld) : (s.setHost h).fld f = s.fld f := rfl

theorem State.each_cons {α : Type} (a : α) (l : List α) (f : α → State → State) : s.each (a :: l) f = (f a s).each l f := rfl

/-- A field that is no field of the registers that the event writes. -/
theorem State.fld_hostEvent (b object : Nat) {f : Fld} (hf : f.addr ≠ R.HOST_EVENT) (h : reportReg f.addr = false) :
    (s.hostEvent b object).fld f = s.fld f := State.fld_event s _ _ _ _ _ _ _ _ _ hf h

theorem State.hostEvent_bit {b : Nat} (object : Nat) (hb : b < 32) :
    natBit ((s.hostEvent b object).reg R.HOST_EVENT).toNat b = true := State.event_bit s _ _ _ _ _ _ _ hb reportReg_hostEvent

end

end Sys2Proof.Machine
end

section
/-!
The slow path and the SYS group (R390, R394, R395, Table 16.7): a transmit descriptor for this device, the buckets of EXC_STEER, and
when a FENCE completes.
-/
namespace Sys2Proof.Machine

/-! ### The entries of a table -/

section
variable {α : Type} [DecidableEq α] {d : Nat → α}

omit [DecidableEq α] in
/-- A value that is not the default stands in the table. -/
theorem Tbl.mem_of_getD_ne {k : Nat} : ∀ {t : Tbl α}, Tbl.getD d t k ≠ d k → (k, Tbl.getD d t k) ∈ t
  | [], h => absurd rfl h
  | (j, v) :: t, h => by
    unfold Tbl.getD at h ⊢
    by_cases e : j = k
    · rw [if_pos e, e]
      exact List.mem_cons_self ..
    · rw [if_neg e] at h ⊢
      exact List.mem_cons_of_mem _ (Tbl.mem_of_getD_ne h)

omit [DecidableEq α] in
theorem Tbl.mem_insert {k : Nat} {v : α} {e : Nat × α} : ∀ {t : Tbl α}, e ∈ Tbl.insert t k v → e = (k, v) ∨ e ∈ t
  | [], h => .inl (List.mem_singleton.mp h)
  | (j, w) :: t, h => by
    unfold Tbl.insert at h
    split at h
    · exact (List.mem_cons.mp h).imp_right (List.mem_cons_of_mem _)
    · split at h
      · exact List.mem_cons.mp h
      · rcases List.mem_cons.mp h with rfl | h
        · exact .inr (List.mem_cons_self ..)
        · exact (Tbl.mem_insert h).imp_right (List.mem_cons_of_mem _)

omit [DecidableEq α] in
theorem Tbl.mem_erase {k : Nat} {e : Nat × α} : ∀ {t : Tbl α}, e ∈ Tbl.erase t k → e ∈ t
  | [], h => h
  | (j, w) :: t, h => by
    unfold Tbl.erase at h
    split at h
    · exact List.mem_cons_of_mem _ (Tbl.mem_erase h)
    · rcases List.mem_cons.mp h with rfl | h
      · exact List.mem_cons_self ..
      · exact List.mem_cons_of_mem _ (Tbl.mem_erase h)

/-- An entry after a write is the one written or an earlier one. -/
theorem Tbl.mem_setD {t : Tbl α} {k : Nat} {v : α} {e : Nat × α} (h : e ∈ Tbl.setD d t k v) : e = (k, v) ∨ e ∈ t := by
  unfold Tbl.setD at h
  split at h
  · exact .inr (Tbl.mem_erase h)
  · exact Tbl.mem_insert h

end

/-! ### FENCE (Table 16.7) -/

section
variable {s : State} {n : Fin 64} {c : RingCmd}

theorem unreported_fences : Unreported (fun t : State => t.host.fences) :=
  ⟨fun _ _ _ _ => rfl, fun _ _ => rfl, fun _ _ _ => rfl, fun _ _ => rfl, fun _ _ => rfl, fun _ _ _ _ => rfl, fun _ _ _ => rfl⟩

/-- A FENCE that was not fetched through CMD_FETCH is entered as the latest command of its ring. -/
def State.fenced (s : State) (n : Nat) (tag : BitVec 16) : State :=
  (({ s with host := { s.host with order := s.host.order + 1 } } : State).setRing n
    { s.ring n with owed := (s.ring n).owed ++ [⟨s.host.order, tag, 12, 1, 16, s.fld (F.RING_HEADS.SQ_HEAD n), none⟩] })

theorem State.owe_none {tag : BitVec 16} {k : Nat} (h : orderOf s k tag 12 1 = none) :
    s.owe k tag 12 1 = (s.fenced k tag, s.host.order) := by
  unfold State.owe
  rw [h]
  rfl

/-- The ring waits behind the FENCE. -/
def State.waits (s : State) (n : Nat) (tag : BitVec 16) : State :=
  (s.fenced n tag).setHost { (s.fenced n tag).host with fences := [(n, s.host.order)] }

theorem exec_fence (h : c.served n s) (hf : s.host.fences = []) (ho : orderOf s n c.tag 12 1 = none) :
    exec (.fence c) s = .next ((s.waits n c.tag).settle 1) := by
  obtain ⟨hv, hop, hfence, ht, hstage, -, -⟩ := h
  have hrun : (decide (s.op = .setup) || decide (s.op = .run)) = true := by rcases hop with h | h <;> rw [h] <;> rfl
  have ht' : c.target.toNat = 0x7E := congrArg BitVec.toNat ht
  have hfenced : (s.fenced n c.tag).host.fences = [] := hf
  show execFence c s = _
  unfold execFence
  simp only [hv, ht', hstage, hrun, hf, State.owe_none ho]
  simp only [hfenced, List.any_nil, Bool.not_false, Bool.and_self, if_true, decide_true, Bool.true_or, List.nil_append]
  rfl

/-- The rings while a FENCE waits: its own with the FENCE last, every other one as it was. -/
theorem State.mem_waits_rings {k : Nat} {tag : BitVec 16} {e : Nat × Ring} (h : e ∈ (s.waits k tag).host.rings) :
    e = (k, { s.ring k with owed := (s.ring k).owed ++ [⟨s.host.order, tag, 12, 1, 16, s.fld (F.RING_HEADS.SQ_HEAD k), none⟩] }) ∨
      e ∈ s.host.rings :=
  Tbl.mem_setD (d := fun _ => Ring.idle) h

/-- A FENCE is ready when no other command is owed. -/
theorem State.fenceReady_waits {k : Nat} {tag : BitVec 16} (hk : (s.ring k).owed = []) (h : ∀ e ∈ s.host.rings, e.2.owed = []) :
    (s.waits k tag).fenceReady (k, s.host.order) = true := by
  refine List.all_eq_true.mpr fun e he => ?_
  rcases State.mem_waits_rings he with rfl | he
  · simp [hk]
  · simp [h e he]

/-- A FENCE is not ready while an earlier command is owed. -/
theorem State.not_fenceReady_waits {k m : Nat} {tag : BitVec 16} {o : Owed} (ho : o ∈ (s.ring m).owed) (hd : o.done = none)
    (hlt : o.order < s.host.order) : (s.waits k tag).fenceReady (k, s.host.order) = false := by
  have hring : o ∈ ((s.waits k tag).ring m).owed := by
    show o ∈ ((s.fenced k tag).ring m).owed
    unfold State.fenced
    by_cases e : m = k
    · subst e
      rw [State.ring_setRing_same]
      exact List.mem_append_left _ ho
    · rw [State.ring_setRing_ne _ e]
      exact ho
  have hmem : (m, (s.waits k tag).ring m) ∈ (s.waits k tag).host.rings := by
    refine Tbl.mem_of_getD_ne (d := fun _ => Ring.idle) fun hidle => ?_
    have hown : ((s.waits k tag).ring m).owed = [] := congrArg Ring.owed hidle
    rw [hown] at hring
    cases hring
  refine List.all_eq_false.mpr ⟨_, hmem, ?_⟩
  simp only [List.all_eq_true, not_forall]
  exact ⟨o, hring, by simp [hd, hlt]⟩

/-- A FENCE that is ready completes in its ring. -/
theorem State.settle_one {f : Nat × Nat} (h : s.host.fences.find? s.fenceReady = some f) : s.settle 1 =
    ({ s with host := { s.host with fences := s.host.fences.filter (· != f) } } : State).completeOrder1 (f.1 % 64) f.2
      (({} : Reply).completion 12 1 s.source) := by
  unfold State.settle
  rw [h]
  rfl

theorem State.settle_none {k : Nat} (h : s.host.fences.find? s.fenceReady = none) : s.settle (k + 1) = s := by
  unfold State.settle
  rw [h]

end

/-! ### Transmission and steering -/

section
variable {s : State}

/-- A descriptor for this device with a frame of legal length is queued (R394). -/
theorem exec_pf2TxFetch_local {n : Fin 64} {d fr : List Byte} (hfetch : s.fetchesNow n = true) (hkind : s.kind n = 2)
    (hposted : s.sqPosted n ≠ 0) (hport : natBits (leAt d 12 1) 6 0 < 96) (hmin : 60 ≤ leAt d 10 2) (hmax : leAt d 10 2 ≤ 9216)
    (ht : natBits (leAt d 13 1) 6 0 = 0x7E) (hu : natBit (leAt d 12 1) 7 = false) :
    exec (.pf2TxFetch n d (some fr)) s = .next ((s.takeSlots n 1).pf2Queue (natBits (leAt d 12 1) 6 0)
      (natBits (leAt d 14 1) 2 0) (padTo (leAt d 10 2) fr) false (some (n.val, leAt d 8 2))) := by
  show execPf2TxFetch n d (some fr) s = _
  simp only [execPf2TxFetch, hfetch, hkind, ht, hu]
  have h1 : ¬ (95 < natBits (leAt d 12 1) 6 0) := by omega
  have h2 : ¬ (leAt d 10 2 < 60) := by omega
  have h3 : ¬ (9216 < leAt d 10 2) := by omega
  simp [h1, h2, h3, hposted]

/-- EXC_STEER written with the pair and the rate of a reason (R395). -/
def State.steered (s : State) (r v : Nat) : State :=
  (s.put (F.EXC_STEER.RATE r) (natBits v 31 16)).put (F.EXC_STEER.PAIR r) (natBits v 5 0)

/-- Its bucket is full. -/
def State.fullBucket (s : State) (r : Nat) : State :=
  s.setHost { s.host with tokens := Tbl.setN s.host.tokens r 0, tokenAt := Tbl.setN s.host.tokenAt r s.cyc }

theorem State.fld_steered (s : State) (r v : Nat) : (s.steered r v).fld (F.EXC_STEER.RATE r) = natBits v 31 16 ∧
    (s.steered r v).fld (F.EXC_STEER.PAIR r) = natBits v 5 0 := by
  have hrate : natBits v 31 16 % 2 ^ 16 = natBits v 31 16 := Nat.mod_eq_of_lt (natBits_lt _ 31 16)
  have hpair : natBits v 5 0 % 2 ^ 6 = natBits v 5 0 := Nat.mod_eq_of_lt (natBits_lt _ 5 0)
  unfold State.steered
  rw [State.fld_put_ne _ _ _ _ (by simp [F.EXC_STEER.PAIR]) (.inr (.inl (by simp [F.EXC_STEER.PAIR, F.EXC_STEER.RATE]))),
    State.fld_put_same _ _ _ (by simp [F.EXC_STEER.RATE]), State.fld_put_same _ _ _ (by simp [F.EXC_STEER.PAIR])]
  exact ⟨hrate, hpair⟩

theorem State.fld_fullBucket (s : State) (r : Nat) (f : Fld) : (s.fullBucket r).fld f = s.fld f := rfl

theorem State.tokens_fullBucket (s : State) (r : Nat) : ((s.fullBucket r).tokens r).1 = ((s.fullBucket r).tokens r).2 := by
  unfold State.tokens State.fullBucket
  simp only [State.setHost_host, State.setHost_cyc, Tbl.atN_setN_same, Nat.zero_sub, Nat.sub_zero]

theorem exec_excSteerWrite {r : Fin 4} {v : Word} (ho : s.regsOpen = true) :
    exec (.excSteerWrite r v) s = .next ((s.steered r v.toNat).fullBucket r) := by
  show execExcSteerWrite r v s = _
  unfold execExcSteerWrite
  rw [if_neg (by simp [ho])]
  rfl

end

end Sys2Proof.Machine

open Sys2Proof.Machine

/-- Settles O46: transmission and steering by their meanings, and the FENCE by whether it is ready when it enters its ring. -/
theorem slowPathAndSysComplete : Obligations.SlowPathAndSysComplete := by
  unfold Obligations.SlowPathAndSysComplete
  refine fun s n => ⟨?transmit, fun r v ho => ⟨_, exec_excSteerWrite ho, ?rate, ?pair, ?full⟩,
    fun c hc => ringExec_served_of hc 12 0 rfl, ?ready, ?waits⟩
  case transmit =>
    exact fun d fr hfetch hkind hposted hport hmin hmax ht hu => exec_pf2TxFetch_local hfetch hkind hposted hport hmin hmax ht hu
  case rate => exact (State.fld_fullBucket _ _ _).trans (s.fld_steered r _).1
  case pair => exact (State.fld_fullBucket _ _ _).trans (s.fld_steered r _).2
  case full => exact State.tokens_fullBucket _ _
  case ready =>
    intro c hc hf hm he
    have ho : Sys2Proof.Machine.orderOf s n c.tag 12 1 = none := by simp [Sys2Proof.Machine.orderOf, hm n]
    have hready : (s.waits n c.tag).host.fences.find? (s.waits n c.tag).fenceReady = some (n.val, s.host.order) := by
      show [_].find? _ = _
      simp [State.fenceReady_waits (hm n) he]
    have hrep : s.Reported (s.waits n c.tag) := .ofHost s _
    refine ⟨_, exec_fence hc hf ho, ?_, hrep.trans (State.settle_reported 1 _)⟩
    rw [State.settle_one hready]
    refine (unreported_fences.completeOrder1 _ _ _ _).trans ?_
    show [_].filter _ = _
    simp
  case waits =>
    intro c m o hc hf horder ho hd hlt
    refine ⟨_, exec_fence hc hf horder, ?_⟩
    have hready : (s.waits n c.tag).host.fences.find? (s.waits n c.tag).fenceReady = none := by
      show [_].find? _ = _
      simp [State.not_fenceReady_waits ho hd hlt]
    rw [State.settle_none hready]
    rfl
end

section
/-!
Ring control, doorbells and the fetching of a command (R382, R384 to R386, R388, R400).
-/
namespace Sys2Proof.Machine

section
variable {s : State} {n : Fin 64}

/-! ### Enabling and resetting -/

/-- A pair that starts: EN and RUNNING are 1, and its indices are no longer fresh (R384). -/
def State.startRing (s : State) (n : Nat) : State :=
  ((s.put (F.RING_CTL.EN n) 1).put (F.RING_STATUS.RUNNING n) 1).setRing n { s.ring n with fresh := false }

theorem State.startRing_effect (s : State) (n : Nat) : (s.startRing n).running n = true ∧ (s.startRing n).on (F.RING_CTL.EN n) = true ∧
    ((s.startRing n).ring n).fresh = false := by
  unfold State.startRing State.running
  rw [State.on_setRing, State.on_setRing, State.ring_setRing_same, State.on_put_same _ _ _ (by simp [F.RING_STATUS.RUNNING]),
    State.on_put_ne _ _ _ _ (by simp [F.RING_STATUS.RUNNING]) (.inl (by simp [F.RING_STATUS.RUNNING, F.RING_CTL.EN, R.RING_STATUS,
      R.RING_CTL])), State.on_put_same _ _ _ (by simp [F.RING_CTL.EN])]
  exact ⟨rfl, rfl, rfl⟩

theorem exec_ringEnable_starts (ho : s.regsOpen = true) (hr : s.running n = false) (hf : (s.ring n).fresh = true)
    (hk : s.kindOk n = true) (h1 : s.kind n ≠ 1) : exec (.ringEnable n) s = .next (s.startRing n) := by
  have hkind : (s.startRing n).kind n = s.kind n := by
    unfold State.kind State.startRing
    rw [State.fld_setRing, State.fld_put_ne _ _ _ _ (by simp [F.RING_STATUS.RUNNING])
      (.inl (by simp [F.RING_CFG.KIND, F.RING_STATUS.RUNNING, R.RING_CFG, R.RING_STATUS])),
      State.fld_put_ne _ _ _ _ (by simp [F.RING_CTL.EN]) (.inl (by simp [F.RING_CFG.KIND, F.RING_CTL.EN, R.RING_CFG, R.RING_CTL]))]
  show execRingEnable n s = _
  unfold execRingEnable
  extract_lets k s1
  rw [if_neg (by simp [ho]), if_neg (by simp [k, hr, hf]), if_neg (by simp [k, hk])]
  exact congrArg Host.Outcome.next (if_neg (by
    show ¬ (((s.startRing n).kind n == 1) = true)
    simp [hkind, h1]))

/-- A reset of a pair: its indices are 0, its phase is 1, and it is fresh (R384). -/
theorem State.resetRing_effect (s : State) (n : Nat) : (s.resetRing n).fld (F.RING_HEADS.SQ_HEAD n) = 0 ∧
    (s.resetRing n).fld (F.RING_HEADS.CQ_WRITE n) = 0 ∧ (s.resetRing n).fld (F.RING_HEADS.CQ_PHASE n) = 1 ∧
    (s.resetRing n).ring n = { Ring.idle with lost := (s.ring n).lost } := by
  have hst : ∀ (t : State) (f : Fld), f.addr = R.RING_HEADS n → (t.put (F.RING_STATUS.ERR n) 0).fld f = t.fld f := fun t f hf =>
    State.fld_put_ne t _ f 0 (by simp [F.RING_STATUS.ERR]) (.inl (by simp [hf, F.RING_STATUS.ERR, R.RING_HEADS, R.RING_STATUS]))
  unfold State.resetRing
  rw [State.ring_setRing_same, State.fld_setRing, State.fld_setRing, State.fld_setRing, hst _ _ rfl, hst _ _ rfl, hst _ _ rfl]
  refine ⟨?_, ?_, State.fld_put_same _ (F.RING_HEADS.CQ_PHASE n) 1 (by simp [F.RING_HEADS.CQ_PHASE]), rfl⟩
  · rw [State.fld_put_ne _ (F.RING_HEADS.CQ_PHASE n) (F.RING_HEADS.SQ_HEAD n) 1 (by simp [F.RING_HEADS.CQ_PHASE])
      (.inr (.inr (by simp [F.RING_HEADS.CQ_PHASE, F.RING_HEADS.SQ_HEAD]))),
      State.fld_put_ne _ (F.RING_HEADS.CQ_WRITE n) (F.RING_HEADS.SQ_HEAD n) 0 (by simp [F.RING_HEADS.CQ_WRITE])
      (.inr (.inr (by simp [F.RING_HEADS.CQ_WRITE, F.RING_HEADS.SQ_HEAD])))]
    exact State.fld_put_same s _ 0 (by simp [F.RING_HEADS.SQ_HEAD])
  · rw [State.fld_put_ne _ (F.RING_HEADS.CQ_PHASE n) (F.RING_HEADS.CQ_WRITE n) 1 (by simp [F.RING_HEADS.CQ_PHASE])
      (.inr (.inl (by simp [F.RING_HEADS.CQ_PHASE, F.RING_HEADS.CQ_WRITE])))]
    exact State.fld_put_same _ _ 0 (by simp [F.RING_HEADS.CQ_WRITE])

/-! ### The head doorbell -/

/-- Without ARM, the head doorbell frees the slots before the head and leaves the arming (R382, R400). -/
theorem exec_cqHeadDoorbell_unarmed {fn : Fin 3} {v : Word} (hd : s.doorbell fn n = true) (hv : natBit v.toNat 31 = false) :
    exec (.cqHeadDoorbell fn n v) s = .next ((s.setRing n { s.ring n with
      cqHead := natBits v.toNat 14 0 % s.cqSize n, headWord := v,
      cqUsed := (s.fld (F.RING_HEADS.CQ_WRITE n) + s.cqSize n - natBits v.toNat 14 0 % s.cqSize n) % s.cqSize n }).count 0x6C0) := by
  show execCqHeadDoorbell fn n v s = _
  simp only [execCqHeadDoorbell, hd, hv, Bool.not_true, Bool.false_eq_true, if_false, Bool.false_and, Bool.false_or]

/-! ### Fetching -/

/-- The command at the head of a CMD ring, as it is owed once `k` slots have been taken (R385). -/
def State.owedAt (s : State) (n : Nat) (d : List Byte) (g op : Nat) : Owed :=
  ⟨s.host.order, BitVec.ofNat 16 (leAt d 4 2), g, op, 1 + maxConts g op, s.fld (F.RING_HEADS.SQ_HEAD n), none⟩

/-- A fetched command joins the end of its ring's owed list. -/
def State.fetched (s : State) (n : Nat) (o : Owed) (owed : List Owed) : State :=
  (s.setHost { s.host with order := s.host.order + 1 }).setRing n { s.ring n with owed := owed ++ [o] }

theorem exec_cmdFetch_whole {d : List Byte} (hf : s.fetchesNow n = true) (hk : s.kind n = 0)
    (hop : natBits (leAt d 0 4) 27 24 < groupOps (natBits (leAt d 0 4) 31 28))
    (hposted : 1 + natBits (leAt d 0 4) 15 12 ≤ s.sqPosted n) (hlen : (s.ring n).owed.length < 64)
    (hroom : ((s.ring n).owed.map (·.maxSlots)).sum + 16 ≤ s.cqFree n) :
    exec (.cmdFetch n d) s = .next ((s.takeSlots n (1 + natBits (leAt d 0 4) 15 12)).fetched n
      ((s.takeSlots n (1 + natBits (leAt d 0 4) 15 12)).owedAt n d (natBits (leAt d 0 4) 31 28) (natBits (leAt d 0 4) 27 24))
      (s.ring n).owed) := by
  have hbad : decide (groupOps (natBits (leAt d 0 4) 31 28) ≤ natBits (leAt d 0 4) 27 24) = false := decide_eq_false (by omega)
  have hwhole : (decide (s.sqPosted n < 1 + natBits (leAt d 0 4) 15 12) || decide (64 ≤ (s.ring n).owed.length) ||
      decide (s.cqFree n < ((s.ring n).owed.map (·.maxSlots)).sum + 16)) = false := by
    simp only [Bool.or_eq_false_iff, decide_eq_false_iff_not]
    omega
  show execCmdFetch n d s = _
  unfold execCmdFetch
  extract_lets k r1 r w j g op owed s1 bad o
  have hbad' : bad = false := hbad
  rw [if_neg (by simp [k, hf]), if_neg (by simp [k, hk]), if_neg (by simp [k, hk]), if_neg (ne_true_of_eq_false hwhole), hbad']
  simp only [Bool.false_eq_true, if_false]
  have ho : o = s1.owedAt k d g op := congrArg (Owed.mk _ _ _ _ _ _) (if_neg (ne_true_of_eq_false hbad'))
  show Host.Outcome.next (s1.fetched k o owed) = _
  rw [ho]

end

end Sys2Proof.Machine

open Sys2Proof.Machine

/-- Settles O45: each register write and doorbell by its meaning, and the fetch by the command that it enters. -/
theorem ringControlAndFetchComplete : Obligations.RingControlAndFetchComplete := by
  unfold Obligations.RingControlAndFetchComplete
  refine ⟨fun s n => ⟨?enable, ?disable, ?stop, ?reset, ?tail, ?head, ?due⟩, ?fetch⟩
  case enable =>
    intro ho hr hf hk h1
    exact ⟨_, exec_ringEnable_starts ho hr hf hk h1, s.startRing_effect n⟩
  case disable =>
    intro ho
    have hexec : exec (.ringDisable n) s = .next (s.put (F.RING_CTL.EN n) 0) := by
      show execRingDisable n s = _
      exact if_pos ho
    refine ⟨_, hexec, ?_, State.put_host _ _ _⟩
    exact State.on_put_same s _ 0 (by simp [F.RING_CTL.EN])
  case stop =>
    intro hr he ho
    have hexec : exec (.ringStopDone n) s = .next (s.put (F.RING_STATUS.RUNNING n) 0) := by
      show execRingStopDone n s = _
      exact if_pos (by simp [hr, he, ho])
    refine ⟨_, hexec, ?_, State.put_host _ _ _⟩
    exact State.on_put_same s _ 0 (by simp [F.RING_STATUS.RUNNING])
  case reset =>
    intro ho hr
    obtain ⟨hhead, hwrite, hphase, hring⟩ := s.resetRing_effect n
    have hexec : exec (.ringReset n) s = .next (s.resetRing n) := by
      show execRingReset n s = _
      exact if_pos (by simp [ho, hr])
    refine ⟨_, hexec, hhead, hwrite, hphase, ?_, ?_⟩
    · rw [hring]
      rfl
    · rw [hring]
      rfl
  case tail => exact fun fn v hd => if_pos hd
  case head =>
    rintro fn v hd hv h u rfl rfl
    exact exec_cqHeadDoorbell_unarmed hd hv
  case due =>
    intro ha hu ht
    exact if_pos (by simp [ha, hu, ht])
  case fetch =>
    rintro s n d k g op hf hk rfl rfl rfl hop hposted hlen hroom
    refine ⟨_, (s.takeSlots n (1 + natBits (leAt d 0 4) 15 12)).owedAt n d (natBits (leAt d 0 4) 31 28) (natBits (leAt d 0 4) 27 24),
      exec_cmdFetch_whole hf hk hop hposted hlen hroom, ?_, rfl, rfl, rfl, rfl, rfl⟩
    exact congrArg Ring.owed (State.ring_setRing_same _ _ _)
end

section
/-!
The UCIe link (R373, R374, R378, R401 to R404): training, the loss of the link, a descriptor's read time-out, and a function-level
reset.
-/
namespace Sys2Proof.Machine

/-! ### Training -/

section
variable {s : State}

/-- Rate and width reach HOST_STATUS (R374). -/
def State.trainedAt (s : State) (x : UcieTrain) : State :=
  ((s.put F.HOST_STATUS.LINK 2).put F.HOST_STATUS.RATE x.rate.val).put F.HOST_STATUS.WIDTH x.width.val

theorem unreported_linkLost : Unreported (fun t : State => t.host.linkLost) :=
  ⟨fun _ _ _ _ => rfl, fun _ _ => rfl, fun _ _ _ => rfl, fun _ _ => rfl, fun _ _ => rfl, fun _ _ _ _ => rfl, fun _ _ _ => rfl⟩

/-- What the return of the link after a loss leaves (R402). -/
theorem State.relinked_keeps (s : State) (h : HostIf) (hh : h.linkLost = false) :
    (((s.setHost h).hostEvent 1 0).blk 36).reg R.HOST_STATUS = s.reg R.HOST_STATUS ∧
    (((s.setHost h).hostEvent 1 0).blk 36).config = s.config ∧ (((s.setHost h).hostEvent 1 0).blk 36).host.linkLost = false := by
  have hblk := State.blk_reported ((s.setHost h).hostEvent 1 0) (i := 36) (by decide)
  have hev := (s.setHost h).event_reported R.HOST_EVENT R.HOST_EVENT_EN 1 0x10 1 0 0 0 0
  refine ⟨?_, hblk.config.trans hev.config, ?_⟩
  · exact (hblk.regs _ reportReg_hostStatus).trans (State.event_reg _ _ _ _ _ _ _ _ _ _ (by decide) reportReg_hostStatus)
  · exact (unreported_linkLost.blk _ _).trans ((unreported_linkLost.event _ (fun _ => rfl) _ _ _ _ _ _ _ _).trans hh)

theorem State.fld_trainedAt (s : State) (x : UcieTrain) : (s.trainedAt x).fld F.HOST_STATUS.LINK = 2 ∧
    (s.trainedAt x).fld F.HOST_STATUS.RATE = x.rate.val ∧ (s.trainedAt x).fld F.HOST_STATUS.WIDTH = x.width.val := by
  have hr : x.rate.val % 2 ^ 2 = x.rate.val := Nat.mod_eq_of_lt x.rate.isLt
  have hw : x.width.val % 2 ^ 2 = x.width.val := Nat.mod_eq_of_lt (by omega)
  unfold State.trainedAt
  refine ⟨?_, ?_, ?_⟩
  · rw [State.fld_put_ne _ _ _ _ (by decide) (by decide), State.fld_put_ne _ _ _ _ (by decide) (by decide),
      State.fld_put_same _ _ _ (by decide)]
    rfl
  · rw [State.fld_put_ne _ _ _ _ (by decide) (by decide), State.fld_put_same _ _ _ (by decide)]
    exact hr
  · rw [State.fld_put_same _ _ _ (by decide)]
    exact hw

theorem State.config_trainedAt (s : State) (x : UcieTrain) : (s.trainedAt x).config = s.config := by
  unfold State.config State.trainedAt
  rw [State.put_straps, State.put_straps, State.put_straps]

/-- Training that ends on a powered device outside a domain, with a width that its package has. -/
theorem exec_ucieTrainDone_outside {x : UcieTrain} (hp : s.corePowered = true) (hr : s.boot.inReset = none)
    (hl : s.fld F.HOST_STATUS.LINK ≠ 2) (hc : s.config ≠ 2) (hw : if s.straps.uciePkg then x.width.val ≠ 0 else x.width.val = 0) :
    ∃ t, exec (.ucieTrainDone x) s = .next t ∧ t.reg R.HOST_STATUS = (s.trainedAt x).reg R.HOST_STATUS ∧ t.host.linkLost = false := by
  have hexec : exec (.ucieTrainDone x) s = execUcieTrainDone x s := rfl
  rw [hexec]
  unfold execUcieTrainDone
  extract_lets widthOk s1 h1 s2
  have hwidth : widthOk := hw
  have hs2 : s2.reg R.HOST_STATUS = s1.reg R.HOST_STATUS ∧ s2.config = s1.config ∧ s2.host.linkLost = false := by
    unfold s2
    split
    next => exact s1.relinked_keeps _ rfl
    next h => exact ⟨rfl, rfl, Bool.not_eq_true _ ▸ h⟩
  clear_value s2
  obtain ⟨hreg, hconfig, hlost⟩ := hs2
  have hc2 : s2.config ≠ 2 := by
    rw [hconfig]
    exact (s.config_trainedAt x).symm ▸ hc
  rw [if_neg (by simp [hp, hr, hl, hwidth]), if_neg (by simp [hc2])]
  exact ⟨s2, rfl, hreg, hlost⟩

/-! ### Stopping a pair -/

theorem State.stopRing_fld (t : State) (n : Nat) {f : Fld} (h1 : f.addr ≠ R.RING_CTL n) (h2 : f.addr ≠ R.RING_STATUS n ∨ f.hi < 31) :
    (t.stopRing n).fld f = t.fld f := by
  have he : (t.put (F.RING_CTL.EN n) 0).fld f = t.fld f := State.fld_put_ne _ _ _ _ (by simp [F.RING_CTL.EN]) (.inl h1)
  unfold State.stopRing
  extract_lets t1
  split
  · exact (State.fld_put_ne _ _ _ _ (by simp [F.RING_STATUS.RUNNING]) (h2.imp id .inr)).trans he
  · exact he

/-- Stopping a pair writes its registers alone. -/
theorem State.stopRing_host (t : State) (n : Nat) : (t.stopRing n).host = t.host ∧ (t.stopRing n).op = t.op ∧
    (t.stopRing n).path = t.path ∧ (t.stopRing n).sched = t.sched := by
  unfold State.stopRing
  extract_lets t1
  have h1 : t1.host = t.host ∧ t1.op = t.op ∧ t1.path = t.path ∧ t1.sched = t.sched :=
    ⟨State.put_host _ _ _, State.put_op _ _ _, State.put_path _ _ _, State.put_sched _ _ _⟩
  split
  · rw [State.put_host, State.put_op, State.put_path, State.put_sched]
    exact h1
  · exact h1

theorem State.stopRing_en (t : State) (n : Nat) : (t.stopRing n).on (F.RING_CTL.EN n) = false := by
  have he : (t.put (F.RING_CTL.EN n) 0).on (F.RING_CTL.EN n) = false := State.on_put_same _ _ _ (by simp [F.RING_CTL.EN])
  unfold State.stopRing
  extract_lets t1
  split
  · exact (State.on_put_ne _ _ _ _ (by simp [F.RING_STATUS.RUNNING])
      (.inl (by simp only [F.RING_CTL.EN, F.RING_STATUS.RUNNING, R.RING_CTL, R.RING_STATUS]; omega))).trans he
  · exact he

/-- A pair that owes nothing stops at once. -/
theorem State.stopRing_stopped (t : State) {n : Nat} (h : (t.ring n).owed = []) : (t.stopRing n).running n = false := by
  unfold State.stopRing
  rw [h]
  exact State.on_put_same _ _ _ (by simp [F.RING_STATUS.RUNNING])

/-- A pair that does not run does not start by another's stop. -/
theorem State.stopRing_running (t : State) {m : Nat} (n : Nat) (h : t.running m = false) : (t.stopRing n).running m = false := by
  have he : (t.put (F.RING_CTL.EN n) 0).running m = t.running m := State.on_put_ne _ _ _ _ (by simp [F.RING_CTL.EN])
    (.inl (by simp [F.RING_CTL.EN, F.RING_STATUS.RUNNING, R.RING_CTL, R.RING_STATUS]; omega))
  unfold State.stopRing
  extract_lets t1
  split
  · by_cases e : m = n
    · subst e
      exact State.on_put_same _ _ _ (by simp [F.RING_STATUS.RUNNING])
    · refine (State.on_put_ne _ (F.RING_STATUS.RUNNING n) (F.RING_STATUS.RUNNING m) _ (by simp [F.RING_STATUS.RUNNING])
        (.inl (by simp [F.RING_STATUS.RUNNING, R.RING_STATUS]; omega))).trans (he.trans h)
  · exact he.trans h

/-! ### The loss of the link -/

/-- A pair loses the link (R402): its completions owed are lost, and it stops. -/
def State.lostRing (t : State) (n : Nat) : State :=
  (t.setRing n { t.ring n with owed := (t.ring n).owed.map (fun o => { o with maxSlots := 0 }), armed := false }).stopRing n

theorem State.owed_lostRing (t : State) {m : Nat} (n : Nat) (h : (t.ring m).owed = []) : ((t.lostRing n).ring m).owed = [] := by
  have hstop : ∀ u : State, (u.stopRing n).ring m = u.ring m := fun u =>
    congrArg (fun h : HostIf => Tbl.getD (fun _ => Ring.idle) h.rings m) (u.stopRing_host n).1
  unfold State.lostRing
  rw [hstop]
  by_cases e : m = n
  · subst e
    rw [State.ring_setRing_same, h]
    rfl
  · rw [State.ring_setRing_ne _ e]
    exact h

theorem State.running_setRing (t : State) (n : Nat) (r : Ring) (m : Nat) : (t.setRing n r).running m = t.running m := rfl

/-- The pairs that owe nothing stop, each at its turn. -/
theorem State.each_lostRing_stopped {m : Nat} (l : List Nat) (t : State) (ho : (t.ring m).owed = [])
    (h : t.running m = false ∨ m ∈ l) : (t.each l (fun n u => u.lostRing n)).running m = false := by
  induction l generalizing t with
  | nil => exact h.resolve_right (by simp)
  | cons n l ih =>
    rw [State.each_cons]
    refine ih (t.lostRing n) (t.owed_lostRing n ho) ?_
    rcases h with h | h
    · exact .inl (State.stopRing_running _ n h)
    · rcases List.mem_cons.mp h with rfl | h
      · refine .inl (State.stopRing_stopped _ ?_)
        rw [State.ring_setRing_same, ho]
        rfl
      · exact .inr h

/-- What a lost pair leaves of the link's state. -/
theorem State.lostRing_keeps (t : State) (n : Nat) : (t.lostRing n).fld F.HOST_STATUS.LINK = t.fld F.HOST_STATUS.LINK ∧
    (t.lostRing n).op = t.op ∧ (t.lostRing n).path = t.path ∧ (t.lostRing n).sched = t.sched ∧
    (t.lostRing n).host = { t.host with rings := (t.lostRing n).host.rings } := by
  refine ⟨?_, ?_⟩
  · exact State.stopRing_fld _ n (by simp [F.HOST_STATUS.LINK, R.HOST_STATUS, R.RING_CTL]; omega)
      (.inl (by simp [F.HOST_STATUS.LINK, R.HOST_STATUS, R.RING_STATUS]; omega))
  · obtain ⟨hhost, hop, hpath, hsched⟩ := State.stopRing_host (t.setRing n { t.ring n with
      owed := (t.ring n).owed.map (fun o => { o with maxSlots := 0 }), armed := false }) n
    refine ⟨hop, hpath, hsched, ?_⟩
    unfold State.lostRing
    rw [hhost]
    rfl

/-- The link is down: MSI-X has its reset values (R401). -/
def State.unlinked (s : State) : State :=
  let s1 := (s.put F.HOST_STATUS.LINK 0).put F.HOST_STATUS.RATE 0
  s1.setHost { s1.host with linkLost := true, msix := [], pba := [] }

theorem State.fld_unlinked (s : State) : s.unlinked.fld F.HOST_STATUS.LINK = 0 := by
  unfold State.unlinked
  extract_lets s1
  rw [State.fld_setHost, State.fld_put_ne _ _ _ _ (by decide) (by decide), State.fld_put_same _ _ _ (by decide)]
  rfl

theorem State.unlinked_keeps (s : State) : s.unlinked.op = s.op ∧ s.unlinked.path = s.path ∧ s.unlinked.sched = s.sched ∧
    s.unlinked.host.linkLost = true ∧ s.unlinked.host.msix = [] ∧ s.unlinked.host.pba = [] ∧
    s.unlinked.host.rings = s.host.rings := by
  unfold State.unlinked
  extract_lets s1 h
  have h1 : s1.op = s.op ∧ s1.path = s.path ∧ s1.sched = s.sched ∧ s1.host = s.host := by
    unfold s1
    rw [State.put_op, State.put_op, State.put_path, State.put_path, State.put_sched, State.put_sched, State.put_host, State.put_host]
    exact ⟨rfl, rfl, rfl, rfl⟩
  clear_value s1
  obtain ⟨hop, hpath, hsched, hhost⟩ := h1
  rw [State.setHost_op, State.setHost_path, State.setHost_sched, State.setHost_host]
  have hrings : s1.host.rings = s.host.rings := by rw [hhost]
  exact ⟨hop, hpath, hsched, rfl, rfl, rfl, hrings⟩

/-- What the loss of the link leaves of a device's load (R412). -/
def State.unloaded (s : State) : Res :=
  if s.op = .load && s.fld F.BOOT_STATUS.FW_STATUS = 1 && !s.isMember then
    .next ((s.setBoot { s.boot with image := [] }).put F.BOOT_STATUS.FW_STATUS 14)
  else if s.op = .load then .next { s with dom := { s.dom with claiming := false } }
  else .next s

theorem State.unloaded_of_run {s : State} (h : s.op = .run) : s.unloaded = .next s := by
  unfold State.unloaded
  rw [if_neg (by simp [h]), if_neg (by simp [h])]

theorem execUcieLinkDown_eq (s : State) : execUcieLinkDown s =
    if s.fld F.HOST_STATUS.LINK ≠ 2 then .next s
    else (s.unlinked.each s.unlinked.runningPairs (fun n t => t.lostRing n)).unloaded := rfl

theorem exec_ucieLinkDown_run (hl : s.fld F.HOST_STATUS.LINK = 2) (hop : s.op = .run) :
    exec .ucieLinkDown s = .next (s.unlinked.each s.unlinked.runningPairs (fun n t => t.lostRing n)) := by
  have hop3 : (s.unlinked.each s.unlinked.runningPairs (fun n t => t.lostRing n)).op = .run :=
    (State.each_keeps State.op (fun n t => (t.lostRing_keeps n).2.1) _ _).trans (s.unlinked_keeps.1.trans hop)
  show execUcieLinkDown s = _
  rw [execUcieLinkDown_eq, if_neg (not_not.mpr hl), State.unloaded_of_run hop3]

/-- What the loss of the link leaves. -/
theorem State.unlinked_each (s : State) (l : List Nat) : (s.unlinked.each l (fun n t => t.lostRing n)).fld F.HOST_STATUS.LINK = 0 ∧
    (s.unlinked.each l (fun n t => t.lostRing n)).host.linkLost = true ∧
    (s.unlinked.each l (fun n t => t.lostRing n)).host.msix = [] ∧ (s.unlinked.each l (fun n t => t.lostRing n)).host.pba = [] ∧
    (s.unlinked.each l (fun n t => t.lostRing n)).path = s.path ∧ (s.unlinked.each l (fun n t => t.lostRing n)).sched = s.sched := by
  have hhost : ∀ (t : State) (n : Nat), (t.lostRing n).host = { t.host with rings := (t.lostRing n).host.rings } :=
    fun t n => (t.lostRing_keeps n).2.2.2.2
  obtain ⟨-, hpath, hsched, hlost, hmsix, hpba, -⟩ := s.unlinked_keeps
  have heach := fun {β : Type} (π : State → β) (h : ∀ n t, π (State.lostRing t n) = π t) => State.each_keeps π h s.unlinked l
  refine ⟨?_, ?_, ?_, ?_, ?_, ?_⟩
  · exact (heach (fun t => t.fld F.HOST_STATUS.LINK) fun n t => (t.lostRing_keeps n).1).trans s.fld_unlinked
  · exact (heach (fun t => t.host.linkLost) fun n t => by rw [hhost t n]).trans hlost
  · exact (heach (fun t => t.host.msix) fun n t => by rw [hhost t n]).trans hmsix
  · exact (heach (fun t => t.host.pba) fun n t => by rw [hhost t n]).trans hpba
  · exact (heach State.path fun n t => (t.lostRing_keeps n).2.2.1).trans hpath
  · exact (heach State.sched fun n t => (t.lostRing_keeps n).2.2.2.1).trans hsched

end

/-! ### A read time-out -/

theorem State.ringErr_effect (s : State) (n : Fin 64) : (s.ringErr n 1).fld (F.RING_STATUS.ERR n) = 1 ∧
    (s.ringErr n 1).on (F.RING_CTL.EN n) = false ∧ natBit ((s.ringErr n 1).reg R.HOST_EVENT).toNat 2 = true := by
  refine ⟨?_, State.stopRing_en _ _, ?_⟩
  · refine (State.stopRing_fld _ _ (by simp only [F.RING_STATUS.ERR, R.RING_STATUS, R.RING_CTL]; omega)
      (.inr (by simp [F.RING_STATUS.ERR]))).trans ?_
    refine (State.fld_hostEvent _ _ _ (by simp [F.RING_STATUS.ERR, R.RING_STATUS, R.HOST_EVENT]; omega) (reportReg_ringStatus n)).trans ?_
    exact State.fld_put_same _ _ _ (by simp [F.RING_STATUS.ERR])
  · have hbit := State.hostEvent_bit (s.put (F.RING_STATUS.ERR n) 1) (b := 2) n (by decide)
    unfold State.ringErr
    generalize (s.put (F.RING_STATUS.ERR n) 1).hostEvent 2 n = u at hbit ⊢
    have hreg : (u.stopRing n).reg R.HOST_EVENT = u.reg R.HOST_EVENT := by
      have he : (u.put (F.RING_CTL.EN n) 0).reg R.HOST_EVENT = u.reg R.HOST_EVENT :=
        State.reg_put_ne _ (by simp [F.RING_CTL.EN, R.RING_CTL, R.HOST_EVENT]; omega) _
      unfold State.stopRing
      extract_lets u1
      split
      · exact (State.reg_put_ne _ (by simp [F.RING_STATUS.RUNNING, R.RING_STATUS, R.HOST_EVENT]; omega) _).trans he
      · exact he
    rw [hreg]
    exact hbit

/-! ### A function-level reset -/

section
variable {n : Fin 64}

theorem State.reg_ctCount (s : State) (k j a : Nat) : (s.ctCount k j).reg a = s.reg a := rfl

/-- A copy that leaves the device leaves the pairs' status. -/
theorem State.copyGone_ringStatus (s : State) (p : Nat) (c : Copy) : (s.copyGone p c).reg (R.RING_STATUS n) = s.reg (R.RING_STATUS n) := by
  have hv : Unreported (fun t : State => t.reg (R.RING_STATUS n)) :=
    unreported_reg (by simp only [Reporting, R.RING_STATUS]; omega)
  have hct : ∀ x, (s.ctLost x).reg (R.RING_STATUS n) = s.reg (R.RING_STATUS n) := by
    intro x
    cases x with
    | none => rfl
    | some k =>
      refine (hv.event (s.ctCount k 3) (fun w => ?_) _ _ _ _ _ _ _ _).trans (s.reg_ctCount k 3 _)
      exact State.reg_setReg_ne _ (by simp only [R.RING_STATUS, R.CT_EVENT]; omega) w
  have hdone : ∀ t : State, (t.hostDone c 2).reg (R.RING_STATUS n) = t.reg (R.RING_STATUS n) := by
    intro t
    unfold State.hostDone
    split
    · unfold State.txDone
      extract_lets t1
      have h1 : t1.reg (R.RING_STATUS n) = t.reg (R.RING_STATUS n) := State.when_same (v := fun u => u.reg (R.RING_STATUS n))
        (fun u => (hv.event _ (fun w => State.reg_setReg_ne _ (by simp only [R.RING_STATUS, R.HOST_EVENT]; omega) w) _ _ _ _ _ _ _ _).trans
          (hv.blk u _)) _
      split
      · exact (hv.cqWrite t1 _ _ _).trans h1
      · exact h1
    · rfl
  unfold State.copyGone
  extract_lets s1 s2 s3 sl
  have h1 : s1.reg (R.RING_STATUS n) = s.reg (R.RING_STATUS n) := (hdone _).trans (hct _)
  have h2 : s2.reg (R.RING_STATUS n) = s1.reg (R.RING_STATUS n) := by
    unfold s2
    split
    · rfl
    · rfl
  have h3 : s3.reg (R.RING_STATUS n) = s2.reg (R.RING_STATUS n) := by
    unfold s3
    split
    · split
      · split
        · exact State.reg_put_ne _ (by simp only [F.WET_GAUGE.TX_INFLIGHT, R.RING_STATUS, R.WET_GAUGE]; omega) _
        · rfl
      · rfl
    · rfl
  have h4 : s3.reg (R.RING_STATUS n) = s.reg (R.RING_STATUS n) := h3.trans (h2.trans h1)
  split
  · exact (State.reg_put_ne _ (by simp only [F.CIPHER_STATUS.EXTRA_QUEUED, R.RING_STATUS, R.CIPHER_STATUS]; omega) _).trans h4
  · exact h4

theorem State.purge_ringStatus (s : State) (p : Nat) (test : Copy → Bool) :
    (s.purge p test (fun _ _ u => u)).reg (R.RING_STATUS n) = s.reg (R.RING_STATUS n) := by
  refine State.each_keeps (fun t => t.reg (R.RING_STATUS n)) (fun k t => ?_) s _
  exact State.each_keeps (fun t => t.reg (R.RING_STATUS n)) (f := fun c u => u.copyGone p c) (fun c u => u.copyGone_ringStatus p c) _ _

/-- A pair of the function: it stops as by RESET (R378). -/
def State.flrRing (t : State) (m : Nat) : State := ((t.put (F.RING_CTL.EN m) 0).put (F.RING_STATUS.RUNNING m) 0).resetRing m

theorem State.flrRing_running (t : State) (m : Nat) (h : t.running n = false ∨ n.val = m) : (t.flrRing m).running n = false := by
  have hreset : ∀ u : State, (u.resetRing m).running n = u.running n := fun u => by
    have hh : ∀ (w : State) (f : Fld) (x : Nat), f.addr = R.RING_HEADS m → f.hi < 32 →
        (w.put f x).on (F.RING_STATUS.RUNNING n) = w.on (F.RING_STATUS.RUNNING n) := fun w f x hf hhi =>
      State.on_put_ne _ _ _ _ hhi (.inl (by simp only [hf, F.RING_STATUS.RUNNING, R.RING_STATUS, R.RING_HEADS]; omega))
    unfold State.resetRing State.running
    rw [State.on_setRing, State.on_put_ne _ (F.RING_STATUS.ERR m) (F.RING_STATUS.RUNNING n) _ (by simp [F.RING_STATUS.ERR])
      (.inr (.inl (by simp [F.RING_STATUS.ERR, F.RING_STATUS.RUNNING]))),
      hh _ _ _ rfl (by simp [F.RING_HEADS.CQ_PHASE]), hh _ _ _ rfl (by simp [F.RING_HEADS.CQ_WRITE]),
      hh _ _ _ rfl (by simp [F.RING_HEADS.SQ_HEAD])]
  unfold State.flrRing
  rw [hreset]
  unfold State.running
  by_cases e : n.val = m
  · subst e
    exact State.on_put_same _ _ _ (by simp [F.RING_STATUS.RUNNING])
  · rw [State.on_put_ne _ _ _ _ (by simp [F.RING_STATUS.RUNNING]) (.inl (by simp only [F.RING_STATUS.RUNNING, R.RING_STATUS]; omega)),
      State.on_put_ne _ _ _ _ (by simp [F.RING_CTL.EN])
        (.inl (by simp only [F.RING_STATUS.RUNNING, F.RING_CTL.EN, R.RING_STATUS, R.RING_CTL]; omega))]
    exact h.resolve_right e

theorem State.each_flrRing_stopped (l : List Nat) (t : State) (h : t.running n = false ∨ n.val ∈ l) :
    (t.each l (fun m u => u.flrRing m)).running n = false := by
  induction l generalizing t with
  | nil => exact h.resolve_right (by simp)
  | cons m l ih =>
    rw [State.each_cons]
    refine ih (t.flrRing m) ?_
    rcases h with h | h
    · exact .inl (t.flrRing_running m (.inl h))
    · rcases List.mem_cons.mp h with e | h
      · exact .inl (t.flrRing_running m (.inr e))
      · exact .inr h

theorem State.running_congr {t u : State} (h : t.reg (R.RING_STATUS n) = u.reg (R.RING_STATUS n)) : t.running n = u.running n := by
  unfold State.running State.on State.fld
  rw [show (F.RING_STATUS.RUNNING n).addr = R.RING_STATUS n from rfl, h]

/-- The reset of PF1 or PF2 stops every pair of the function. -/
theorem exec_functionLevelReset_stops {s : State} {fn : Fin 3} (hp : s.corePowered = true) (hfn : fn.val ≠ 0) (hop : s.op ≠ .rom) :
    ∃ t, exec (.functionLevelReset fn) s = .next t ∧ ∀ n : Fin 64, s.fld (F.RING_CFG.FUNC n) = fn.val → t.running n = false := by
  have hexec : exec (.functionLevelReset fn) s = execFunctionLevelReset fn s := rfl
  rw [hexec]
  unfold execFunctionLevelReset
  extract_lets f ns s1 s2 keep
  rw [if_neg hfn, if_neg (by simp [hp, hop])]
  refine ⟨_, rfl, fun n hn => ?_⟩
  have hmem : n.val ∈ ns := List.mem_filter.mpr ⟨List.mem_range.mpr n.isLt, beq_iff_eq.mpr hn⟩
  have h1 : s1.running n = false := State.each_flrRing_stopped ns s (.inr hmem)
  have h2 : s2.reg (R.RING_STATUS n) = s1.reg (R.RING_STATUS n) := by
    unfold s2
    split
    · exact State.each_keeps (fun t => t.reg (R.RING_STATUS n)) (fun p t => t.purge_ringStatus p _) s1 _
    · rfl
  exact (State.running_congr h2).trans h1

end

end Sys2Proof.Machine

open Sys2Proof.Machine

/-- Settles O44: each event of the link by the state it leaves. -/
theorem hostLinkCompletes : Obligations.HostLinkCompletes := by
  unfold Obligations.HostLinkCompletes
  refine fun s hp hr => ⟨?trained, ?retry, ?down, ?timeout, fun fn hfn hop => exec_functionLevelReset_stops hp hfn hop, rfl⟩
  case trained =>
    intro x hl hc hw
    obtain ⟨t, hexec, hreg, hlost⟩ := exec_ucieTrainDone_outside hp hr hl hc hw
    obtain ⟨hlink, hrate, hwidth⟩ := s.fld_trainedAt x
    have hfld : ∀ hi lo, t.fld ⟨R.HOST_STATUS, hi, lo⟩ = (s.trainedAt x).fld ⟨R.HOST_STATUS, hi, lo⟩ :=
      fun hi lo => by unfold State.fld; rw [hreg]
    exact ⟨t, hexec, (hfld _ _).trans hlink, (hfld _ _).trans hrate, (hfld _ _).trans hwidth, hlost⟩
  case retry =>
    intro hl
    have hexec : exec .ucieTrainRetry s = .next (s.put F.HOST_STATUS.LINK 1) := by
      show execUcieTrainRetry s = _
      exact if_pos (by simp [hp, hr, hl])
    exact ⟨_, hexec, State.fld_put_same _ _ _ (by decide)⟩
  case down =>
    intro hl hop
    obtain ⟨hlink, hlost, hmsix, hpba, hpath, hsched⟩ := s.unlinked_each s.unlinked.runningPairs
    refine ⟨_, exec_ucieLinkDown_run hl hop, hlink, hlost, hmsix, hpba, hpath, hsched, fun n ho => ?_⟩
    have hring : (s.unlinked.ring n).owed = [] :=
      (congrArg (fun r => (Tbl.getD (fun _ => Ring.idle) r n.val).owed) s.unlinked_keeps.2.2.2.2.2.2).trans ho
    refine State.each_lostRing_stopped _ _ hring ?_
    cases hrun : s.unlinked.running n with
    | false => exact .inl rfl
    | true => exact .inr (List.mem_filter.mpr ⟨List.mem_range.mpr n.isLt, hrun⟩)
  case timeout =>
    intro n hrun
    have hexec : exec (.hostReadTimeout (.descriptor n)) s = .next (s.ringErr n 1) := by
      show execHostReadTimeout (.descriptor n) s = _
      exact if_pos hrun
    exact ⟨_, hexec, s.ringErr_effect n⟩
end

section
/-!
SUPPORT. What an alarm leaves (R430 to R434, Table 18.3). Its responses erase keys, close the debug port, take ports down, discard
what is queued on them, and move the device to HOLD or FAULT. `Dropless v` says that the view `v` of a state reads nothing that a
port's end touches, `Answerless v` that it reads nothing that a response touches; `s.Kept v c` that such a view of `s` is `c`, in
the order of the model. The state's core is such a view: the stacked memory, the straps, the powered slices, the time base, the
contexts, the boot state but for its two locks, the rub-down pass but for its halt, and the memory's cipher cores.
-/
namespace Sys2Proof.Machine

/-- A view of the state that what leaves a port does not touch: it reads no register but MCU_STATUS, and no part of the state that
frames, rings, counters or gates are kept in. -/
structure Dropless {α : Type} (v : State → α) : Prop where
  reg : ∀ (s : State) (a : Nat) (w : Word), a ≠ R.MCU_STATUS → v (s.setReg a w) = v s
  beside : ∀ (s : State) (host : HostIf) (perf : Perf) (ports : Tbl PortSt) (cls : ClassSt) (dom : DomSt) (pair : PairSt)
    (sched : Tbl SchedSt) (flt : FilterSt) (ct : ContractSt) (rcv : RecoverySt) (path : PathSt) (frac res free : Nat)
    (out : List Out) (pending : List Instr), v ⟨s.op, s.straps, s.regs, s.boot, s.bat, s.alarm, host, perf, s.power, ports, cls, s.ctx,
      s.key, dom, pair, s.mem, s.rub, s.time, sched, flt, ct, rcv, path, s.cyc, s.sec, s.ns, frac, res, free, out, pending⟩ = v s

/-- One that an alarm's responses do not touch either: it reads neither the state of the device, nor keys and roots, nor the two
locks, nor the halt of the pass. -/
structure Answerless {α : Type} (v : State → α) : Prop extends Dropless v where
  opKey : ∀ (s : State) (op : OpState) (key : KeySt), v { s with op := op, key := key } = v s
  keySets : ∀ (s : State) (x : Nat), v (s.put F.MCU_STATUS.KEYSET_VALID x) = v s
  roots : ∀ (s : State), v { s with bat := { s.bat with roots := [], rootChecks := [] } } = v s
  locks : ∀ (s : State) (x y : Bool), v { s with boot := { s.boot with loadBlocked := x, debugShut := y } } = v s
  halted : ∀ (s : State) (x : Bool), v { s with rub := { s.rub with halted := x } } = v s

/-- The view `v`, which no port's end touches, of this state is `c`. -/
structure State.Kept {α : Type} (v : State → α) (c : α) (s : State) : Prop where
  blind : Dropless v
  eq : v s = c

section
variable {α : Type} {v : State → α} {c : α} {s t : State} {p n : Nat}

theorem Dropless.kept (hv : Dropless v) (s : State) : s.Kept v (v s) := ⟨hv, rfl⟩

theorem State.Kept.of (h : s.Kept v c) (e : v t = v s) : t.Kept v c := ⟨h.blind, e.trans h.eq⟩

/-- A change beside the view. -/
theorem State.Kept.beside {host : HostIf} {perf : Perf} {ports : Tbl PortSt} {cls : ClassSt} {dom : DomSt} {pair : PairSt}
    {sched : Tbl SchedSt} {flt : FilterSt} {ct : ContractSt} {rcv : RecoverySt} {path : PathSt} {frac res free : Nat}
    {out : List Out} {pending : List Instr} (h : s.Kept v c) : State.Kept v c ⟨s.op, s.straps, s.regs, s.boot, s.bat, s.alarm, host, perf,
      s.power, ports, cls, s.ctx, s.key, dom, pair, s.mem, s.rub, s.time, sched, flt, ct, rcv, path, s.cyc, s.sec, s.ns, frac, res,
      free, out, pending⟩ := h.of (h.blind.beside s ..)

theorem State.Kept.ite {q : Prop} [Decidable q] {u w : State} (hu : u.Kept v c) (hw : w.Kept v c) :
    (if q then u else w).Kept v c :=
  iteInduction (motive := State.Kept v c) (fun _ => hu) (fun _ => hw)

theorem State.Kept.when {b : Bool} {f : State → State} (h : s.Kept v c) (hf : ∀ t, t.Kept v c → (f t).Kept v c) :
    (s.when b f).Kept v c :=
  .ite (hf s h) h

theorem State.Kept.foldl {α : Type} {f : State → α → State} {l : List α} (h : s.Kept v c)
    (hf : ∀ t x, t.Kept v c → (f t x).Kept v c) : (l.foldl f s).Kept v c :=
  List.foldlRecOn (motive := State.Kept v c) l f h fun t ht x _ => hf t x ht

theorem State.Kept.each {α : Type} {f : α → State → State} {l : List α} (h : s.Kept v c)
    (hf : ∀ x t, t.Kept v c → (f x t).Kept v c) : (s.each l f).Kept v c :=
  .foldl h fun t x => hf x t

theorem State.Kept.eachOf {α : Type} {f : α → State → State} {l : List α} (h : s.Kept v c)
    (hf : ∀ x ∈ l, ∀ t, t.Kept v c → (f x t).Kept v c) : (s.each l f).Kept v c :=
  List.foldlRecOn (motive := State.Kept v c) l _ h fun t ht x hx => hf x hx t ht

/-! ### Reporting -/

theorem Reporting.ne_mcuStatus {a : Nat} (h : Reporting a) : a ≠ R.MCU_STATUS := by
  unfold Reporting at h
  unfold R.MCU_STATUS
  omega

theorem Dropless.unreported (hv : Dropless v) : Unreported v where
  reg s a w h := hv.reg s a w h.ne_mcuStatus
  emit s _ := hv.beside s ..
  counted s _ _ := hv.beside s ..
  blocked s _ := hv.beside s ..
  rings s _ := hv.beside s ..
  held s _ _ _ := hv.beside s ..
  relayed s _ _ := hv.beside s ..

theorem State.Kept.setReg {a : Nat} {w : Word} (h : s.Kept v c) (ha : a ≠ R.MCU_STATUS := by decide) : (s.setReg a w).Kept v c :=
  h.of (h.blind.reg s a w ha)

theorem State.Kept.put {f : Fld} {x : Nat} (h : s.Kept v c) (hf : f.addr ≠ R.MCU_STATUS := by decide) : (s.put f x).Kept v c :=
  h.of (h.blind.reg s _ _ hf)

theorem State.Kept.emit {o : Out} (h : s.Kept v c) : (s.emit o).Kept v c := h.beside

theorem State.Kept.event {ev en b block code o v0 v1 v2 : Nat} (h : s.Kept v c) (he : ev ≠ R.MCU_STATUS := by decide) :
    (s.event ev en b block code o v0 v1 v2).Kept v c := 
  h.of (h.blind.unreported.event s (fun w => h.blind.reg s _ w he) _ _ _ _ _ _ _ _)

/-- The registers of a port. -/
theorem ne_mcuStatus_of_port {a : Nat} (h : 0x200000 ≤ a) : a ≠ R.MCU_STATUS := by
  unfold R.MCU_STATUS
  omega

theorem State.Kept.record {b code o v0 v1 v2 : Nat} (h : s.Kept v c) : (s.record b code o v0 v1 v2).Kept v c :=
  h.of (h.blind.unreported.record s _ _ _ _ _ _)

theorem State.Kept.blk (h : s.Kept v c) : (s.blk n).Kept v c := h.of (h.blind.unreported.blk s n)

theorem State.Kept.count (h : s.Kept v c) : (s.count n).Kept v c := h.of (h.blind.unreported.count s n)

theorem State.Kept.cqWrite {head conts : List Byte} (h : s.Kept v c) : (s.cqWrite n head conts).Kept v c :=
  h.of (h.blind.unreported.cqWrite s n _ _)

theorem State.Kept.dma {a : Nat} {b : List Byte} (h : s.Kept v c) : (s.dma a b).Kept v c := h.of (h.blind.unreported.dma s _ _)

theorem State.Kept.statAdd {i : Nat} (h : s.Kept v c) : (s.statAdd p i n).Kept v c :=
  have hset : ∀ x a w, 0x200000 ≤ a → (State.setReg { s with perf := x } a w).Kept v c :=
    fun _ _ _ ha => State.Kept.setReg h.beside (ne_mcuStatus_of_port ha)
  have hport : R.PORT_EVENT p ≠ R.MCU_STATUS := ne_mcuStatus_of_port (by unfold R.PORT_EVENT; omega)
  have hsecy : R.SECY_EVENT p ≠ R.MCU_STATUS := ne_mcuStatus_of_port (by unfold R.SECY_EVENT; omega)
  .ite (.ite ((hset _ _ _ (by unfold R.PORT_STAT_HALF0; omega)).event hport)
    (.ite ((hset _ _ _ (by unfold R.PORT_STAT_HALF1; omega)).event hport) ((hset _ _ _ (by unfold R.SECY_STAT_HALF; omega)).event hsecy)))
    h.beside

theorem State.Kept.stat {i : Nat} (h : s.Kept v c) : (s.stat p i).Kept v c := h.statAdd

/-! ### What leaves the device without being sent, and what a port drops with its link (R30, R32, R75) -/

theorem State.Kept.hostEvent {b object : Nat} (h : s.Kept v c) : (s.hostEvent b object).Kept v c := h.event

theorem State.Kept.txDone {tag result : Nat} (h : s.Kept v c) : (s.txDone n tag result).Kept v c := by
  unfold State.txDone
  extract_lets s1
  have h1 : s1.Kept v c := h.when fun _ ht => ht.blk.hostEvent
  exact .ite h1.cqWrite h1

theorem State.Kept.hostDone {x : Copy} {result : Nat} (h : s.Kept v c) : (s.hostDone x result).Kept v c := by
  unfold State.hostDone
  split
  · exact h.txDone
  · exact h

theorem State.Kept.ctLost {x : Option Nat} (h : s.Kept v c) : (s.ctLost x).Kept v c := by
  cases x with
  | none => exact h
  | some m =>
    have hcount : (s.ctCount m 3).Kept v c := h.beside
    exact hcount.event

/-- A slice's CIPHER_STATUS lies below MCU_STATUS. -/
theorem State.Kept.setExtra {l : List Extra} (h : s.Kept v c) (hn : n < 16) : (s.setExtra n l).Kept v c :=
  State.Kept.put (s := s.setPath _) h.beside (by simp only [F.CIPHER_STATUS.EXTRA_QUEUED, R.CIPHER_STATUS, R.MCU_STATUS]; omega)

theorem State.portSlice_lt (s : State) (hp : p < 96) : s.portSlice p < 16 := by
  unfold State.portSlice State.sliceOf floatSlice
  split <;> omega

/-- What leaves a port of the device, which `p` numbers. -/
theorem State.Kept.copyGone {x : Copy} (h : s.Kept v c) (hp : p < 96) : (s.copyGone p x).Kept v c := by
  unfold State.copyGone
  extract_lets s1 s2 s3 sl
  have h1 : s1.Kept v c := h.ctLost.hostDone
  have h2 : s2.Kept v c := by
    unfold s2
    split
    · exact h1.beside
    · exact h1
  have h3 : s3.Kept v c := by
    refine .ite ?_ h2
    split
    · exact .ite (h2.put (by simp only [F.WET_GAUGE.TX_INFLIGHT, R.WET_GAUGE, R.MCU_STATUS]; omega)) h2
    · exact h2
  exact .ite (h3.setExtra (s3.portSlice_lt hp)) h3

theorem State.Kept.purge {test : Copy → Bool} {gone : Nat → Copy → State → State} (h : s.Kept v c)
    (hp : p < 96) (hg : ∀ k x t, t.Kept v c → (gone k x t).Kept v c) : (s.purge p test gone).Kept v c :=
  h.each fun _ t ht => State.Kept.foldl (State.Kept.beside (s := t) ht) fun _ _ hu => hg _ _ _ (hu.copyGone hp)

theorem State.Kept.twinStart {m : Nat} {x : Copy} {spoiled : Bool} (h : s.Kept v c) : (s.twinStart p m x spoiled).Kept v c := by
  refine .ite h ?_
  dsimp only
  split
  · exact .ite h.beside h.beside
  · exact h.beside

theorem State.Kept.abortLine (h : s.Kept v c) (hp : p < 96) : (s.abortLine p).Kept v c := by
  unfold State.abortLine
  extract_lets cut l
  have hcut : ∀ (x : Option Sending) (t : State), t.Kept v c → (cut t x).Kept v c := by
    rintro (_ | y) t ht
    · exact ht
    · exact ((ht.copyGone hp).when fun _ hu => hu.twinStart).stat.emit
  exact hcut _ _ (hcut _ _ h.beside)

theorem State.Kept.dropQueues (h : s.Kept v c) (hp : p < 96) : (s.dropQueues p).Kept v c := h.purge hp fun _ _ _ ht => ht.stat

theorem State.Kept.refund {k len : Nat} {x : Colour} (h : s.Kept v c) : (s.refund k len x).Kept v c := by
  unfold State.refund
  extract_lets _
  split
  split
  · exact h.beside
  · exact h.beside
  · exact h

theorem State.Kept.frameGone {f : FrameRec} {r : Nat} (h : s.Kept v c) : (s.frameGone f r).Kept v c := by
  unfold State.frameGone
  extract_lets s1 s2 s3
  have h1 : s1.Kept v c := h.eachOf fun q hq _ ht => ht.purge (List.mem_range.mp hq) fun _ _ _ hu => hu
  have h2 : s2.Kept v c := h1.beside
  have h3 : s3.Kept v c := by
    unfold s3
    split
    · exact h2.refund
    · exact h2
  exact .ite h3 h3.beside

theorem State.Kept.dropPartial (h : s.Kept v c) : (s.dropPartial p).Kept v c := h.each fun _ _ ht => ht.frameGone

theorem State.Kept.endQuiet (h : s.Kept v c) : (s.endQuiet p).Kept v c := by
  unfold State.endQuiet
  split
  · exact h.statAdd.beside
  · exact h

theorem State.Kept.fdbRemove {pos kind : Nat} (h : s.Kept v c) : (s.fdbRemove pos kind).Kept v c :=
  .ite h.beside (.ite h.beside.dma.put h.beside)

theorem State.Kept.flushOnDown (h : s.Kept v c) : (s.flushOnDown p).Kept v c := .ite (h.each fun _ _ ht => ht.fdbRemove) h

theorem State.Kept.putStatus {hi lo x : Nat} (h : s.Kept v c) : (s.put ⟨R.PORT_STATUS p, hi, lo⟩ x).Kept v c :=
  h.put (ne_mcuStatus_of_port (by simp only [R.PORT_STATUS]; omega))

theorem State.Kept.leaveUp {next : Nat} (h : s.Kept v c) (hp : p < 96) : (s.leaveUp p next).Kept v c := by
  have hgone := (((h.putStatus (p := p) (hi := 2) (lo := 0) (x := next)).stat (p := p) (i := 53)).abortLine hp).dropQueues hp
  unfold State.leaveUp
  extract_lets s1 s2 q s3
  have h3 : s3.Kept v c := hgone.dropPartial.endQuiet.flushOnDown.beside
  exact h3.putStatus.putStatus.putStatus.event (ne_mcuStatus_of_port (by unfold R.PORT_EVENT; omega))

theorem State.Kept.toLink {next : Nat} (h : s.Kept v c) (hp : p < 96) : (s.toLink p next).Kept v c :=
  .ite (h.leaveUp hp) (State.Kept.putStatus h.beside)

/-! ### The responses -/

theorem State.Kept.yieldOut (h : s.Kept v c) : s.yieldOut.Kept v c := by
  have hstop : (s.when (s.role == 3) (fun t => t.emit .yield)).stopTwin.Kept v c :=
    (h.when fun _ ht => ht.emit).eachOf fun p hp _ ht =>
      have hp : p < 96 := List.mem_range.mp (List.mem_filter.mp hp).1
      (ht.abortLine hp).dropQueues hp
  have hrole : ((s.when (s.role == 3) (fun t => t.emit .yield)).stopTwin.setRole 0).Kept v c := .ite hstop hstop.put.event
  exact .ite h hrole.beside

theorem State.Kept.disablePorts (h : s.Kept v c) : s.disablePorts.Kept v c :=
  h.eachOf fun _ hp _ ht => ht.toLink (List.mem_range.mp (List.mem_filter.mp hp).1)

theorem State.Kept.dropLath (h : s.Kept v c) : s.dropLath.Kept v c := h.put.put.put.put

theorem State.Kept.keyGauges (h : s.Kept v c) : s.keyGauges.Kept v c := h.put.put

section
variable (hv : Answerless v)
include hv

theorem State.Kept.setOp {op : OpState} (h : s.Kept v c) : State.Kept v c { s with op := op } := h.of (hv.opKey s op s.key)

theorem State.Kept.setKey {key : KeySt} (h : s.Kept v c) : (s.setKey key).Kept v c := h.of (hv.opKey s s.op key)

theorem State.Kept.enterHold (h : s.Kept v c) : s.enterHold.Kept v c := h.yieldOut.setOp hv

theorem State.Kept.doErase (h : s.Kept v c) : s.doErase.Kept v c :=
  State.Kept.keyGauges (State.Kept.setKey hv (h.of (hv.roots s)))

theorem State.Kept.zeroKeys (h : s.Kept v c) : s.zeroKeys.Kept v c :=
  (h.setKey hv).keyGauges.of (hv.keySets _ _)

theorem State.Kept.shutDebug (h : s.Kept v c) : s.shutDebug.Kept v c :=
  State.Kept.put (h.of (hv.locks s s.boot.loadBlocked true))

theorem State.Kept.doContain (h : s.Kept v c) : s.doContain.Kept v c := by
  unfold State.doContain
  extract_lets s1
  have h1 : s1.Kept v c := h.shutDebug hv
  clear_value s1
  exact .ite (h1.enterHold hv) (.ite (h1.of (hv.locks s1 true s1.boot.debugShut)) h1)

end

/-- The rub-down pass is no business of the ports. -/
theorem dropless_rub : Dropless State.rub := ⟨fun _ _ _ _ => rfl, by intros; rfl⟩

/-- The device enters another state with its pass halted. -/
theorem Answerless.enters (hv : Answerless v) {u : State} (h : u.rub = s.rub) (op : OpState) :
    v { u with op := op, rub := { s.rub with halted := true } } = v u := by
  rw [← h]
  exact (hv.opKey { u with rub := { u.rub with halted := true } } op u.key).trans (hv.halted u true)

theorem State.rub_zeroKeys (s : State) : s.zeroKeys.rub = s.rub :=
  (State.put_rub _ _ _).trans ((State.put_rub _ _ _).trans (State.put_rub (s.setKey _) _ _))

section
variable (hv : Answerless v)
include hv

theorem State.Kept.enterFault (h : s.Kept v c) : s.enterFault.Kept v c :=
  have hrub := (dropless_rub.kept s).yieldOut.disablePorts.dropLath.eq
  h.yieldOut.disablePorts.dropLath.of (hv.enters hrub .fault)

theorem State.Kept.doPurge (h : s.Kept v c) : s.doPurge.Kept v c :=
  have hrub := (dropless_rub.kept s.failInFlight.zeroKeys).disablePorts.dropLath.eq
  have hfail : s.failInFlight.Kept v c := h.beside
  (hfail.zeroKeys hv).disablePorts.dropLath.of (hv.enters (hrub.trans s.failInFlight.rub_zeroKeys) _)

theorem State.Kept.respond {set : Nat} {fault : Bool} (h : s.Kept v c) : (s.respond set fault).Kept v c := by
  unfold State.respond
  extract_lets s1 s2
  have h1 : s1.Kept v c := h.when fun _ ht => ht.doErase hv
  have h2 : s2.Kept v c := h1.when fun _ ht => ht.doPurge hv
  exact .ite (h2.enterFault hv) (h2.when fun _ ht => ht.doContain hv)

end

theorem State.Kept.postAlarm {r : LogRec} (h : s.Kept v c) : (s.postAlarm r).Kept v c := .ite h h.record

end

/-! ### The core -/

/-- The type of a state's core. -/
abbrev Core := MemSt × Straps × Power × TimeSt × CtxSt × (Nat × Nat × Nat) × Boot × RubSt × Nat

/-- The parts of the state that neither reporting nor an alarm touches. -/
def State.core (s : State) : Core :=
  (s.mem, s.straps, s.power, s.time, s.ctx, (s.cyc, s.sec, s.ns), { s.boot with loadBlocked := false, debugShut := false },
    { s.rub with halted := false }, s.fld F.MCU_STATUS.CORE_OK)

theorem State.core_setReg (s : State) (a : Nat) (w : Word) (ha : a ≠ R.MCU_STATUS) : (s.setReg a w).core = s.core := by
  unfold State.core
  rw [State.fld_setReg_ne s (g := F.MCU_STATUS.CORE_OK) (Ne.symm ha)]
  rfl

/-- The memory's key sets stand beside its cores. -/
theorem State.core_putKeySets (s : State) (x : Nat) : (s.put F.MCU_STATUS.KEYSET_VALID x).core = s.core := by
  unfold State.core
  rw [State.fld_put_ne s F.MCU_STATUS.KEYSET_VALID F.MCU_STATUS.CORE_OK x (by decide) (by decide)]
  rfl

theorem answerless_core : Answerless State.core where
  reg := State.core_setReg
  beside := by intros; rfl
  opKey _ _ _ := rfl
  keySets := State.core_putKeySets
  roots _ := rfl
  locks _ _ _ := rfl
  halted _ _ := rfl

section
variable {c : Core} {s : State}

/-- The battery domain and the alarm controller stand beside the core. -/
theorem State.Kept.recorded {bat : Battery} {alarm : Alarm} (h : s.Kept State.core c) :
    State.Kept State.core c { s with bat := bat, alarm := alarm } := h.of rfl

theorem State.Kept.setAlarmStatus {causes seq : Nat} (h : s.Kept State.core c) : (s.setAlarmStatus causes seq).Kept State.core c :=
  State.Kept.each h.recorded fun _ _ ht => ht.record

theorem State.Kept.alarmNow {causes detail force : Nat} (h : s.Kept State.core c) :
    (s.alarmNow causes detail force).Kept State.core c := by
  unfold State.alarmNow
  dsimp only
  split
  · split
    · exact (h.respond answerless_core).recorded.setAlarmStatus.postAlarm.recorded.recorded
    · exact h
  · exact (h.respond answerless_core).recorded.recorded.setAlarmStatus.postAlarm.recorded

theorem State.Kept.raise {k detail : Nat} (h : s.Kept State.core c) : (s.raise k detail).Kept State.core c := by
  refine .ite h ?_
  extract_lets x s1 step s2
  have h2 : s2.Kept State.core c := State.Kept.when (s := s1) h.recorded fun _ ht => ht.put
  exact h2.alarmNow

end

/-- An alarm leaves the core. -/
theorem State.core_raise (s : State) (k detail : Nat) : (s.raise k detail).core = s.core :=
  (answerless_core.kept s).raise.eq

/-- An alarm leaves the memory's cipher cores. -/
theorem State.mcuCores_raise (s : State) (k detail : Nat) :
    (s.raise k detail).fld F.MCU_STATUS.CORE_OK = s.fld F.MCU_STATUS.CORE_OK :=
  congrArg (fun x : Core => x.2.2.2.2.2.2.2.2) (s.core_raise k detail)

/-- An alarm leaves the stacked memory. -/
theorem State.mem_raise (s : State) (k detail : Nat) : (s.raise k detail).mem = s.mem :=
  congrArg (fun x : Core => x.1) (s.core_raise k detail)

end Sys2Proof.Machine
end

section
/-!
Faults of the stacked memory and their ends (R345, R359, R361, R181, R368): the lost nodes under the handling of poisoned data, the
root, the cipher cores and the sensor.
-/
namespace Sys2Proof.Machine

/-! ### The nodes that are lost -/

section
variable (s : State)

theorem unreported_lost : Unreported (fun t : State => t.mem.lost) :=
  ⟨fun _ _ _ _ => rfl, fun _ _ => rfl, fun _ _ _ => rfl, fun _ _ => rfl, fun _ _ => rfl, fun _ _ _ _ => rfl, fun _ _ _ => rfl⟩

theorem State.lost_event (ev en b block code o v0 v1 v2 : Nat) :
    (s.event ev en b block code o v0 v1 v2).mem.lost = s.mem.lost :=
  unreported_lost.event s (fun _ => rfl) _ _ _ _ _ _ _ _

theorem State.lost_raise (k detail : Nat) : (s.raise k detail).mem.lost = s.mem.lost := congrArg MemSt.lost (s.mem_raise k detail)

theorem State.lost_memEvent (b v0 : Nat) : (s.memEvent b v0).mem.lost = s.mem.lost := s.lost_event _ _ _ _ _ _ _ _ _

theorem State.lost_poison (lo hi : Nat) : (s.poison lo hi).mem.lost = s.mem.lost := rfl

/-- The count of the records posted in a second is beside the nodes. -/
theorem State.lost_setPosted (x y : Tbl Nat) : (s.setMem { s.mem with posted := x, postedAt := y }).mem.lost = s.mem.lost := rfl

theorem State.lost_memOccur (b addr v1 : Nat) : (s.memOccur b addr v1).mem.lost = s.mem.lost := by
  unfold State.memOccur
  extract_lets s1 sec n
  have h1 : s1.mem.lost = s.mem.lost := State.lost_memEvent _ b addr
  clear_value s1
  split
  · exact (unreported_lost.record _ _ _ _ _ _ _).trans ((s1.lost_setPosted _ _).trans h1)
  · exact h1

theorem State.lost_majorLimit (n : Nat) : (s.majorLimit n).mem.lost = s.mem.lost :=
  (State.lost_raise _ _ _).trans (s.lost_memEvent _ _)

theorem State.lost_ctxPut (n : Nat) (w : BitVec 2048) : (s.ctxPut n w).mem.lost = s.mem.lost := rfl

theorem State.lost_setSlot (k : Nat) (x : Slot) : (s.setSlot k x).mem.lost = s.mem.lost := rfl

theorem State.lost_quarantine (n cause : Nat) : (s.quarantine n cause).mem.lost = s.mem.lost := by
  unfold State.quarantine
  extract_lets w
  split
  · rfl
  · exact (unreported_lost.record _ _ _ _ _ _ _).trans (s.lost_ctxPut _ _)

theorem State.lost_quarSlot (k : Nat) : (s.quarSlot k).mem.lost = s.mem.lost := by
  unfold State.quarSlot
  extract_lets x
  split
  · rfl
  · exact (State.lost_event _ _ _ _ _ _ _ _ _ _).trans (s.lost_setSlot _ _)

theorem State.lost_zeroStatLine (i : Nat) : (s.zeroStatLine i).mem.lost = s.mem.lost := by
  unfold State.zeroStatLine
  split
  · rfl
  · extract_lets b
    split
    · extract_lets bank
      split
      · rfl
      · rfl
    · rfl

theorem State.lost_loseStaged : s.loseStaged.mem.lost = s.mem.lost := by
  unfold State.loseStaged
  split
  · split
    · exact (State.lost_event _ _ _ _ _ _ _ _ _ _).trans (unreported_lost.blk _ _)
    · rfl
  · rfl

/-- The handling of poisoned data touches no node (R360). -/
theorem State.lost_poisonData (k lo hi : Nat) : (s.poisonData k lo hi).mem.lost = s.mem.lost := by
  unfold State.poisonData
  extract_lets rel len ns resident ns2
  split
  · exact State.each_keeps (fun t => t.mem.lost) (fun n t => (State.lost_quarantine _ n 0).trans (t.lost_poison _ _)) s _
  · split
    · exact State.each_keeps (fun t => t.mem.lost) (fun n t => (State.lost_quarSlot _ n).trans (t.lost_poison _ _)) s _
    · split
      · exact (State.lost_raise _ _ _).trans (s.lost_poison _ _)
      · split
        · exact State.each_keeps (fun t => t.mem.lost) (fun j t => t.lost_zeroStatLine (rel + j)) s _
        · split
          · exact (State.lost_loseStaged _).trans (s.lost_poison _ _)
          · exact s.lost_poison _ _

theorem State.lost_nodeTouch (n : Nat) (dirty : Bool) : (s.nodeTouch n dirty).mem.lost = s.mem.lost := by
  unfold State.nodeTouch
  split
  · rfl
  · rfl

theorem State.lost_setRoot (x : Tbl Nat) : (s.setMem { s.mem with root := x }).mem.lost = s.mem.lost := rfl

theorem State.lost_setNodes (x : Tbl (BitVec 304)) (m : Nat) :
    (s.setMem { s.mem with nodes := x, majorHigh := m }).mem.lost = s.mem.lost := rfl

end

/-- A parent that records a write loses no node (R351). -/
theorem State.lost_bump {k : Nat} : ∀ {n c : Nat} {s t : State}, s.bump n c k = .ok t → t.mem.lost = s.mem.lost := by
  induction k with
  | zero => exact fun h => nomatch h
  | succ k ih =>
    intro n c s t h
    unfold State.bump at h
    extract_lets w at h
    split at h
    · cases h
    · extract_lets s1 s2 r at h
      have h2 : s2.mem.lost = s.mem.lost := by
        refine (State.lost_nodeTouch _ _ _).trans ?_
        refine (State.when_same (v := fun u => u.mem.lost) (fun u => unreported_lost.count u 0x695) _).trans ?_
        exact s.lost_setNodes _ _
      clear_value s2
      split at h
      · exact (ih h).trans h2
      · split at h
        · exact (congrArg (fun u : State => u.mem.lost) (Except.ok.inj h)).symm.trans ((s2.lost_setRoot _).trans h2)
        · cases h

/-! ### The end of a rebuild -/

theorem mem_nodesUnder (n : Nat) : n ∈ nodesUnder n := by
  unfold nodesUnder
  split
  · exact List.mem_singleton.mpr rfl
  · split
    · exact List.mem_cons_self ..
    · exact List.mem_cons_self ..

/-- The nodes rebuilt are no longer lost. -/
theorem not_lost_filter (l : List Nat) (n : Nat) : (l.filter (fun i => !(nodesUnder n).contains i)).contains n = false := by
  have hmem := mem_nodesUnder n
  simp [hmem]

theorem exec_nodeRebuildDone_lost {s : State} {n : Nat} (hl : s.mem.lost.contains n = true) (hm : s.mem.majorHigh < 2 ^ 48 - 1) :
    ∃ t, exec (.nodeRebuildDone n) s = .next t ∧ t.mem.lost = s.mem.lost.filter (fun i => !(nodesUnder n).contains i) := by
  have hexec : exec (.nodeRebuildDone n) s = execNodeRebuildDone n s := rfl
  rw [hexec]
  unfold execNodeRebuildDone
  rw [if_neg (by rw [hl]; decide), if_neg (Nat.not_le.mpr hm)]
  extract_lets m w all x s1 r y s2
  have h1 : s1.mem.lost = s.mem.lost.filter (fun i => !(nodesUnder n).contains i) := rfl
  have h2 : s2.mem.lost = s1.mem.lost := by
    unfold s2
    split
    · split
      next h => exact State.lost_bump h
      next => exact State.lost_majorLimit _ _
    · split
      · exact s1.lost_setRoot _
      · exact s1.lost_majorLimit _
  clear_value s1 s2
  split
  next lo len hcover =>
    extract_lets s3
    have h3 : s3.mem.lost = s2.mem.lost := by
      unfold s3
      split
      · exact s2.lost_poisonData _ _ _
      · rfl
    clear_value s3
    exact ⟨_, rfl, (State.lost_memOccur _ _ _ _).trans ((unreported_lost.blk s3 _).trans (h3.trans (h2.trans h1)))⟩

/-! ### The cipher cores -/

section
variable (s : State)

/-- The controller's cores, which the handling of a line leaves. -/
def State.mcuCores (s : State) : Nat := s.fld F.MCU_STATUS.CORE_OK

theorem State.mcuCores_setReg {a : Nat} (ha : a ≠ R.MCU_STATUS) (w : Word) : (s.setReg a w).mcuCores = s.mcuCores :=
  State.fld_setReg_ne s (Ne.symm ha) w

theorem unreported_mcuCores : Unreported State.mcuCores :=
  ⟨fun s _ w h => s.mcuCores_setReg h.ne_mcuStatus w, fun _ _ => rfl, fun _ _ _ => rfl, fun _ _ => rfl, fun _ _ => rfl,
    fun _ _ _ _ => rfl, fun _ _ _ => rfl⟩

theorem State.mcuCores_event {ev : Nat} (he : ev ≠ R.MCU_STATUS) (en b block code o v0 v1 v2 : Nat) :
    (s.event ev en b block code o v0 v1 v2).mcuCores = s.mcuCores :=
  unreported_mcuCores.event s (fun w => s.mcuCores_setReg he w) _ _ _ _ _ _ _ _

theorem State.mcuCores_setMem (x : MemSt) : (s.setMem x).mcuCores = s.mcuCores := rfl

theorem State.mcuCores_memOccur (b addr v1 : Nat) : (s.memOccur b addr v1).mcuCores = s.mcuCores := by
  unfold State.memOccur
  extract_lets s1 sec n
  have h1 : s1.mcuCores = s.mcuCores := (State.mcuCores_event _ (by decide) _ _ _ _ _ _ _ _).trans
    ((State.mcuCores_setReg _ (by decide) _).trans (State.mcuCores_setReg s (by decide) _))
  clear_value s1
  split
  · exact (unreported_mcuCores.record _ _ _ _ _ _ _).trans ((s1.mcuCores_setMem _).trans h1)
  · exact h1

theorem State.mcuCores_ctxPut (n : Nat) (w : BitVec 2048) : (s.ctxPut n w).mcuCores = s.mcuCores := rfl

theorem State.mcuCores_setSlot (k : Nat) (x : Slot) : (s.setSlot k x).mcuCores = s.mcuCores := rfl

theorem State.mcuCores_quarantine (n cause : Nat) : (s.quarantine n cause).mcuCores = s.mcuCores := by
  unfold State.quarantine
  extract_lets w
  split
  · rfl
  · exact (unreported_mcuCores.record _ _ _ _ _ _ _).trans (s.mcuCores_ctxPut _ _)

theorem State.mcuCores_quarSlot (k : Nat) : (s.quarSlot k).mcuCores = s.mcuCores := by
  unfold State.quarSlot
  extract_lets x
  split
  · rfl
  · exact (State.mcuCores_event _ (ev := R.KEY_EVENT) (by decide) _ _ _ _ _ _ _ _).trans (s.mcuCores_setSlot _ _)

theorem State.mcuCores_zeroStatLine (i : Nat) : (s.zeroStatLine i).mcuCores = s.mcuCores := by
  unfold State.zeroStatLine
  split
  · rfl
  · extract_lets b
    split
    · extract_lets bank
      split
      · rfl
      · rfl
    · rfl

theorem State.mcuCores_loseStaged : s.loseStaged.mcuCores = s.mcuCores := by
  unfold State.loseStaged
  split
  · split
    · exact (State.mcuCores_event _ (by decide) _ _ _ _ _ _ _ _).trans (unreported_mcuCores.blk _ _)
    · rfl
  · rfl

theorem State.mcuCores_poisonData (k lo hi : Nat) : (s.poisonData k lo hi).mcuCores = s.mcuCores := by
  unfold State.poisonData
  extract_lets rel len ns resident ns2
  split
  · exact State.each_keeps State.mcuCores (fun n t => (State.mcuCores_quarantine _ n 0).trans (t.mcuCores_setMem _)) s _
  · split
    · exact State.each_keeps State.mcuCores (fun n t => (State.mcuCores_quarSlot _ n).trans (t.mcuCores_setMem _)) s _
    · split
      · exact (State.mcuCores_raise _ _ _).trans (s.mcuCores_setMem _)
      · split
        · exact State.each_keeps State.mcuCores (fun j t => t.mcuCores_zeroStatLine (rel + j)) s _
        · split
          · exact (State.mcuCores_loseStaged _).trans (s.mcuCores_setMem _)
          · exact s.mcuCores_setMem _

/-- A data line in flight whose tag failed. -/
theorem State.mcuCores_badTag (k l : Nat) : (s.badData k l true).mcuCores = s.mcuCores := by
  unfold State.badData
  extract_lets a c s1
  rw [if_pos rfl]
  split
  · rfl
  · refine (State.when_same (v := State.mcuCores) (fun t => State.mcuCores_raise t 10 a) _).trans ?_
    exact (State.mcuCores_poisonData _ _ _ _).trans ((State.mcuCores_memOccur _ _ _ _).trans (unreported_mcuCores.blk s _))

/-- A node in flight whose tag failed. -/
theorem State.mcuCores_badNode (n : Nat) : (s.badNode n true).mcuCores = s.mcuCores := by
  have hlose : ∀ t : State, (t.loseNode n).mcuCores = t.mcuCores := fun t => by
    unfold State.loseNode
    split
    · rfl
    · rfl
  unfold State.badNode
  extract_lets a
  rw [if_pos rfl]
  exact (State.mcuCores_raise _ _ _).trans ((hlose _).trans ((State.mcuCores_memOccur _ _ _ _).trans (unreported_mcuCores.blk s _)))

/-- A failed core leaves CORE_OK, whatever the line in flight (R181). -/
theorem exec_mcuCoreFault_cores (k : Fin 4) (l : Nat) :
    ∃ t, exec (.mcuCoreFault k l) s = .next t ∧ t.mcuCores = natClr s.mcuCores k.val := by
  have hclr : natClr s.mcuCores k.val < 2 ^ 4 := natPut_lt (s.fld_lt F.MCU_STATUS.CORE_OK) k.isLt
  have hexec : exec (.mcuCoreFault k l) s = execMcuCoreFault k l s := rfl
  rw [hexec]
  unfold execMcuCoreFault
  extract_lets s1 s2
  have h1 : s1.mcuCores = natClr s.mcuCores k.val :=
    (State.fld_put_same s F.MCU_STATUS.CORE_OK _ (by decide)).trans (Nat.mod_eq_of_lt hclr)
  have h2 : s2.mcuCores = s1.mcuCores := by
    unfold s2
    split
    · split
      · split
        · exact s1.mcuCores_badNode _
        · rfl
      · split
        · rfl
        · exact s1.mcuCores_badTag _ _
    · rfl
  clear_value s1 s2
  exact ⟨_, rfl, (s2.mcuCores_raise _ _).trans (h2.trans h1)⟩

theorem natBit_natClr_same (v i : Nat) : natBit (natClr v i) i = false := by
  unfold natBit natClr
  rw [natPut_testBit, if_pos (by omega), Nat.sub_self]
  rfl

end

end Sys2Proof.Machine

open Sys2Proof.Machine

/-- Settles O41: each event by what it leaves of the tree, the root, the cores and MEM_STATUS. -/
theorem memoryEventsComplete : Obligations.MemoryEventsComplete := by
  unfold Obligations.MemoryEventsComplete
  refine fun s => ⟨?rebuilt, fun k => ⟨_, rfl, ?root⟩, ?core, ?sensor, ?strip⟩
  case rebuilt =>
    intro n hl hm
    obtain ⟨t, hexec, ht⟩ := exec_nodeRebuildDone_lost hl hm
    exact ⟨t, hexec, ht ▸ not_lost_filter _ n⟩
  case root => exact congrArg MemSt.rootBad (State.mem_raise _ _ _)
  case core =>
    intro k l
    obtain ⟨t, hexec, ht⟩ := exec_mcuCoreFault_cores s k l
    refine ⟨t, hexec, ?_⟩
    show natBit t.mcuCores k = false
    rw [ht]
    exact natBit_natClr_same _ _
  case sensor =>
    intro hot hne
    have hexec : exec (.stackTempChange hot) s = .next ((s.put F.MEM_STATUS.HOT (b2n hot)).memEvent 5 0) := if_neg hne
    have hreg : reportReg R.MEM_EVENT = false := reportReg_central (by decide)
    refine ⟨_, hexec, ?_, State.event_bit _ _ _ _ _ _ _ _ (by decide) hreg⟩
    have hon : ∀ t : State, (t.memEvent 5 0).on F.MEM_STATUS.HOT = t.on F.MEM_STATUS.HOT := fun t =>
      congrArg (· == 1) (State.fld_event t _ _ _ _ _ _ _ _ _ (by decide) (reportReg_central (by decide)))
    rw [hon, State.on_put_same _ _ _ (by decide)]
    cases hot <;> rfl
  case strip =>
    intro hb
    have hexec : exec .stripDone s =
        .next (({ s with boot := { s.boot with stripDone := true } } : State).put F.MEM_STATUS.STRIP_BUSY 0) := if_pos hb
    exact ⟨_, hexec, State.on_put_same _ _ _ (by decide), rfl⟩
end

section
/-!
THEOREM and SUPPORT. O36: acknowledgement, repetition and the relay window (R324, R325), by what a record that is acted on finds: the
device as it was, beside what reporting writes and the records remembered.
-/
namespace Sys2Proof.Machine

section
variable {s u t : State} {k : Kind} {l : LathLink} {r : LathRec}

/-! ### What counting, acknowledging and remembering leave -/

theorem State.Reported.domainUp (h : s.Reported t) : t.domainUp = s.domainUp := by
  unfold State.domainUp
  rw [h.config, h.op]

/-- Of the domain's state, reporting writes the sequence number and the records under way alone. -/
theorem State.Reported.heard (h : s.Reported t) : t.dom.heard = s.dom.heard :=
  (congrArg DomSt.heard h.dom).trans rfl

theorem State.Reported.reads (h : s.Reported t) : t.dom.reads = s.dom.reads :=
  (congrArg DomSt.reads h.dom).trans rfl

theorem State.Reported.hawk (h : s.Reported t) : t.dom.hawk = s.dom.hawk :=
  (congrArg DomSt.hawk h.dom).trans rfl

theorem State.countIn_reported (s : State) (l : LathLink) : s.Reported (s.countIn l) :=
  s.count_reported (by cases l <;> decide)

/-- The record counted, and acknowledged where its kind asks for it. -/
def State.received (s : State) (k : Kind) (l : LathLink) (r : LathRec) : State :=
  if r.dst = 0x7F || k == .ack || k == .exc then s.countIn l else (s.countIn l).ackIt r

theorem State.received_reported (s : State) (k : Kind) (l : LathLink) (r : LathRec) : s.Reported (s.received k l r) := by
  unfold State.received
  split
  · exact s.countIn_reported l
  · exact (s.countIn_reported l).trans (State.lathSend_reported _ _ _ _)

theorem State.reads_heardAs (s : State) (k : Kind) (l : LathLink) (r : LathRec) : (s.heardAs k l r).dom.reads = s.dom.reads :=
  (s.received_reported k l r).reads

theorem State.hawk_heardAs (s : State) (k : Kind) (l : LathLink) (r : LathRec) : (s.heardAs k l r).dom.hawk = s.dom.hawk :=
  (s.received_reported k l r).hawk

/-- A record that is acted on (R322 to R324): its action meets the state in which it is remembered. -/
theorem onAuth_acting (h : s.acting k l r) (act : State → State) : onAuth k l r s act = .next (act (s.heardAs k l r)) := by
  obtain ⟨harr, hup, hauth, hnew⟩ := h
  have hup1 : (s.countIn l).domainUp = true := (s.countIn_reported l).domainUp.trans hup
  have hnew1 : (s.received k l r).heardIt r = false := by
    unfold State.heardIt
    rw [(s.received_reported k l r).heard]
    exact hnew
  unfold onAuth
  rw [harr, if_neg (by decide)]
  dsimp only
  rw [hup1, hauth, if_neg (by decide), if_neg (by decide)]
  exact if_neg fun hold => Bool.false_ne_true (hnew1.symm.trans hold)

/-! ### Acknowledgement (R324) -/

theorem exec_ackReceive_ends {x : Relay} (h : s.acting .ack l r) (hu : u = s.heardAs .ack l r)
    (hx : u.dom.relays.find? (fun x => x.seq == leAt r.payload 0 4 && (x.dst == r.src.val || x.dst == 0x7F)) = some x)
    (hdst : x.dst ≠ 0x7F) (haw : awaits x = false) (hown : x.owner = none) :
    exec (.ackReceive l r) s = .next (u.setDom { u.dom with relays := u.dom.relays.filter (fun y => y != x) }) := by
  show execAckReceive l r s = _
  unfold execAckReceive
  refine (onAuth_acting h _).trans (congrArg _ ?_)
  rw [← hu]
  dsimp only
  rw [hx]
  dsimp only
  rw [if_neg hdst, haw, if_neg (by decide), hown]

/-- The unicast counted as sent once more. -/
def State.retried (s : State) (x : Relay) : State :=
  s.setDom { s.dom with relays := s.dom.relays.map (fun y => if y == x then { y with tries := y.tries + 1 } else y) }

theorem exec_recordAckTimeout_again {q : BitVec 32} {x : Relay}
    (hx : s.dom.relays.find? (fun x => x.seq == q.toNat && !x.acked) = some x) (ht : x.tries < 3) :
    exec (.recordAckTimeout q) s =
      .next ((((s.retried x).lathAgain State.overflow x.kind x.dst x.seq x.payload).blk 27).count 0x6D4) := by
  show execRecordAckTimeout q s = _
  unfold execRecordAckTimeout
  rw [hx]
  exact if_pos ht

theorem exec_recordAckTimeout_lost {q : BitVec 32} {x : Relay}
    (hx : s.dom.relays.find? (fun x => x.seq == q.toNat && !x.acked) = some x) (ht : 3 ≤ x.tries) :
    exec (.recordAckTimeout q) s = .next (s.relayLost x) := by
  show execRecordAckTimeout q s = _
  unfold execRecordAckTimeout
  rw [hx]
  exact if_neg (Nat.not_lt.mpr ht)

/-! ### The relay window (R325) -/

theorem exec_relayWindowWrite_sent {x : BitVec 23} {v : Word} (hk : s.isHawk = true) (ho : s.regsOpen = true)
    (ha : x.toNat % 4 = 0) (hi : s.relayTarget ≠ s.index) (hp : natBit s.presentMap s.relayTarget = true) :
    exec (.relayWindowWrite x v) s =
      .next (s.unicast Kind.reg.num s.relayTarget ([1] ++ leBytes 4 x.toNat ++ leBytes 4 v.toNat) none) := by
  show Host.Outcome.next (s.relayWrite x.toNat v) = _
  unfold State.relayWrite
  rw [hk, ho, ha]
  refine congrArg _ ((if_neg (by decide)).trans ((if_neg hi).trans ?_))
  rw [hp]
  exact if_neg (by decide)

/-- A read through the window that has left for its target. -/
def State.readSent (s : State) (a : Nat) : State :=
  s.unicast Kind.reg.num s.relayTarget ([0] ++ leBytes 4 a) none

theorem exec_relayWindowRead_sent {x : BitVec 23} (hk : s.isHawk = true) (ha : x.toNat % 4 = 0) (hi : s.relayTarget ≠ s.index)
    (hp : natBit s.presentMap s.relayTarget = true) :
    exec (.relayWindowRead x) s = .next ((s.readSent x.toNat).setDom { (s.readSent x.toNat).dom with
      reads := (s.readSent x.toNat).dom.reads ++ [(s.dom.seq, s.relayTarget)] }) := by
  show execRelayWindowRead x s = _
  unfold execRelayWindowRead
  dsimp only
  rw [ha, hk]
  refine (if_neg (by decide)).trans ((if_neg (by decide)).trans ((if_neg hi).trans ?_))
  rw [hp]
  exact if_neg (by decide)

theorem State.out_readOver (s : State) (q : Nat) (v : Word) : Out.readData v ∈ (s.readOver q v).out :=
  List.mem_append_right _ (List.mem_singleton_self _)

theorem exec_relayReadResponse_inTime (h : s.acting .reg l r) (hk : leAt r.payload 0 1 = 2)
    (hc : s.dom.reads.contains (leAt r.payload 1 4, r.src.val) = true) :
    exec (.relayReadResponse l r) s =
      .next ((s.heardAs .reg l r).readOver (leAt r.payload 1 4) (BitVec.ofNat 32 (leAt r.payload 5 4))) := by
  show execRelayReadResponse l r s = _
  unfold execRelayReadResponse
  refine (onAuth_acting h _).trans (congrArg _ ?_)
  dsimp only
  rw [s.reads_heardAs, hk, hc]
  exact if_pos (by decide)

theorem exec_relayReadTimeout_over {q : BitVec 32} {e : Nat × Nat} (hk : s.isHawk = true)
    (he : s.dom.reads.find? (fun e => e.1 == q.toNat) = some e) :
    exec (.relayReadTimeout q) s = .next ((s.readOver e.1 0xFFFFFFFF).domEvent 10 e.2 0) := by
  show execRelayReadTimeout q s = _
  unfold execRelayReadTimeout
  rw [he]
  exact congrArg _ (if_pos (show (s.readOver e.1 0xFFFFFFFF).isHawk = true from hk))

/-! ### An access carried out for the hawk (R325) -/

theorem exec_regRecordReceive_write (h : s.acting .reg l r) (hk : s.dom.hawk = r.src.val + 1) (h1 : leAt r.payload 0 1 = 1)
    (ha : leAt r.payload 1 4 < 0x800000) :
    exec (.regRecordReceive l r) s =
      .next ((s.heardAs .reg l r).pf0Write (leAt r.payload 1 4) (BitVec.ofNat 32 (leAt r.payload 5 4))) := by
  show execRegRecordReceive l r s = _
  unfold execRegRecordReceive
  refine (onAuth_acting h _).trans (congrArg _ ?_)
  dsimp only
  rw [s.hawk_heardAs, if_neg (not_not.mpr hk), h1]
  exact if_pos ha

theorem exec_regRecordReceive_read (h : s.acting .reg l r) (hk : s.dom.hawk = r.src.val + 1) (h0 : leAt r.payload 0 1 = 0) :
    exec (.regRecordReceive l r) s = .next (((s.heardAs .reg l r).hostRead (leAt r.payload 1 4)).2.unicast Kind.reg.num r.src
      ([2] ++ leBytes 4 r.seq.toNat ++ leBytes 4 ((s.heardAs .reg l r).hostRead (leAt r.payload 1 4)).1.toNat) none) := by
  show execRegRecordReceive l r s = _
  unfold execRegRecordReceive
  refine (onAuth_acting h _).trans (congrArg _ ?_)
  dsimp only
  rw [s.hawk_heardAs, if_neg (not_not.mpr hk), h0]
  rfl

end

end Sys2Proof.Machine

open Sys2Proof.Machine

/-- Settles O36: each record that is acted on by its action, each answer and time-out by what it ends. -/
theorem domainRelayComplete : Obligations.DomainRelayComplete := by
  unfold Obligations.DomainRelayComplete
  intro s _
  refine ⟨?ack, ?again, fun q x hx ht => exec_recordAckTimeout_lost hx ht,
    fun x v hk ho ha hi hp => exec_relayWindowWrite_sent hk ho ha hi hp, ?read, ?answer, ?late, ?access⟩
  case ack => exact fun l r x u h hu hx hdst haw hown => ⟨_, exec_ackReceive_ends h hu hx hdst haw hown, rfl⟩
  case again => exact fun q x hx ht => ⟨_, _, exec_recordAckTimeout_again hx ht, rfl, rfl⟩
  case read =>
    intro x hk ha hi hp
    refine ⟨_, exec_relayWindowRead_sent hk ha hi hp, ?_⟩
    exact congrArg (· ++ [(s.dom.seq, s.relayTarget)]) (s.unicast_reported _ _ _ _).reads
  case answer =>
    intro l r h hk hc
    refine ⟨_, exec_relayReadResponse_inTime h hk hc, State.out_readOver _ _ _, ?_⟩
    exact congrArg (List.filter _) (s.reads_heardAs .reg l r)
  case late =>
    intro q e hk he
    refine ⟨_, exec_relayReadTimeout_over hk he, ?_, State.event_bit _ _ _ _ _ _ _ _ (by decide) (reportReg_central (by decide))⟩
    obtain ⟨v, hv, w, rfl⟩ := State.Reported.event (s.readOver e.1 0xFFFFFFFF) R.DOM_EVENT R.DOM_EVENT_EN 10 0x0C 10 e.2 0 0 0
    exact hv.out.subset (s.out_readOver _ _)
  case access =>
    intro l r u h hu hk
    rw [hu]
    exact ⟨fun h1 ha => exec_regRecordReceive_write h hk h1 ha, fun h0 => exec_regRecordReceive_read h hk h0⟩
end

section
/-!
THEOREM and SUPPORT. O39: the domain commands on the hawk (R335 to R339, R342). A command that the hawk takes from a ring is carried
out by its block engine and finished there.
-/
namespace Sys2Proof.Machine

section
variable {s t u : State} {c : RingCmd} {n op : Nat} {body : Body} {r : Reply}

/-- What a domain command that the hawk takes is (R342). -/
theorem domRing_some (h : s.domRing c = some n) :
    ∃ m : Fin 64, c.via = .ring m ∧ m.val = n ∧ s.isHawk = true ∧ (s.op = .setup ∨ s.op = .run) ∧ c.stage = false ∧
      (c.target.toNat = 0x7E ∨ c.target.toNat = s.index) ∧ s.host.fences.any (fun f => f.1 == n) = false := by
  unfold State.domRing at h
  split at h
  next m hvia =>
    split at h
    next hc =>
      simp only [Bool.and_eq_true, Bool.or_eq_true, Bool.not_eq_true', beq_iff_eq] at hc
      obtain ⟨⟨⟨⟨hk, hop⟩, hst⟩, htgt⟩, hf⟩ := hc
      obtain rfl := Option.some.inj h
      refine ⟨m, hvia, rfl, hk, hop, hst, htgt.imp_left (congrArg BitVec.toNat), hf⟩
    next => cases h
  next => cases h

/-- Whether the hawk takes a command depends on the role, the state, the index and the fences. -/
theorem domRing_congr (hk : t.isHawk = s.isHawk) (hop : t.op = s.op) (hi : t.index = s.index)
    (hf : t.host.fences = s.host.fences) : t.domRing c = s.domRing c := by
  unfold State.domRing
  rw [hk, hop, hi, hf]

/-- A device that is the hawk is in a domain. -/
theorem config_of_isHawk (h : s.isHawk = true) : s.config = 2 := by
  unfold State.isHawk at h
  exact beq_iff_eq.mp (Bool.and_eq_true _ _ ▸ h).1

/-- A domain command without STAGE is carried out by its block engine (R313, R333). -/
theorem runLocal_domain (hc : s.config = 2) (hs : c.stage = false) (op : Nat) (body : Body) :
    runLocal 9 op body c s = body c s := by
  have hj : s.joining = false := by
    unfold State.joining
    rw [hc]
    rfl
  unfold runLocal
  simp [hj, hs, needsStage, writesLeaf]

/-- A domain command that the hawk takes from a ring is carried out and finished (R342, R386). -/
theorem ringExec_domain (h : s.domRing c = some n) (op : Nat) (hb : body c s = (u, r)) :
    ringExec 9 op body c s = .next (u.finish n 9 op c r) := by
  obtain ⟨m, hvia, rfl, hk, hop, hst, htgt, hf⟩ := domRing_some h
  have hc := config_of_isHawk hk
  have hrun := (runLocal_domain hc hst op body).trans hb
  have h1 : ¬ (s.op = .hold ∨ s.op = .fault) := by rcases hop with h | h <;> rw [h] <;> decide
  have h2 : ¬ (s.op ≠ .setup ∧ s.op ≠ .run) := fun h => hop.elim h.1 h.2
  unfold ringExec ringRun
  rw [hvia]
  dsimp only
  simp only [Bool.or_eq_true, decide_eq_true_eq, Bool.and_eq_true, h1, h2, hf, hc, ne_eq, not_true_eq_false, and_false, htgt, hrun,
    if_true, if_false, Bool.false_eq_true]

theorem domExec_taken (h : s.domRing c = some n) (op : Nat) (hb : body c s = (u, r)) :
    domExec op body c s = .next (u.finish n 9 op c r) := by
  obtain ⟨-, -, -, hk, -⟩ := domRing_some h
  exact ringExec_domain h op ((if_pos hk).trans hb)

/-- What DOM_EXPECT stores. -/
def State.expecting (s : State) (map : Nat) (bs : List Byte) : State :=
  (s.setDom { s.dom with expectMap := map, expect := valuesOf map bs, mismatch := [] }).put F.DOM_STATUS.EXPECT_VALID 1

theorem domExpect_stores {bs : List Byte} (hb : c.bufIn = some bs)
    (hl : 16 * (devicesOf c.arg0.toNat).length ≤ c.bufLen.toNat) :
    domExpect c s = (s.expecting c.arg0.toNat bs, {}) := by
  unfold domExpect
  rw [hb]
  exact if_neg (Nat.not_lt.mpr hl)

theorem domAbort_idle (h : s.dom.prep = none) : domAbort c s = (s, {}) := by
  unfold domAbort
  rw [h]

theorem domAbort_unsent {x : Prep} {v : BitVec 4} (h : s.dom.prep = some x) (hx : x.sent = none) (hd : s.draw 4 = (v, t)) :
    domAbort c s = (t.abortPrep x v.toNat 0, {}) := by
  unfold domAbort
  rw [h, hd]
  dsimp only
  rw [hx]
  rfl

theorem execDomPrepare_starts {k : Nat} (h : s.domRing c = some n) (hr : s.prepareRefusal c = none)
    (ho : s.owe n c.tag 9 2 = (t, k)) : execDomPrepare c s = .next (t.startPrepare c (n, k)) := by
  unfold execDomPrepare
  rw [h, hr]
  dsimp only
  rw [ho]

/-! ### DOM_DISCARD of the hawk's own journal (R339) -/

/-- The journal emptied. -/
def State.emptied (s : State) : State := (s.setDom { s.dom with journal := [] }).put F.STAGE_COUNT.COUNT 0

/-- What the banks do not show, DOM_DISCARD leaves as the emptied journal does. -/
theorem State.discard_keeps {β : Type} (π : State → β) (hπ : ∀ (t : State) p x, π (t.setSch p x) = π t) (s : State) :
    π s.discard = π s.emptied := State.each_keeps π (fun p u => hπ u p _) s.emptied _

theorem State.on_emptied (s : State) (f : Fld) (hf : f.addr ≠ F.STAGE_COUNT.COUNT.addr) : s.emptied.on f = s.on f :=
  State.on_put_ne _ _ _ _ (by decide) (.inl hf)

/-- What DOM_DISCARD leaves of what the taking of a command depends on. -/
theorem domRing_discard (s : State) (c : RingCmd) : s.discard.domRing c = s.domRing c := by
  have hon : s.discard.on F.DOM_STATUS.HAWK = s.on F.DOM_STATUS.HAWK :=
    (s.discard_keeps (fun t => t.on F.DOM_STATUS.HAWK) (fun _ _ _ => rfl)).trans (s.on_emptied _ (by decide))
  have hk : s.discard.isHawk = s.isHawk := by
    unfold State.isHawk
    rw [hon, s.discard_keeps State.config (fun _ _ _ => rfl)]
    rfl
  exact domRing_congr hk (s.discard_keeps State.op (fun _ _ _ => rfl)) (s.discard_keeps State.index (fun _ _ _ => rfl))
    (s.discard_keeps (fun t => t.host.fences) (fun _ _ _ => rfl))

theorem State.index_lt (s : State) : s.index < 64 := by
  unfold State.index
  split
  · exact Fin.isLt _
  · decide

theorem natBit_two_pow (i j : Nat) : natBit (2 ^ i) j = decide (i = j) := Nat.testBit_two_pow

/-- The map of one device names no other. -/
theorem devicesOf_two_pow_others (i : Nat) : (devicesOf (2 ^ i)).filter (fun j => j != i) = [] := by
  refine List.filter_eq_nil_iff.mpr fun j hj => ?_
  have hbit : natBit (2 ^ i) j = true := (List.mem_filter.mp hj).2
  rw [natBit_two_pow, decide_eq_true_eq] at hbit
  simp [hbit]

theorem execDomDiscard_own (h : s.domRing c = some n) (ha : c.arg0 = BitVec.ofNat 64 (2 ^ s.index))
    (hp : s.on F.DOM_STATUS.PREPARING = false) : execDomDiscard c s = .next (s.discard.finish n 9 4 c {}) := by
  have hmap : c.arg0.toNat = 2 ^ s.index := by
    rw [ha, BitVec.toNat_ofNat]
    exact Nat.mod_eq_of_lt (Nat.pow_lt_pow_right (by decide) s.index_lt)
  have hown : natBit (2 ^ s.index) s.index = true := (natBit_two_pow _ _).trans (decide_eq_true rfl)
  have htaken : s.discard.domRing c = some n := (domRing_discard s c).trans h
  have hnow : ¬ s.on F.DOM_STATUS.PREPARING = true := fun h => Bool.false_ne_true (hp.symm.trans h)
  unfold execDomDiscard
  rw [h, hmap]
  refine (if_neg hnow).trans ((if_pos (devicesOf_two_pow_others s.index)).trans ?_)
  rw [hown]
  exact ringExec_domain htaken 4 rfl

theorem execDomReset_all (h : s.domRing c = some n) (ht : c.a0 6 0 = 0x7F) :
    execDomReset c s = .next ((s.lathSend Kind.domReset.num 0x7F (leBytes 1 0x7F)).finish n 9 6 c {}) := by
  unfold execDomReset
  rw [h, ht]
  exact ringExec_domain h 6 rfl

end

end Sys2Proof.Machine

open Sys2Proof.Machine

/-- Settles O39: each domain command is taken, carried out by its block engine and finished on its ring. -/
theorem domainCommandsComplete : Obligations.DomainCommandsComplete := by
  unfold Obligations.DomainCommandsComplete
  intro s n c h
  refine ⟨fun hl => ?status, fun bs hb hl => ?expect, fun t k hr ho => execDomPrepare_starts h hr ho, fun hp => ?idle,
    fun x v t hx hsent hd => ?unsent, execDomDiscard_own h, fun hclean => ?release, execDomReset_all h⟩
  case status => exact domExec_taken h 0 (if_neg (Nat.not_lt.mpr hl))
  case expect =>
    refine ⟨_, domExec_taken h 1 (domExpect_stores hb hl), rfl, rfl, ?_⟩
    exact State.on_put_same _ _ _ (by decide)
  case idle => exact domExec_taken h 3 (domAbort_idle hp)
  case unsent => exact domExec_taken h 3 (domAbort_unsent hx hsent hd)
  case release => exact ⟨_, domExec_taken h 5 (if_neg (Nat.not_lt.mpr hclean)), rfl⟩
end

section
/-!
THEOREM and SUPPORT. O40: reads by right and poison, and the whole-line write (R348, R351, R356, R357, R362, R369). Walking the tree
moves nodes through the cache and touches neither data nor poison; the bytes of a stored line are read back.
-/
namespace Sys2Proof.Machine

/-! ### Bytes of a line -/

/-- The bytes of a number that their own bytes make up. -/
theorem leBytes_succ (n v : Nat) : leBytes (n + 1) v = BitVec.ofNat 8 v :: leBytes n (v / 256) := by
  unfold leBytes
  rw [List.range_succ_eq_map, List.map_cons, List.map_map]
  refine congrArg₂ _ rfl (List.map_congr_left fun i _ => congrArg (BitVec.ofNat 8) ?_)
  rw [show (256 : Nat) = 2 ^ 8 from rfl, ← Nat.shiftRight_eq_div_pow, ← Nat.shiftRight_add]
  exact congrArg (v >>> ·) (by omega)

theorem leBytes_leNat (bs : List Byte) : leBytes bs.length (leNat bs) = bs := by
  induction bs with
  | nil => rfl
  | cons b bs ih =>
    have hlow : BitVec.ofNat 8 (b.toNat + 256 * leNat bs) = b := by
      apply BitVec.eq_of_toNat_eq
      rw [BitVec.toNat_ofNat]
      have := b.isLt
      omega
    have hhigh : (b.toNat + 256 * leNat bs) / 256 = leNat bs := by
      have := b.isLt
      omega
    rw [List.length_cons, leBytes_succ]
    unfold leNat
    rw [hlow, hhigh, ih]

theorem leNat_lt (bs : List Byte) : leNat bs < 256 ^ bs.length := by
  induction bs with
  | nil => exact Nat.one_pos
  | cons b bs ih =>
    have := b.isLt
    rw [List.length_cons, Nat.pow_succ]
    unfold leNat
    omega

theorem leBytes_length (n v : Nat) : (leBytes n v).length = n := by simp [leBytes]

theorem overwrite_whole {old new : List Byte} (h : old.length ≤ new.length) : overwrite old 0 new = new := by
  unfold overwrite
  rw [List.take_zero, List.nil_append, List.drop_eq_nil_of_le (by omega), List.append_nil]

theorem padTo_length (bs : List Byte) : padTo bs.length bs = bs := by simp [padTo, slice]

/-! ### Ranges of poisoned lines (R357) -/

/-- Taking lines out of a list of ranges. -/
theorem mem_rangeDel (lo hi j : Nat) (l : List (Nat × Nat)) :
    (rangeDel lo hi l).any (fun (a, b) => decide (a ≤ j) && decide (j < b)) =
      (l.any (fun (a, b) => decide (a ≤ j) && decide (j < b)) && !(decide (lo ≤ j) && decide (j < hi))) := by
  induction l with
  | nil => rfl
  | cons e l ih =>
    obtain ⟨a, b⟩ := e
    have hcut : ((if a < min b lo then [(a, min b lo)] else []) ++ (if max a hi < b then [(max a hi, b)] else [])).any
        (fun (a, b) => decide (a ≤ j) && decide (j < b)) =
        (decide (a ≤ j) && decide (j < b) && !(decide (lo ≤ j) && decide (j < hi))) := by
      rw [Bool.eq_iff_iff]
      split <;> split <;> simp <;> omega
    unfold rangeDel at ih ⊢
    rw [List.flatMap_cons, List.any_append, ih, List.any_cons, hcut, Bool.and_or_distrib_right]

section
variable (s : State)

theorem State.poisoned_unpoison_same (l : Nat) : (s.unpoison l (l + 1)).poisoned l = false := by
  refine (mem_rangeDel l (l + 1) l s.mem.poison).trans ?_
  simp

theorem State.poisoned_unpoison_ne {j l : Nat} (h : j ≠ l) : (s.unpoison l (l + 1)).poisoned j = s.poisoned j := by
  refine (mem_rangeDel l (l + 1) j s.mem.poison).trans ?_
  have : (decide (l ≤ j) && decide (j < l + 1)) = false := by
    rw [Bool.and_eq_false_iff, decide_eq_false_iff_not, decide_eq_false_iff_not]
    omega
  rw [this]
  exact Bool.and_true _

/-! ### What a walk of the tree leaves (R352) -/

/-- The data lines and their poison. -/
def State.lines (s : State) : Tbl (BitVec 512) × List (Nat × Nat) := (s.mem.data, s.mem.poison)

theorem State.Reported.lines {s t : State} (h : s.Reported t) : t.lines = s.lines := by
  unfold State.lines
  rw [h.mem]

theorem State.lines_nodeTouch (n : Nat) (d : Bool) : (s.nodeTouch n d).lines = s.lines := by
  unfold State.nodeTouch
  split <;> rfl

theorem State.lines_count {e : Nat} (h : e < 2048) : (s.count e).lines = s.lines := (s.count_reported h).lines

theorem State.lines_walk (n fuel : Nat) : (s.walk n fuel).lines = s.lines := by
  induction fuel generalizing s n with
  | zero => rfl
  | succ fuel ih =>
    unfold State.walk
    split
    · exact (State.lines_count _ (by decide)).trans (s.lines_nodeTouch n false)
    · dsimp only
      split
      · exact (State.lines_nodeTouch _ _ _).trans ((ih _ _).trans (s.lines_count (by decide)))
      · exact s.lines_count (by decide)

theorem State.rgnClass_lt (k : Nat) : s.rgnClass k < 4 := Nat.mod_lt _ (show 0 < 2 ^ 2 by decide)

/-- The state in which a read of a data line meets its outcome: the tree walked where the class asks for it, and the read counted. -/
def State.lineFetched (s : State) (k l : Nat) : State :=
  (s.when (s.rgnClass k == 2 && decide (l < treeBase)) (fun t => t.walk (l / 32) 3)).count (0x690 + s.rgnClass k)

theorem State.lines_lineFetched (k l : Nat) : (s.lineFetched k l).lines = s.lines := by
  have hk := s.rgnClass_lt k
  refine (State.lines_count _ (by omega)).trans ?_
  exact State.when_same (v := State.lines) (fun t => t.lines_walk _ _) _

end

/-! ### Reads (R348, R356, R357) -/

section
variable {s : State} {k : Nat} {m : MemRead}

theorem readData_clean (hraw : (s.mem.raw && s.on (F.MEM_RGN_ATTR.PRIV k)) = false) (hp : s.poisoned m.line = false)
    (ho : m.outcome = .clean) :
    s.readData k m = (s.lineFetched k m.line).emit (.memory m.requester m.line (some (s.lineBytes k m.line))) := by
  unfold State.readData
  dsimp only
  rw [hraw, hp, ho]
  rfl

theorem readData_poisoned (hraw : (s.mem.raw && s.on (F.MEM_RGN_ATTR.PRIV k)) = false) (hp : s.poisoned m.line = true) :
    s.readData k m =
      (((s.lineFetched k m.line).blk 33).memEvent 0 (lineAddr m.line)).emit (.memory m.requester m.line none) := by
  unfold State.readData
  dsimp only
  rw [hraw, hp]
  rfl

theorem readLine_data (h4 : k ≠ 4) (h5 : k ≠ 5) : s.readLine k m = s.readData k m := by
  unfold State.readLine
  simp [h4, h5]

/-- A requester with the right reads the line, once nothing holds it back (R347, R359, R369). -/
theorem exec_memReadDone_reads (hr : s.region m.line = some k) (h4 : k ≠ 4) (h5 : k ≠ 5)
    (hreach : s.reaches m.requester k false = true) (hw : s.accessWaits k m.line = false) :
    exec (.memReadDone m) s = .next (s.readData k m) := by
  show execMemReadDone m s = _
  unfold execMemReadDone
  rw [hr]
  dsimp only
  rw [hreach, hw, readLine_data h4 h5]
  simp [h4, h5]

theorem exec_memReadDone_refused (hr : s.region m.line = some k) (h4 : k ≠ 4) (h5 : k ≠ 5)
    (hreach : s.reaches m.requester k false = false) :
    exec (.memReadDone m) s = .next (s.accessRefused m.requester m.line) := by
  show execMemReadDone m s = _
  unfold execMemReadDone
  rw [hr]
  dsimp only
  rw [hreach]
  simp [h4, h5]

theorem exec_scrubRead_reads (hr : s.region m.line = some k) (h4 : k ≠ 4) (hw : s.accessWaits k m.line = false) :
    exec (.scrubRead m) s = .next ((s.count 0x699).readLine k { m with requester := .scrubber }) := by
  show execScrubRead m s = _
  unfold execScrubRead
  rw [hr]
  dsimp only
  rw [hw]
  simp [h4]

end

/-! ### The whole-line write (R351, R357) -/

section
variable {s : State} {k : Nat} {w : MemWrite}

/-- A region whose lines this model keeps: firmware, recovery state, dumps, the deep buffer. -/
def keepsLines (k : Nat) : Prop := k = 0 ∨ k = 3 ∨ k = 7 ∨ k = 8

/-- A whole-line write sets the line to its data. -/
theorem data_storeLine (hk : keepsLines k) (ho : w.off = 0) (hl : w.data.length = 64) (s : State) :
    s.storeLine k w = s.setMem { s.mem with data := Tbl.set0 s.mem.data w.line (BitVec.ofNat 512 (leNat w.data)) } := by
  unfold State.storeLine
  have hk : (decide (k = 0) || decide (k = 3) || decide (k = 7) || decide (k = 8)) = true := by
    rcases hk with rfl | rfl | rfl | rfl <;> rfl
  have hpad : padTo 64 w.data = w.data := hl ▸ padTo_length w.data
  rw [if_pos hk]
  dsimp only
  rw [ho, overwrite_whole (by rw [leBytes_length, hl]), hpad]

theorem lineBytes_kept (hk : keepsLines k) (s : State) (l : Nat) :
    s.lineBytes k l = leBytes 64 (Tbl.at0 s.mem.data l).toNat := by
  unfold State.lineBytes
  rcases hk with rfl | rfl | rfl | rfl <;> rfl

/-- The 64 bytes of a line are those of its number. -/
theorem leBytes_line {bs : List Byte} (h : bs.length = 64) : leBytes 64 (BitVec.ofNat 512 (leNat bs)).toNat = bs := by
  have hlt := leNat_lt bs
  rw [h] at hlt
  rw [BitVec.toNat_ofNat, Nat.mod_eq_of_lt (hlt.trans_eq (by rw [show (256 : Nat) = 2 ^ 8 from rfl, ← Nat.pow_mul]))]
  exact h ▸ leBytes_leNat bs

theorem exec_memLineWrite_whole (hr : s.region w.line = some k) (hk : keepsLines k)
    (hclass : s.rgnClass k ≠ 2) (hreach : s.reaches w.requester k true = true) (hw : s.accessWaits k w.line = false)
    (hraw : (s.mem.raw && s.on (F.MEM_RGN_ATTR.PRIV k)) = false) (ho : w.off = 0) (hl : w.data.length = 64) :
    exec (.memLineWrite w) s = .next (((s.count 0x693).storeLine k w).unpoison w.line (w.line + 1)) := by
  have h45 : (decide (k = 4) || decide (k = 5)) = false := by rcases hk with rfl | rfl | rfl | rfl <;> rfl
  have hc : (s.count 0x693).rgnClass k ≠ 2 := by
    have hreg : reportReg (F.MEM_RGN_ATTR.CLASS k).addr = false := by
      refine reportReg_central ?_
      rcases hk with rfl | rfl | rfl | rfl <;> decide
    unfold State.rgnClass
    rw [(s.count_reported (by decide)).fld hreg]
    exact hclass
  show execMemLineWrite w s = _
  unfold execMemLineWrite
  rw [hr]
  dsimp only
  rw [h45, hreach, hw, hraw, ho, hl]
  refine (if_neg (by decide)).trans ((if_neg (by decide)).trans ((if_neg (by decide)).trans ((if_pos (by decide)).trans ?_)))
  unfold State.writeLine
  rw [if_neg hc]

end

end Sys2Proof.Machine

open Sys2Proof.Machine

/-- Settles O40: reads by right, poison and outcome, and the whole-line write by the bytes it stores. -/
theorem memoryReadsAndWritesComplete : Obligations.MemoryReadsAndWritesComplete := by
  unfold Obligations.MemoryReadsAndWritesComplete
  refine ⟨fun s m k hr h4 h5 => ⟨fun hreach hw hraw => ⟨?clean, ?poisoned⟩, exec_memReadDone_refused hr h4 h5,
    exec_scrubRead_reads hr h4⟩, ?write⟩
  case clean =>
    intro hp ho
    have hlines := s.lines_lineFetched k m.line
    exact ⟨_, (exec_memReadDone_reads hr h4 h5 hreach hw).trans (congrArg _ (readData_clean hraw hp ho)),
      List.mem_append_right _ (List.mem_singleton_self _), congrArg Prod.fst hlines, congrArg Prod.snd hlines⟩
  case poisoned =>
    intro hp
    refine ⟨_, (exec_memReadDone_reads hr h4 h5 hreach hw).trans (congrArg _ (readData_poisoned hraw hp)),
      List.mem_append_right _ (List.mem_singleton_self _), State.event_bit _ _ _ _ _ _ _ _ (by decide) (reportReg_central (by decide)), ?_⟩
    obtain ⟨u, hu, v, rfl⟩ := State.Reported.event ((s.lineFetched k m.line).blk 33) R.MEM_EVENT R.MEM_EVENT_EN 0 0x0D 0 0
      (lineAddr m.line) 0 0
    have hblk := State.blk_reported (s.lineFetched k m.line) (i := 33) (by decide)
    exact congrArg Prod.fst (hu.lines.trans (hblk.lines.trans (s.lines_lineFetched k m.line)))
  case write =>
    intro s w k hr hk hclass hreach hw hraw ho hl
    have hmem : (s.count 0x693).mem = s.mem := (s.count_reported (by decide)).mem
    refine ⟨_, exec_memLineWrite_whole hr hk hclass hreach hw hraw ho hl, ?_, State.poisoned_unpoison_same _ _,
      fun j hj => ?_, fun j hj => ?_⟩
    · rw [lineBytes_kept hk, data_storeLine hk ho hl]
      refine Eq.trans ?_ (leBytes_line hl)
      exact congrArg (fun b : BitVec 512 => leBytes 64 b.toNat) (Tbl.at0_set0_same _ _ _)
    · rw [data_storeLine hk ho hl]
      exact (Tbl.at0_set0_ne _ hj _).trans (congrArg (fun x : MemSt => Tbl.at0 x.data j) hmem)
    · rw [State.poisoned_unpoison_ne _ hj, data_storeLine hk ho hl]
      show (s.count 0x693).poisoned j = s.poisoned j
      unfold State.poisoned
      rw [hmem]
end

section
/-!
SUPPORT. What a reset leaves (R487, R488): the battery domain, the fuses and the straps; what was sent.
-/
namespace Sys2Proof.Machine

section
variable {s : State}

theorem cutBurn_none (h : s.boot.burn = none) : s.cutBurn = s := by
  unfold State.cutBurn
  rw [h]

/-- A burn that is cut short touches the fuses alone. -/
theorem State.cutBurn_keeps {β : Type} (π : State → β) (hb : ∀ (t : State) b, π (t.setBoot b) = π t)
    (hf : ∀ (t : State) w, π (t.draw w).2 = π t) (s : State) : π s.cutBurn = π s := by
  unfold State.cutBurn
  split
  · exact (hb _ _).trans (hf s 1600)
  · rfl

theorem State.bat_cutBurn (s : State) : s.cutBurn.bat = s.bat := s.cutBurn_keeps State.bat (fun _ _ => rfl) (fun _ _ => rfl)

theorem State.out_cutBurn (s : State) : s.cutBurn.out = s.out := s.cutBurn_keeps State.out (fun _ _ => rfl) (fun _ _ => rfl)

theorem State.straps_cutBurn (s : State) : s.cutBurn.straps = s.straps :=
  s.cutBurn_keeps State.straps (fun _ _ => rfl) (fun _ _ => rfl)

/-- A reset being carried out (R488). -/
structure State.Wiped (s t : State) (k : ResetKind) (b : Bool) : Prop where
  op : t.op = .rom
  inReset : t.boot.inReset = some (k, b)
  burn : t.boot.burn = none
  cause : t.fld F.BOOT_STATUS.RESET_CAUSE = k.code
  bat : t.bat = s.bat
  straps : t.straps = s.straps
  slots : t.key.slots = []
  out : t.out = s.out

theorem State.carryReset_wiped (s : State) (k : ResetKind) (b : Bool) : s.Wiped (s.carryReset k b) k b where
  op := rfl
  inReset := rfl
  burn := rfl
  cause := (State.fld_put_same _ F.BOOT_STATUS.RESET_CAUSE _ (by decide)).trans (by cases k <;> rfl)
  bat := s.bat_cutBurn
  straps := s.straps_cutBurn
  slots := rfl
  out := s.out_cutBurn

/-- With no burn running a reset keeps the fuses. -/
theorem fuses_carryReset (h : s.boot.burn = none) (k : ResetKind) (b : Bool) : (s.carryReset k b).boot.fuses = s.boot.fuses := by
  show s.cutBurn.boot.fuses = s.boot.fuses
  rw [cutBurn_none h]

/-- A reset raised while none runs, and no fuse operation either, is carried out. -/
theorem raiseReset_carried (hr : s.boot.inReset = none) (hb : s.on F.FUSE_STATUS.BUSY = false) (k : ResetKind) :
    s.raiseReset k = s.carryReset k k.samples := by
  unfold State.raiseReset
  rw [hr, hb]
  rfl

/-- A reset raised while one is carried out merges with it. -/
theorem raiseReset_merged {k : ResetKind} {b : Bool} (hr : s.boot.inReset = some (k, b)) (j : ResetKind) :
    s.raiseReset j = (s.setBoot { s.boot with inReset := some (k.merge j, b || j.samples) }).put F.BOOT_STATUS.RESET_CAUSE
      (k.merge j).code := by
  unfold State.raiseReset
  rw [hr]

theorem raiseReset_deferred (hr : s.boot.inReset = none) (hb : s.on F.FUSE_STATUS.BUSY = true) (hd : s.boot.deferred = none)
    (k : ResetKind) : s.raiseReset k = s.setBoot { s.boot with deferred := some k } := by
  unfold State.raiseReset
  rw [hr, hb, hd]
  rfl

end

end Sys2Proof.Machine
end

section
/-!
THEOREM and SUPPORT. O48: power and battery events, and resets raised, merged and deferred (R477, R483, R484, R486 to R488, R501).
-/
namespace Sys2Proof.Machine

section
variable {s : State}

theorem exec_coldReset_powered (h : s.corePowered = true) : exec .coldReset s = .next (s.raiseReset .cold) := if_pos h

/-- The YIELD that an ACTIVE coat-pair member sends before a warm reset (R305). -/
def State.yielding (s : State) : State := s.when (s.config == 1 && s.role == 3) (fun t => t.emit .yield)

theorem warmReset_late (h : 3 ≤ s.op.code) (hr : s.boot.inReset = none) : s.warmReset = s.yielding.raiseReset .warm := by
  unfold State.warmReset
  rw [decide_eq_true h, hr]
  rfl

theorem warmReset_early (h : ¬ 3 ≤ s.op.code) (hp : s.corePowered = true) : s.warmReset = s.raiseReset .warm := by
  unfold State.warmReset
  rw [decide_eq_false h, hp]
  rfl

/-- A YIELD is sent, and nothing else changes. -/
theorem State.yielding_keeps {β : Type} (π : State → β) (hπ : ∀ (t : State) o, π (t.emit o) = π t) (s : State) :
    π s.yielding = π s := State.when_same (v := π) (fun t => hπ t _) _

theorem yield_of_active (hc : s.config = 1) (hr : s.role = 3) : Out.yield ∈ s.yielding.out := by
  unfold State.yielding
  rw [hc, hr]
  exact List.mem_append_right _ (List.mem_singleton_self _)

/-- A warm reset carried out at once: the state it is carried out from differs by the YIELD alone. -/
theorem warmReset_carried (hp : s.corePowered = true) (hr : s.boot.inReset = none) (hbusy : s.on F.FUSE_STATUS.BUSY = false) :
    ∃ u : State, s.warmReset = u.carryReset .warm false ∧ u.boot = s.boot ∧ u.bat = s.bat ∧ u.straps = s.straps ∧
      (s.config = 1 → s.role = 3 → 3 ≤ s.op.code → Out.yield ∈ u.out) := by
  by_cases hop : 3 ≤ s.op.code
  · have hboot : s.yielding.boot = s.boot := s.yielding_keeps State.boot fun _ _ => rfl
    have hcarried := raiseReset_carried ((congrArg Boot.inReset hboot).trans hr)
      ((s.yielding_keeps (fun t => t.on F.FUSE_STATUS.BUSY) fun _ _ => rfl).trans hbusy) .warm
    exact ⟨_, (warmReset_late hop hr).trans hcarried, hboot, s.yielding_keeps State.bat fun _ _ => rfl,
      s.yielding_keeps State.straps fun _ _ => rfl, fun hc h3 _ => yield_of_active hc h3⟩
  · exact ⟨s, (warmReset_early hop hp).trans (raiseReset_carried hr hbusy .warm), rfl, rfl, rfl, fun _ _ h => absurd h hop⟩

theorem exec_powerLoss_powered (h : s.corePowered = true) (hb : s.boot.burn = none) :
    exec .powerLoss s =
      .next { s.wiped with op := if s.bat.vbat then .battery else .off, bat := { s.wiped.bat with core := false } } := by
  show execPowerLoss s = _
  unfold execPowerLoss
  rw [h, cutBurn_none hb]
  rfl

end

end Sys2Proof.Machine

open Sys2Proof.Machine

/-- Settles O48: each power event by the state it stores, each reset by whether one runs or a burn holds it back. -/
theorem powerAndResetComplete : Obligations.PowerAndResetComplete := by
  unfold Obligations.PowerAndResetComplete
  refine fun s => ⟨?good, ⟨_, rfl, rfl, rfl, rfl⟩, ⟨_, rfl, rfl, rfl, rfl, rfl, rfl, rfl, rfl⟩, ?loss, ?raised, ?merged, ?deferred⟩
  case good =>
    intro hp
    have hw := State.carryReset_wiped { s with bat := { s.bat with core := true } } .powerOn true
    have hexec : exec .powerGood s = .next (({ s with bat := { s.bat with core := true } } : State).carryReset .powerOn true) :=
      if_neg (fun h => Bool.false_ne_true (hp.symm.trans h))
    exact ⟨_, hexec, hw.op, hw.inReset, hw.cause, hw.bat, hw.out⟩
  case loss => exact fun hp hb => ⟨_, exec_powerLoss_powered hp hb, rfl, rfl, rfl, rfl⟩
  case raised =>
    intro hp hr hbusy hb
    refine ⟨?_, ?_⟩
    · have hw := s.carryReset_wiped .cold true
      exact ⟨_, (exec_coldReset_powered hp).trans (congrArg _ (raiseReset_carried hr hbusy .cold)), hw.inReset, hw.cause,
        fuses_carryReset hb _ _, hw.bat, hw.straps, hw.slots, hw.op⟩
    · obtain ⟨u, hu, hboot, hbat, hstraps, hyield⟩ := warmReset_carried hp hr hbusy
      have hw := u.carryReset_wiped .warm false
      have hexec : exec .warmReset s = .next (u.carryReset .warm false) := congrArg Host.Outcome.next hu
      exact ⟨_, hexec, hw.inReset, hw.cause,
        (fuses_carryReset ((congrArg Boot.burn hboot).trans hb) _ _).trans (congrArg Boot.fuses hboot), hw.bat.trans hbat,
        hw.straps.trans hstraps, hw.slots, hw.op, fun hc h3 hop => hw.out.symm ▸ hyield hc h3 hop⟩
  case merged =>
    intro k b hp hr
    refine ⟨_, (exec_coldReset_powered hp).trans (congrArg _ (raiseReset_merged hr .cold)), ?_, rfl, rfl⟩
    exact congrArg (fun x => some (k.merge .cold, x)) (Bool.or_true b)
  case deferred =>
    exact fun hp hr hbusy hd => (exec_coldReset_powered hp).trans (congrArg _ (raiseReset_deferred hr hbusy hd .cold))
end

section
/-!
THEOREM and SUPPORT. O50: fuse operations and their burns (R415, R417, R418, R423, R430, R487), and the attestation report (R422).
-/
namespace Sys2Proof.Machine

section
variable {s : State}

/-! ### Operations (R415, R417, R418, R430) -/

/-- In SETUP, with no burn running, an operation of FUSE_CMD is carried out. -/
theorem fuseGo_setup (h : s.op = .setup) (hb : s.boot.burn = none) (k : State → State) : s.fuseGo k = .next (k s) := by
  unfold State.fuseGo State.inSetup
  rw [h, hb]
  rfl

theorem fuseGo_run (h : s.op = .run) (k : State → State) : s.fuseGo k = .next (s.fuseAnswer 1) := by
  unfold State.fuseGo State.inSetup
  rw [h]
  rfl

theorem exec_arbCommit_setup (h : s.op = .setup) (hb : s.boot.burn = none) :
    exec .arbCommit s = .next (if leAt s.boot.header 8 1 ≤ s.fusedArb then s.fuseAnswer 0
      else s.fuseBurn 1 (BitVec.ofNat 1600 ((2 ^ leAt s.boot.header 8 1 - 1) <<< 64))) := by
  show execArbCommit s = _
  unfold execArbCommit
  rw [fuseGo_setup h hb]

theorem exec_dbufMinT_burns (h : s.op = .setup) (hb : s.boot.burn = none) :
    exec .dbufMinT s = .next (s.fuseBurn 4 (BitVec.ofNat 1600 (2 ^ 136))) := by
  show execDbufMinT s = _
  unfold execDbufMinT
  rw [fuseGo_setup h hb]

/-- In RUN both are refused. -/
theorem exec_fuseGo_run (h : s.op = .run) :
    exec .arbCommit s = .next (s.fuseAnswer 1) ∧ exec .dbufMinT s = .next (s.fuseAnswer 1) := by
  show execArbCommit s = _ ∧ execDbufMinT s = _
  unfold execArbCommit execDbufMinT
  rw [fuseGo_run h, fuseGo_run h]
  exact ⟨rfl, rfl⟩

theorem exec_ownerHash_burns {bs : List Byte} (h : s.op = .setup) (hb : s.boot.burn = none) (h1 : 1 ≤ s.lc) (h3 : s.lc ≤ 3)
    (ho : s.ownerFused = false) (hed : leAt bs 0 32 ≠ 0) (hml : leAt bs 32 32 ≠ 0) :
    exec (.ownerHash (some bs)) s =
      .next (s.fuseBurn 2 (BitVec.ofNat 1600 ((leAt bs 32 32 <<< 1024) + (leAt bs 0 32 <<< 768)))) := by
  show execOwnerHash (some bs) s = _
  unfold execOwnerHash
  rw [fuseGo_setup h hb]
  have hlc : ¬ (decide (s.lc < 1) || decide (3 < s.lc)) = true := by
    rw [Bool.or_eq_true, decide_eq_true_eq, decide_eq_true_eq]
    omega
  have hzero : ¬ (decide (leAt bs 0 32 = 0) || decide (leAt bs 32 32 = 0)) = true := by
    rw [Bool.or_eq_true, decide_eq_true_eq, decide_eq_true_eq]
    exact fun h => h.elim hed hml
  refine congrArg _ ((if_neg hlc).trans ?_)
  rw [ho]
  exact (if_neg (by decide)).trans (if_neg hzero)

/-- An authorisation object whose header names a transition of this device: its signature decides (R418). -/
theorem exec_lcAdvance_judged {obj hdr : List Byte} {who : Bool × Bool} (h : s.op = .setup) (hb : s.boot.burn = none)
    (hh : hdr = slice obj 0 256) (hmagic : slice hdr 0 4 = ascii "XCLC") (hver : leAt hdr 4 2 = 1) (hres : leAt hdr 0x10 240 = 0)
    (hsrc : leAt hdr 6 1 = s.lc) (hdev : leAt hdr 8 8 = s.fuse 255 192) (hw : transition s.lc (leAt hdr 7 1) = some who) :
    exec (.lcAdvance (some obj)) s = .next (if s.signedBy (slice obj 256 5376) hdr who then
      s.fuseBurn 3 (BitVec.ofNat 1600 (255 <<< (8 * (leAt hdr 7 1 - 1)))) else s.fuseAnswer 4) := by
  have hform : ¬ (decide (slice hdr 0 4 ≠ ascii "XCLC") || decide (leAt hdr 4 2 ≠ 1) || decide (leAt hdr 0x10 240 ≠ 0)) = true := by
    simp only [hmagic, hver, hres, ne_eq, not_true_eq_false, decide_false, Bool.or_self, Bool.false_eq_true, not_false_eq_true]
  have hfit : ¬ (decide (leAt hdr 6 1 ≠ s.lc) || decide (leAt hdr 8 8 ≠ s.fuse 255 192)) = true := by
    simp only [hsrc, hdev, ne_eq, not_true_eq_false, decide_false, Bool.or_self, Bool.false_eq_true, not_false_eq_true]
  show execLcAdvance (some obj) s = _
  unfold execLcAdvance
  rw [fuseGo_setup h hb]
  dsimp only
  rw [← hh, if_neg hform, hw]
  dsimp only
  rw [if_neg hfit]
  by_cases hsig : s.signedBy (slice obj 256 5376) hdr who = true
  · rw [if_pos hsig, if_neg (by rw [hsig]; decide)]
  · rw [if_neg hsig, if_pos (by rw [Bool.eq_false_of_not_eq_true hsig]; decide)]

/-- The responses in force, as bits of the fused floor (R430). -/
def State.floorMask (s : State) : BitVec 1600 :=
  BitVec.ofNat 1600 (((s.reg R.ALARM_RESP_HI).toNat * 2 ^ 32 + (s.reg R.ALARM_RESP_LO).toNat) <<< 1280)

theorem exec_floorCmd_burns (h : s.op = .setup) (hb : s.boot.burn = none) (h0 : s.lc ≠ 0) (h5 : s.lc ≠ 5) :
    exec .floorCmd s = .next ((s.setBoot { s.boot with burn := some (8, s.floorMask) }).put F.FLOOR_CMD.BUSY 1) := by
  have hopen : ¬ (!s.regsOpen) = true := by
    unfold State.regsOpen State.inSetup
    rw [h]
    exact Bool.false_ne_true
  have hmay : ¬ (!s.inSetup || decide (s.lc = 0) || decide (s.lc = 5) || s.boot.burn.isSome) = true := by
    unfold State.inSetup
    rw [h, hb, decide_eq_false h0, decide_eq_false h5]
    decide
  show execFloorCmd s = _
  unfold execFloorCmd
  exact (if_neg hopen).trans (if_neg hmay)

/-- The operation is under way, and the fuses are as they were. -/
theorem floorCmd_boot (s : State) (m : BitVec 1600) (t : State)
    (ht : t = (s.setBoot { s.boot with burn := some (8, m) }).put F.FLOOR_CMD.BUSY 1) :
    t.boot.fuses = s.boot.fuses ∧ t.boot.burn = some (8, m) := by
  rw [ht, State.put_boot]
  exact ⟨rfl, rfl⟩

/-! ### The end of a burn (R423, R487) -/

/-- The bits of the burn stand in the fuses. -/
def State.burned (s : State) (m : BitVec 1600) : State :=
  s.setBoot { s.boot with fuses := s.boot.fuses ||| m, burn := none, deferred := none }

/-- The operation reports its end: a response floor in FLOOR_CMD, any other in FUSE_STATUS. -/
def State.burnShown (s : State) (op : Nat) : State :=
  if op = 8 then (s.put F.FLOOR_CMD.BUSY 0).put F.FLOOR_CMD.CODE 0 else (s.put F.FUSE_STATUS.BUSY 0).fuseAnswer 0

/-- A life-cycle burn ends in a cold reset, any other in its event. -/
def State.burnOver (s : State) (op : Nat) : State := if op = 3 then s.raiseReset .cold else s.bootEvent 2

theorem exec_fuseBurnDone_over {op : Nat} {m : BitVec 1600} (h : s.boot.burn = some (op, m)) (hd : s.boot.deferred = none) :
    exec .fuseBurnDone s = .next (((s.burned m).burnShown op).burnOver op) := by
  show execFuseBurnDone s = _
  unfold execFuseBurnDone
  rw [h]
  dsimp only
  rw [hd]
  rfl

theorem State.boot_burnShown (s : State) (op : Nat) : (s.burnShown op).boot = s.boot := by
  unfold State.burnShown State.fuseAnswer
  split <;> exact (State.put_boot _ _ _).trans (State.put_boot _ _ _)

theorem State.boot_bootEvent (s : State) (b : Nat) : (s.bootEvent b).boot = s.boot := by
  obtain ⟨u, hu, v, rfl⟩ := State.Reported.event s R.BOOT_EVENT R.BOOT_EVENT_EN b 0x12 b 0 0 0 0
  exact hu.boot

theorem State.bootEvent_bit (s : State) {b : Nat} (hb : b < 32) : natBit ((s.bootEvent b).reg R.BOOT_EVENT).toNat b = true :=
  State.event_bit s _ _ _ _ _ _ _ hb (reportReg_central (by decide))

theorem State.fld_bootEvent (s : State) (b : Nat) {f : Fld} (hf : f.addr ≠ R.BOOT_EVENT) (h : reportReg f.addr = false) :
    (s.bootEvent b).fld f = s.fld f := State.fld_event s _ _ _ _ _ _ _ _ _ hf h

theorem State.on_bootEvent (s : State) (b : Nat) {f : Fld} (hf : f.addr ≠ R.BOOT_EVENT) (h : reportReg f.addr = false) :
    (s.bootEvent b).on f = s.on f := congrArg (· == 1) (s.fld_bootEvent b hf h)

/-- An operation other than the floor lowers BUSY of FUSE_STATUS and answers with 0. -/
theorem State.burnShown_fuse (s : State) {op : Nat} (h : op ≠ 8) :
    (s.burnShown op).on F.FUSE_STATUS.BUSY = false ∧ (s.burnShown op).fld F.FUSE_STATUS.CODE = 0 := by
  unfold State.burnShown
  rw [if_neg h]
  exact ⟨(State.on_put_ne _ _ _ _ (by decide) (.inr (.inl (by decide)))).trans (State.on_put_same _ _ _ (by decide)),
    State.fld_put_same _ _ _ (by decide)⟩

theorem State.burnShown_floor (s : State) :
    (s.burnShown 8).on F.FLOOR_CMD.BUSY = false ∧ (s.burnShown 8).fld F.FLOOR_CMD.CODE = 0 :=
  ⟨(State.on_put_ne _ _ _ _ (by decide) (.inr (.inl (by decide)))).trans (State.on_put_same _ _ _ (by decide)),
    State.fld_put_same _ _ _ (by decide)⟩

/-- The end of a life-cycle burn: a cold reset over the burned fuses (R418). -/
theorem burnOver_lc (hr : s.boot.inReset = none) (m : BitVec 1600) :
    ((s.burned m).burnShown 3).burnOver 3 = ((s.burned m).burnShown 3).carryReset .cold true := by
  have hboot : ((s.burned m).burnShown 3).boot.inReset = none := (congrArg Boot.inReset (State.boot_burnShown _ _)).trans hr
  exact (if_pos rfl).trans (raiseReset_carried hboot (State.burnShown_fuse _ (by decide)).1 .cold)

/-- Whatever the operation, the fuses gain the bits of the burn, and no burn runs. -/
theorem burnOver_boot (hr : s.boot.inReset = none) (op : Nat) (m : BitVec 1600) :
    (((s.burned m).burnShown op).burnOver op).boot.fuses = s.boot.fuses ||| m ∧
      (((s.burned m).burnShown op).burnOver op).boot.burn = none := by
  by_cases h3 : op = 3
  · subst h3
    have hshown := State.boot_burnShown (s.burned m) 3
    rw [burnOver_lc hr]
    exact ⟨(fuses_carryReset (congrArg Boot.burn hshown) _ _).trans (congrArg Boot.fuses hshown), rfl⟩
  · have hover : (((s.burned m).burnShown op).burnOver op).boot = (s.burned m).boot := by
      unfold State.burnOver
      rw [if_neg h3, State.boot_bootEvent, State.boot_burnShown]
    exact ⟨congrArg Boot.fuses hover, congrArg Boot.burn hover⟩

/-- The end of an operation of FUSE_CMD that is no transition. -/
theorem burnOver_fuse {op : Nat} (h3 : op ≠ 3) (h8 : op ≠ 8) (u : State) :
    ((u.burnShown op).burnOver op).on F.FUSE_STATUS.BUSY = false ∧ ((u.burnShown op).burnOver op).fld F.FUSE_STATUS.CODE = 0 ∧
      natBit (((u.burnShown op).burnOver op).reg R.BOOT_EVENT).toNat 2 = true := by
  obtain ⟨hbusy, hcode⟩ := u.burnShown_fuse h8
  unfold State.burnOver
  rw [if_neg h3]
  exact ⟨(State.on_bootEvent _ _ (by decide) (reportReg_central (by decide))).trans hbusy,
    (State.fld_bootEvent _ _ (by decide) (reportReg_central (by decide))).trans hcode, State.bootEvent_bit _ (by decide)⟩

theorem burnOver_floor (u : State) :
    ((u.burnShown 8).burnOver 8).on F.FLOOR_CMD.BUSY = false ∧ ((u.burnShown 8).burnOver 8).fld F.FLOOR_CMD.CODE = 0 := by
  obtain ⟨hbusy, hcode⟩ := u.burnShown_floor
  have hover : (u.burnShown 8).burnOver 8 = (u.burnShown 8).bootEvent 2 := if_neg (by decide)
  rw [hover]
  exact ⟨(State.on_bootEvent _ _ (by decide) (reportReg_central (by decide))).trans hbusy,
    (State.fld_bootEvent _ _ (by decide) (reportReg_central (by decide))).trans hcode⟩

/-! ### Attestation (R422) -/

/-- Where attestation runs. -/
def State.attests (s : State) : Prop := s.op = .setup ∨ s.op = .run ∨ s.op = .hold

theorem exec_attGo_attests (h : s.attests) (hb : s.on F.ATT_STATUS.BUSY = false) :
    exec .attGo s = if !s.key.rootUp then .next (s.put F.ATT_STATUS.CODE 6) else .next (s.put F.ATT_STATUS.BUSY 1) := by
  have hearly : ¬ (decide (s.op.code < 3) || s.on F.ATT_STATUS.BUSY) = true := by
    rw [hb]
    rcases h with h | h | h <;> rw [h] <;> decide
  have hop : ¬ (s.op ≠ .setup ∧ s.op ≠ .run ∧ s.op ≠ .hold) := fun ⟨h1, h2, h3⟩ => h.elim h1 (·.elim h2 h3)
  show execAttGo s = _
  unfold execAttGo
  exact (if_neg hearly).trans (if_neg hop)

/-- Where the report goes. -/
def State.attBuf (s : State) : Nat := s.fld F.ATT_BUF_HI.ADDR * 2 ^ 32 + s.fld F.ATT_BUF_LO.ADDR * 64

/-- The report written, where the buffer can be. -/
def State.attWritten (s : State) (ok : Bool) : State := s.when ok (fun t => t.dma s.attBuf t.attReport)

/-- The end of the attestation shown in ATT_STATUS. -/
def State.attShown (s : State) (ok : Bool) : State := (s.put F.ATT_STATUS.BUSY 0).put F.ATT_STATUS.CODE (if ok then 0 else 7)

theorem exec_attDone_busy (h : s.on F.ATT_STATUS.BUSY = true) (ok : Bool) :
    exec (.attDone ok) s = .next (((s.attWritten ok).attShown ok).bootEvent 1) := by
  show execAttDone ok s = _
  unfold execAttDone
  rw [h]
  rfl

theorem State.attShown_status (s : State) (ok : Bool) :
    (s.attShown ok).on F.ATT_STATUS.BUSY = false ∧ (s.attShown ok).fld F.ATT_STATUS.CODE = if ok then 0 else 7 := by
  refine ⟨(State.on_put_ne _ _ _ _ (by decide) (.inr (.inl (by decide)))).trans (State.on_put_same _ _ _ (by decide)), ?_⟩
  exact (State.fld_put_same _ F.ATT_STATUS.CODE _ (by decide)).trans (by cases ok <;> rfl)

theorem State.attWritten_key (s : State) (ok : Bool) : (s.attWritten ok).key = s.key :=
  State.when_same (v := State.key) (fun t => (t.dma_reported _ _).key) _

theorem State.key_bootEvent (s : State) (b : Nat) : (s.bootEvent b).key = s.key := by
  obtain ⟨u, hu, v, rfl⟩ := State.Reported.event s R.BOOT_EVENT R.BOOT_EVENT_EN b 0x12 b 0 0 0 0
  exact hu.key

theorem State.out_bootEvent (s : State) (b : Nat) : s.out <+: (s.bootEvent b).out := by
  obtain ⟨u, hu, v, rfl⟩ := State.Reported.event s R.BOOT_EVENT R.BOOT_EVENT_EN b 0x12 b 0 0 0 0
  exact hu.out

theorem State.attShown_key (s : State) (ok : Bool) : (s.attShown ok).key = s.key :=
  (State.put_key _ _ _).trans (State.put_key _ _ _)

theorem State.attShown_out (s : State) (ok : Bool) : (s.attShown ok).out = s.out :=
  (State.put_out _ _ _).trans (State.put_out _ _ _)

theorem attWritten_out (h : s.isMember = false) : Out.hostWrite s.attBuf s.attReport ∈ (s.attWritten true).out := by
  have hdma : s.attWritten true = s.emit (.hostWrite s.attBuf s.attReport) := by
    show s.dma s.attBuf s.attReport = _
    unfold State.dma
    rw [h]
    rfl
  rw [hdma]
  exact List.mem_append_right _ (List.mem_singleton_self _)

end

end Sys2Proof.Machine

open Sys2Proof.Machine

/-- Settles O50: each fuse operation by the checks it passes, its burn by the bits it sets, attestation by the report it writes. -/
theorem fusesAndAttestationComplete : Obligations.FusesAndAttestationComplete := by
  unfold Obligations.FusesAndAttestationComplete
  refine ⟨fun s => ⟨fun hop hb => ⟨?arb, ?kept, ?owner, ?lc, exec_dbufMinT_burns hop hb, ?floor⟩, ?done,
    fun hop => exec_fuseGo_run hop⟩, fun s => ⟨fun hop hbusy => ⟨?go, ?noRoot⟩, ?report⟩⟩
  case arb => exact fun hv => (exec_arbCommit_setup hop hb).trans (congrArg _ (if_neg (Nat.not_le.mpr hv)))
  case kept => exact fun hv => (exec_arbCommit_setup hop hb).trans (congrArg _ (if_pos hv))
  case owner => exact fun bs h1 h3 ho hed hml => exec_ownerHash_burns hop hb h1 h3 ho hed hml
  case lc => exact fun obj hdr who hh hm hv hr hs hd hw => exec_lcAdvance_judged hop hb hh hm hv hr hs hd hw
  case floor =>
    obtain ⟨hfuses, hburn⟩ := floorCmd_boot s s.floorMask _ rfl
    exact fun h0 h5 => ⟨_, exec_floorCmd_burns hop hb h0 h5, State.on_put_same _ _ _ (by decide), hfuses, hburn⟩
  case done =>
    intro op m hburn hd hr
    obtain ⟨hfuses, hnone⟩ := burnOver_boot hr op m
    refine ⟨_, exec_fuseBurnDone_over hburn hd, hfuses, hnone, fun h3 h8 => burnOver_fuse h3 h8 _, fun h8 => ?_, fun h3 => ?_⟩
    · subst h8
      exact burnOver_floor _
    · subst h3
      rw [burnOver_lc hr]
      rfl
  case go => exact fun hk => (exec_attGo_attests hop hbusy).trans (by rw [hk]; rfl)
  case noRoot => exact fun hk => (exec_attGo_attests hop hbusy).trans (by rw [hk]; rfl)
  case report =>
    intro ok hbusy hm
    obtain ⟨hlow, hcode⟩ := (s.attWritten ok).attShown_status ok
    refine ⟨_, exec_attDone_busy hbusy ok, (State.on_bootEvent _ _ (by decide) (reportReg_central (by decide))).trans hlow,
      (State.fld_bootEvent _ _ (by decide) (reportReg_central (by decide))).trans hcode, State.bootEvent_bit _ (by decide),
      (State.key_bootEvent _ _).trans ((State.attShown_key _ _).trans (s.attWritten_key ok)),
      fun hok => (State.out_bootEvent _ _).subset ?_⟩
    subst hok
    rw [State.attShown_out]
    exact attWritten_out hm
end

section
/-!
THEOREM and SUPPORT. O49: boot (R408, R411, R412, R414, R488, R498): the ROM steps, the load, verification, and the entries to SETUP, RUN
and HOLD.
-/
namespace Sys2Proof.Machine

/-! ### The ROM steps (R408, Table 17.2) -/

/-- What the ROM steps after the first leave: the state, the straps, the boot state but for the debug port's lock, BOOT_COUNT, and
the registers of the UCIe link. -/
def State.romView (s : State) : OpState × Straps × Boot × Nat × Word :=
  (s.op, s.straps, { s.boot with debugShut := false }, s.bat.bootCount, s.reg R.HOST_STATUS)

section
variable {s t : State}

theorem State.romView_put (s : State) (f : Fld) (v : Nat) (hf : f.addr ≠ R.HOST_STATUS) : (s.put f v).romView = s.romView := by
  unfold State.romView
  rw [State.reg_put_ne s (Ne.symm hf)]
  rfl

theorem State.romView_zeroKeys (s : State) : s.zeroKeys.romView = s.romView :=
  ((State.romView_put _ _ _ (by decide)).trans ((State.romView_put _ _ _ (by decide)).trans (State.romView_put _ _ _ (by decide)))).trans
    (show (s.setKey _).romView = s.romView from rfl)

theorem State.romView_dropLath (s : State) : s.dropLath.romView = s.romView :=
  (State.romView_put _ _ _ (by decide)).trans ((State.romView_put _ _ _ (by decide)).trans ((State.romView_put _ _ _ (by decide)).trans
    (State.romView_put _ _ _ (by decide))))

theorem State.romView_debugShut (s : State) :
    State.romView { s with boot := { s.boot with debugShut := true } } = s.romView := rfl

theorem State.romView_shutDebug (s : State) : s.shutDebug.romView = s.romView :=
  (State.romView_put _ _ _ (by decide)).trans s.romView_debugShut

theorem State.romView_latch (s : State) (l : Nat) : State.romView { s with bat := { s.bat with latch := l } } = s.romView := rfl

/-- The responses of the pending-response latch (R435). -/
theorem State.romView_runLatch (s : State) : s.runLatch.romView = s.romView := by
  unfold State.runLatch
  extract_lets l s1 s2
  have h1 : s1.romView = s.romView :=
    State.when_same (v := State.romView) (fun t => (State.romView_dropLath _).trans t.romView_zeroKeys) _
  have h2 : s2.romView = s1.romView :=
    State.when_same (v := State.romView) (fun t => (State.romView_put _ _ _ (by decide)).trans t.romView_shutDebug) _
  clear_value s1 s2
  split
  · rfl
  · exact (s2.romView_latch 0).trans (h2.trans h1)

theorem State.romView_zeroRoot (s : State) (n : Nat) : (s.zeroRoot n).romView = s.romView := rfl

theorem State.romView_setSliceState (s : State) (sl v : Nat) : (s.setSliceState sl v).romView = s.romView :=
  (State.romView_put _ ⟨R.CLK_STATUS, sl, sl⟩ _ (show R.CLK_STATUS ≠ R.HOST_STATUS by decide)).trans
    (State.romView_put _ ⟨R.PWR_SLICE_STATUS, 2 * sl + 1, 2 * sl⟩ _ (show R.PWR_SLICE_STATUS ≠ R.HOST_STATUS by decide))

/-- Step 1: the fuses are read. -/
def State.romBegun (s : State) : State := s.setBoot { s.boot with fuses := completeLc s.boot.fuses, romRun := true }

/-- Step 2: BOOT_COUNT advances. -/
def State.counted (s : State) : State := { s with bat := { s.bat with bootCount := min (s.bat.bootCount + 1) (2 ^ 48 - 1) } }

/-- Step 2: the debug port opens by DBG_REQ and the fused policy (R421). -/
def State.romCounted (s : State) : State :=
  (s.put F.BOOT_STATUS.DEBUG_OPEN (b2n (s.straps.dbgReq && (natBit s.debugRights 0 || natBit s.debugRights 1)))).counted

/-- Steps 3 and 4: the latch, and the roots left behind. -/
def State.romCleared (s : State) : State := s.runLatch.each (leftBehind s.runLatch.lc) (fun n t => t.zeroRoot n)

/-- Step 5: the memory's key sets. -/
def State.romKeyed (s : State) : State :=
  ((s.put F.MCU_STATUS.KEYSET_VALID 0xFF).put F.CLK_STATUS.LPLL (b2n (s.config != 0))).setSliceState floatSlice 2

theorem romSteps_failed (h : s.straps.cfg.val = 3) : s.romSteps = s.romBegun.raise 21 1 := if_pos h

theorem romSteps_passed (h : s.straps.cfg.val ≠ 3) : s.romSteps = s.romBegun.romCounted.romCleared.romKeyed := if_neg h

theorem State.romView_romCleared (s : State) : s.romCleared.romView = s.romView :=
  (State.each_keeps State.romView (fun n t => t.romView_zeroRoot n) _ _).trans s.romView_runLatch

theorem State.romView_romKeyed (s : State) : s.romKeyed.romView = s.romView :=
  (State.romView_setSliceState _ _ _).trans ((State.romView_put _ _ _ (by decide)).trans (State.romView_put _ _ _ (by decide)))

theorem State.romView_counted (s : State) : s.counted.romView =
    (s.op, s.straps, { s.boot with debugShut := false }, min (s.bat.bootCount + 1) (2 ^ 48 - 1), s.reg R.HOST_STATUS) := rfl

theorem State.bootCount_counted (s : State) : s.counted.bat.bootCount = min (s.bat.bootCount + 1) (2 ^ 48 - 1) := rfl

theorem State.reg_begun (s : State) (a : Nat) : s.romBegun.counted.reg a = s.reg a := rfl

/-- What step 2 changes of it. -/
theorem State.romView_romCounted (s : State) : s.romCounted.romView = s.counted.romView := by
  have hput := State.romView_put s F.BOOT_STATUS.DEBUG_OPEN
    (b2n (s.straps.dbgReq && (natBit s.debugRights 0 || natBit s.debugRights 1))) (by decide)
  exact (State.romView_counted _).trans
    (congrArg (fun v => (v.1, v.2.1, v.2.2.1, min (v.2.2.2.1 + 1) (2 ^ 48 - 1), v.2.2.2.2)) hput)

theorem romView_romSteps (h : s.straps.cfg.val ≠ 3) : s.romSteps.romView = s.romBegun.counted.romView := by
  rw [romSteps_passed h, State.romView_romKeyed, State.romView_romCleared, State.romView_romCounted]

/-- The key sets are valid and the float waits at the end of the ROM steps. -/
theorem State.romKeyed_ready (s : State) : s.romKeyed.fld F.MCU_STATUS.KEYSET_VALID = 255 ∧ s.romKeyed.sliceState 12 = 2 := by
  refine ⟨?_, State.sliceState_setSliceState_same _ (by decide) (by decide)⟩
  refine (State.fld_put_ne _ _ _ _ (by decide) (.inl (by decide))).trans ((State.fld_put_ne _ _ _ _ (by decide) (.inl (by decide))).trans
    ((State.fld_put_ne _ _ _ _ (by decide) (.inl (by decide))).trans (State.fld_put_same _ _ _ (by decide))))

/-- The straps and the end of the reset, whether step 1 fails or not. -/
theorem State.romSteps_boot (s : State) :
    s.romSteps.straps = s.straps ∧ s.romSteps.boot.inReset = s.boot.inReset ∧ s.romSteps.boot.romRun = true := by
  by_cases h : s.straps.cfg.val = 3
  · rw [romSteps_failed h]
    have hcore := s.romBegun.core_raise 21 1
    have hboot : (s.romBegun.raise 21 1).boot.inReset = s.romBegun.boot.inReset ∧
        (s.romBegun.raise 21 1).boot.romRun = s.romBegun.boot.romRun :=
      ⟨congrArg (fun c : Core => c.2.2.2.2.2.2.1.inReset) hcore, congrArg (fun c : Core => c.2.2.2.2.2.2.1.romRun) hcore⟩
    exact ⟨congrArg (fun c : Core => c.2.1) hcore, hboot⟩
  · have hview := romView_romSteps h
    exact ⟨congrArg (fun v => v.2.1) hview, congrArg (fun v => v.2.2.1.inReset) hview, congrArg (fun v => v.2.2.1.romRun) hview⟩

/-- The straps that a release leaves (R488, Table 21.7). -/
def State.strapsAfter (s : State) (smp : Bool) (pins : Straps) : Straps := if smp then pins else { s.straps with dbgReq := pins.dbgReq }

/-- The reset is over and the UCIe link trains. -/
def State.released (s : State) (straps : Straps) : State :=
  ({ s with straps := straps, boot := { s.boot with inReset := none } } : State).put F.HOST_STATUS.LINK 1

theorem exec_resetRelease_sampled {k : ResetKind} {smp : Bool} {pins : Straps} (h : s.boot.inReset = some (k, smp)) :
    exec (.resetRelease pins) s = .next (s.released (s.strapsAfter smp pins)).romSteps := by
  show execResetRelease pins s = _
  unfold execResetRelease
  rw [h]
  rfl

/-- A release that names a configuration ends the ROM steps with every key set valid (R408). -/
theorem State.released_ready (s : State) {x : Straps} (h : x.cfg.val ≠ 3) :
    (s.released x).romSteps.bat.bootCount = min (s.bat.bootCount + 1) (2 ^ 48 - 1) ∧
      (s.released x).romSteps.fld F.MCU_STATUS.KEYSET_VALID = 255 ∧ (s.released x).romSteps.fld F.HOST_STATUS.LINK = 1 ∧
      (s.released x).romSteps.sliceState 12 = 2 ∧ (s.released x).romSteps.op = s.op := by
  have hcfg : (s.released x).straps.cfg.val ≠ 3 := h
  have hview := romView_romSteps hcfg
  have hreg : (s.released x).romSteps.reg F.HOST_STATUS.LINK.addr = (s.released x).reg F.HOST_STATUS.LINK.addr :=
    (congrArg (fun v => v.2.2.2.2) hview).trans (State.reg_begun _ _)
  have hlink : (s.released x).romSteps.fld F.HOST_STATUS.LINK = (s.released x).fld F.HOST_STATUS.LINK := by
    unfold State.fld
    rw [hreg]
  have hready := State.romKeyed_ready (s.released x).romBegun.romCounted.romCleared
  rw [← romSteps_passed hcfg] at hready
  have hcount : (s.released x).romBegun.counted.bat.bootCount = min (s.bat.bootCount + 1) (2 ^ 48 - 1) := State.bootCount_counted _
  exact ⟨(congrArg (fun v => v.2.2.2.1) hview).trans hcount, hready.1, hlink.trans (State.fld_put_same _ _ _ (by decide)), hready.2,
    congrArg Prod.fst hview⟩

/-! ### LOAD (R408, R410, R411) -/

theorem unsealRoot_open (h : s.on F.BOOT_STATUS.DEBUG_OPEN = true) : s.unsealRoot = s := if_pos h

/-- The device enters LOAD, a domain device with its claim. -/
def State.loading (s : State) : State :=
  let s2 := { s with op := .load }
  { s2 with dom := { s2.dom with claiming := s2.config == 2 && s2.fld F.HOST_STATUS.LINK == 2 && s2.dom.hawk == 0 } }

theorem exec_romDone_loads (hop : s.op = .rom) (hr : s.boot.inReset = none) (hb : s.on F.MEM_STATUS.STRIP_BUSY = false)
    (hrun : s.boot.romRun = true) : exec .romDone s = .next s.unsealRoot.loading := by
  have hwait : ¬ (decide (s.op ≠ .rom) || s.boot.inReset.isSome || s.on F.MEM_STATUS.STRIP_BUSY) = true := by
    rw [hop, hr, hb]
    decide
  show execRomDone s = _
  unfold execRomDone
  rw [if_neg hwait, hrun]
  exact if_neg (not_not.mpr hop)

theorem exec_fwLoadGo_reads (hop : s.op = .load) (h1 : s.fwStatus ≠ 1) (h15 : s.fwStatus ≠ 15) (hl : s.boot.loadBlocked = false)
    (hm : s.isMember = false) (bs : List Byte) :
    exec (.fwLoadGo (some bs)) s =
        .next ((s.setBoot { s.boot with image := bs.take (s.fld F.FW_LOAD_LEN.LEN) }).put F.BOOT_STATUS.FW_STATUS 1) ∧
      exec (.fwLoadGo none) s = .next ((s.setBoot { s.boot with image := [] }).put F.BOOT_STATUS.FW_STATUS 2) := by
  have hgo : ¬ (decide (s.op ≠ .load) || decide (s.fwStatus = 1) || decide (s.fwStatus = 15) || s.boot.loadBlocked || s.isMember)
      = true := by
    rw [hop, decide_eq_false h1, decide_eq_false h15, hl, hm]
    decide
  exact ⟨(show execFwLoadGo (some bs) s = _ from if_neg hgo), (show execFwLoadGo none s = _ from if_neg hgo)⟩

/-- FW_STATUS takes 15 values (Table 17.5). -/
theorem State.verifyImage_lt (s : State) (img : List Byte) : s.verifyImage img < 16 := by
  have hite : ∀ {p : Prop} [Decidable p] {a b : Nat}, a < 16 → b < 16 → (if p then a else b) < 16 := fun ha hb =>
    iteInduction (motive := (· < 16)) (fun _ => ha) (fun _ => hb)
  unfold State.verifyImage
  exact hite (by decide) (hite (by decide) (hite (by decide) (hite (by decide) (hite (by decide) (hite (by decide) (hite (by decide)
    (hite (by decide) (hite (by decide) (hite (by decide) (hite (by decide) (by decide)))))))))))

/-- The image is accepted: its header is kept and its ARB_VERSION shown; or it is dropped. -/
def State.verified (s : State) (code : Nat) : State :=
  if code = 15 then (s.setBoot { s.boot with header := s.boot.image.take 256 }).put F.FW_INFO.IMAGE_ARB (leAt s.boot.image 8 1)
  else s.setBoot { s.boot with image := [] }

theorem State.verified_passed (s : State) : s.verified 15 =
    (s.setBoot { s.boot with header := s.boot.image.take 256 }).put F.FW_INFO.IMAGE_ARB (leAt s.boot.image 8 1) := if_pos rfl

theorem State.verified_failed (s : State) {c : Nat} (h : c ≠ 15) : s.verified c = s.setBoot { s.boot with image := [] } := if_neg h

theorem State.fld_setBoot (s : State) (b : Boot) (f : Fld) : (s.setBoot b).fld f = s.fld f := rfl

theorem isMember_congr {u v : State} (hs : v.straps = u.straps) (ho : v.on F.DOM_STATUS.HAWK = u.on F.DOM_STATUS.HAWK) :
    v.isMember = u.isMember := by
  unfold State.isMember State.config
  rw [hs, ho]

theorem State.straps_setBoot (s : State) (b : Boot) : (s.setBoot b).straps = s.straps := rfl

theorem State.straps_verified (s : State) (c : Nat) : (s.verified c).straps = s.straps := by
  unfold State.verified
  split
  · exact (State.put_straps _ _ _).trans (s.straps_setBoot _)
  · exact s.straps_setBoot _

theorem State.fld_verified (s : State) (c : Nat) {f : Fld} (hf : f.addr ≠ R.FW_INFO) : (s.verified c).fld f = s.fld f := by
  unfold State.verified
  split
  · exact (State.fld_put_ne _ _ _ _ (by decide) (.inl hf)).trans (s.fld_setBoot _ _)
  · exact s.fld_setBoot _ _

/-- The state with the outcome of the verification. -/
def State.judged (s : State) : State :=
  (s.put F.BOOT_STATUS.FW_STATUS (s.verifyImage s.boot.image)).verified (s.verifyImage s.boot.image)

theorem State.isMember_judged (s : State) : s.judged.isMember = s.isMember :=
  isMember_congr ((State.straps_verified _ _).trans (State.put_straps _ _ _))
    (congrArg (· == 1) ((State.fld_verified _ _ (by decide)).trans (State.fld_put_ne s _ _ _ (by decide) (.inl (by decide)))))

theorem execFwVerifyDone_eq (s : State) : execFwVerifyDone s =
    if s.op ≠ .load || s.fwStatus ≠ 1 || (s.isMember && decide (s.boot.image.length < s.dom.fwLen)) then .next s
    else .next (s.judged.when s.judged.isMember (fun t =>
      t.lathSend Kind.loadStatus.num 0x7E (leBytes 1 t.index ++ leBytes 1 (s.verifyImage s.boot.image)))) := rfl

theorem exec_fwVerifyDone_judged (hop : s.op = .load) (h1 : s.fwStatus = 1) (hm : s.isMember = false) :
    exec .fwVerifyDone s = .next s.judged := by
  have hgo : ¬ (decide (s.op ≠ .load) || decide (s.fwStatus ≠ 1) || (s.isMember && decide (s.boot.image.length < s.dom.fwLen)))
      = true := by
    rw [hop, h1, hm]
    exact Bool.false_ne_true
  refine (execFwVerifyDone_eq s).trans ((if_neg hgo).trans ?_)
  rw [s.isMember_judged, hm]
  rfl

theorem State.boot_setBoot (s : State) (b : Boot) : (s.setBoot b).boot = b := rfl

theorem State.op_setBoot (s : State) (b : Boot) : (s.setBoot b).op = s.op := rfl

theorem State.op_verified (s : State) (c : Nat) : (s.verified c).op = s.op := by
  unfold State.verified
  split
  · exact (State.put_op _ _ _).trans (s.op_setBoot _)
  · exact s.op_setBoot _

theorem State.op_judged (s : State) : s.judged.op = s.op := (State.op_verified _ _).trans (State.put_op _ _ _)

theorem State.fwStatus_judged (s : State) : s.judged.fwStatus = s.verifyImage s.boot.image :=
  (State.fld_verified _ _ (by decide)).trans
    ((State.fld_put_same s F.BOOT_STATUS.FW_STATUS _ (by decide)).trans (Nat.mod_eq_of_lt (s.verifyImage_lt _)))

theorem slice_length (bs : List Byte) (off len : Nat) : (slice bs off len).length = len := by
  unfold slice
  dsimp only
  rw [List.length_append, List.length_replicate, List.length_take]
  omega

/-- One byte. -/
theorem leAt_byte_lt (bs : List Byte) (off : Nat) : leAt bs off 1 < 256 := by
  have h := leNat_lt (slice bs off 1)
  rw [slice_length] at h
  exact h

theorem judged_eq {c : Nat} (h : s.verifyImage s.boot.image = c) :
    s.judged = (s.put F.BOOT_STATUS.FW_STATUS c).verified c := by
  subst h
  rfl

/-- An image that passes leaves its header and its ARB_VERSION. -/
theorem verified_shown (s : State) : (s.verified 15).boot.header = s.boot.image.take 256 ∧
    (s.verified 15).fld F.FW_INFO.IMAGE_ARB = leAt s.boot.image 8 1 := by
  rw [State.verified_passed, State.put_boot, State.fld_put_same _ _ _ (by decide)]
  exact ⟨rfl, Nat.mod_eq_of_lt (leAt_byte_lt _ _)⟩

theorem judged_passed (h : s.verifyImage s.boot.image = 15) :
    s.judged.boot.header = s.boot.image.take 256 ∧ s.judged.fld F.FW_INFO.IMAGE_ARB = leAt s.boot.image 8 1 := by
  have hshown := verified_shown (s.put F.BOOT_STATUS.FW_STATUS 15)
  rw [State.put_boot] at hshown
  rw [judged_eq h]
  exact hshown

/-- One that fails is dropped, and the header stays. -/
theorem judged_failed (h : s.verifyImage s.boot.image ≠ 15) : s.judged.boot.header = s.boot.header ∧ s.judged.boot.image = [] := by
  unfold State.judged
  rw [State.verified_failed _ h]
  exact ⟨rfl, rfl⟩

/-! ### SETUP (R412, R440) -/

/-- Gheor enters SETUP with the enclosure LFSR reseeded (R427). -/
def State.seeded (s : State) : State :=
  let s2 := ((s.draw 32).2.draw 32).2
  { s2 with op := .setup, bat := { s2.bat with lfsrA := (s.draw 32).1, lfsrB := ((s.draw 32).2.draw 32).1 } }

/-- BOOT_EVENT.SETUP and its record. -/
def State.setupShown (s : State) : State := (s.bitOnly R.BOOT_EVENT 0).record 0x12 0 0 0 0 0

theorem exec_setupEntry_enters (hop : s.op = .load) (hfw : s.fwStatus = 15) (hc : s.config ≠ 2) :
    exec .setupEntry s = .next s.seeded.setupShown.postNotice := by
  have hgo : ¬ (decide (s.op ≠ .load) || decide (s.fwStatus ≠ 15) || (s.config == 2 && s.dom.dup)) = true := by
    rw [hop, hfw, beq_eq_false_iff_ne.mpr hc]
    exact Bool.false_ne_true
  show execSetupEntry s = _
  unfold execSetupEntry
  exact if_neg hgo

theorem State.setupShown_reported (s : State) : (s.bitOnly R.BOOT_EVENT 0).Reported s.setupShown := State.record_reported _ _ _ _ _ _ _

/-- The notice of alarms logged in BATTERY has been given (R440). -/
def State.noticed (s : State) : State := { s with bat := { s.bat with notice := none } }

theorem State.postNotice_reported (s : State) : s.noticed.Reported s.postNotice := by
  unfold State.postNotice
  split
  · exact State.record_reported _ _ _ _ _ _ _
  next h =>
    have hsame : s.noticed = s := by
      unfold State.noticed
      rw [← h]
    rw [hsame]
    exact .refl s

theorem State.bat_noticed (s : State) : s.noticed.bat = { s.bat with notice := none } := rfl

theorem State.keeps_noticed (s : State) : s.noticed.op = s.op ∧ s.noticed.boot = s.boot ∧ s.noticed.regs = s.regs := ⟨rfl, rfl, rfl⟩

theorem State.keeps_bitOnly (s : State) (r b : Nat) :
    (s.bitOnly r b).op = s.op ∧ (s.bitOnly r b).boot = s.boot ∧ (s.bitOnly r b).bat = s.bat := ⟨rfl, rfl, rfl⟩

theorem State.keeps_seeded (s : State) : s.seeded.op = .setup ∧ s.seeded.boot = s.boot ∧
    s.seeded.bat.lfsrA = Config.freeValue s.free 32 := ⟨rfl, rfl, rfl⟩

/-- What entry to SETUP leaves. -/
theorem State.setup_entered (s : State) :
    s.seeded.setupShown.postNotice.op = .setup ∧ natBit (s.seeded.setupShown.postNotice.reg R.BOOT_EVENT).toNat 0 = true ∧
      s.seeded.setupShown.postNotice.bat.lfsrA = Config.freeValue s.free 32 ∧ s.seeded.setupShown.postNotice.bat.notice = none ∧
      s.seeded.setupShown.postNotice.boot = s.boot := by
  have hnotice := State.postNotice_reported s.seeded.setupShown
  obtain ⟨hop, hboot, hregs⟩ := State.keeps_noticed s.seeded.setupShown
  have hshown := State.setupShown_reported s.seeded
  obtain ⟨hopb, hbootb, hbatb⟩ := State.keeps_bitOnly s.seeded R.BOOT_EVENT 0
  obtain ⟨hops, hboots, hseed⟩ := s.keeps_seeded
  have hb : reportReg R.BOOT_EVENT = false := reportReg_central (by decide)
  have hbat : s.seeded.setupShown.postNotice.bat = { s.seeded.bat with notice := none } :=
    hnotice.bat.trans ((State.bat_noticed _).trans (congrArg (fun b : Battery => { b with notice := none }) (hshown.bat.trans hbatb)))
  have hreg : s.seeded.setupShown.postNotice.reg R.BOOT_EVENT = s.seeded.reg R.BOOT_EVENT ||| BitVec.ofNat 32 (2 ^ 0) :=
    (hnotice.regs _ hb).trans ((State.reg_congr hregs _).trans ((hshown.regs _ hb).trans (State.reg_setReg_same _ _ _)))
  refine ⟨hnotice.op.trans (hop.trans (hshown.op.trans (hopb.trans hops))), ?_, ?_, ?_,
    hnotice.boot.trans (hboot.trans (hshown.boot.trans (hbootb.trans hboots)))⟩
  · rw [hreg]
    exact natBit_or_two_pow _ (by decide)
  · rw [hbat]
    exact hseed
  · rw [hbat]

/-! ### RUN and HOLD (R414) -/

/-- What does not report keeps the state of the device. -/
theorem unreported_op : Unreported State.op :=
  ⟨fun _ _ _ _ => rfl, fun _ _ => rfl, fun _ _ _ => rfl, fun _ _ => rfl, fun _ _ => rfl, fun _ _ _ _ => rfl, fun _ _ _ => rfl⟩

theorem State.op_event (s : State) (ev en b block code o v0 v1 v2 : Nat) : (s.event ev en b block code o v0 v1 v2).op = s.op :=
  unreported_op.event s (fun _ => rfl) _ _ _ _ _ _ _ _

theorem State.op_setRole (s : State) (r : Nat) : (s.setRole r).op = s.op := by
  unfold State.setRole
  split
  · rfl
  · exact (State.op_event _ _ _ _ _ _ _ _ _ _).trans (State.put_op _ _ _)

theorem State.op_pairRun (s : State) : s.pairRun.op = s.op := by
  unfold State.pairRun
  split
  · rfl
  · dsimp only
    split
    · exact State.op_setRole _ _
    · rfl

theorem State.op_startRetire (s : State) (sl : Nat) : (s.startRetire sl).op = s.op :=
  (State.put_op (s.setRub _) _ _).trans rfl

theorem State.op_relayFirmware (s : State) : s.relayFirmware.op = s.op :=
  (State.each_keeps State.op (fun _ t => (t.lathSend_reported _ _ _).op) _ _).trans (s.lathSend_reported _ _ _).op

/-- The device is in RUN. -/
def State.inRun (s : State) : State := { s with op := .run }

/-- A member takes its epoch from the hawk's latest SCREED record (R330). -/
def State.epochTaken (s : State) : State :=
  match Tbl.getD (fun _ => none) s.dom.screeds (s.dom.hawk - 1) with
  | some r => if s.isMember && s.dom.hawk ≠ 0 then s.put F.SCREED_EPOCH.EPOCH r.epoch else s
  | none => s

/-- A slice that RETIRE names begins its retirement (R454). -/
def State.retireTaken (s : State) : State := s.pairRun.when (decide (s.fld F.RUB_CFG.RETIRE < 12)) (fun t => t.startRetire (s.fld F.RUB_CFG.RETIRE))

theorem execRunReq_eq (s : State) : execRunReq s = if s.op ≠ .setup || s.on F.MEM_STATUS.STRIP_BUSY then .next s else
    .next (s.inRun.epochTaken.retireTaken.when s.inRun.epochTaken.retireTaken.loadHeard State.relayFirmware) := rfl

theorem exec_runReq_runs (hop : s.op = .setup) (hb : s.on F.MEM_STATUS.STRIP_BUSY = false) : exec .runReq s =
    .next (s.inRun.epochTaken.retireTaken.when s.inRun.epochTaken.retireTaken.loadHeard State.relayFirmware) := by
  have hgo : ¬ (decide (s.op ≠ .setup) || s.on F.MEM_STATUS.STRIP_BUSY) = true := by
    rw [hop, hb]
    decide
  exact (execRunReq_eq s).trans (if_neg hgo)

theorem State.op_epochTaken (s : State) : s.epochTaken.op = s.op := by
  unfold State.epochTaken
  split
  · split
    · exact State.put_op _ _ _
    · rfl
  · rfl

theorem State.op_retireTaken (s : State) : s.retireTaken.op = s.op :=
  (State.when_same (v := State.op) (fun t => t.op_startRetire _) _).trans s.op_pairRun

theorem epochTaken_unpaired (h : s.isMember = false) : s.epochTaken = s := by
  unfold State.epochTaken
  rw [h]
  split <;> rfl

/-- A device of neither a pair nor a domain, with nothing to retire, only enters RUN. -/
theorem inRun_alone (hc : s.config = 0) (hr : 12 ≤ s.fld F.RUB_CFG.RETIRE) :
    s.inRun.epochTaken.retireTaken.when s.inRun.epochTaken.retireTaken.loadHeard State.relayFirmware = s.inRun := by
  have hcr : s.inRun.config = 0 := hc
  have hmember : s.inRun.isMember = false := by
    unfold State.isMember
    rw [hcr]
    rfl
  have hretire : s.inRun.retireTaken = s.inRun := by
    have hpair : s.inRun.pairRun = s.inRun := if_pos (by rw [hcr]; decide)
    have hnone : decide (s.inRun.fld F.RUB_CFG.RETIRE < 12) = false := decide_eq_false (Nat.not_lt.mpr hr)
    unfold State.retireTaken
    rw [hpair, hnone]
    rfl
  have hload : s.inRun.loadHeard = false := by
    unfold State.loadHeard State.isHawk
    rw [hcr]
    rfl
  rw [epochTaken_unpaired hmember, hretire, hload]
  rfl

theorem enterHold_alone (h : s.config ≠ 1) : s.enterHold = { s with op := .hold } := by
  have hy : s.yieldOut = s := if_pos h
  unfold State.enterHold
  rw [hy]

end

end Sys2Proof.Machine

open Sys2Proof.Machine

/-- Settles O49: each step of the boot by the state it leaves. -/
theorem bootCompletes : Obligations.BootCompletes := by
  unfold Obligations.BootCompletes
  refine fun s => ⟨?release, ?rom, fun hop h1 h15 hl hm => ⟨fun bs => ?load, ?loadFails⟩, ?verify, ?setup, ?run, ?hold⟩
  case release =>
    intro k smp pins h
    obtain ⟨hstraps, hreset, hrun⟩ := (s.released (s.strapsAfter smp pins)).romSteps_boot
    exact ⟨_, exec_resetRelease_sampled h, hreset, hstraps, hrun, 
      fun hcfg => s.released_ready fun h => hcfg ((congrArg (fun x => x.cfg.val) hstraps).trans h)⟩
  case rom =>
    intro hop hr hb hrun
    refine ⟨_, exec_romDone_loads hop hr hb hrun, rfl, fun ho => ?_⟩
    rw [unsealRoot_open ho]
    rfl
  case load => exact ⟨_, (exec_fwLoadGo_reads hop h1 h15 hl hm bs).1, State.fld_put_same _ _ _ (by decide), rfl⟩
  case loadFails => exact ⟨_, (exec_fwLoadGo_reads hop h1 h15 hl hm []).2, State.fld_put_same _ _ _ (by decide), rfl⟩
  case verify =>
    exact fun hop h1 hm => ⟨_, exec_fwVerifyDone_judged hop h1 hm, s.fwStatus_judged, s.op_judged.trans hop, judged_passed, judged_failed⟩
  case setup =>
    intro hop hfw hc
    exact ⟨_, exec_setupEntry_enters hop hfw hc, s.setup_entered⟩
  case run =>
    intro hop hb
    refine ⟨_, exec_runReq_runs hop hb, ?_, inRun_alone⟩
    exact (State.when_same (v := State.op) State.op_relayFirmware _).trans ((State.op_retireTaken _).trans (State.op_epochTaken _))
  case hold => exact fun hop => ⟨_, if_pos hop, rfl, enterHold_alone⟩
end

section
/-!
SUPPORT. What an alarm writes to the log and to the alarm controller (R432, R433, R436): a first alarm adds a record, one that
meets another alarm's responses joins its record.
-/
namespace Sys2Proof.Machine

/-- Looking an inserted entry up. -/
theorem Tbl.find_insert {α : Type} (t : Tbl α) (k : Nat) (v : α) :
    (Tbl.insert t k v).find? (fun e => e.1 = k) = some (k, v) := by
  induction t with
  | nil => simp [Tbl.insert]
  | cons e t ih =>
    obtain ⟨j, w⟩ := e
    unfold Tbl.insert
    split
    · simp
    · next hj =>
      split
      · simp
      · rw [List.find?_cons_of_neg (by simpa using hj)]
        exact ih

theorem answerless_alarm : Answerless State.alarm where
  reg _ _ _ _ := rfl
  beside := by intros; rfl
  opKey _ _ _ := rfl
  keySets _ _ := rfl
  roots _ := rfl
  locks _ _ _ := rfl
  halted _ _ := rfl

/-- The battery domain but for the roots. -/
def State.rootless (s : State) : Battery := { s.bat with roots := [], rootChecks := [] }

theorem answerless_rootless : Answerless State.rootless where
  reg _ _ _ _ := rfl
  beside := by intros; rfl
  opKey _ _ _ := rfl
  keySets _ _ := rfl
  roots _ := rfl
  locks _ _ _ := rfl
  halted _ _ := rfl

section
variable (s : State) (causes detail force : Nat)

/-- The responses that causes ask for. -/
def State.alarmSet : Nat := s.unionSet causes ||| force

/-- The device is on its battery. -/
def State.onBattery (s : State) : Bool := s.op == .battery

/-- Causes from 16 on take the device to FAULT, except on the battery. -/
def State.alarmFault : Bool := decide (2 ^ 16 ≤ causes) && !s.onBattery

/-- The responses that are carried out. -/
def State.alarmDone : Nat := if s.onBattery then s.alarmSet causes force &&& 9 else s.alarmSet causes force

/-- The responses that BATTERY leaves pending. -/
def State.alarmLeft : Nat := if s.onBattery then s.alarmSet causes force &&& 6 else 0

/-- The record of a first alarm. -/
def State.alarmRecord : LogRec := s.newRecord causes detail (s.alarmDone causes force) (s.alarmLeft causes force)

/-- The battery domain in which that record is stored, over the one that the responses leave. -/
def State.alarmBat (b : Battery) : Battery :=
  { b with
    seq := (s.alarmRecord causes detail force).seq, logCount := s.bat.logCount + 1, latch := b.latch ||| s.alarmLeft causes force
    notice := if s.onBattery then some (b.notice.getD (s.alarmRecord causes detail force).seq) else b.notice }

/-- A first alarm, recorded. -/
def State.firstRecorded : State :=
  let s1 := s.respond (s.alarmDone causes force) (s.alarmFault causes)
  s1.recordAlarm (s.alarmBat causes detail force s1.bat) (logEntry s.bat.logCount) causes (s.alarmRecord causes detail force)

/-- The execution of the responses of a first alarm. -/
def State.firstRun : AlarmRun :=
  ⟨logEntry s.bat.logCount, s.alarmSet causes force, s.alarmDone causes force, s.alarmLeft causes force,
    s.bat.rtc + 2 + b2n (s.onBattery && (s.alarmDone causes force).testBit 3)⟩

variable {s} in
theorem alarmNow_first (h : s.alarmRuns = none) : s.alarmNow causes detail force =
    (s.firstRecorded causes detail force).setAlarm
      { (s.firstRecorded causes detail force).alarm with running := some (s.firstRun causes force) } := by
  unfold State.alarmNow
  dsimp only
  rw [h]
  rfl

/-- The record of an alarm that others join. -/
def State.joinedRecord (r : LogRec) : LogRec :=
  { r with
    causes := r.causes ||| causes
    detail := if lowestCause (r.causes ||| causes) = lowestCause r.causes then r.detail else detail
    done := r.done ||| s.alarmDone causes force, pending := r.pending ||| s.alarmLeft causes force }

/-- A joining alarm, recorded. -/
def State.joinRecorded (a : AlarmRun) (r : LogRec) : State :=
  let s1 := s.respond (s.alarmDone causes force &&& (15 - a.done)) (s.alarmFault causes)
  ((s1.putLog a.entry (s.joinedRecord causes detail force r)).setAlarmStatus causes r.seq).postAlarm
    (s.joinedRecord causes detail force r)

/-- The execution of the responses goes on. -/
def State.joinRun (a : AlarmRun) : AlarmRun :=
  { a with
    set := a.set ||| s.alarmSet causes force, done := a.done ||| s.alarmDone causes force
    pending := a.pending ||| s.alarmLeft causes force }

/-- What BATTERY leaves pending joins the latch. -/
def State.latched (s : State) (left : Nat) : State := { s with bat := { s.bat with latch := s.bat.latch ||| left } }

variable {s} in
theorem alarmNow_joins {a : AlarmRun} {r : LogRec} (h : s.alarmRuns = some a) (hr : s.tlogAt a.entry = some r) :
    s.alarmNow causes detail force =
      ((s.joinRecorded causes detail force a r).latched (s.alarmLeft causes force)).setAlarm
        { (s.joinRecorded causes detail force a r).alarm with running := some (s.joinRun causes force a) } := by
  unfold State.alarmNow
  dsimp only
  rw [h]
  dsimp only
  rw [hr]
  rfl

/-! ### What they leave -/

theorem State.rootless_respond (set : Nat) (f : Bool) : (s.respond set f).rootless = s.rootless :=
  ((answerless_rootless.kept s).respond answerless_rootless).eq

theorem State.alarm_respond (set : Nat) (f : Bool) : (s.respond set f).alarm = s.alarm :=
  ((answerless_alarm.kept s).respond answerless_alarm).eq

/-- A record stored, shown and posted: the state beside the battery domain as reporting leaves it. -/
theorem State.recorded_reported (entry seq : Nat) (r : LogRec) :
    State.Reported { s with bat := { s.bat with log := Tbl.insert s.bat.log entry r, status := s.bat.status ||| causes } }
      (((s.putLog entry r).setAlarmStatus causes seq).postAlarm r) :=
  ((s.putLog entry r).setAlarmStatus_reported causes seq).trans (State.postAlarm_reported _ r)

/-- The battery domain once a first alarm is recorded. -/
theorem State.firstRecorded_bat : (s.firstRecorded causes detail force).bat.logCount = s.bat.logCount + 1 ∧
    (s.firstRecorded causes detail force).tlogAt (logEntry s.bat.logCount) = some (s.alarmRecord causes detail force) ∧
    (s.firstRecorded causes detail force).bat.status =
      (s.respond (s.alarmDone causes force) (s.alarmFault causes)).bat.status ||| causes := by
  unfold State.firstRecorded State.recordAlarm
  generalize s.respond (s.alarmDone causes force) (s.alarmFault causes) = s1
  have h := State.recorded_reported ({ s1 with bat := s.alarmBat causes detail force s1.bat } : State) causes
    (logEntry s.bat.logCount) (s.alarmRecord causes detail force).seq (s.alarmRecord causes detail force)
  refine ⟨congrArg Battery.logCount h.bat, ?_, congrArg Battery.status h.bat⟩
  unfold State.tlogAt
  rw [h.bat]
  exact congrArg (Option.map (·.2)) (Tbl.find_insert _ _ _)

theorem State.firstRecorded_alarm : (s.firstRecorded causes detail force).alarm = s.alarm :=
  (State.recordAlarm_alarm_op _ _ _ _ _).1.trans (s.alarm_respond _ _)

/-- The battery domain once an alarm has joined another one's record. -/
theorem State.joinRecorded_bat (a : AlarmRun) (r : LogRec) :
    (s.joinRecorded causes detail force a r).bat.logCount = s.bat.logCount ∧
      (s.joinRecorded causes detail force a r).tlogAt a.entry = some (s.joinedRecord causes detail force r) := by
  have hcount := congrArg Battery.logCount (s.rootless_respond (s.alarmDone causes force &&& (15 - a.done)) (s.alarmFault causes))
  unfold State.joinRecorded
  generalize s.respond (s.alarmDone causes force &&& (15 - a.done)) (s.alarmFault causes) = s1 at hcount
  have h := s1.recorded_reported causes a.entry r.seq (s.joinedRecord causes detail force r)
  refine ⟨(congrArg Battery.logCount h.bat).trans hcount, ?_⟩
  unfold State.tlogAt
  dsimp only
  rw [h.bat]
  exact congrArg (Option.map (·.2)) (Tbl.find_insert _ _ _)

theorem State.joinRecorded_alarm (a : AlarmRun) (r : LogRec) : (s.joinRecorded causes detail force a r).alarm = s.alarm :=
  (State.recorded_reported _ _ _ _ _).alarm.trans (s.alarm_respond _ _)

end

/-! ### An alarm raised (R432) -/

section
variable (s : State) (k detail : Nat)

/-- The cause is present, and a failed ROM step is shown (R408, R431). -/
def State.caused : State :=
  let s1 := s.setAlarm { s.alarm with present := natSet s.alarm.present k }
  let step := if k = 21 then detail else if k = 18 then 6 else if k = 16 ∨ k = 19 then 8 else 0
  s1.when (decide (16 ≤ k) && s.op == .rom && step != 0) (fun t => t.put F.BOOT_STATUS.ROM_STEP step)

/-- ERASE that a lost stack in BATTERY forces. -/
def State.forced : Nat := if k = 9 && s.op == .battery then 8 else 0

variable {s k} in
theorem raise_new (hp : s.alarm.present.testBit k = false) (hop : s.op ≠ .off) :
    s.raise k detail = (s.caused k detail).alarmNow (2 ^ k) detail (s.forced k) := by
  have hnew : ¬ (s.alarm.present.testBit k || decide (s.op = .off)) = true := by
    rw [hp, decide_eq_false hop]
    decide
  unfold State.raise
  exact if_neg hnew

variable {s k} in
theorem raise_present (hp : s.alarm.present.testBit k = true) : s.raise k detail = s := by
  unfold State.raise
  rw [hp]
  rfl

/-- Of the state, a new cause changes the alarm controller and ROM_STEP alone. -/
theorem State.caused_keeps {β : Type} (π : State → β) (ha : ∀ (t : State) x, π (t.setAlarm x) = π t)
    (hp : ∀ (t : State) x, π (t.put F.BOOT_STATUS.ROM_STEP x) = π t) : π (s.caused k detail) = π s :=
  (State.when_same (v := π) (fun t => hp t _) _).trans (ha _ _)

theorem State.bat_caused : (s.caused k detail).bat = s.bat := s.caused_keeps k detail State.bat (fun _ _ => rfl) (fun _ _ => rfl)

theorem State.op_caused : (s.caused k detail).op = s.op := s.caused_keeps k detail State.op (fun _ _ => rfl) (fun _ _ => rfl)

theorem State.alarm_caused : (s.caused k detail).alarm = { s.alarm with present := natSet s.alarm.present k } :=
  State.when_same (v := State.alarm) (fun t => t.put_alarm _ _) _

theorem State.present_caused : (s.caused k detail).alarm.present.testBit k = true := by
  rw [s.alarm_caused]
  exact (natBit_natSet _ _ _).trans (by simp)

theorem State.alarmRuns_congr {s t : State} (ha : t.alarm.running = s.alarm.running) (hb : t.bat = s.bat) : t.alarmRuns = s.alarmRuns := by
  unfold State.alarmRuns
  rw [ha, hb]

theorem State.running_caused : (s.caused k detail).alarm.running = s.alarm.running := by rw [s.alarm_caused]

theorem State.alarmRuns_caused : (s.caused k detail).alarmRuns = s.alarmRuns :=
  State.alarmRuns_congr (s.running_caused k detail) (s.bat_caused k detail)

theorem State.tlogAt_congr {s t : State} (hb : t.bat = s.bat) (n : Nat) : t.tlogAt n = s.tlogAt n := by
  unfold State.tlogAt
  rw [hb]

end

end Sys2Proof.Machine
end

section
/-!
THEOREM and SUPPORT. O52: a condition raises one alarm until it has been absent for a second (R432, R433).
-/
namespace Sys2Proof.Machine

section
variable {s : State} {x : Trip}

theorem op_ne_off_of_monitorRuns {k : Nat} (h : s.monitorRuns k = true) : s.op ≠ .off := by
  intro hop
  unfold State.monitorRuns at h
  rw [hop] at h
  cases h

/-- A stopped machine of R428, where the trip's cause is one. -/
def State.tripped (s : State) (x : Trip) : State :=
  s.when (x.cause.val == 9 && decide (2 ≤ s.op.code)) (fun t => t.stopMachine (x.detail.toNat % 8))

/-- A trip of a running detector outside a test window raises its cause (R425). -/
theorem exec_monitorTrip_raises (h : s.monitorRuns x.cause = true) (ht : s.alarm.testing = none) :
    exec (.monitorTrip x) s = .next ((s.tripped x).raise x.cause x.detail.toNat) := by
  show execMonitorTrip x s = _
  unfold execMonitorTrip
  dsimp only
  rw [h, ht]
  rfl

/-- A stopped machine shows in the alarm controller, and may shut the debug port. -/
theorem State.tripped_keeps {β : Type} (π : State → β)
    (hs : ∀ (t : State) x, π (t.setAlarm { t.alarm with stopped := x }) = π t)
    (hb : ∀ (t : State) b, π { t with boot := b } = π t) (hp : ∀ (t : State) f x, π (t.put f x) = π t)
    (s : State) (x : Trip) : π (s.tripped x) = π s := by
  refine State.when_same (v := π) (fun t => ?_) _
  unfold State.stopMachine
  dsimp only
  split
  · exact (hp _ _ _).trans ((hb _ _).trans (hs _ _))
  · exact hs _ _

theorem State.bat_tripped (s : State) (x : Trip) : (s.tripped x).bat = s.bat :=
  State.tripped_keeps State.bat (fun _ _ => rfl) (fun _ _ => rfl) State.put_bat s x

theorem State.op_tripped (s : State) (x : Trip) : (s.tripped x).op = s.op :=
  State.tripped_keeps State.op (fun _ _ => rfl) (fun _ _ => rfl) State.put_op s x

theorem State.key_tripped (s : State) (x : Trip) : (s.tripped x).key = s.key :=
  State.tripped_keeps State.key (fun _ _ => rfl) (fun _ _ => rfl) State.put_key s x

theorem State.present_tripped (s : State) (x : Trip) : (s.tripped x).alarm.present = s.alarm.present :=
  
  State.tripped_keeps (fun t => t.alarm.present) (fun _ _ => rfl) (fun _ _ => rfl) (fun t f x => congrArg Alarm.present (t.put_alarm f x)) s x

theorem State.running_tripped (s : State) (x : Trip) : (s.tripped x).alarm.running = s.alarm.running :=
  
  State.tripped_keeps (fun t => t.alarm.running) (fun _ _ => rfl) (fun _ _ => rfl) (fun t f x => congrArg Alarm.running (t.put_alarm f x)) s x

/-- The state in which a new trip's alarm is raised. -/
def State.tripCaused (s : State) (x : Trip) : State := (s.tripped x).caused x.cause x.detail.toNat

theorem exec_monitorTrip_new (h : s.monitorRuns x.cause = true) (ht : s.alarm.testing = none)
    (hp : s.alarm.present.testBit x.cause = false) :
    exec (.monitorTrip x) s =
      .next ((s.tripCaused x).alarmNow (2 ^ x.cause.val) x.detail.toNat ((s.tripped x).forced x.cause)) := by
  refine (exec_monitorTrip_raises h ht).trans (congrArg _ (raise_new _ ?_ ?_))
  · rw [s.present_tripped]
    exact hp
  · rw [s.op_tripped]
    exact op_ne_off_of_monitorRuns h

theorem State.bat_tripCaused (s : State) (x : Trip) : (s.tripCaused x).bat = s.bat :=
  (State.bat_caused _ _ _).trans (s.bat_tripped x)

theorem State.alarmRuns_tripCaused (s : State) (x : Trip) : (s.tripCaused x).alarmRuns = s.alarmRuns :=
  (State.alarmRuns_caused _ _ _).trans (State.alarmRuns_congr (s.running_tripped x) (s.bat_tripped x))

end

end Sys2Proof.Machine

open Sys2Proof.Machine

/-- Settles O52: a new trip's alarm is recorded or joins the one whose responses execute; a present cause raises none. -/
theorem conditionRaisesOneAlarm : Obligations.ConditionRaisesOneAlarm := by
  unfold Obligations.ConditionRaisesOneAlarm
  intro s x hm ht
  refine ⟨fun hp => ⟨fun hrun => ?first, fun a r hrun hlog => ?joined⟩, fun hp => ?present, ⟨_, rfl, ?_, rfl, rfl⟩⟩
  case first =>
    have hrun' := (s.alarmRuns_tripCaused x).trans hrun
    have hnow := alarmNow_first (2 ^ x.cause.val) x.detail.toNat ((s.tripped x).forced x.cause) hrun'
    obtain ⟨hcount, -, -⟩ := (s.tripCaused x).firstRecorded_bat (2 ^ x.cause.val) x.detail.toNat ((s.tripped x).forced x.cause)
    rw [s.bat_tripCaused] at hcount
    refine ⟨_, (exec_monitorTrip_new hm ht hp).trans (congrArg _ hnow), hcount, ?_⟩
    rw [State.setAlarm_alarm, State.firstRecorded_alarm]
    exact State.present_caused _ _ _
  case joined =>
    have hrun' := (s.alarmRuns_tripCaused x).trans hrun
    have hlog' := (State.tlogAt_congr (s.bat_tripCaused x) a.entry).trans hlog
    have hnow := alarmNow_joins (2 ^ x.cause.val) x.detail.toNat ((s.tripped x).forced x.cause) hrun' hlog'
    obtain ⟨hcount, hrec⟩ := (s.tripCaused x).joinRecorded_bat (2 ^ x.cause.val) x.detail.toNat ((s.tripped x).forced x.cause) a r
    rw [s.bat_tripCaused] at hcount
    refine ⟨_, _, (exec_monitorTrip_new hm ht hp).trans (congrArg _ hnow), hcount, hrec, rfl, ?_⟩
    rw [State.setAlarm_alarm, State.joinRecorded_alarm]
    exact State.present_caused _ _ _
  case present =>
    have hp' : (s.tripped x).alarm.present.testBit x.cause = true := s.present_tripped x ▸ hp
    exact ⟨_, (exec_monitorTrip_raises hm ht).trans (congrArg _ (raise_present _ hp')), s.bat_tripped x, s.op_tripped x,
      s.key_tripped x, s.present_tripped x, s.running_tripped x⟩
  · exact natBit_natClr_same _ _
end

section
/-!
SUPPORT. The registers of the rub-down pass (R442 to R458): what touches them, the steering of a group to the float and back, and the
end of a pass.
-/
namespace Sys2Proof.Machine

/-- The registers of the pass but for its event register. -/
def PassReg (a : Nat) : Prop := 0x12000 ≤ a ∧ a < 0x12080 ∧ a ≠ R.RUB_EVENT

/-- A register that lies before those of the pass. -/
def Before (a : Nat) : Prop := a < 0x12000

theorem Before.ne {a b : Nat} (ha : Before a) (hb : PassReg b) : b ≠ a := by
  unfold Before at ha
  obtain ⟨hlo, -, -⟩ := hb
  omega

theorem PassReg.unreported {a : Nat} (h : PassReg a) : reportReg a = false := by
  obtain ⟨hlo, hhi, -⟩ := h
  exact reportReg_central (.inr (by omega))

theorem passReg_status : PassReg R.RUB_STATUS := by unfold PassReg; decide

theorem passReg_result {sl : Nat} (h : sl < 16) : PassReg (R.RUB_RESULT sl) := by
  unfold PassReg R.RUB_RESULT R.RUB_EVENT
  omega

theorem result_ne_status (sl : Nat) : R.RUB_RESULT sl ≠ R.RUB_STATUS := by
  unfold R.RUB_RESULT R.RUB_STATUS
  omega

theorem before_cipherStatus {sl : Nat} (h : sl < 16) : Before (R.CIPHER_STATUS sl) := by
  unfold Before R.CIPHER_STATUS
  omega

theorem before_wetGauge {sl : Nat} (h : sl < 16) : Before (R.WET_GAUGE sl) := by
  unfold Before R.WET_GAUGE
  omega

theorem before_cacheStatus {sl : Nat} (h : sl < 16) : Before (R.CTX_CACHE_STATUS sl) := by
  unfold Before R.CTX_CACHE_STATUS
  omega

/-- The pass stands in `t` where it stands in `s`: its registers, the rub-down state, the held slice reset, and the extra work. -/
structure State.SamePass (s t : State) : Prop where
  regs : ∀ a, PassReg a → t.reg a = s.reg a
  rub : t.rub = s.rub
  power : t.power = s.power
  path : t.path = s.path

section
variable {s t u : State} {f : Fld} {sl result : Nat}

theorem State.SamePass.refl (s : State) : s.SamePass s := ⟨fun _ _ => rfl, rfl, rfl, rfl⟩

theorem State.SamePass.trans (h : s.SamePass t) (g : t.SamePass u) : s.SamePass u :=
  ⟨fun a ha => (g.regs a ha).trans (h.regs a ha), g.rub.trans h.rub, g.power.trans h.power, g.path.trans h.path⟩

theorem State.SamePass.fld (h : s.SamePass t) (hf : PassReg f.addr) : t.fld f = s.fld f := by
  unfold State.fld
  rw [h.regs _ hf]

theorem State.SamePass.phase (h : s.SamePass t) : t.rubPhase = s.rubPhase := h.fld passReg_status

theorem State.SamePass.carried (h : s.SamePass t) : t.carried = s.carried := h.fld passReg_status

theorem State.SamePass.extra (h : s.SamePass t) (k : Nat) : t.extra k = s.extra k := by
  unfold State.extra
  rw [h.path]

theorem State.SamePass.put (h : s.SamePass t) (v : Nat) (hf : Before f.addr) : s.SamePass (t.put f v) :=
  h.trans ⟨fun _ ha => State.reg_put_ne t (hf.ne ha) v, t.put_rub f v, t.put_power f v, t.put_path f v⟩

theorem State.Reported.samePass (h : s.Reported t) : s.SamePass t where
  regs a ha := h.regs a ha.unreported
  rub := h.rub
  power := h.power
  path := h.path

theorem State.SamePass.blk {i : Nat} (h : s.SamePass t) (hi : i < 8192 := by decide) : s.SamePass (t.blk i) :=
  h.trans (t.blk_reported hi).samePass

theorem State.SamePass.rubEvent {b object : Nat} (h : s.SamePass t) : s.SamePass (t.rubEvent b object) := by
  obtain ⟨u, hu, r, hru⟩ := State.Reported.event t R.RUB_EVENT R.RUB_EVENT_EN b 0x11 (0x10 + b) object 0 0 0
  have hpass := hu.samePass
  refine h.trans ⟨fun a ha => State.event_reg t _ _ _ _ _ _ _ _ _ ha.2.2 ha.unreported, ?_, ?_, ?_⟩
  · exact hpass.rub.trans (by rw [hru])
  · exact hpass.power.trans (by rw [hru])
  · exact hpass.path.trans (by rw [hru])

theorem State.SamePass.setSliceState {v : Nat} (h : s.SamePass t) : s.SamePass (t.setSliceState sl v) :=
  State.SamePass.put (h.put v (show Before R.PWR_SLICE_STATUS by unfold Before; decide)) _
    (show Before R.CLK_STATUS by unfold Before; decide)

theorem State.SamePass.setCtx {x : CtxSt} (h : s.SamePass t) : s.SamePass (t.setCtx x) :=
  h.trans ⟨fun _ _ => rfl, rfl, rfl, rfl⟩

theorem State.sliceOf_lt (s : State) {g : Nat} (hg : g < 16) : s.sliceOf g < 16 := by
  unfold State.sliceOf floatSlice
  split
  · decide
  · exact hg

theorem State.SamePass.setCached {g : Nat} {l : List Nat} (h : s.SamePass t) (hg : g < 16) : s.SamePass (t.setCached g l) := by
  unfold State.setCached
  extract_lets _ s1 sl
  have hsl : sl < 16 := s1.sliceOf_lt hg
  exact (h.setCtx.put _ (before_cacheStatus hsl)).put _ (before_cacheStatus hsl)

theorem State.SamePass.moveGauge {a b : Fld} {n : Nat} (h : s.SamePass t) (ha : Before a.addr) (hb : Before b.addr) :
    s.SamePass (t.moveGauge a b n) := (h.put _ ha).put _ hb

theorem State.SamePass.when {b : Bool} {g : State → State} (h : s.SamePass t) (hg : ∀ v, s.SamePass v → s.SamePass (g v)) :
    s.SamePass (t.when b g) :=
  iteInduction (motive := fun v : State => s.SamePass v) (fun _ => hg t h) (fun _ => h)

/-! ### The fields of RUB_STATUS and RUB_RESULT -/

theorem State.phase_put_same (s : State) {v : Nat} (hv : v < 8) : (s.put F.RUB_STATUS.PHASE v).rubPhase = v :=
  (State.fld_put_same s F.RUB_STATUS.PHASE v (by decide)).trans (Nat.mod_eq_of_lt hv)

/-- Another field of RUB_STATUS, or another register. -/
theorem State.phase_put_ne (s : State) (v : Nat) (hf : f.hi < 32) (hd : R.RUB_STATUS ≠ f.addr ∨ f.hi < 29) :
    (s.put f v).rubPhase = s.rubPhase :=
  State.fld_put_ne s f F.RUB_STATUS.PHASE v hf (hd.imp_right .inl)

theorem State.last_put_same (s : State) (sl : Nat) {v : Nat} (hv : v < 8) :
    (s.put (F.RUB_RESULT.LAST sl) v).fld (F.RUB_RESULT.LAST sl) = v :=
  (State.fld_put_same s (F.RUB_RESULT.LAST sl) v (show 31 < 32 by decide)).trans (Nat.mod_eq_of_lt hv)

/-- A field of RUB_STATUS does not touch a result. -/
theorem State.last_put_status (s : State) (sl v hi lo : Nat) (h : hi < 32) :
    (s.put ⟨R.RUB_STATUS, hi, lo⟩ v).fld (F.RUB_RESULT.LAST sl) = s.fld (F.RUB_RESULT.LAST sl) :=
  State.fld_put_ne s _ _ v h (.inl (result_ne_status sl))

/-- A result does not touch RUB_STATUS. -/
theorem State.status_put_result (s : State) (sl v hi lo hi' lo' : Nat) (h : hi < 32) :
    (s.put ⟨R.RUB_RESULT sl, hi, lo⟩ v).fld ⟨R.RUB_STATUS, hi', lo'⟩ = s.fld ⟨R.RUB_STATUS, hi', lo'⟩ :=
  State.fld_put_ne s _ _ v h (.inl (result_ne_status sl).symm)

/-! ### Steering (R447, R451) -/

/-- The group's extra work and its feeds change over. -/
def State.crossed (s : State) (g src dst : Nat) : State :=
  ((s.setExtra src []).setExtra dst (s.extra src)).put F.RUB_STATUS.CARRIED (if dst = floatSlice then g else 15)

theorem crossed_steer (s : State) {g src dst : Nat} (i : Bool) (hg : g < 16) (hs : src < 16) (hd : dst < 16) :
    (s.crossed g src dst).SamePass (s.steer g src dst i) := by
  unfold State.steer
  extract_lets l s1 s2 s3
  have h2 : s1.SamePass s2 := (State.SamePass.refl s1).moveGauge (before_wetGauge hs) (before_wetGauge hd)
  have h3 : s1.SamePass s3 := h2.when fun _ h => h.moveGauge (before_wetGauge hs) (before_wetGauge hd)
  exact h3.setCached hg

theorem State.reg_setExtra (s : State) {a : Nat} (ha : PassReg a) {l : List Extra} (hsl : sl < 16) :
    (s.setExtra sl l).reg a = s.reg a :=
  (State.reg_put_ne _ ((before_cipherStatus hsl).ne ha) _).trans rfl

theorem State.extra_setExtra (s : State) (sl : Nat) (l : List Extra) (k : Nat) :
    (s.setExtra sl l).extra k = if k = sl then l else s.extra k :=
  Tbl.getD_setD (d := fun _ => []) _ _ _ _

theorem State.rub_setExtra (s : State) (sl : Nat) (l : List Extra) : (s.setExtra sl l).rub = s.rub :=
  (State.put_rub _ _ _).trans rfl

theorem State.power_setExtra (s : State) (sl : Nat) (l : List Extra) : (s.setExtra sl l).power = s.power :=
  (State.put_power _ _ _).trans rfl

variable {g src dst : Nat} {i : Bool}

theorem State.rub_crossed (s : State) (g src dst : Nat) : (s.crossed g src dst).rub = s.rub :=
  (State.put_rub _ _ _).trans ((State.rub_setExtra _ _ _).trans (State.rub_setExtra _ _ _))

theorem State.power_crossed (s : State) (g src dst : Nat) : (s.crossed g src dst).power = s.power :=
  (State.put_power _ _ _).trans ((State.power_setExtra _ _ _).trans (State.power_setExtra _ _ _))

theorem State.fld_crossed (s : State) (hs : src < 16) (hd : dst < 16) (hf : PassReg f.addr)
    (hne : f.addr ≠ R.RUB_STATUS ∨ 27 < f.lo ∨ f.hi < 24) : (s.crossed g src dst).fld f = s.fld f := by
  refine (State.fld_put_ne _ F.RUB_STATUS.CARRIED f _ (by decide) hne).trans ?_
  unfold State.fld
  rw [State.reg_setExtra _ hf hd, State.reg_setExtra _ hf hs]

theorem State.carried_crossed (s : State) (hg : g < 16) : (s.crossed g src dst).carried = if dst = floatSlice then g else 15 := by
  refine (State.fld_put_same _ F.RUB_STATUS.CARRIED _ (by decide)).trans (Nat.mod_eq_of_lt ?_)
  split
  · exact hg
  · decide

theorem State.extra_crossed (s : State) (k : Nat) :
    (s.crossed g src dst).extra k = if k = dst then s.extra src else if k = src then [] else s.extra k := by
  have hput : (s.crossed g src dst).extra k = ((s.setExtra src []).setExtra dst (s.extra src)).extra k := by
    unfold State.extra State.crossed
    rw [State.put_path]
    rfl
  rw [hput, State.extra_setExtra, State.extra_setExtra]

/-! ### The end of a pass (R451, R458) -/

/-- The result of the pass and where the next one starts. -/
def State.passShown (s : State) (sl result : Nat) : State :=
  let s1 := ((s.put (F.RUB_RESULT.LAST sl) result).put F.RUB_STATUS.PHASE 0).put F.RUB_STATUS.TESTING 15
  s1.put F.RUB_STATUS.NEXT (s1.rubAfter sl)

/-- The result counted and posted. -/
def State.passNoted (s : State) (sl result : Nat) : State :=
  match result with
  | 1 => (s.blk 37).rubEvent 0 sl
  | 2 => (s.blk 37).rubEvent 3 sl
  | 4 => (s.blk 39).rubEvent 2 sl
  | _ => (s.blk 38).rubEvent 1 sl

/-- The pass over: the float sleeps, and the slice takes the state that its ports give it. -/
def State.passCleared (s : State) (sl : Nat) : State :=
  let s4 := (s.setRub { RubSt.idle with retired := s.rub.retired }).setSliceState 12 2
  if sl = floatSlice then s4 else s4.setSliceState sl (if s4.groupEnabled sl then 3 else 0)

theorem endPass_eq (s : State) (sl result : Nat) : s.endPass sl result =
    match ((s.passShown sl result).passNoted sl result).rub.other with
    | some k => (((s.passShown sl result).passNoted sl result).passCleared sl).releaseHeld.startRetire k
    | none => (((s.passShown sl result).passNoted sl result).passCleared sl).releaseHeld := rfl

theorem passNoted_same (s : State) (sl result : Nat) : s.SamePass (s.passNoted sl result) := by
  unfold State.passNoted
  split <;> exact (State.SamePass.refl s).blk.rubEvent

theorem passCleared_same (s : State) (sl : Nat) :
    (s.setRub { RubSt.idle with retired := s.rub.retired }).SamePass (s.passCleared sl) := by
  unfold State.passCleared
  dsimp only
  split
  · exact (State.SamePass.refl _).setSliceState
  · exact (State.SamePass.refl _).setSliceState.setSliceState

theorem releaseHeld_none (h : s.power.held = none) : s.releaseHeld = s := by
  unfold State.releaseHeld
  rw [h]

theorem State.keeps_passShown (s : State) (sl result : Nat) :
    (s.passShown sl result).rub = s.rub ∧ (s.passShown sl result).power = s.power ∧ (s.passShown sl result).path = s.path :=
  ⟨(State.put_rub _ _ _).trans ((State.put_rub _ _ _).trans ((State.put_rub _ _ _).trans (State.put_rub _ _ _))),
    (State.put_power _ _ _).trans ((State.put_power _ _ _).trans ((State.put_power _ _ _).trans (State.put_power _ _ _))),
    (State.put_path _ _ _).trans ((State.put_path _ _ _).trans ((State.put_path _ _ _).trans (State.put_path _ _ _)))⟩

theorem State.phase_passShown (s : State) (sl result : Nat) : (s.passShown sl result).rubPhase = 0 :=
  (State.phase_put_ne _ _ (by decide) (.inr (by decide))).trans
    ((State.phase_put_ne _ _ (by decide) (.inr (by decide))).trans (State.phase_put_same _ (by decide)))

theorem State.last_passShown (s : State) (sl : Nat) (h : result < 8) :
    (s.passShown sl result).fld (F.RUB_RESULT.LAST sl) = result :=
  (State.last_put_status _ _ _ _ _ (by decide)).trans ((State.last_put_status _ _ _ _ _ (by decide)).trans
    ((State.last_put_status _ _ _ _ _ (by decide)).trans (State.last_put_same _ _ h)))

theorem State.carried_passShown (s : State) (sl result : Nat) : (s.passShown sl result).carried = s.carried :=
  (State.fld_put_ne _ _ _ _ (by decide) (.inr (by decide))).trans ((State.fld_put_ne _ _ _ _ (by decide) (.inr (by decide))).trans
    ((State.fld_put_ne _ _ _ _ (by decide) (.inr (by decide))).trans (State.status_put_result _ _ _ _ _ _ _ (by decide))))

/-- A pass that ends with neither a retirement nor a slice reset waiting. -/
theorem endPass_quiet (ho : s.rub.other = none) (hh : s.power.held = none) (sl result : Nat) :
    ∃ v, (s.passShown sl result).SamePass v ∧
      (v.setRub { RubSt.idle with retired := v.rub.retired }).SamePass (s.endPass sl result) := by
  obtain ⟨hrub, hpower, -⟩ := s.keeps_passShown sl result
  have hnoted := passNoted_same (s.passShown sl result) sl result
  have hcleared := passCleared_same ((s.passShown sl result).passNoted sl result) sl
  have hother : ((s.passShown sl result).passNoted sl result).rub.other = none := by
    rw [hnoted.rub, hrub]
    exact ho
  have hheld : (((s.passShown sl result).passNoted sl result).passCleared sl).power.held = none := by
    rw [hcleared.power]
    exact (congrArg Power.held (hnoted.power.trans hpower)).trans hh
  refine ⟨_, hnoted, ?_⟩
  rw [endPass_eq, hother]
  dsimp only
  rw [releaseHeld_none hheld]
  exact hcleared

theorem State.SamePass.of_setRub {x : RubSt} (h : (s.setRub x).SamePass t) :
    (∀ a, PassReg a → t.reg a = s.reg a) ∧ t.path = s.path := ⟨h.regs, h.path⟩

/-- What such an end leaves. -/
theorem endPass_leaves (ho : s.rub.other = none) (hh : s.power.held = none) (hsl : sl < 16) (hr : result < 8) :
    (s.endPass sl result).rubPhase = 0 ∧ (s.endPass sl result).fld (F.RUB_RESULT.LAST sl) = result ∧
      (s.endPass sl result).carried = s.carried ∧ (s.endPass sl result).path = s.path := by
  obtain ⟨v, hv, hend⟩ := endPass_quiet ho hh sl result
  obtain ⟨hregs, hpath⟩ := hend.of_setRub
  have hfld : ∀ f : Fld, PassReg f.addr → (s.endPass sl result).fld f = (s.passShown sl result).fld f := by
    intro f hf
    refine Eq.trans ?_ (hv.fld hf)
    unfold State.fld
    rw [hregs _ hf]
  exact ⟨(hfld _ passReg_status).trans (s.phase_passShown sl result), (hfld _ (passReg_result hsl)).trans (s.last_passShown sl hr),
    (hfld _ passReg_status).trans (s.carried_passShown sl result), hpath.trans (hv.path.trans (s.keeps_passShown sl result).2.2)⟩

end

end Sys2Proof.Machine
end

section
/-!
THEOREM and SUPPORT. O53: the first half of a rub-down pass (R442 to R447), to the float's carrying of the group.
-/
namespace Sys2Proof.Machine

section
variable {s : State}

/-! ### The start (R442 to R444) -/

theorem State.rubNext_lt (s : State) : s.rubNext < 13 := by
  have horder : ∀ k ∈ s.rubOrder, k < 13 := by
    intro k hk
    unfold State.rubOrder at hk
    rcases List.mem_append.mp hk with h | h
    · have := List.mem_range.mp (List.mem_of_mem_filter h)
      omega
    · rw [List.mem_singleton.mp h]
      decide
  unfold State.rubNext
  dsimp only
  cases hfind : s.rubOrder.find? (fun k => decide (s.fld F.RUB_STATUS.NEXT ≤ k)) with
  | some k => exact horder k (List.mem_of_find?_eq_some hfind)
  | none =>
    cases hhead : s.rubOrder.head? with
    | some k => exact horder k (List.mem_of_mem_head? hhead)
    | none => decide

/-- The next pass may start. -/
def State.mayStart (s : State) : Prop :=
  s.op = .run ∧ s.rub.halted = false ∧ s.rubPhase = 0 ∧ s.on F.RUB_STATUS.FLOAT_FAILED = false

/-- A pass begun on a slice. -/
def State.passBegun (s : State) (sl : Nat) : State :=
  (((s.setRub { RubSt.idle with inPlace := sl == floatSlice || !s.groupEnabled sl, retired := s.rub.retired }).put
    F.RUB_STATUS.PHASE 1).put F.RUB_STATUS.TESTING sl).put F.RUB_STATUS.NEXT sl

/-- A pass skipped as too hot. -/
def State.passSkipped (s : State) (sl : Nat) : State :=
  (((s.put (F.RUB_RESULT.LAST sl) 6).put F.RUB_STATUS.NEXT sl).blk 38).rubEvent 1 sl

theorem startPass_eq (h : s.mayStart) (temp : Int) : s.startPass temp =
    if (s.fld F.RUB_CFG.TEMP_MAX : Int) ≤ temp then s.passSkipped s.rubNext else s.passBegun s.rubNext := by
  obtain ⟨hop, hhalt, hphase, hfloat⟩ := h
  have hgo : ¬ (decide (s.op ≠ .run) || s.rub.halted || decide (s.rubPhase ≠ 0) || s.on F.RUB_STATUS.FLOAT_FAILED) = true := by
    rw [hop, hhalt, hphase, hfloat]
    decide
  unfold State.startPass
  exact if_neg hgo

theorem State.passBegun_shown (s : State) {sl : Nat} (hsl : sl < 16) : (s.passBegun sl).rubPhase = 1 ∧ (s.passBegun sl).testing = sl ∧
    (s.passBegun sl).fld F.RUB_STATUS.NEXT = sl ∧
    (s.passBegun sl).rub.inPlace = (sl == floatSlice || !s.groupEnabled sl) ∧ (s.passBegun sl).rub.retired = s.rub.retired := by
  have hrub : (s.passBegun sl).rub =
      { RubSt.idle with inPlace := sl == floatSlice || !s.groupEnabled sl, retired := s.rub.retired } :=
    (State.put_rub _ _ _).trans ((State.put_rub _ _ _).trans (State.put_rub _ _ _))
  refine ⟨?_, ?_, (State.fld_put_same _ F.RUB_STATUS.NEXT _ (by decide)).trans (Nat.mod_eq_of_lt hsl),
    by rw [hrub], by rw [hrub]⟩
  · exact (State.phase_put_ne _ _ (by decide) (.inr (by decide))).trans
      ((State.phase_put_ne _ _ (by decide) (.inr (by decide))).trans (State.phase_put_same _ (by decide)))
  · exact (State.fld_put_ne _ _ _ _ (by decide) (.inr (by decide))).trans
      ((State.fld_put_same _ F.RUB_STATUS.TESTING _ (by decide)).trans (Nat.mod_eq_of_lt hsl))

theorem State.passSkipped_shown (s : State) {sl : Nat} (hsl : sl < 16) : (s.passSkipped sl).rubPhase = s.rubPhase ∧
    (s.passSkipped sl).fld (F.RUB_RESULT.LAST sl) = 6 ∧ natBit ((s.passSkipped sl).reg R.RUB_EVENT).toNat 1 = true ∧
    (s.passSkipped sl).rub = s.rub := by
  have hsame : ((s.put (F.RUB_RESULT.LAST sl) 6).put F.RUB_STATUS.NEXT sl).SamePass (s.passSkipped sl) :=
    (State.SamePass.refl _).blk.rubEvent
  refine ⟨hsame.phase.trans ?_, (hsame.fld (passReg_result hsl)).trans ?_, ?_, hsame.rub.trans ?_⟩
  · exact (State.phase_put_ne _ _ (by decide) (.inr (by decide))).trans (State.status_put_result _ _ _ _ _ _ _ (by decide))
  · exact (State.last_put_status _ _ _ _ _ (by decide)).trans (State.last_put_same _ _ (by decide))
  · exact State.event_bit _ _ _ _ _ _ _ _ (by decide) (reportReg_central (by decide))
  · exact (State.put_rub _ _ _).trans (State.put_rub _ _ _)

theorem exec_rubNow (s : State) (temp : Int) : exec (.rubNow temp) s = .next (s.startPass temp) := rfl

theorem exec_rubPassStart_enabled (h : s.on F.RUB_CFG.RUB_EN = true) (temp : Int) :
    exec (.rubPassStart temp) s = exec (.rubNow temp) s := if_pos h

theorem exec_rubTempRetry_skipped (h : s.on F.RUB_CFG.RUB_EN = true) (hl : s.fld (F.RUB_RESULT.LAST s.rubNext) = 6) (temp : Int) :
    exec (.rubTempRetry temp) s = exec (.rubNow temp) s := by
  show execRubTempRetry temp s = _
  unfold execRubTempRetry
  rw [h, hl]
  rfl

/-! ### Preparation, mirroring and hand-over (R443, R445 to R447) -/

theorem exec_rubPrepareDone_goes (hr : s.rubRuns = true) (hp : s.rubPhase = 1) : exec .rubPrepareDone s =
    if s.rub.inPlace then .next ((s.setSliceState s.testing 3).put F.RUB_STATUS.PHASE 4)
    else .next (((s.setRub { s.rub with copy := 1 }).setSliceState 12 3).put F.RUB_STATUS.PHASE 2) := by
  show execRubPrepareDone s = _
  unfold execRubPrepareDone
  rw [hr, hp]
  rfl

/-- The power states are not in RUB_STATUS. -/
theorem State.sliceState_putPhase (s : State) (v k : Nat) : (s.put F.RUB_STATUS.PHASE v).sliceState k = s.sliceState k :=
  State.sliceState_congr _ (State.reg_put_ne s (by decide) v) k

/-- The copy made, into the float or back. -/
def State.mirrored (s : State) (g dst : Nat) : State :=
  ((s.setRub { s.rub with copy := 2, copiedAt := s.now }).put (F.CTX_CACHE_STATUS.CACHED dst) (s.cached g).length).put
    (F.CTX_CACHE_STATUS.PINNED dst) ((s.cached g).filter s.ctxPinned).length

theorem exec_rubMirrorDone_copies (hr : s.rubRuns = true) (hc : s.rub.copy = 1) (hp : s.rubPhase = 2 ∨ s.rubPhase = 5) :
    exec .rubMirrorDone s = .next (s.mirrored s.rubSlice (if s.rubPhase = 2 then floatSlice else s.rubSlice)) := by
  have hgo : ¬ (!s.rubRuns || decide (s.rub.copy ≠ 1) || !(decide (s.rubPhase = 2) || decide (s.rubPhase = 5))) = true := by
    rw [hr, hc]
    rcases hp with h | h <;> rw [h] <;> decide
  show execRubMirrorDone s = _
  unfold execRubMirrorDone
  exact if_neg hgo

theorem State.mirrored_shown (s : State) {g dst : Nat} (hd : dst < 16) :
    (s.mirrored g dst).rub = { s.rub with copy := 2, copiedAt := s.now } ∧ (s.mirrored g dst).rubPhase = s.rubPhase := by
  have hsame : (s.setRub { s.rub with copy := 2, copiedAt := s.now }).SamePass (s.mirrored g dst) :=
    ((State.SamePass.refl _).put _ (before_cacheStatus hd)).put _ (before_cacheStatus hd)
  exact ⟨hsame.rub, hsame.phase⟩

theorem rubSlice_lt_of (h : s.rubSlice ≤ 12) : (if s.rubPhase = 2 then floatSlice else s.rubSlice) < 16 := by
  unfold floatSlice
  split <;> omega

/-- The group handed over to the float. -/
def State.handedOver (s : State) (g : Nat) : State :=
  ((s.steer g g floatSlice false).put F.RUB_STATUS.PHASE 3).setSliceState g (if s.groupEnabled g then 1 else 0)

theorem exec_rubHandover_hands (hr : s.rubRuns = true) (hp : s.rubPhase = 2) (hm : s.mayHand s.rubSlice = true) :
    exec .rubHandover s = .next (s.handedOver s.rubSlice) := by
  have hgo : ¬ (!s.rubRuns || decide (s.rubPhase ≠ 2) || !s.mayHand s.rubSlice) = true := by
    rw [hr, hp, hm]
    decide
  show execRubHandover s = _
  unfold execRubHandover
  exact if_neg hgo

theorem State.handedOver_shown (s : State) {g : Nat} (hg : g < 12) : (s.handedOver g).rubPhase = 3 ∧ (s.handedOver g).carried = g ∧
    (s.handedOver g).extra 12 = s.extra g ∧ (s.handedOver g).extra g = [] := by
  have hg16 : g < 16 := by omega
  have hslice : ((s.steer g g floatSlice false).put F.RUB_STATUS.PHASE 3).SamePass (s.handedOver g) :=
    (State.SamePass.refl _).setSliceState
  have hsteer := crossed_steer s (src := g) (dst := floatSlice) false hg16 hg16 (by decide)
  have hextra : ∀ k, (s.handedOver g).extra k = (s.crossed g g floatSlice).extra k := fun k =>
    (hslice.extra k).trans ((congrArg (fun x : PathSt => Tbl.getD (fun _ => []) x.extra k) (State.put_path _ _ _)).trans (hsteer.extra k))
  refine ⟨hslice.phase.trans (State.phase_put_same _ (by decide)), hslice.carried.trans ?_, (hextra 12).trans ?_, (hextra g).trans ?_⟩
  · refine (State.fld_put_ne _ _ F.RUB_STATUS.CARRIED _ (by decide) (.inr (.inr (by decide)))).trans (hsteer.carried.trans ?_)
    exact State.carried_crossed s hg16
  · exact (s.extra_crossed 12).trans (if_pos rfl)
  · refine (s.extra_crossed g).trans ((if_neg ?_).trans (if_pos rfl))
    unfold floatSlice
    omega

theorem exec_rubGapTimeout_ends (hr : s.rubRuns = true) (hp : s.rubPhase = 2) (hc : s.rub.copy = 2) (hn : s.rub.retiring = none) :
    exec .rubGapTimeout s = .next (s.endPass s.testing 5) := by
  have hgo : ¬ (!s.rubRuns || decide (s.rubPhase ≠ 2) || decide (s.rub.copy ≠ 2) || s.rub.retiring.isSome) = true := by
    rw [hr, hp, hc, hn]
    decide
  show execRubGapTimeout s = _
  unfold execRubGapTimeout
  exact if_neg hgo

end

end Sys2Proof.Machine

open Sys2Proof.Machine

/-- Settles O53: each step of the way out by the registers and the rub-down state it leaves. -/
theorem rubPassGoesOut : Obligations.RubPassGoesOut := by
  unfold Obligations.RubPassGoesOut
  refine fun s => ⟨fun hop hhalt hphase hfloat temp => ⟨fun ht => ⟨?starts, fun he => exec_rubPassStart_enabled he temp,
    fun he hl => exec_rubTempRetry_skipped he hl temp⟩, ?skipped⟩, fun hr => ⟨?prepared, ?mirrored, ?handed, ?gap⟩⟩
  case starts =>
    have hbegin := (startPass_eq ⟨hop, hhalt, hphase, hfloat⟩ temp).trans (if_neg (not_le.mpr ht))
    obtain ⟨hp, ht, hn, hplace, hret⟩ := s.passBegun_shown (Nat.lt_trans s.rubNext_lt (by decide))
    exact ⟨_, (exec_rubNow s temp).trans (congrArg _ hbegin), hp, ht, hn, hplace, hret⟩
  case skipped =>
    intro ht
    have hskip := (startPass_eq ⟨hop, hhalt, hphase, hfloat⟩ temp).trans (if_pos ht)
    obtain ⟨hp, hl, he, hrub⟩ := s.passSkipped_shown (Nat.lt_trans s.rubNext_lt (by decide))
    exact ⟨_, (exec_rubNow s temp).trans (congrArg _ hskip), hp.trans hphase, hl, he, hrub⟩
  case prepared =>
    intro hp
    have hexec := exec_rubPrepareDone_goes hr hp
    cases hplace : s.rub.inPlace with
    | true =>
      rw [hplace] at hexec
      refine ⟨_, hexec, State.phase_put_same _ (by decide), fun h => Bool.noConfusion h, fun _ ht => ?_⟩
      exact (State.sliceState_putPhase _ _ _).trans (State.sliceState_setSliceState_same _ (by omega) (by decide))
    | false =>
      rw [hplace] at hexec
      refine ⟨_, hexec, State.phase_put_same _ (by decide), fun _ => ⟨?_, ?_⟩, fun h => Bool.noConfusion h⟩
      · exact congrArg RubSt.copy ((State.put_rub _ _ _).trans (State.SamePass.setSliceState (.refl _)).rub)
      · exact (State.sliceState_putPhase _ _ _).trans (State.sliceState_setSliceState_same _ (by decide) (by decide))
  case mirrored =>
    exact fun hc hp hsl => ⟨_, exec_rubMirrorDone_copies hr hc hp, s.mirrored_shown (rubSlice_lt_of hsl)⟩
  case handed =>
    intro hp hsl hm
    obtain ⟨hphase, hcarried, hnew, hold⟩ := s.handedOver_shown hsl
    exact ⟨_, exec_rubHandover_hands hr hp hm, hphase, hcarried, if_pos hcarried, hnew, hold⟩
  case gap =>
    intro hp hc hn
    refine ⟨_, exec_rubGapTimeout_ends hr hp hc hn, rfl, fun ho hh ht => ?_⟩
    obtain ⟨hphase, hlast, -, -⟩ := endPass_leaves (sl := s.testing) (result := 5) ho hh (by omega) (by decide)
    exact ⟨hphase, hlast⟩
end

section
/-!
THEOREM and SUPPORT. O54: the second half of a rub-down pass (R447, R449 to R451, R454): test, retirement, return.
-/
namespace Sys2Proof.Machine

section
variable {s t : State}

/-! ### Retirement (R450) -/

/-- The pass ends in a retirement. -/
def State.retirePhase (s : State) : State := (s.put F.RUB_STATUS.PHASE 6).put F.RUB_STATUS.TESTING 15

/-- The float takes the group, unless it carries it already. -/
def State.retireSteered (s : State) (sl : Nat) : State :=
  if (s.setRub { RubSt.idle with retired := [sl] }).carried = sl then s.setRub { RubSt.idle with retired := [sl] }
  else (s.setRub { RubSt.idle with retired := [sl] }).steer sl sl floatSlice true

/-- The retirement shown. -/
def State.retireShown (s : State) (sl : Nat) : State :=
  (((s.setSliceState sl (if s.groupEnabled sl then 1 else 0)).setSliceState 12 3).put (F.RUB_RESULT.LAST sl) 3).rubEvent 4 sl

theorem retireNow_eq {sl : Nat} (h : sl < 12) (s : State) : s.retireNow sl = (s.retirePhase.retireSteered sl).retireShown sl := by
  unfold State.retireNow
  exact if_neg (by unfold floatSlice; omega)

theorem State.retirePhase_phase (s : State) : s.retirePhase.rubPhase = 6 :=
  (State.phase_put_ne _ _ (by decide) (.inr (by decide))).trans (State.phase_put_same _ (by decide))

/-- The float carries the group of a retired slice. -/
theorem State.retireSteered_shown (s : State) {sl : Nat} (h : sl < 12) : (s.retireSteered sl).rubPhase = s.rubPhase ∧
    (s.retireSteered sl).carried = sl ∧ (s.retireSteered sl).rub.retired = [sl] := by
  have h16 : sl < 16 := by omega
  unfold State.retireSteered
  generalize hu : s.setRub { RubSt.idle with retired := [sl] } = u
  have hphase : u.rubPhase = s.rubPhase := by
    rw [← hu]
    rfl
  have hretired : u.rub.retired = [sl] := by
    rw [← hu]
    rfl
  split
  · next hc => exact ⟨hphase, hc, hretired⟩
  · have hsteer := crossed_steer u (src := sl) (dst := floatSlice) true h16 h16 (by decide)
    refine ⟨hsteer.phase.trans ?_, hsteer.carried.trans (u.carried_crossed h16), ?_⟩
    · exact (State.fld_crossed (f := F.RUB_STATUS.PHASE) u h16 (by decide) passReg_status (.inr (.inl (by decide)))).trans hphase
    · rw [hsteer.rub, u.rub_crossed]
      exact hretired

theorem State.retireShown_leaves (s : State) {sl : Nat} (h : sl < 12) : (s.retireShown sl).rubPhase = s.rubPhase ∧
    (s.retireShown sl).carried = s.carried ∧ (s.retireShown sl).rub = s.rub ∧
    (s.retireShown sl).fld (F.RUB_RESULT.LAST sl) = 3 := by
  have hslices : s.SamePass ((s.setSliceState sl (if s.groupEnabled sl then 1 else 0)).setSliceState 12 3) :=
    (State.SamePass.refl s).setSliceState.setSliceState
  unfold State.retireShown
  generalize (s.setSliceState sl (if s.groupEnabled sl then 1 else 0)).setSliceState 12 3 = u at hslices
  have hevent : (u.put (F.RUB_RESULT.LAST sl) 3).SamePass ((u.put (F.RUB_RESULT.LAST sl) 3).rubEvent 4 sl) :=
    (State.SamePass.refl _).rubEvent
  refine ⟨hevent.phase.trans ?_, hevent.carried.trans ?_, (hevent.rub.trans (u.put_rub _ _)).trans hslices.rub,
    (hevent.fld (passReg_result (by omega))).trans (u.last_put_same sl (by decide))⟩
  · exact (State.status_put_result _ _ _ _ _ _ _ (by decide)).trans hslices.phase
  · exact (State.status_put_result _ _ _ _ _ _ _ (by decide)).trans hslices.carried

/-- A slice retired: the pass shows it, the float carries its group, and no pass starts again. -/
theorem State.retireNow_leaves (s : State) {sl : Nat} (h : sl < 12) : (s.retireNow sl).rubPhase = 6 ∧
    (s.retireNow sl).rub.retired = [sl] ∧ (s.retireNow sl).fld (F.RUB_RESULT.LAST sl) = 3 ∧ (s.retireNow sl).carried = sl := by
  obtain ⟨hphase, hcarried, hretired⟩ := s.retirePhase.retireSteered_shown h
  obtain ⟨hphase', hcarried', hrub, hlast⟩ := (s.retirePhase.retireSteered sl).retireShown_leaves h
  rw [retireNow_eq h]
  exact ⟨hphase'.trans (hphase.trans s.retirePhase_phase), (congrArg RubSt.retired hrub).trans hretired, hlast,
    hcarried'.trans hcarried⟩

/-! ### The drain (R447) -/

/-- The slice drained: its hit bits stand in the float's replica, and its cache is no longer mirrored. -/
def State.drained (s : State) (g : Nat) : State :=
  let h := s.cls.hits.foldl (fun t (k, v) => Tbl.setN t k (if natBit v g then natSet v 12 else v)) s.cls.hits
  let s1 : State := { s with cls := { s.cls with hits := h } }
  let s2 := (s1.put (F.CTX_CACHE_STATUS.CACHED g) 0).put (F.CTX_CACHE_STATUS.PINNED g) 0
  s2.setRub { s2.rub with copy := 0 }

theorem State.rub_drained (s : State) (g : Nat) : (s.drained g).rub = { s.rub with copy := 0 } := by
  have hrub : ∀ u : State, ((u.put (F.CTX_CACHE_STATUS.CACHED g) 0).put (F.CTX_CACHE_STATUS.PINNED g) 0).rub = u.rub := fun u =>
    (State.put_rub _ _ _).trans (u.put_rub _ _)
  exact congrArg (fun x : RubSt => { x with copy := 0 }) (hrub _)

theorem exec_rubDrainDone_drains (hr : s.rubRuns = true) (hp : s.rubPhase = 3)
    (hf : s.path.frames.any (fun f => f.port / 8 == s.rubSlice && f.verdict.isNone) = false) : exec .rubDrainDone s =
    if s.rub.retiring.isSome then .next ((s.drained s.rubSlice).retireNow s.rubSlice)
    else .next ((s.drained s.rubSlice).put F.RUB_STATUS.PHASE (if s.rub.result = 4 then 5 else 4)) := by
  have hgo : ¬ (!s.rubRuns || decide (s.rubPhase ≠ 3) ||
      s.path.frames.any (fun f => f.port / 8 == s.rubSlice && f.verdict.isNone)) = true := by
    rw [hr, hp, hf]
    decide
  show execRubDrainDone s = _
  unfold execRubDrainDone
  exact if_neg hgo

/-! ### The test (R449) -/

/-- The test's findings, as RUB_RESULT shows them. -/
def State.found (s : State) (r : RubResult) : State :=
  (((s.put (F.RUB_RESULT.CORE_FAIL s.testing) r.coreFail.toNat).put (F.RUB_RESULT.SLICE_FAIL s.testing) (b2n r.sliceFail)).put
    (F.RUB_RESULT.SRAM_FAIL s.testing) (b2n r.sramFail)).put (F.RUB_RESULT.SRAM_REPAIRED s.testing) (b2n r.sramRepaired)

/-- The cores in service, once the test has judged them. -/
def State.coresSet (s : State) (sl cores : Nat) : State := s.put (F.CIPHER_STATUS.CORE_OK sl) cores

/-- The pass goes on to its return. -/
def State.testedWith (s : State) (x : RubSt) (result : Nat) : State :=
  (s.setRub { x with result := result, copy := 0 }).put F.RUB_STATUS.PHASE 5

theorem State.rub_found (s : State) (r : RubResult) : (s.found r).rub = s.rub :=
  (State.put_rub _ _ _).trans ((State.put_rub _ _ _).trans ((State.put_rub _ _ _).trans (State.put_rub _ _ _)))

theorem cipherStatus_ne_result (a b : Nat) (ha : a < 16) : R.CIPHER_STATUS a ≠ R.RUB_RESULT b := by
  unfold R.CIPHER_STATUS R.RUB_RESULT
  omega

theorem testing_lt (s : State) : s.testing < 16 := Nat.mod_lt _ (show 0 < 2 ^ 4 by decide)

theorem State.cores_found (s : State) (r : RubResult) :
    (s.found r).fld (F.CIPHER_STATUS.CORE_OK s.testing) = s.fld (F.CIPHER_STATUS.CORE_OK s.testing) := by
  have hne := cipherStatus_ne_result s.testing s.testing (testing_lt s)
  exact (State.fld_put_ne _ _ _ _ (show 13 < 32 by decide) (.inl hne)).trans ((State.fld_put_ne _ _ _ _ (show 14 < 32 by decide) (.inl hne)).trans
    ((State.fld_put_ne _ _ _ _ (show 15 < 32 by decide) (.inl hne)).trans (State.fld_put_ne _ _ _ _ (show 21 < 32 by decide) (.inl hne))))

/-- The cores that a test leaves of those in service. -/
def State.coresLeft (s : State) (r : RubResult) (sl : Nat) : Nat := s.fld (F.CIPHER_STATUS.CORE_OK sl) &&& (63 ^^^ r.coreFail.toNat)

/-- The slice keeps fewer cores, or is retired. -/
def State.coresOut (s : State) (r : RubResult) (sl : Nat) : Res :=
  let s2 := s.coresSet sl (s.coresLeft r sl)
  if popCount (s.coresLeft r sl) 6 < 5 then .next ((s2.put (F.RUB_RESULT.LAST sl) 3).retireNow sl)
  else .next (s2.testedWith s2.rub 2)

theorem execRubTestDone_eq (r : RubResult) (s : State) : execRubTestDone r s =
    if !s.rubRuns || s.rubPhase ≠ 4 then .next s
    else if r.sliceFail || r.sramFail then .next (((s.found r).put (F.RUB_RESULT.LAST s.testing) 3).retireNow s.testing)
    else if r.coreFail ≠ 0 then (s.found r).coresOut r s.testing
    else .next (((s.found r).coresSet s.testing 63).testedWith (s.found r).rub 1) := rfl

/-- The first case of R449 that applies. -/
theorem exec_rubTestDone_judges (hr : s.rubRuns = true) (hp : s.rubPhase = 4) (r : RubResult) : exec (.rubTestDone r) s =
    if r.sliceFail || r.sramFail then .next (((s.found r).put (F.RUB_RESULT.LAST s.testing) 3).retireNow s.testing)
    else if r.coreFail ≠ 0 then (s.found r).coresOut r s.testing
    else .next (((s.found r).coresSet s.testing 63).testedWith (s.found r).rub 1) := by
  have hgo : ¬ (!s.rubRuns || decide (s.rubPhase ≠ 4)) = true := by
    rw [hr, hp]
    decide
  exact (execRubTestDone_eq r s).trans (if_neg hgo)

theorem coresOut_five {sl : Nat} {r : RubResult} (h : 5 ≤ popCount (s.coresLeft r sl) 6) : s.coresOut r sl =
    .next ((s.coresSet sl (s.coresLeft r sl)).testedWith (s.coresSet sl (s.coresLeft r sl)).rub 2) :=
  if_neg (Nat.not_lt.mpr h)

theorem State.fld_setRub (s : State) (x : RubSt) (f : Fld) : (s.setRub x).fld f = s.fld f := rfl

theorem State.rub_setRub (s : State) (x : RubSt) : (s.setRub x).rub = x := rfl

theorem State.rub_coresSet (s : State) (sl cores : Nat) : (s.coresSet sl cores).rub = s.rub := s.put_rub _ _

theorem State.testedWith_shown (s : State) {x y : RubSt} {result : Nat} (h : x = y) : (s.testedWith x result).rubPhase = 5 ∧
    (s.testedWith x result).rub = { y with result := result, copy := 0 } := by
  subst h
  exact ⟨State.phase_put_same _ (by decide), (State.put_rub _ _ _).trans (State.rub_setRub _ _)⟩

theorem State.cores_testedWith (s : State) (x : RubSt) {result cores sl : Nat} (hc : cores < 64) (hsl : sl < 16) :
    ((s.coresSet sl cores).testedWith x result).fld (F.CIPHER_STATUS.CORE_OK sl) = cores := by
  have hne : R.CIPHER_STATUS sl ≠ R.RUB_STATUS := ((before_cipherStatus hsl).ne passReg_status).symm
  exact (State.fld_put_ne _ F.RUB_STATUS.PHASE _ _ (by decide) (.inl hne)).trans ((State.fld_setRub _ _ _).trans
    ((State.fld_put_same s (F.CIPHER_STATUS.CORE_OK sl) cores (show 21 < 32 by decide)).trans (Nat.mod_eq_of_lt hc)))

/-! ### The return (R451) -/

theorem exec_rubRefillDone_refills (hr : s.rubRuns = true) (hp : s.rubPhase = 5) (hc : s.rub.copy = 0) : exec .rubRefillDone s =
    if s.rub.inPlace then .next ((s.refillHits (s.refillSource s.testing) s.testing).endPass s.testing s.rub.result)
    else .next ((s.refillHits (s.refillSource s.testing) s.testing).setRub { s.rub with copy := 1 }) := by
  have hgo : ¬ (!s.rubRuns || decide (s.rubPhase ≠ 5) || decide (s.rub.copy ≠ 0)) = true := by
    rw [hr, hp, hc]
    decide
  show execRubRefillDone s = _
  unfold execRubRefillDone
  exact if_neg hgo

/-- The ports are back, and the float's cache is no longer shown. -/
def State.returned (s : State) (g : Nat) : State :=
  ((s.steer g floatSlice g true).put (F.CTX_CACHE_STATUS.CACHED 12) 0).put (F.CTX_CACHE_STATUS.PINNED 12) 0

theorem exec_rubHandback_returns (hr : s.rubRuns = true) (hp : s.rubPhase = 5) (hm : s.mayHand s.testing = true) :
    exec .rubHandback s = .next ((s.returned s.testing).endPass s.testing (s.returned s.testing).rub.result) := by
  have hgo : ¬ (!s.rubRuns || decide (s.rubPhase ≠ 5) || !s.mayHand s.testing) = true := by
    rw [hr, hp, hm]
    decide
  show execRubHandback s = _
  unfold execRubHandback
  exact if_neg hgo

theorem returned_same (s : State) {g : Nat} (hg : g < 12) : (s.crossed g floatSlice g).SamePass (s.returned g) :=
  ((crossed_steer s true (by omega) (by decide) (by omega)).put 0 (before_cacheStatus (by decide))).put 0 (before_cacheStatus (by decide))

/-- The end of a pass whose ports return. -/
theorem State.returned_leaves (s : State) {g : Nat} (hg : g < 12) : (s.returned g).rub = s.rub ∧ (s.returned g).power = s.power ∧
    (s.returned g).carried = 15 ∧ (s.returned g).extra g = s.extra 12 := by
  have hsame := returned_same s hg
  have hnot : g ≠ floatSlice := by unfold floatSlice; omega
  refine ⟨hsame.rub.trans (s.rub_crossed _ _ _), hsame.power.trans (s.power_crossed _ _ _), ?_,
    (hsame.extra g).trans ((s.extra_crossed g).trans (if_pos rfl))⟩
  exact hsame.carried.trans ((s.carried_crossed (by omega)).trans (if_neg hnot))

/-- The end of the pass at the second hand-over. -/
theorem handback_leaves {g : Nat} (ho : s.rub.other = none) (hh : s.power.held = none) (hres : s.rub.result < 8) (hg : g < 12) :
    ((s.returned g).endPass g (s.returned g).rub.result).rubPhase = 0 ∧
      ((s.returned g).endPass g (s.returned g).rub.result).carried = 15 ∧
      ((s.returned g).endPass g (s.returned g).rub.result).fld (F.RUB_RESULT.LAST g) = s.rub.result ∧
      ((s.returned g).endPass g (s.returned g).rub.result).extra g = s.extra 12 := by
  obtain ⟨hrub, hpower, hcarried, hextra⟩ := s.returned_leaves hg
  rw [hrub]
  generalize s.returned g = u at *
  have hother : u.rub.other = none := (congrArg RubSt.other hrub).trans ho
  have hheld : u.power.held = none := (congrArg Power.held hpower).trans hh
  obtain ⟨hphase, hlast, hkept, hpath⟩ := endPass_leaves (s := u) (sl := g) hother hheld (by omega) hres
  refine ⟨hphase, hkept.trans hcarried, hlast, Eq.trans ?_ hextra⟩
  unfold State.extra
  rw [hpath]

theorem rubSlice_retiring {k : Nat} (h : s.rub.retiring = some k) : s.rubSlice = k := by
  unfold State.rubSlice
  rw [h]
  rfl

theorem notFailed {r : RubResult} (h1 : r.sliceFail = false) (h2 : r.sramFail = false) :
    ¬ (r.sliceFail || r.sramFail) = true := by
  rw [h1, h2]
  decide

theorem State.cores_lt (s : State) (sl : Nat) : s.fld (F.CIPHER_STATUS.CORE_OK sl) < 64 := Nat.mod_lt _ (show 0 < 2 ^ 6 by decide)

end

end Sys2Proof.Machine

open Sys2Proof.Machine

/-- Settles O54: each step of the way back by the registers and the rub-down state it leaves. -/
theorem rubPassReturns : Obligations.RubPassReturns := by
  unfold Obligations.RubPassReturns
  refine fun s => ⟨fun hr => ⟨
    fun hp hf => ⟨?drained, ?retires⟩, fun hp ht r => ⟨?fails, ?clean, ?cores⟩, ?refills, ?ends, ?back⟩, rfl⟩
  case drained =>
    intro hn
    have hexec := (exec_rubDrainDone_drains hr hp hf).trans (if_neg (by rw [hn]; decide))
    refine ⟨_, hexec, State.phase_put_same _ ?_, (State.put_rub _ _ _).trans (s.rub_drained _)⟩
    split <;> decide
  case retires =>
    intro k hk hlt
    have hexec := (exec_rubDrainDone_drains hr hp hf).trans (if_pos (by rw [hk]; rfl))
    rw [rubSlice_retiring hk] at hexec
    obtain ⟨hphase, hretired, -, -⟩ := (s.drained k).retireNow_leaves hlt
    exact ⟨_, hexec, hphase, hretired⟩
  case fails =>
    intro hfail
    have hcase : (r.sliceFail || r.sramFail) = true := Bool.or_eq_true _ _ ▸ hfail
    exact ⟨_, (exec_rubTestDone_judges hr hp r).trans (if_pos hcase), State.retireNow_leaves _ ht⟩
  case clean =>
    intro hslice hsram hcore
    have hexec := (exec_rubTestDone_judges hr hp r).trans ((if_neg (notFailed hslice hsram)).trans (if_neg (not_not.mpr hcore)))
    obtain ⟨hphase, hrub⟩ := ((s.found r).coresSet s.testing 63).testedWith_shown (result := 1) (s.rub_found r)
    exact ⟨_, hexec, hphase, State.cores_testedWith _ _ (by decide) (testing_lt s), hrub⟩
  case cores =>
    intro left hl hslice hsram hcore h5
    have hleft : (s.found r).coresLeft r s.testing = left := (congrArg (· &&& (63 ^^^ r.coreFail.toNat)) (s.cores_found r)).trans hl.symm
    have hlt : left < 64 := hl.trans_lt (Nat.and_le_left.trans_lt (s.cores_lt s.testing))
    have hexec := (exec_rubTestDone_judges hr hp r).trans ((if_neg (notFailed hslice hsram)).trans
      ((if_pos hcore).trans (coresOut_five (hleft.symm ▸ h5))))
    rw [hleft] at hexec
    have hx := ((s.found r).rub_coresSet s.testing left).trans (s.rub_found r)
    obtain ⟨hphase, hrub⟩ := ((s.found r).coresSet s.testing left).testedWith_shown (result := 2) hx
    exact ⟨_, hexec, hphase, State.cores_testedWith _ _ hlt (testing_lt s), hrub⟩
  case refills => exact fun hp hc hplace => (exec_rubRefillDone_refills hr hp hc).trans (if_neg (by rw [hplace]; decide))
  case ends => exact fun hp hc hplace => (exec_rubRefillDone_refills hr hp hc).trans (if_pos hplace)
  case back =>
    intro hp ht hres ho hh hm
    have hresult : s.rub.result < 8 := by rcases hres with h | h <;> rw [h] <;> decide
    obtain ⟨hphase, hcarried, hlast, hextra⟩ := handback_leaves ho hh hresult ht
    exact ⟨_, exec_rubHandback_returns hr hp hm, hphase, hcarried, hlast, hextra⟩
end

section
/-!
THEOREM and SUPPORT. O51 fails. Each port is DISABLED when a cause from 16 on takes the device to FAULT (Table 18.3), yet a port may
read anything else afterwards: a copy of PF2 that a later port drops counts as lost in the block counter of its ring (R464), and
nothing in the statement bounds that ring's number. The overflow bit of such a counter may lie where PORT_STATUS of port 0 does.
-/
namespace Sys2Proof.Machine

/-- A ring number whose block counter has its overflow bit in bit 0 of PORT_STATUS of port 0. -/
def strayRing : Nat := 16146496

theorem overflow_of_strayRing : R.PERF_BOVF ((128 + strayRing) / 32) = R.PORT_STATUS 0 ∧ (128 + strayRing) % 32 = 0 := by decide

/-- A copy of PF2 that names that ring. -/
def strayCopy : Copy :=
  ⟨0, none, some (strayRing, 0), 0, [], none, none, none, 0, false, false, false, false, none, false, false, false, none, 0, 0⟩

/-- Port 1 is UP with the copy queued, port 0 is DISABLED, and the ring's counter is about to wrap. -/
def strayState : State :=
  let s := (State.reset.put (F.PORT_STATUS.LINK_STATE 1) 3).setQueue 1 0 [strayCopy]
  { s with perf := { s.perf with blk := [(128 + strayRing, 2 ^ 48 - 1)] } }

/-- Cause 16, which takes the device to FAULT. -/
def strayTrip : Trip := ⟨16, 0⟩

/-- The link state of port 0 after a command. -/
def linkAfter : Res → Nat
  | .next t => t.link 0
  | _ => 0

/-- Port 0 is left in state 1. -/
theorem linkAfter_strayTrip : linkAfter (exec (.monitorTrip strayTrip) strayState) = 1 := by decide +kernel

/-- The trip is one of the statement's. -/
theorem strayTrip_applies : strayState.monitorRuns strayTrip.cause = true ∧ strayState.alarm.testing = none ∧
    strayState.alarm.present.testBit strayTrip.cause = false ∧ strayState.alarmRuns = none ∧ strayState.op ≠ .battery := by decide

end Sys2Proof.Machine

open Sys2Proof.Machine

/-- Refutes O51: at a trip of cause 16 the last frame that a port drops may leave another port in a state other than DISABLED. -/
theorem not_monitorsComplete : ¬ Obligations.MonitorsComplete := by
  unfold Obligations.MonitorsComplete
  intro h
  obtain ⟨hruns, htest, hnew, hrun, hop⟩ := strayTrip_applies
  obtain ⟨t, ht, -, -, -, -, hfault⟩ := (h strayState).1 strayTrip hruns htest hnew hrun
  have hdown : t.link 0 = 0 := (hfault (by decide) hop).2 0 (by decide)
  have hup := linkAfter_strayTrip
  rw [ht] at hup
  exact absurd (hup.symm.trans hdown) (by decide)
end
